-- ==== Sys2Proof/Word.lean ====
section
/-! DEFINITION. The words of the device: bytes and the widths of its free-running counters (spec 00, R4). -/

namespace Sys2Proof

/-- One byte of memory, of a packet or of an object's value. -/
abbrev Byte := BitVec 8

/-- A free-running 32-bit index or packet number (R46, R190). -/
abbrev U32 := BitVec 32

/-- A 16-bit modular credit count (R213). -/
abbrev U16 := BitVec 16

/-- Distance from `b` up to `a` around a free-running index: (a − b) mod 2^w. -/
def dist {w : Nat} (a b : BitVec w) : Nat := (a - b).toNat

end Sys2Proof
end

