-- ==== Sys2Proof/Word/Types.lean ====
section
/-! DEFINITION. The kinds of thing a command of the Ospiaz carries: principals, status and abort codes,
packets, block bodies, host-read results, fault records and power measurements (spec 00, 06, 08, 12, 14). -/

namespace Sys2Proof

/-- Who a dictionary request speaks for (R311). -/
inductive Principal where
  | fw
  | mgmt
  | fabric
  /-- The MAILBOX page of the function with this 8-bit identity (R5). -/
  | host (fn : Nat)
  | smb
  deriving DecidableEq, Repr

/-- A dictionary request's principal with the source and transaction it answers to (R317, R322). -/
structure Req where
  pr   : Principal
  /-- Management-port or fabric source; 0 for a MAILBOX page and for firmware. -/
  src  : Nat
  txid : Nat
  deriving DecidableEq, Repr

/-- The abort codes of R327, in its order. -/
inductive Abort where
  | badPdu | noObject | noSub | noRight | outOfScope | notAuthority | readOnly | length
  | unavailable | wrongMode | blockRunning | busy | conflictState | noCapacity
  | valueRange | conflictValue | segSequence | segTimeout | segLimit | cancelled
  | relayTimeout | persistFail | internal
  deriving DecidableEq, Repr

/-- How a host read that the device issued ended (R35). -/
inductive ReadResult where
  | ok (data : List Byte)
  /-- Unsupported Request, Completer Abort, poisoned data or completion timeout. -/
  | failed
  deriving DecidableEq, Repr

/-- A fabric packet: the routing header of R139 field by field, the bytes 24 to 8·HLEN−1 as one
little-endian number, and the payload. -/
structure Packet where
  version : Nat := 1
  kind    : Nat
  hlen    : Nat
  dform   : Bool := false
  gen     : Bool := false
  nonmin  : Bool := false
  tdown   : Bool := false
  plen    : Nat := 0
  gv      : Nat := 0
  dstDev  : Nat
  dstFn   : Nat := 0
  dstCtx  : Nat := 0
  igroup  : Nat := 0
  srcDev  : Nat
  sform   : Bool := false
  srcFn   : Nat := 0
  srcCtx  : Nat := 0
  age     : Nat := 0
  hops    : Nat := 0
  chint   : Nat := 0
  echo    : Nat := 0
  echoNm  : Bool := false
  ltgt    : Nat := 0
  /-- The headers after the routing header (R201, R202, R226, R260, R287, R317), bit 0 first. -/
  ext     : Nat := 0
  payload : List Byte := []
  deriving DecidableEq, Repr

/-- What the FEC decoder of a lane reports for one codeword (R110). -/
inductive Fec where
  /-- Corrected symbols, 0 to 15. -/
  | corrected (n : Nat)
  | uncorrectable
  deriving DecidableEq, Repr

/-- What the receiver has found of the four lanes when a bring-up stage ends (R116, R117). -/
structure StageInfo where
  /-- Lanes whose lock was found under inverted polarity. -/
  inverted : BitVec 4 := 0
  /-- The LANE field seen on receive lanes 0 to 3. -/
  lanes    : List Nat := [0, 1, 2, 3]
  /-- The PORT field seen on receive lanes 0 to 3. -/
  ports    : List Nat := [0, 0, 0, 0]
  /-- Skew among the lanes in ns. -/
  skew     : Nat := 0
  deriving DecidableEq, Repr

/-- A received time ordered set (R165): the four VALUE words, its SEQ, whether all four came in order in
good codewords, and the arrival of its word 0 as this device's fabric time (2^-16 ns units). -/
structure TimeSet where
  seq     : Nat
  inOrder : Bool
  word0   : BitVec 48
  word1   : BitVec 48
  word2   : BitVec 48
  word3   : BitVec 48
  arrival : Nat
  deriving DecidableEq, Repr

/-- The store of the table of R24 that an SRAM word lies in, with what it belongs to. -/
inductive SramSite where
  /-- A word of the packet in reception or held at an ingress port. -/
  | packetBuffer (port : Nat)
  | contextStore (fn ctx : Nat)
  | matchStore (fn ctx : Nat)
  | landing (fn ctx : Nat)
  | collBuffer (tree : Nat)
  | routeTable (pt gen group : Nat)
  | flatTable (gen flat : Nat)
  | xlateCache (et fn page : Nat)
  | management (addr : Nat)
  | staging
  deriving DecidableEq, Repr

/-- Kinds of access (R69), as FN_XLATE_LAST numbers them: 0 read, 1 write, 2 atomic, 3 fetch. -/
inductive AccKind where
  | read | write | atomic | fetch
  deriving DecidableEq, Repr

/-- One entry of a function's MSI-X table (R41): message address and data, and its mask bit. -/
structure MsixEntry where
  addr   : Nat := 0
  data   : Nat := 0
  masked : Bool := true
  deriving DecidableEq, Repr

/-- A function's MSI-X as its host sets it (R32, R59): MSI-X Enable, Function Mask, and the table. -/
structure Msix where
  enable : Bool := false
  fmask  : Bool := false
  table  : List MsixEntry := []
  deriving DecidableEq, Repr

/-- What the host sets in a port's configuration space and MSI-X tables (R32, R34, R38, R41). -/
structure HostCfg where
  /-- Max_Payload_Size and Max_Read_Request_Size in bytes. -/
  mps    : Nat := 128
  mrrs   : Nat := 512
  /-- BAR0 of the PF, and the SR-IOV VF BAR0 from which the VFs' BAR0s follow one another. -/
  bar0   : Nat := 0
  vfBar0 : Nat := 0
  /-- MSI-X by routing function number, 0 for the PF; a function past the end has MSI-X disabled. -/
  msix   : List Msix := []
  deriving DecidableEq, Repr

/-- A host link as it came up (R9): lanes, and whether their order is reversed. -/
structure HostLanes where
  width    : Nat
  reversed : Bool := false
  deriving DecidableEq, Repr

/-- What an access does (R69, R88): its kind, the on-behalf tag's function (R70), and the bytes of a write. -/
structure AccessOp where
  kind   : AccKind
  behalf : Option Nat := none
  data   : List Byte := []
  deriving DecidableEq, Repr

/-- A packet that ends with EOP_STOMP (R123): the port, and the bytes of its data blocks. -/
structure StompRx where
  p    : Nat
  data : List Byte := []
  deriving DecidableEq, Repr

/-- What SECDED finds in a word (R24). -/
inductive SramResult where
  | clean | single | double
  deriving DecidableEq, Repr

/-- A master asking the semaphore unit (R87, R100). -/
inductive SemMaster where
  /-- A host function, through its SEMAPHORE window. -/
  | host (fn : Nat)
  /-- An on-die master by identity 8 to 12. -/
  | die (m : Nat)
  deriving DecidableEq, Repr

/-- A fault on its way to the collector: what R357 records of its source. -/
structure FaultReport where
  code : Nat
  cls  : Nat
  tile : Nat
  unit : Nat := 0
  fn   : Option Nat := none
  ctx  : Option Nat := none
  info : Nat := 0
  deriving DecidableEq, Repr

/-- What a flash read found (R380): corrected bits of the worst codeword, read retry used, or lost. -/
inductive FlashRead where
  | good (bitErrors : Nat) (retried : Bool)
  | unreadable
  deriving DecidableEq, Repr

/-- What the codeword that a scrub reads holds (R372, R380). -/
inductive FlashSite where
  /-- A 4 KiB page of a function's allotment. -/
  | pool (fn page : Nat)
  /-- A journal record, by its key. -/
  | journal (key : Nat)
  /-- A fault-log record, by its SEQ. -/
  | log (seq : Nat)
  /-- An image slot: 0 S0, 1 S1, 2 SREC. -/
  | slot (k : Nat)
  /-- The flush area, which BOOT reads (R376). -/
  | flush
  deriving DecidableEq, Repr

/-- A frame at the management port other than a dictionary datagram (R8). -/
inductive MgmtFrame where
  | arpRequest (ipv4 : Nat)
  | icmpEcho (ipv4 : Nat) (data : List Byte)
  | icmp6Echo (ipv6 : Nat) (data : List Byte)
  | neighbourSolicit (ipv6 : Nat)
  | vlanTagged
  | oversize
  | other
  deriving DecidableEq, Repr

/-- Bytes of a frame in its buffer: an ARP request's least frame, and what the others carry, to 4,096 at most. -/
def MgmtFrame.size : MgmtFrame → Nat
  | .arpRequest _ => 60
  | .icmpEcho _ d => min 4096 (42 + d.length)
  | .icmp6Echo _ d => min 4096 (62 + d.length)
  | .neighbourSolicit _ => 86
  | .vlanTagged => 64
  | .oversize => 2048
  | .other => 60

end Sys2Proof
end

