-- ==== Sys2Proof/Syntax.lean ====
section
/-! DEFINITION. The commands of the Ospiaz: one constructor per row of spec/opcode_table.json, in its order,
with the operands the row's rule gives it. -/

namespace Sys2Proof

/-- One command to the device: an operation or an event of spec/opcode_table.json. -/
inductive Instr where
  /-- FLIT_ARRIVAL (R15); ch: mesh channel (R17). -/
  | flitArrival (ch : Nat)
  /-- TILE_RESET_RELEASE (R21); island: bit of ISLAND_STATE. -/
  | tileResetRelease (island : Nat)
  /-- TIME_BEACON (R19). -/
  | timeBeacon (island : Nat)
  /-- SRAM_SCRUB_WORD (R24); busy: an access reached the word in the same cycle. -/
  | sramScrubWord (site : SramSite) (res : SramResult) (busy : Bool)
  /-- ROUTE_ENTRY_RELOAD (R24). -/
  | routeEntryReload (site : SramSite)
  /-- HOST_TRAIN_RETRY (R9). -/
  | hostTrainRetry (hp : Nat)
  /-- HOST_LINK_DOWN (R36). -/
  | hostLinkDown (hp : Nat)
  /-- PERST_N_ASSERT (R415). -/
  | perstNAssert (hp : Nat)
  /-- PERST_N_RELEASE (R415). -/
  | perstNRelease (hp : Nat)
  /-- HOST_READ_COMPLETE (R35). -/
  | hostReadComplete (tag : Nat) (res : ReadResult)
  /-- MAILBOX_GO (R42); buf: the request buffer at the write. -/
  | mailboxGo (fn : Nat) (ctrl : BitVec 32) (buf : List Byte)
  /-- SQ_DOORBELL (R46). -/
  | sqDoorbell (fn ctx off size : Nat) (val : BitVec 64)
  /-- EQ_DOORBELL (R58). -/
  | eqDoorbell (fn q off size : Nat) (val : BitVec 64)
  /-- EQ_MOD_TIMER (R59). -/
  | eqModTimer (fn q : Nat)
  /-- ENTRY_FETCH_DONE (R48). -/
  | entryFetchDone (tag : Nat) (res : ReadResult)
  /-- ENTRY_NOP (R52). -/
  | entryNop (fn ctx : Nat)
  /-- ENTRY_SEND (R228). -/
  | entrySend (fn ctx : Nat)
  /-- ENTRY_RECV (R232). -/
  | entryRecv (fn ctx : Nat)
  /-- ENTRY_WRITE (R261). -/
  | entryWrite (fn ctx : Nat)
  /-- ENTRY_WRITE_NOTIFY (R261). -/
  | entryWriteNotify (fn ctx : Nat)
  /-- ENTRY_READ (R269). -/
  | entryRead (fn ctx : Nat)
  /-- ENTRY_FETCH_ADD (R264). -/
  | entryFetchAdd (fn ctx : Nat)
  /-- ENTRY_SWAP (R264). -/
  | entrySwap (fn ctx : Nat)
  /-- ENTRY_CSWAP (R264). -/
  | entryCswap (fn ctx : Nat)
  /-- ENTRY_COLLECTIVE (R283). -/
  | entryCollective (fn ctx : Nat)
  /-- COLL_ENTRY_START (R284). -/
  | collEntryStart (fn ctx : Nat)
  /-- ENTRY_FINISH (R49). -/
  | entryFinish (fn ctx : Nat) (idx : U32)
  /-- HEAD_WRITE_TIMER (R50). -/
  | headWriteTimer (fn ctx : Nat)
  /-- EQ_CREATE (R55). -/
  | eqCreate (r : Req) (q : Nat) (desc : BitVec 256)
  /-- EQ_DESTROY (R55). -/
  | eqDestroy (r : Req) (q : Nat)
  /-- FUNCTION_LEVEL_RESET (R61). -/
  | functionLevelReset (fn : Nat)
  /-- FLR_COMPLETE (R62). -/
  | flrComplete (fn : Nat)
  /-- VF_DISABLE (R38). -/
  | vfDisable (hp : Nat) (enable : Bool) (numVfs : Nat)
  /-- WALK_STEP (R72). -/
  | walkStep (tag : Nat) (res : ReadResult)
  /-- XLATE_INVALIDATE (R82). -/
  | xlateInvalidate (r : Req) (req : BitVec 256)
  /-- INVALIDATION_COMPLETE (R84). -/
  | invalidationComplete (fn : Nat)
  /-- ACU_ACCESS (R92). -/
  | acuAccess (who : SemMaster) (addr len : Nat) (op : AccessOp)
  /-- ACU_REGION_WRITE (R91). -/
  | acuRegionWrite (r : Req) (k : Nat) (val : BitVec 128)
  /-- ACU_SYNC_READ (R94). -/
  | acuSyncRead (r : Req)
  /-- ACU_SYNC_RETURN (R94). -/
  | acuSyncReturn
  /-- SEM_ACQUIRE (R99); prio: the priority an on-die master asks with. -/
  | semAcquire (who : SemMaster) (sem prio : Nat)
  /-- SEM_TRY (R96). -/
  | semTry (who : SemMaster) (sem : Nat)
  /-- SEM_RELEASE (R100). -/
  | semRelease (who : SemMaster) (sem : Nat)
  /-- SEM_STATUS (R98). -/
  | semStatus (who : SemMaster) (sem : Nat)
  /-- SEM_WAIT_TIMEOUT (R102); ticket: the waiter's arrival number. -/
  | semWaitTimeout (sem ticket : Nat)
  /-- SEM_CFG_WRITE (R105). -/
  | semCfgWrite (r : Req) (sem : Nat) (val : BitVec 32)
  /-- SIGNAL_DETECT (R116). -/
  | signalDetect (p : Nat)
  /-- BRINGUP_STAGE_END (R116). -/
  | bringupStageEnd (p : Nat) (info : StageInfo)
  /-- BRINGUP_STAGE_TIMEOUT (R119). -/
  | bringupStageTimeout (p : Nat)
  /-- TRAIN_SILENCE_END (R119). -/
  | trainSilenceEnd (p : Nat)
  /-- LOSS_OF_SIGNAL (R116). -/
  | lossOfSignal (p : Nat)
  /-- LX_WORD_RX (R118). -/
  | lxWordRx (p word : Nat) (val : BitVec 48)
  /-- CODEWORD_RX (R110); msg: c0 to c5139, parity: c5140 to c5439, as the lane delivers them. -/
  | codewordRx (p lane : Nat) (msg : BitVec 5140) (parity : BitVec 300)
  /-- SOP_RX (R122). -/
  | sopRx (p lseq vc : Nat)
  /-- EOP_RX (R121); data: the bytes of the packet's data blocks, pad included; nextSop: LSEQ and VC of an EOP_SOP. -/
  | eopRx (p : Nat) (data : List Byte) (crc : BitVec 32) (nextSop : Option (Nat × Nat))
  /-- EOP_STOMP_RX (R123). -/
  | eopStompRx (x : StompRx)
  /-- FC_RX (R126). -/
  | fcRx (p : Nat) (xoff : BitVec 10)
  /-- FC_REPEAT_TIMER (R126). -/
  | fcRepeatTimer (p : Nat)
  /-- XOFF_STUCK (R129). -/
  | xoffStuck (p vc : Nat)
  /-- LANE_LOCK_LOSS (R130). -/
  | laneLockLoss (p lane : Nat)
  /-- LANE_RELOCK (R130). -/
  | laneRelock (p lane : Nat)
  /-- LANE_FAIL_TIMER (R130). -/
  | laneFailTimer (p lane : Nat)
  /-- LANE_USABLE_TIMER (R130). -/
  | laneUsableTimer (p lane : Nat)
  /-- PEER_MARKER_CHANGE (R131). -/
  | peerMarkerChange (p : Nat) (rxLock rxUsable : BitVec 4)
  /-- LINK_DOWN (R132). -/
  | linkDown (p : Nat)
  /-- PORT_LPS_ENTER_REQ (R134). -/
  | portLpsEnterReq (r : Req) (p st : Nat)
  /-- PORT_LPS_EXIT (R135); r: the writer of 0, or none when the router has a packet for the port. -/
  | portLpsExit (r : Option Req) (p : Nat)
  /-- LPI_REQ_RX (R134). -/
  | lpiReqRx (p st : Nat) (force : Bool)
  /-- LPI_ACK_RX (R134). -/
  | lpiAckRx (p st : Nat)
  /-- LPI_NAK_RX (R134). -/
  | lpiNakRx (p st : Nat)
  /-- LPI_TIMEOUT (R134). -/
  | lpiTimeout (p : Nat)
  /-- LPS_EXIT_FAIL (R135). -/
  | lpsExitFail (p : Nat)
  /-- PORT_ENABLE_WRITE (R137). -/
  | portEnableWrite (r : Req) (p val : Nat)
  /-- PORT_TEST_WRITE (R136). -/
  | portTestWrite (r : Req) (p : Nat) (val : BitVec 32)
  /-- CABLE_POWER_TRIP (R414); c: fabric connector J(3 + c). -/
  | cablePowerTrip (c : Nat)
  /-- CABLE_POWER_RETRY (R414). -/
  | cablePowerRetry (c : Nat)
  /-- PACKET_INJECT (R147). -/
  | packetInject (pt : Nat)
  /-- PACKET_ROUTE (R142); p: ingress port. -/
  | packetRoute (p : Nat)
  /-- PORT_EGRESS_START (R152). -/
  | portEgressStart (p : Nat)
  /-- PACKET_DELIVER (R153); tile: 8 to 11 ET0 to ET3, 12 MT. -/
  | packetDeliver (tile : Nat)
  /-- QDEPTH_PUBLISH (R146). -/
  | qdepthPublish (pt : Nat)
  /-- HINT_DECAY (R146). -/
  | hintDecay (pt : Nat)
  /-- ROUTE_GEN_ACTIVE_WRITE (R159). -/
  | routeGenActiveWrite (r : Req) (val : Nat)
  /-- GEN_QUIET_END (R160). -/
  | genQuietEnd (g : Nat)
  /-- FT_SYNC_TIMER (R166). -/
  | ftSyncTimer (p : Nat)
  /-- TIME_SET_RX (R167). -/
  | timeSetRx (p : Nat) (set : TimeSet)
  /-- TIME_LOCK_LOSS (R169). -/
  | timeLockLoss (p : Nat)
  /-- HOLDOVER_EXPIRED (R170). -/
  | holdoverExpired
  /-- PARENT_RESELECT_TIMER (R171). -/
  | parentReselectTimer
  /-- TIME_IN_PULSE (R174). -/
  | timeInPulse
  /-- TIME_IN_MESSAGE (R174). -/
  | timeInMessage (bytes : List Byte)
  /-- TIME_IN_LOST (R174). -/
  | timeInLost
  /-- TIME_OUT_PULSE (R175). -/
  | timeOutPulse
  /-- TIME_OUT_MESSAGE (R175). -/
  | timeOutMessage
  /-- FT_SET_WRITE (R164). -/
  | ftSetWrite (r : Req) (val : BitVec 64)
  /-- GATE_EVENT (R179); cls: 0 REQ, 1 RSP, 2 COLL, 3 ESC. -/
  | gateEvent (p cls : Nat)
  /-- GATE_SCHED_WRITE (R180). -/
  | gateSchedWrite (r : Req) (p : Nat) (val : BitVec 2176)
  /-- GATE_SWITCH (R180). -/
  | gateSwitch (p : Nat)
  /-- QUEUE_SAMPLE (R185). -/
  | queueSample (pt : Nat)
  /-- CTX_OPEN (R193). -/
  | ctxOpen (fn : Nat)
  /-- CTX_CLOSE (R195). -/
  | ctxClose (fn : Nat)
  /-- CTX_QUERY (R192). -/
  | ctxQuery (fn : Nat)
  /-- CTX_CLOSE_COMPLETE (R195). -/
  | ctxCloseComplete (fn ctx : Nat)
  /-- TOMBSTONE_EXPIRY (R196). -/
  | tombstoneExpiry (fn ctx : Nat)
  /-- CONTEXT_FILL (R198). -/
  | contextFill (tag : Nat) (res : ReadResult)
  /-- DATA_SEND (R204). -/
  | dataSend (fn ctx : Nat)
  /-- DATA_RX (R207). -/
  | dataRx (et : Nat)
  /-- RESYNC_RX (R207). -/
  | resyncRx (et : Nat)
  /-- ACK_RX (R209). -/
  | ackRx (et : Nat)
  /-- RESYNC_ACK_RX (R214). -/
  | resyncAckRx (et : Nat)
  /-- NAK_RNR_RX (R246). -/
  | nakRnrRx (et : Nat)
  /-- NAK_STALE_RX (R211). -/
  | nakStaleRx (et : Nat)
  /-- ACK_DELAY_TIMER (R208). -/
  | ackDelayTimer (fn ctx : Nat)
  /-- RETRANSMIT_TIMER (R212). -/
  | retransmitTimer (fn ctx : Nat)
  /-- RESYNC_TIMER (R215). -/
  | resyncTimer (fn ctx : Nat)
  /-- REPLAY_FULL (R205). -/
  | replayFull (et : Nat)
  /-- RNR_BACKOFF_TIMER (R246). -/
  | rnrBackoffTimer (fn ctx : Nat)
  /-- RESP_RX (R271). -/
  | respRx (et : Nat)
  /-- MATCH_HEADER (R238). -/
  | matchHeader (et : Nat)
  /-- PULL_RX (R230). -/
  | pullRx (et : Nat)
  /-- PULL_RESP_RX (R231). -/
  | pullRespRx (et : Nat)
  /-- FIN_RX (R229). -/
  | finRx (et : Nat)
  /-- OVERFLOW_READ_DONE (R241). -/
  | overflowReadDone (tag : Nat) (res : ReadResult)
  /-- LANDING_EXHAUSTED (R242). -/
  | landingExhausted (et : Nat)
  /-- MATCH_BALANCE_INTERVAL (R247). -/
  | matchBalanceInterval (et : Nat)
  /-- FENCE_END (R248). -/
  | fenceEnd (et : Nat)
  /-- MIGRATE_TOMB_EXPIRY (R248). -/
  | migrateTombExpiry (et fn comm : Nat)
  /-- WIN_REGISTER (R257). -/
  | winRegister (fn : Nat)
  /-- WIN_REVOKE (R258). -/
  | winRevoke (fn : Nat)
  /-- WIN_QUERY (R256). -/
  | winQuery (fn : Nat)
  /-- REVOKE_COMPLETE (R258). -/
  | revokeComplete (fn : Nat)
  /-- TARGET_READ_DONE (R264). -/
  | targetReadDone (tag : Nat) (res : ReadResult)
  /-- SAVE_RECORD_EXPIRY (R266). -/
  | saveRecordExpiry (fn ctx : Nat) (psn : U32)
  /-- SAVE_FULL (R267). -/
  | saveFull (et : Nat)
  /-- ATOMIC_CACHE_WRITE (R265). -/
  | atomicCacheWrite (r : Req) (et val : Nat)
  /-- TREE_INSTALL (R280). -/
  | treeInstall (r : Req) (t : Nat) (val : BitVec 512)
  /-- TREE_UNINSTALL (R280). -/
  | treeUninstall (r : Req) (t : Nat) (val : BitVec 512)
  /-- COLL_OPERAND_READY (R289). -/
  | collOperandReady (tag : Nat) (res : ReadResult)
  /-- CUP_RX (R289). -/
  | cupRx (p : Nat)
  /-- CDN_RX (R296). -/
  | cdnRx (p : Nat)
  /-- COLL_ABORT_RX (R298). -/
  | collAbortRx (p : Nat)
  /-- KEEPALIVE_RX (R297). -/
  | keepaliveRx (p : Nat)
  /-- KEEPALIVE_TIMER (R297). -/
  | keepaliveTimer
  /-- EDGE_SILENT (R297). -/
  | edgeSilent (p : Nat)
  /-- MGMT_DATAGRAM_RX (R323); src: address and port of the sender, port in bits [15:0]; dest: the address it was sent to. -/
  | mgmtDatagramRx (src : Nat) (v6 : Bool) (dest : Nat) (pdu : List Byte)
  /-- MGT_REQUEST_RX (R324). -/
  | mgtRequestRx
  /-- DICT_READ (R318); q: the queue the rotation takes, 0 FW, 1 MGMT, 2 FABRIC, 3 to 6 H0 to H3. -/
  | dictRead (q : Nat)
  /-- DICT_WRITE (R319). -/
  | dictWrite (q : Nat)
  /-- DICT_DESCRIBE (R318). -/
  | dictDescribe (q : Nat)
  /-- DICT_CANCEL (R318). -/
  | dictCancel (q : Nat)
  /-- DICT_RELAY (R326). -/
  | dictRelay (q : Nat)
  /-- RELAY_RESPONSE_RX (R326). -/
  | relayResponseRx
  /-- RELAY_TIMEOUT (R326). -/
  | relayTimeout (id : Nat)
  /-- SEG_TIMEOUT (R319). -/
  | segTimeout (id : Nat)
  /-- SNAPSHOT_EXPIRY (R320). -/
  | snapshotExpiry (id : Nat)
  /-- KEPT_RESPONSE_EXPIRY (R322). -/
  | keptResponseExpiry
  /-- DICT_USER_DEFINE_WRITE (R316). -/
  | dictUserDefineWrite (r : Req) (val : BitVec 128)
  /-- DICT_FACTORY_WRITE (R329). -/
  | dictFactoryWrite (r : Req) (val : BitVec 32)
  /-- SMBUS_BLOCK_READ (R328). -/
  | smbusBlockRead (addr cmd : Nat)
  /-- MODE_REQ_TRAIN (R335). -/
  | modeReqTrain (r : Req)
  /-- MODE_REQ_RUN (R335). -/
  | modeReqRun (r : Req)
  /-- MODE_REQ_HOLD (R335). -/
  | modeReqHold (r : Req)
  /-- MODE_REQ_PASS (R337). -/
  | modeReqPass (r : Req)
  /-- MODE_REQ_TEST (R338). -/
  | modeReqTest (r : Req)
  /-- MODE_REQ_STANDBY (R335). -/
  | modeReqStandby (r : Req)
  /-- QUIESCE_DRAIN_END (R336). -/
  | quiesceDrainEnd
  /-- MODE_CHANGE_COMPLETE (R335). -/
  | modeChangeComplete
  /-- SEAT_PIN_CHANGE (R341); pin: 0 SEAT_A_N, 1 SEAT_B_N; level: true is high. -/
  | seatPinChange (pin : Nat) (level : Bool)
  /-- SEAT_DEBOUNCE_END (R341). -/
  | seatDebounceEnd
  /-- RAMP_COMPLETE (R342). -/
  | rampComplete
  /-- POWER_GOOD_ASSERT (R343). -/
  | powerGoodAssert
  /-- FAULT_TIMER_START (R344). -/
  | faultTimerStart
  /-- FAULT_TIMER_END (R344). -/
  | faultTimerEnd
  /-- BREAKER (R344). -/
  | breaker
  /-- FAST_TRIP (R345). -/
  | fastTrip
  /-- OVERVOLTAGE (R345). -/
  | overvoltage
  /-- RAIL_FAULT (R345). -/
  | railFault
  /-- THERMAL_TRIP (R352). -/
  | thermalTrip (island : Nat)
  /-- RESET_N_ASSERT (R421). -/
  | resetNAssert
  /-- RESET_N_RELEASE (R346). -/
  | resetNRelease
  /-- INPUT_SAMPLE (R347). -/
  | inputSample (mv ma : Nat)
  /-- INPUT_UNDERVOLTAGE (R349). -/
  | inputUndervoltage
  /-- FLUSH_COMPLETE (R349). -/
  | flushComplete
  /-- SUPERVISOR_POWER_LOSS (R340). -/
  | supervisorPowerLoss
  /-- TEMP_READ (R352); temps: m°C of the 15 islands in ISLAND_STATE order. -/
  | tempRead (temps : List Int)
  /-- FAULT_REPORT (R358); ext: a fault not already on its way in State. -/
  | faultReport (ext : Option FaultReport)
  /-- FAULT_ACK (R360). -/
  | faultAck (r : Req) (val : BitVec 64)
  /-- FAULT_CLEAR (R360). -/
  | faultClear (r : Req) (val : BitVec 64)
  /-- CTR_CFG_WRITE (R364). -/
  | ctrCfgWrite (r : Req) (sub : Nat) (val : BitVec 32)
  /-- CTR_VALUE_WRITE (R365). -/
  | ctrValueWrite (r : Req) (sub : Nat) (val : BitVec 64)
  /-- CTR_READER_ENABLE_WRITE (R367). -/
  | ctrReaderEnableWrite (r : Req) (val : Nat)
  /-- COUNTER_SNAPSHOT (R367). -/
  | counterSnapshot
  /-- STAGING_PROGRAM_DONE (R373). -/
  | stagingProgramDone (block : Nat)
  /-- PROGRAM_FAIL (R382). -/
  | programFail (block : Nat)
  /-- STORE_READ_DONE (R374). -/
  | storeReadDone (id : Nat) (res : FlashRead)
  /-- STORE_SCRUB_PAGE (R381); site: what the worst codeword of the page holds. -/
  | storeScrubPage (block : Nat) (site : FlashSite) (res : FlashRead)
  /-- BLOCK_REFRESH_DONE (R381). -/
  | blockRefreshDone (block : Nat) (complete : Bool)
  /-- SCRUB_BEHIND (R381). -/
  | scrubBehind
  /-- DIE_FAILED (R382). -/
  | dieFailed (die : Nat)
  /-- FN_STORE_ALLOT_WRITE (R377). -/
  | fnStoreAllotWrite (r : Req) (fn : Nat) (val : BitVec 64)
  /-- FN_STORE_ERASE (R377). -/
  | fnStoreErase (r : Req) (fn : Nat) (val : BitVec 64)
  /-- FN_STORE_TRIM_WRITE (R379). -/
  | fnStoreTrimWrite (r : Req) (fn : Nat) (val : BitVec 128)
  /-- STORE_LOG_CURSOR_WRITE (R384). -/
  | storeLogCursorWrite (r : Req) (val : BitVec 64)
  /-- BOOT_END (R390). -/
  | bootEnd
  /-- FW_UPLOAD_OPEN (R395). -/
  | fwUploadOpen (r : Req)
  /-- FW_UPLOAD_DATA (R395). -/
  | fwUploadData (r : Req) (chunk : List Byte)
  /-- FW_UPLOAD_COMMIT (R395). -/
  | fwUploadCommit (r : Req)
  /-- FW_UPLOAD_ABORT (R395). -/
  | fwUploadAbort (r : Req)
  /-- FW_ACTIVATE (R396). -/
  | fwActivate (r : Req) (val : Nat)
  /-- FW_LOADING_TIMEOUT (R396). -/
  | fwLoadingTimeout
  /-- FW_READY (R398). -/
  | fwReady
  /-- HANDOVER (R398). -/
  | handover
  /-- FW_SELFTEST_RESULT (R399). -/
  | fwSelftestResult (passed : Bool)
  /-- FW_CONFIRM (R400). -/
  | fwConfirm (r : Req) (val : BitVec 32)
  /-- FW_TRIAL_EXPIRY (R401). -/
  | fwTrialExpiry
  /-- FW_FALLBACK (R401). -/
  | fwFallback (r : Req) (val : Nat)
  /-- FW_WATCHDOG_TIMEOUT (R401). -/
  | fwWatchdogTimeout
  /-- FW_KEY_REVOKE (R403). -/
  | fwKeyRevoke (r : Req) (val : Nat)
  /-- ATTEST_REQ (R407). -/
  | attestReq (r : Req) (sub : Nat) (nonce : BitVec 256)
  /-- ATTEST_QUOTE_DONE (R407). -/
  | attestQuoteDone (sub : Nat)
  /-- HOST_LINK_UP (R9); cfg: what the host sets in the port's configuration space and MSI-X tables (R32, R34). -/
  | hostLinkUp (hp rate : Nat) (lanes : HostLanes) (flit : Bool) (cfg : HostCfg)
  /-- VF_ENABLE (R38). -/
  | vfEnable (hp numVfs : Nat)
  /-- SUPERVISOR_POWER_ON (R340). -/
  | supervisorPowerOn
  /-- MGMT_LINK_CHANGE (R416). -/
  | mgmtLinkChange (up mdix : Bool)
  /-- MGMT_FRAME_RX (R8). -/
  | mgmtFrameRx (frame : MgmtFrame)
  /-- SMBUS_TIMEOUT (R423). -/
  | smbusTimeout
  /-- EXIT_SEQUENCE_RX (R135). -/
  | exitSequenceRx (p : Nat)
  deriving DecidableEq, Repr

end Sys2Proof
end

