-- ==== Sys2Proof/Machine/Bits.lean ====
section
/-! DEFINITION. Bit fields, little-endian byte strings and check sums (spec 00 R4; 05 R121; 14 R369). -/

namespace Sys2Proof.Machine

/-- The field of `w` bits at bit `lo` of `v`. -/
def bf (v lo w : Nat) : Nat := v / 2 ^ lo % 2 ^ w

/-- Bit `k` of `v`. -/
def bitAt (v k : Nat) : Bool := bf v k 1 == 1

/-- One as a number. -/
def b2n (b : Bool) : Nat := if b then 1 else 0

/-- Fields (lo, width, value) laid side by side into one number. -/
def pack : List (Nat × Nat × Nat) → Nat
  | [] => 0
  | (lo, w, v) :: r => (v % 2 ^ w) * 2 ^ lo + pack r

/-- `v` with the field of `w` bits at `lo` set to `x`. -/
def setBf (v lo w x : Nat) : Nat :=
  v % 2 ^ lo + (x % 2 ^ w) * 2 ^ lo + v / 2 ^ (lo + w) * 2 ^ (lo + w)

/-- The bytes of a number, least significant first (R4). -/
def natLe : Nat → Nat → List Byte
  | 0, _ => []
  | n + 1, v => BitVec.ofNat 8 v :: natLe n (v / 256)

/-- The number a byte string spells, least significant byte first (R4). -/
def leNat : List Byte → Nat
  | [] => 0
  | b :: r => b.toNat + 256 * leNat r

/-- A signed value of `w` bits, two's complement. -/
def signed (w v : Nat) : Int := if v % 2 ^ w < 2 ^ (w - 1) then (v % 2 ^ w : Nat) else (v % 2 ^ w : Nat) - (2 ^ w : Nat)

/-- The two's complement of an integer in `w` bits. -/
def unsigned (w : Nat) (i : Int) : Nat := (i % (2 ^ w : Nat)).toNat

/-- A saturating sum: `a + n`, no higher than the largest number of `w` bits. -/
def satAdd (w a n : Nat) : Nat := min (a + n) (2 ^ w - 1)

/-- Element `k` of a list of numbers, 0 beyond its end. -/
def nth (l : List Nat) (k : Nat) : Nat := l.getD k 0

/-- Add `n` to element `k` of a list of 64-bit saturating counters. -/
def bump (l : List Nat) (k n : Nat) : List Nat := l.set k (satAdd 64 (nth l k) n)

/-- Round up to a whole number of `b`. -/
def ceilDiv (a b : Nat) : Nat := (a + b - 1) / b

/-- Eight steps of a reflected CRC register. -/
def crcBits (poly : Nat) : Nat → Nat → Nat
  | 0, c => c
  | k + 1, c => crcBits poly k (if c % 2 = 1 then Nat.xor (c / 2) poly else c / 2)

/-- CRC-32C of a byte string (R121): polynomial 0x1EDC6F41 reflected, initial value and final XOR all ones. -/
def crc32c (bs : List Byte) : Nat :=
  Nat.xor (bs.foldl (fun c b => crcBits 0x82F63B78 8 (Nat.xor c b.toNat)) 0xFFFFFFFF) 0xFFFFFFFF

/-- Eight steps of the CRC-16 of R369: polynomial 0x1021, not reflected. -/
def crc16Bits : Nat → Nat → Nat
  | 0, c => c
  | k + 1, c => crc16Bits k (if c / 32768 % 2 = 1 then Nat.xor (c * 2 % 65536) 0x1021 else c * 2 % 65536)

/-- TAGHASH's register over a byte string (R369): initial value 0xFFFF, high bit first. -/
def crc16 (bs : List Byte) : Nat :=
  bs.foldl (fun c b => crc16Bits 8 (Nat.xor c (b.toNat * 256))) 0xFFFF

/-- A CRC-8 step, polynomial `x^8 + x^2 + x + 1` (the PEC of the SMBus, R328). -/
def crc8Bits : Nat → Nat → Nat
  | 0, c => c
  | k + 1, c => crc8Bits k (if c / 128 % 2 = 1 then Nat.xor (c * 2 % 256) 0x07 else c * 2 % 256)

/-- The SMBus PEC of a byte string. -/
def crc8 (bs : List Byte) : Nat := bs.foldl (fun c b => crc8Bits 8 (Nat.xor c b.toNat)) 0

/-- Pad a byte string with zero bytes to a whole number of `k` bytes. -/
def padTo (k : Nat) (bs : List Byte) : List Byte :=
  bs ++ List.replicate ((k - bs.length % k) % k) 0

end Sys2Proof.Machine
end

