-- ==== Sys2Proof/Machine/Reduce.lean ====
section
/-! DEFINITION. The arithmetic of the reduction unit: elements, operators, floating-point addition in each format,
and exact 320-bit partials (spec 11: R281, R286, R290). -/

namespace Sys2Proof.Machine

/-- Element size of a DTYPE in bytes (R281). -/
def dtSize (d : Nat) : Nat :=
  match d with
  | 0 | 2 | 5 => 4
  | 1 | 3 | 4 => 8
  | _ => 2

/-- A byte string as elements of `k` bytes. -/
def elems (k : Nat) : Nat → List Byte → List Nat
  | 0, _ => []
  | n + 1, bs => if bs = [] then [] else leNat (bs.take k) :: elems k n (bs.drop k)

/-- Elements back to bytes. -/
def unelems (k : Nat) (l : List Nat) : List Byte := l.flatMap (natLe k)

/-- Precision, exponent bits and the shift S of R290 for a floating DTYPE; ordered addition uses S = −1. -/
def fpPrec (d : Nat) : Nat := match d with | 4 => 53 | 5 => 24 | 6 => 8 | _ => 11
def fpEbits (d : Nat) : Nat := match d with | 4 => 11 | 5 => 8 | 6 => 8 | _ => 5
def fpShift (d : Nat) : Int := match d with | 6 => 15 | 7 => 124 | _ => -1
def fpEmax (d : Nat) : Nat := 2 ^ fpEbits d - 1
def fpWidth (d : Nat) : Nat := 8 * dtSize d

/-- Fields of an element. -/
def fpSign (d x : Nat) : Bool := bitAt x (fpWidth d - 1)
def fpExp (d x : Nat) : Nat := bf x (fpPrec d - 1) (fpEbits d)
def fpFrac (d x : Nat) : Nat := bf x 0 (fpPrec d - 1)

/-- The canonical quiet NaN and an infinity of a format (R286). -/
def fpNaN (d : Nat) : Nat := fpEmax d * 2 ^ (fpPrec d - 1) + 2 ^ (fpPrec d - 2)
def fpInf (d : Nat) (neg : Bool) : Nat := b2n neg * 2 ^ (fpWidth d - 1) + fpEmax d * 2 ^ (fpPrec d - 1)
def isNaN (d x : Nat) : Bool := fpExp d x == fpEmax d && fpFrac d x != 0
def isInf (d x : Nat) : Bool := fpExp d x == fpEmax d && fpFrac d x == 0

/-- A finite element as a whole number of units (R290 to_partial). -/
def fpUnits (d : Nat) (sh : Int) (x : Nat) : Int :=
  let m := if fpExp d x = 0 then fpFrac d x else fpFrac d x + 2 ^ (fpPrec d - 1)
  let v : Nat := m * 2 ^ ((max (fpExp d x) 1 : Nat) + sh).toNat
  if fpSign d x then -(v : Int) else v

/-- Bit length of a number. -/
def bitLen (n : Nat) : Nat := if n = 0 then 0 else Nat.log2 n + 1

/-- Round a whole number of units to the format, ties to even (R290 round_at_root); 0 gives +0. -/
def fpRound (d : Nat) (sh : Int) (v : Int) : Nat :=
  if v = 0 then 0
  else
    let p := fpPrec d
    let neg := decide (v < 0)
    let M := v.natAbs
    let q := max (bitLen M - p) (1 + sh).toNat
    let m := M / 2 ^ q
    let r := M % 2 ^ q
    let up := decide (2 * r > 2 ^ q) || (decide (2 * r = 2 ^ q) && decide (0 < q) && m % 2 == 1)
    let m := if up then m + 1 else m
    let (m, q) := if m = 2 ^ p then (2 ^ (p - 1), q + 1) else (m, q)
    let e := if m < 2 ^ (p - 1) then 0 else ((q : Int) - sh).toNat
    if fpEmax d ≤ e then fpInf d neg
    else b2n neg * 2 ^ (fpWidth d - 1) + e * 2 ^ (p - 1) + m % 2 ^ (p - 1)

/-- IEEE 754 addition in the element's own format, roundTiesToEven (R286). -/
def fpAdd (d a b : Nat) : Nat :=
  if isNaN d a || isNaN d b then fpNaN d
  else if isInf d a then (if isInf d b && fpSign d a != fpSign d b then fpNaN d else a)
  else if isInf d b then b
  else if fpUnits d (-1) a = 0 ∧ fpUnits d (-1) b = 0 then
    b2n (fpSign d a && fpSign d b) * 2 ^ (fpWidth d - 1)
  else fpRound d (-1) (fpUnits d (-1) a + fpUnits d (-1) b)

/-- Order of floating elements for MIN and MAX: −0 below +0 (R286). -/
def fpKey (d x : Nat) : Int :=
  let mag := x % 2 ^ (fpWidth d - 1)
  if fpSign d x then -(mag : Int) - 1 else mag

/-- One operator on one pair of elements (R286). -/
def combine (d op a b : Nat) : Nat :=
  let w := fpWidth d
  match op with
  | 0 => if 4 ≤ d then fpAdd d a b else (a + b) % 2 ^ w
  | 1 | 2 =>
    if 4 ≤ d then
      if isNaN d a || isNaN d b then fpNaN d
      else if decide (fpKey d a ≤ fpKey d b) == (op == 1) then a else b
    else if d ≤ 1 then (if decide (signed w a ≤ signed w b) == (op == 1) then a else b)
    else if decide (a ≤ b) == (op == 1) then a else b
  | 3 => a &&& b
  | 4 => a ||| b
  | _ => Nat.xor a b

/-! ### Exact partials (R290): [317:0] the sum in units of 2^-149, [319:318] the class -/

/-- A native element as a partial. -/
def toPartial (d x : Nat) : Nat :=
  if isNaN d x then 3 * 2 ^ 318
  else if isInf d x then (if fpSign d x then 2 else 1) * 2 ^ 318
  else unsigned 318 (fpUnits d (fpShift d) x)

/-- Add two partials. -/
def addPartial (a b : Nat) : Nat :=
  let ca := bf a 318 2
  let cb := bf b 318 2
  if ca = 3 ∨ cb = 3 ∨ (ca = 1 ∧ cb = 2) ∨ (ca = 2 ∧ cb = 1) then 3 * 2 ^ 318
  else if ca ≠ 0 then ca * 2 ^ 318
  else if cb ≠ 0 then cb * 2 ^ 318
  else unsigned 318 (signed 318 a + signed 318 b)

/-- Round a partial to the native format at the root. -/
def roundPartial (d a : Nat) : Nat :=
  match bf a 318 2 with
  | 3 => fpNaN d
  | 1 => fpInf d false
  | 2 => fpInf d true
  | _ => fpRound d (fpShift d) (signed 318 a)

/-- Fold two byte strings of native elements (R289). -/
def foldNative (d op : Nat) (a b : List Byte) : List Byte :=
  let k := dtSize d
  unelems k (List.zipWith (combine d op) (elems k (a.length + 1) a) (elems k (b.length + 1) b))

/-- Fold two byte strings of partials. -/
def foldPartial (a b : List Byte) : List Byte :=
  unelems 40 (List.zipWith addPartial (elems 40 (a.length + 1) a) (elems 40 (b.length + 1) b))

/-- A member's operand as partials. -/
def liftPartial (d : Nat) (a : List Byte) : List Byte := unelems 40 ((elems (dtSize d) (a.length + 1) a).map (toPartial d))

/-- The root's rounding of partials to native elements. -/
def lowerPartial (d : Nat) (a : List Byte) : List Byte := unelems (dtSize d) ((elems 40 (a.length + 1) a).map (roundPartial d))

end Sys2Proof.Machine
end

