-- ==== Sys2Proof/Config.lean ====
section
/-! DEFINITION. What one unit or one implementation fixes and the spec does not: free values, the unit's
identity, the named hash functions and signature schemes, and the fixed hash of R429. -/

namespace Sys2Proof

/-- A value the spec leaves open, one per number: nothing can evaluate it. The state's `free` counter
gives each use its own number. -/
opaque Config.free : Nat → Nat

/-- A byte the spec leaves open, one per number and position. -/
opaque Config.freeByte : Nat → Nat → Byte

/-- What a byte of management SRAM or of the staging buffer holds before a write by an on-die master (R88): firmware and
the store put there what the spec does not give. -/
opaque Config.sramByte : Nat → Byte

/-- First address of the table area of management SRAM that firmware sets, and the first past it (R63). -/
opaque Config.tableLo : Nat
opaque Config.tableHi : Nat

/-- Druchanor's assigned PCIe vendor identifier (R32, R329): the manual names it and gives no number. -/
opaque Config.vendorId : BitVec 16

/-- The 128-bit unit serial in the fuse bank (R388). -/
opaque Config.unitSerial : BitVec 128

/-- The unit's management MAC address (R329). -/
opaque Config.mgmtMac : BitVec 48

/-- True for FN-OZ6400-MB, whose factory image is bound to the unit serial (R1). -/
opaque Config.factoryBound : Bool

/-- The bytes that Druchanor gives the factory image, BOUND and UNIT apart (R389, R393). -/
opaque Config.factoryBytes : List Byte

/-- The unit serial as 16 bytes, least significant first (R4). -/
def Config.serialBytes : List Byte := (List.range 16).map (fun i => (Config.unitSerial >>> (8 * i)).setWidth 8)

/-- The factory image, in SREC at manufacture (R389): its header's BOUND is 1 and its UNIT the serial on a unit bound to
it, and both are 0 on another (R1, R393). -/
def Config.factoryImage : List Byte :=
  Config.factoryBytes.take 21
    ++ [(Config.factoryBytes.getD 21 0 &&& 0xFE) ||| (if Config.factoryBound then 1 else 0)]
    ++ (Config.factoryBytes.drop 22).take 2
    ++ (if Config.factoryBound then Config.serialBytes else List.replicate 16 0)
    ++ Config.factoryBytes.drop 40

/-- The four fused vendor key hashes (R388). -/
opaque Config.keyHash : Nat → BitVec 384

/-- SHA-384 of a byte string (FIPS 180-4, named by R388, R393, R406). -/
opaque Config.sha384 : List Byte → BitVec 384

/-- RSA-3072 PKCS #1 v1.5 with SHA-384: modulus, message, signature (R393). -/
opaque Config.rsaVerify : Nat → List Byte → List Byte → Bool

/-- SLH-DSA-SHA2-192s pure verification: public key, message, signature (R394). -/
opaque Config.slhVerify : Nat → List Byte → List Byte → Bool

/-- The unit's RSA-3072 signature of a message, 384 B (R405, R407). -/
opaque Config.rsaSign : List Byte → Nat

/-- The unit's SLH-DSA-SHA2-192f signature of a message, 35,664 B (R405, R407). -/
opaque Config.slhSign : List Byte → Nat

/-- The unit's public keys: RSA-3072 modulus and SLH-DSA-SHA2-192f key (R405). -/
opaque Config.unitModulus : Nat
opaque Config.unitSlhKey : Nat

/-- Vendor key slot that signed the unit certificate (R405). -/
opaque Config.certKey : Nat

/-- Signatures of a message by a vendor key slot's pair: RSA-3072, 384 B, and SLH-DSA-SHA2-192s, 16,224 B (R405). -/
opaque Config.vendorRsaSign : Nat → List Byte → Nat
opaque Config.vendorSlhSign : Nat → List Byte → Nat

/-- The boot ROM's bytes (R406). -/
opaque Config.bootRom : List Byte

/-- ESC requests that an endpoint tile holds at least, less one, before one finds no room (R153): the spec gives no number. -/
opaque Config.deliveryRoom : Nat

/-- The test patterns of IEEE 802.3 Clause 120 that R136 names without giving them: the bit at a place of a pattern
(1 PRBS13Q, 2 PRBS31Q, 3 SSPRQ) on a lane. -/
opaque Config.pattern : Nat → Nat → Nat → Bool

/-- Queue that the dictionary engine's rotation starts with in the management tile's first cycle (R308): the spec gives none. -/
opaque Config.dictFirst : Nat

/-- The fixed, unconfigurable hash of R429: destination device with its form, function and context. -/
opaque Config.portHash : Bool → Nat → Nat → Nat → Nat

/-- The factory bad-block count, at most 1,311 of it used (R382). -/
opaque Config.factoryBad : Nat

end Sys2Proof
end

