-- ==== Sys2Proof/Machine/Objects.lean ====
section
/-! DEFINITION. The object dictionary's objects: index, sub range, type, access class, length, default, writable
bits, persistence and scope, row by row from the tables of R27, R37, R40, R58, R86, R95, R105, R137, R162, R187,
R220, R252, R276, R301, R329, R353, R370, R385 and R408. -/

namespace Sys2Proof.Machine

/-- Access classes of R307. -/
inductive Acc where
  | const | ro | idle | shadow | live
  deriving DecidableEq, Repr

/-- How an object is scoped (R312). -/
inductive Scope where
  | none
  /-- Sub is a function identity. -/
  | fn
  /-- Sub n + off selects host port or endpoint tile n. -/
  | port (off : Nat)
  /-- Sub 8n + k + 1 selects one of eight ranges of host port n. -/
  | ranges
  /-- Reached only through the function's own MAILBOX page. -/
  | own
  deriving DecidableEq, Repr

/-- A dictionary object, or a range of like ones. -/
structure Obj where
  idx     : Nat
  /-- Last index of the range, 0 for a single index. -/
  hiIdx   : Nat := 0
  lo      : Nat
  hi      : Nat
  /-- Type code of R305. -/
  ty      : Nat
  acc     : Acc
  len     : Nat
  dflt    : Nat
  /-- Writable bits; none: all of them. Reserved bits read as 0 (R3). -/
  mask    : Option Nat := Option.none
  persist : Bool := false
  scope   : Scope := .none
  deriving DecidableEq, Repr

/-- `n` copies of a `w`-bit value side by side. -/
def rep (w : Nat) : Nat → Nat → Nat
  | 0, _ => 0
  | n + 1, v => v + 2 ^ w * rep w n v

/-- Writable bits of a region entry (R89). -/
def acuMask : Nat :=
  1 + (2 ^ 34 - 1) * 2 ^ 6 + 0x1FFF * 2 ^ 48 + (2 ^ 34 - 1) * 2 ^ 70 + 0x1FFF * 2 ^ 112

/-- Writable bits of a gate schedule (R178). -/
def gateMask : Nat := 2 ^ 98 - 1 + 2 ^ 128 * rep 32 64 0xC00FFFFF

/-- Writable bits of a route entry (R144). -/
def routeMask : Nat := 0x1FF + 2 ^ 16 * rep 16 31 0x1FFF

/-- Fields of an event-queue descriptor (R55), an invalidation request (R82), a context command (R191) and a window
command (R255). -/
def eqMask : Nat := 0x3F + 0xFFFF * 2 ^ 16 + (2 ^ 96 - 1) * 2 ^ 64
def invMask : Nat := 1 + (2 ^ 36 - 1) * 2 ^ 12 + (2 ^ 160 - 1) * 2 ^ 64
def ctxMask : Nat :=
  3 + (2 ^ 20 - 1) * 2 ^ 8 + 0xFFF * 2 ^ 32 + (2 ^ 65 - 1) * 2 ^ 48 + (2 ^ 133 - 1) * 2 ^ 128 + (2 ^ 24 - 1) * 2 ^ 264
    + (2 ^ 96 - 1) * 2 ^ 320
def winMask : Nat := 2 ^ 20 - 1 + (2 ^ 180 - 1) * 2 ^ 32 + (2 ^ 96 - 1) * 2 ^ 256

/-- Bits of a tree entry a write sets (R279). -/
def treeMask : Nat :=
  3 + 0x3F * 2 ^ 4 + 0x3FF * 2 ^ 16 + 0x3FF * 2 ^ 32 + 0xFF * 2 ^ 48 + (2 ^ 320 - 1) * 2 ^ 64

/-- The schedule at reset (R178): PERIOD 1,000,000, UNLOCKED_OPEN 1, nothing valid. -/
def gateDflt : Nat := 1000000 * 2 ^ 64 + 2 ^ 97

/-- A token bucket entry at reset (R181): disabled, BURST 64, RATE 1,250,000. -/
def bucketDflt : Nat := 64 * 2 ^ 16 + 1250000 * 2 ^ 32

/-- The shapers of a port at reset. -/
def shaperDflt : Nat := rep 64 9 bucketDflt

/-- The policers of a port at reset. -/
def policerDflt : Nat := rep 64 7 bucketDflt

/-- Objects of area 0x1000 (R306). -/
def objs1 : List Obj := [
  -- VENDOR_ID
  { idx := 0x1000, lo := 1, hi := 1, ty := 2, acc := .const, len := 2, dflt := 0 },
  -- DEVICE_ID
  { idx := 0x1000, lo := 2, hi := 2, ty := 2, acc := .const, len := 2, dflt := 0x6400 },
  -- ORDERING_CODE
  { idx := 0x1000, lo := 3, hi := 3, ty := 9, acc := .const, len := 12, dflt := 0 },
  -- STEPPING
  { idx := 0x1000, lo := 4, hi := 4, ty := 9, acc := .const, len := 2, dflt := 0 },
  -- UNIT_SERIAL
  { idx := 0x1000, lo := 5, hi := 5, ty := 10, acc := .const, len := 16, dflt := 0 },
  -- DICT_VERSION
  { idx := 0x1000, lo := 6, hi := 6, ty := 2, acc := .const, len := 2, dflt := 0x100 },
  -- FW_VERSION
  { idx := 0x1000, lo := 7, hi := 7, ty := 3, acc := .ro, len := 4, dflt := 0 },
  -- MGMT_MAC
  { idx := 0x1010, lo := 1, hi := 1, ty := 4, acc := .const, len := 8, dflt := 0 },
  -- MGMT_IPV4
  { idx := 0x1010, lo := 2, hi := 2, ty := 3, acc := .live, len := 4, dflt := 0, persist := true },
  -- MGMT_IPV4_PREFIX
  { idx := 0x1010, lo := 3, hi := 3, ty := 1, acc := .live, len := 1, dflt := 0x18, persist := true },
  -- MGMT_IPV4_GW
  { idx := 0x1010, lo := 4, hi := 4, ty := 3, acc := .live, len := 4, dflt := 0, persist := true },
  -- MGMT_IPV6
  { idx := 0x1010, lo := 5, hi := 5, ty := 10, acc := .live, len := 16, dflt := 0, persist := true },
  -- MGMT_IPV6_PREFIX
  { idx := 0x1010, lo := 6, hi := 6, ty := 1, acc := .live, len := 1, dflt := 0x40, persist := true },
  -- MGMT_IPV6_GW
  { idx := 0x1010, lo := 7, hi := 7, ty := 10, acc := .live, len := 16, dflt := 0, persist := true },
  -- MGMT_ALLOW
  { idx := 0x1010, lo := 8, hi := 8, ty := 10, acc := .live, len := 192, dflt := 0, mask := some (rep 192 8 (2 ^ 138 - 1)), persist := true },
  -- MGMT_LINK
  { idx := 0x1010, lo := 9, hi := 9, ty := 3, acc := .ro, len := 4, dflt := 0 },
  -- DICT_RIGHTS
  { idx := 0x1020, lo := 1, hi := 2, ty := 3, acc := .live, len := 4, dflt := 0x7ffe7ffe, mask := some (0x7ffe7ffe), persist := true },
  -- DICT_RIGHTS
  { idx := 0x1020, lo := 3, hi := 6, ty := 3, acc := .live, len := 4, dflt := 0x1007ffe, mask := some (0x7ffe7ffe), persist := true },
  -- DICT_RIGHTS
  { idx := 0x1020, lo := 7, hi := 10, ty := 3, acc := .live, len := 4, dflt := 2, mask := some (0x7ffe7ffe), persist := true },
  -- FN_RIGHTS
  { idx := 0x1021, lo := 0, hi := 255, ty := 3, acc := .live, len := 4, dflt := 0, mask := some (3), persist := true, scope := .fn },
  -- DICT_USER_DEFINE
  { idx := 0x1030, lo := 1, hi := 1, ty := 10, acc := .live, len := 16, dflt := 0, mask := some (2 ^ 29 - 1 + (2 ^ 96 - 1) * 2 ^ 32), persist := true },
  -- DICT_FACTORY
  { idx := 0x1031, lo := 1, hi := 1, ty := 3, acc := .idle, len := 4, dflt := 0 },
  -- DICT_RELAY_TIMEOUT
  { idx := 0x1032, lo := 1, hi := 1, ty := 3, acc := .live, len := 4, dflt := 0x2710, persist := true },
  -- DICT_COUNTS
  { idx := 0x1033, lo := 1, hi := 1, ty := 10, acc := .ro, len := 64, dflt := 0 } ]

/-- Objects of area 0x2000 (R306). -/
def objs2 : List Obj := [
  -- DEV_COORD
  { idx := 0x2000, lo := 1, hi := 1, ty := 3, acc := .idle, len := 4, dflt := 0x3ffff, mask := some (0x3ffff), persist := true },
  -- DEV_FLAT_ID
  { idx := 0x2000, lo := 2, hi := 2, ty := 3, acc := .idle, len := 4, dflt := 0xfffff, mask := some (0xfffff), persist := true },
  -- ISLAND_STATE
  { idx := 0x2000, lo := 3, hi := 3, ty := 3, acc := .ro, len := 4, dflt := 0 },
  -- MESH_DISCARDS
  { idx := 0x2000, lo := 4, hi := 4, ty := 4, acc := .ro, len := 8, dflt := 0 },
  -- SRAM_SCRUB_PERIOD
  { idx := 0x2000, lo := 5, hi := 5, ty := 3, acc := .live, len := 4, dflt := 0x3e8 },
  -- HOST_LINK_STATE
  { idx := 0x2010, lo := 1, hi := 4, ty := 3, acc := .ro, len := 4, dflt := 0, scope := .port 1 },
  -- HOST_LINK_DOWNS
  { idx := 0x2010, lo := 5, hi := 8, ty := 3, acc := .ro, len := 4, dflt := 0, scope := .port 5 },
  -- FN_CTX_QUOTA
  { idx := 0x2012, lo := 0, hi := 255, ty := 3, acc := .live, len := 4, dflt := 0xffffffff, persist := true, scope := .fn },
  -- FN_EQ_QUOTA
  { idx := 0x2013, lo := 0, hi := 255, ty := 2, acc := .live, len := 2, dflt := 0xffff, persist := true, scope := .fn },
  -- FN_BAD_DOORBELLS
  { idx := 0x2014, lo := 0, hi := 255, ty := 3, acc := .ro, len := 4, dflt := 0, scope := .fn },
  -- FN_STATE
  { idx := 0x2015, lo := 0, hi := 255, ty := 1, acc := .ro, len := 1, dflt := 0, scope := .fn },
  -- FN_ASYNC_DROPS
  { idx := 0x2016, lo := 0, hi := 255, ty := 3, acc := .ro, len := 4, dflt := 0, scope := .fn },
  -- FN_XLATE_ROOT
  { idx := 0x2017, lo := 0, hi := 255, ty := 4, acc := .idle, len := 8, dflt := 0, mask := some (1 + (2 ^ 40 - 1) * 2 ^ 12), scope := .fn },
  -- PRIV_XLATE_ROOT
  { idx := 0x2018, lo := 1, hi := 1, ty := 4, acc := .ro, len := 8, dflt := 0 },
  -- HOST_WALK_EXCL
  { idx := 0x2019, lo := 1, hi := 32, ty := 4, acc := .live, len := 8, dflt := 0, mask := some (1 + 63 * 2 ^ 6 + (2 ^ 40 - 1) * 2 ^ 12), persist := true, scope := .ranges },
  -- FN_XLATE_INV
  { idx := 0x201A, lo := 0, hi := 255, ty := 10, acc := .live, len := 32, dflt := 0, mask := some (invMask), scope := .own },
  -- FN_XLATE_FAULTS
  { idx := 0x201B, lo := 0, hi := 255, ty := 3, acc := .ro, len := 4, dflt := 0, scope := .fn },
  -- FN_XLATE_LAST
  { idx := 0x201C, lo := 0, hi := 255, ty := 10, acc := .ro, len := 16, dflt := 0, scope := .fn },
  -- ACU_REGION
  { idx := 0x2020, lo := 1, hi := 64, ty := 10, acc := .live, len := 16, dflt := 0, mask := some (acuMask), persist := true },
  -- ACU_SYNC
  { idx := 0x2020, lo := 65, hi := 65, ty := 3, acc := .ro, len := 4, dflt := 0 },
  -- ACU_EPOCH
  { idx := 0x2020, lo := 66, hi := 66, ty := 3, acc := .ro, len := 4, dflt := 0 },
  -- ACU_DENIED
  { idx := 0x2020, lo := 67, hi := 67, ty := 4, acc := .ro, len := 8, dflt := 0 },
  -- ACU_LAST_DENIED
  { idx := 0x2020, lo := 68, hi := 68, ty := 10, acc := .ro, len := 16, dflt := 0 },
  -- SEM_CFG
  { idx := 0x2021, lo := 0, hi := 255, ty := 3, acc := .live, len := 4, dflt := 0, mask := some (0x3FFFF), persist := true },
  -- SEM_STATE
  { idx := 0x2022, lo := 0, hi := 255, ty := 3, acc := .ro, len := 4, dflt := 0 },
  -- SEM_HOST_WAIT
  { idx := 0x2023, lo := 1, hi := 4, ty := 3, acc := .live, len := 4, dflt := 0x28, persist := true, scope := .port 1 },
  -- FN_SEM_PRIO
  { idx := 0x2024, lo := 0, hi := 255, ty := 1, acc := .live, len := 1, dflt := 0, persist := true, scope := .fn },
  -- PWR_AUTH_ENFORCE
  { idx := 0x2025, lo := 1, hi := 1, ty := 0, acc := .live, len := 1, dflt := 1, persist := true },
  -- SEM_BAD_RELEASES
  { idx := 0x2026, lo := 1, hi := 1, ty := 3, acc := .ro, len := 4, dflt := 0 },
  -- EQ_DESC
  { idx := 0x2110, hiIdx := 0x211f, lo := 0, hi := 255, ty := 10, acc := .live, len := 32, dflt := 0, mask := some (eqMask), scope := .own } ]

/-- Objects of area 0x3000 (R306). -/
def objs3 : List Obj := [
  -- PORT_STATE
  { idx := 0x3000, lo := 1, hi := 64, ty := 3, acc := .ro, len := 4, dflt := 0 },
  -- PORT_PEER
  { idx := 0x3001, lo := 1, hi := 64, ty := 4, acc := .ro, len := 8, dflt := 0 },
  -- PORT_ENABLE
  { idx := 0x3002, lo := 1, hi := 64, ty := 0, acc := .live, len := 1, dflt := 1, persist := true },
  -- PORT_MIN_WIDTH
  { idx := 0x3003, lo := 1, hi := 64, ty := 1, acc := .shadow, len := 1, dflt := 2, persist := true },
  -- LINK_DOWN_TIME
  { idx := 0x3004, lo := 1, hi := 1, ty := 3, acc := .live, len := 4, dflt := 0x7d0, persist := true },
  -- LANE_FAIL_TIME
  { idx := 0x3005, lo := 1, hi := 1, ty := 3, acc := .live, len := 4, dflt := 0x14, persist := true },
  -- LINK_TIME_WAIT
  { idx := 0x3006, lo := 1, hi := 1, ty := 3, acc := .live, len := 4, dflt := 0x2710, persist := true },
  -- LINK_TRAIN_ATTEMPTS
  { idx := 0x3007, lo := 1, hi := 1, ty := 1, acc := .live, len := 1, dflt := 0x10, persist := true },
  -- VC_LIMIT
  { idx := 0x3008, lo := 1, hi := 64, ty := 10, acc := .idle, len := 20, dflt := 0xe000600080008000a000a000a000a000a000a0, persist := true },
  -- VC_HEADROOM
  { idx := 0x3009, lo := 1, hi := 64, ty := 2, acc := .idle, len := 2, dflt := 0x40, persist := true },
  -- VC_XOFF_LIMIT
  { idx := 0x300A, lo := 1, hi := 1, ty := 3, acc := .live, len := 4, dflt := 0x3e8, persist := true },
  -- LANE_TX_EQ
  { idx := 0x300B, lo := 0, hi := 255, ty := 3, acc := .shadow, len := 4, dflt := 0x38f800, persist := true },
  -- PORT_LPS_REQ
  { idx := 0x300C, lo := 1, hi := 64, ty := 1, acc := .live, len := 1, dflt := 0 },
  -- PORT_LPS_CTRL
  { idx := 0x300D, lo := 1, hi := 64, ty := 1, acc := .live, len := 1, dflt := 3, mask := some (3), persist := true },
  -- PORT_TEST
  { idx := 0x300E, lo := 1, hi := 64, ty := 3, acc := .idle, len := 4, dflt := 0, mask := some (0xf3) },
  -- LANE_PATTERN_ERRORS
  { idx := 0x300F, lo := 0, hi := 255, ty := 4, acc := .ro, len := 8, dflt := 0 },
  -- LANE_FEC_STATS
  { idx := 0x3010, lo := 0, hi := 255, ty := 10, acc := .ro, len := 152, dflt := 0 },
  -- PORT_LINK_COUNTS
  { idx := 0x3011, lo := 1, hi := 64, ty := 10, acc := .ro, len := 128, dflt := 0 } ]

/-- Objects of area 0x4000 (R306). -/
def objs4 : List Obj := [
  -- ROUTE_GEN_ACTIVE
  { idx := 0x4000, lo := 1, hi := 1, ty := 1, acc := .live, len := 1, dflt := 0 },
  -- PKT_LIFETIME
  { idx := 0x4000, lo := 2, hi := 2, ty := 3, acc := .const, len := 4, dflt := 0x7d0 },
  -- ROUTE_MODE
  { idx := 0x4000, lo := 3, hi := 3, ty := 1, acc := .live, len := 1, dflt := 0, persist := true },
  -- ROUTE_HINT_WEIGHT
  { idx := 0x4000, lo := 4, hi := 4, ty := 1, acc := .live, len := 1, dflt := 8, persist := true },
  -- ROUTE_NM_BIAS
  { idx := 0x4000, lo := 5, hi := 5, ty := 2, acc := .live, len := 2, dflt := 0x40, persist := true },
  -- ROUTE_HINT_DECAY
  { idx := 0x4000, lo := 6, hi := 6, ty := 3, acc := .live, len := 4, dflt := 0xa, persist := true },
  -- ROUTE_GEN_QUIET
  { idx := 0x4000, lo := 7, hi := 8, ty := 3, acc := .ro, len := 4, dflt := 0 },
  -- ESC_UP_PORT
  { idx := 0x4001, lo := 1, hi := 2, ty := 1, acc := .idle, len := 1, dflt := 0xff },
  -- ROUTE_TREE_LOCAL
  { idx := 0x4002, lo := 1, hi := 2, ty := 10, acc := .idle, len := 64, dflt := 0, mask := some (rep 8 64 0xFF) },
  -- INJ_THROTTLE
  { idx := 0x4003, lo := 1, hi := 8, ty := 3, acc := .live, len := 4, dflt := 0x5a4b3c, mask := some (0xffffff), persist := true },
  -- ROUTE_DROPS
  { idx := 0x4004, lo := 1, hi := 8, ty := 10, acc := .ro, len := 128, dflt := 0 },
  -- PORT_LINK_DELAY
  { idx := 0x4005, lo := 1, hi := 64, ty := 2, acc := .ro, len := 2, dflt := 0 },
  -- LINK_DELAY_DEFAULT
  { idx := 0x4006, lo := 1, hi := 1, ty := 2, acc := .live, len := 2, dflt := 0x200, persist := true },
  -- ROUTE_GROUP
  { idx := 0x4100, hiIdx := 0x411f, lo := 0, hi := 255, ty := 10, acc := .idle, len := 64, dflt := 0, mask := some (routeMask) },
  -- ROUTE_FLAT
  { idx := 0x4200, hiIdx := 0x49ff, lo := 0, hi := 255, ty := 3, acc := .idle, len := 4, dflt := 0, mask := some (0x1FF) } ]

/-- Objects of area 0x5000 (R306). -/
def objs5 : List Obj := [
  -- ACK_COUNT
  { idx := 0x5000, lo := 1, hi := 1, ty := 1, acc := .live, len := 1, dflt := 0x10, persist := true },
  -- ACK_DELAY
  { idx := 0x5000, lo := 2, hi := 2, ty := 3, acc := .live, len := 4, dflt := 0x7d0, persist := true },
  -- RTO_BASE
  { idx := 0x5000, lo := 3, hi := 3, ty := 3, acc := .live, len := 4, dflt := 0x28, persist := true },
  -- RETRY_LIMIT
  { idx := 0x5000, lo := 4, hi := 4, ty := 1, acc := .live, len := 1, dflt := 7, persist := true },
  -- RESYNC_PERIOD
  { idx := 0x5000, lo := 5, hi := 5, ty := 3, acc := .live, len := 4, dflt := 0x64, persist := true },
  -- TOMBSTONE_TIME
  { idx := 0x5000, lo := 6, hi := 6, ty := 3, acc := .const, len := 4, dflt := 0xfa0 },
  -- CC_TARGET
  { idx := 0x5000, lo := 7, hi := 7, ty := 3, acc := .live, len := 4, dflt := 0xbb8, persist := true },
  -- CC_AI
  { idx := 0x5000, lo := 8, hi := 8, ty := 2, acc := .live, len := 2, dflt := 2, persist := true },
  -- CC_BETA
  { idx := 0x5000, lo := 9, hi := 9, ty := 1, acc := .live, len := 1, dflt := 0x80, persist := true },
  -- CC_MD_MAX
  { idx := 0x5000, lo := 10, hi := 10, ty := 1, acc := .live, len := 1, dflt := 0x80, persist := true },
  -- CC_RATE_INIT
  { idx := 0x5000, lo := 11, hi := 11, ty := 2, acc := .live, len := 2, dflt := 0x320, persist := true },
  -- CC_RATE_MIN
  { idx := 0x5000, lo := 12, hi := 12, ty := 2, acc := .live, len := 2, dflt := 5, persist := true },
  -- CC_ENABLE
  { idx := 0x5000, lo := 13, hi := 13, ty := 0, acc := .live, len := 1, dflt := 1, persist := true },
  -- FN_CREDIT_INIT
  { idx := 0x5010, lo := 0, hi := 255, ty := 2, acc := .live, len := 2, dflt := 0x40, persist := true, scope := .fn },
  -- FN_EPOCH
  { idx := 0x5011, lo := 0, hi := 255, ty := 1, acc := .ro, len := 1, dflt := 1, scope := .fn },
  -- FN_SPILL
  { idx := 0x5012, lo := 0, hi := 255, ty := 4, acc := .idle, len := 8, dflt := 0, mask := some (63 + (2 ^ 45 - 1) * 2 ^ 12), scope := .fn },
  -- CTX_CMD
  { idx := 0x5013, lo := 0, hi := 255, ty := 10, acc := .live, len := 64, dflt := 0, mask := some (ctxMask), scope := .own },
  -- FN_REPLAY_MAX
  { idx := 0x5014, lo := 0, hi := 255, ty := 3, acc := .live, len := 4, dflt := 0x4000, persist := true, scope := .fn },
  -- TRANSPORT_COUNTS
  { idx := 0x5020, lo := 1, hi := 4, ty := 10, acc := .ro, len := 128, dflt := 0, scope := .port 1 },
  -- REPLAY_USE
  { idx := 0x5021, lo := 1, hi := 4, ty := 3, acc := .ro, len := 4, dflt := 0, scope := .port 1 },
  -- WIN_CMD
  { idx := 0x5030, lo := 0, hi := 255, ty := 10, acc := .live, len := 64, dflt := 0, mask := some (winMask), scope := .own },
  -- FN_WIN_QUOTA
  { idx := 0x5031, lo := 0, hi := 255, ty := 2, acc := .live, len := 2, dflt := 0xffff, persist := true, scope := .fn },
  -- FN_WIN_USE
  { idx := 0x5032, lo := 0, hi := 255, ty := 2, acc := .ro, len := 2, dflt := 0, scope := .fn },
  -- RMA_SAVE_TIME
  { idx := 0x5033, lo := 1, hi := 1, ty := 3, acc := .live, len := 4, dflt := 0x32c8, persist := true },
  -- ATOMIC_CACHE
  { idx := 0x5034, lo := 1, hi := 4, ty := 0, acc := .live, len := 1, dflt := 1, persist := true, scope := .port 1 },
  -- RMA_COUNTS
  { idx := 0x5035, lo := 1, hi := 4, ty := 10, acc := .ro, len := 128, dflt := 0, scope := .port 1 },
  -- RMA_SAVE_USE
  { idx := 0x5036, lo := 1, hi := 4, ty := 3, acc := .ro, len := 4, dflt := 0, scope := .port 1 } ]

/-- Objects of area 0x6000 (R306). -/
def objs6 : List Obj := [
  -- RNR_BACKOFF
  { idx := 0x6000, lo := 1, hi := 1, ty := 3, acc := .live, len := 4, dflt := 0x14, persist := true },
  -- RNR_LIMIT
  { idx := 0x6000, lo := 2, hi := 2, ty := 1, acc := .live, len := 1, dflt := 7, persist := true },
  -- LANDING_SPEC_MIN
  { idx := 0x6000, lo := 3, hi := 3, ty := 2, acc := .live, len := 2, dflt := 0x1000, persist := true },
  -- MATCH_BALANCE
  { idx := 0x6000, lo := 4, hi := 4, ty := 3, acc := .live, len := 4, dflt := 0x641901, mask := some (0xffffff01), persist := true },
  -- MIGRATE_TOMB
  { idx := 0x6000, lo := 5, hi := 5, ty := 3, acc := .const, len := 4, dflt := 0x32 },
  -- FN_EAGER_MAX
  { idx := 0x6010, lo := 0, hi := 255, ty := 3, acc := .live, len := 4, dflt := 0x4000, persist := true, scope := .fn },
  -- FN_MATCH_QUOTA
  { idx := 0x6011, lo := 0, hi := 255, ty := 3, acc := .live, len := 4, dflt := 0xffffffff, persist := true, scope := .fn },
  -- FN_LANDING_MAX
  { idx := 0x6012, lo := 0, hi := 255, ty := 2, acc := .live, len := 2, dflt := 0x1000, persist := true, scope := .fn },
  -- FN_OVERFLOW
  { idx := 0x6013, lo := 0, hi := 255, ty := 4, acc := .idle, len := 8, dflt := 0, mask := some (63 + (2 ^ 45 - 1) * 2 ^ 12), scope := .fn },
  -- FN_MATCH_CTRL
  { idx := 0x6014, lo := 0, hi := 255, ty := 1, acc := .live, len := 1, dflt := 0, mask := some (1), persist := true, scope := .fn },
  -- FN_MATCH_USE
  { idx := 0x6015, lo := 0, hi := 255, ty := 4, acc := .ro, len := 8, dflt := 0, scope := .fn },
  -- MATCH_COUNTS
  { idx := 0x6020, lo := 1, hi := 4, ty := 10, acc := .ro, len := 128, dflt := 0, scope := .port 1 },
  -- LANDING_FREE
  { idx := 0x6021, lo := 1, hi := 4, ty := 3, acc := .ro, len := 4, dflt := 0x8000, scope := .port 1 },
  -- RNDV_USE
  { idx := 0x6022, lo := 1, hi := 4, ty := 3, acc := .ro, len := 4, dflt := 0, scope := .port 1 } ]

/-- Objects of area 0x7000 (R306). -/
def objs7 : List Obj := [
  -- COLL_TIMEOUT
  { idx := 0x7000, lo := 1, hi := 1, ty := 3, acc := .live, len := 4, dflt := 0x64, persist := true },
  -- COLL_BUF_FREE
  { idx := 0x7001, lo := 1, hi := 8, ty := 2, acc := .ro, len := 2, dflt := 0x1000 },
  -- COLL_COUNTS
  { idx := 0x7002, lo := 1, hi := 1, ty := 10, acc := .ro, len := 128, dflt := 0 },
  -- COLL_TREE
  { idx := 0x7100, hiIdx := 0x710f, lo := 0, hi := 255, ty := 10, acc := .idle, len := 64, dflt := 0, mask := some (treeMask), persist := true } ]

/-- Objects of area 0x8000 (R306). -/
def objs8 : List Obj := [
  -- MODE_REQ
  { idx := 0x8000, lo := 1, hi := 1, ty := 1, acc := .live, len := 1, dflt := 0xff },
  -- MODE_STATE
  { idx := 0x8000, lo := 2, hi := 2, ty := 3, acc := .ro, len := 4, dflt := 0 },
  -- FAULT_REACTION
  { idx := 0x8001, lo := 0, hi := 255, ty := 1, acc := .live, len := 1, dflt := 0, persist := true },
  -- MODE_DROPS
  { idx := 0x8002, lo := 1, hi := 8, ty := 4, acc := .ro, len := 8, dflt := 0 },
  -- PWR_INPUT
  { idx := 0x8010, lo := 1, hi := 1, ty := 10, acc := .ro, len := 16, dflt := 0 },
  -- PWR_ENERGY
  { idx := 0x8010, lo := 2, hi := 2, ty := 4, acc := .ro, len := 8, dflt := 0 },
  -- PWR_FAULT_TIMER
  { idx := 0x8010, lo := 3, hi := 3, ty := 2, acc := .live, len := 2, dflt := 8, persist := true },
  -- PWR_LATCH
  { idx := 0x8010, lo := 4, hi := 4, ty := 3, acc := .ro, len := 4, dflt := 0 },
  -- PWR_RAILS
  { idx := 0x8010, lo := 5, hi := 5, ty := 10, acc := .ro, len := 8, dflt := 0 },
  -- PWR_EVENTS
  { idx := 0x8010, lo := 6, hi := 6, ty := 10, acc := .ro, len := 64, dflt := 0 },
  -- TEMP_MAX
  { idx := 0x8020, lo := 1, hi := 1, ty := 6, acc := .ro, len := 4, dflt := 0 },
  -- THERMAL_WARN
  { idx := 0x8020, lo := 2, hi := 2, ty := 1, acc := .live, len := 1, dflt := 0x64, persist := true },
  -- TEMP_TILE
  { idx := 0x8021, lo := 1, hi := 15, ty := 6, acc := .ro, len := 4, dflt := 0 } ]

/-- Objects of area 0x9000 (R306). -/
def objs9 : List Obj := [
  -- FAULT_CLASS_REC
  { idx := 0x9000, lo := 1, hi := 5, ty := 10, acc := .ro, len := 48, dflt := 0 },
  -- FAULT_ACK
  { idx := 0x9001, lo := 1, hi := 1, ty := 4, acc := .live, len := 8, dflt := 0, mask := some (2 ^ 64 - 1 - 0xF8) },
  -- FAULT_CLEAR
  { idx := 0x9001, lo := 2, hi := 2, ty := 4, acc := .live, len := 8, dflt := 0, mask := some (2 ^ 64 - 1 - 0xF8) },
  -- FAULT_MASK
  { idx := 0x9001, lo := 3, hi := 3, ty := 1, acc := .live, len := 1, dflt := 0, mask := some (0x1f), persist := true },
  -- FAULT_AUTO_ACK
  { idx := 0x9001, lo := 4, hi := 4, ty := 1, acc := .live, len := 1, dflt := 3, mask := some (0x1f), persist := true },
  -- FAULT_SUMMARY
  { idx := 0x9001, lo := 5, hi := 5, ty := 4, acc := .ro, len := 8, dflt := 0 },
  -- FAULT_QUEUE_STATE
  { idx := 0x9001, lo := 6, hi := 6, ty := 4, acc := .ro, len := 8, dflt := 0 },
  -- FAULT_SEQ
  { idx := 0x9001, lo := 7, hi := 7, ty := 4, acc := .ro, len := 8, dflt := 1 },
  -- FAULT_LOG_RECENT
  { idx := 0x9010, lo := 1, hi := 64, ty := 10, acc := .ro, len := 32, dflt := 0 },
  -- FN_FAULT_EVENTS
  { idx := 0x9011, lo := 0, hi := 255, ty := 1, acc := .live, len := 1, dflt := 0, mask := some (0x1f), persist := true, scope := .fn } ]

/-- Objects of area 0xA000 (R306). -/
def objsA : List Obj := [
  -- CTR_CFG
  { idx := 0xA000, lo := 1, hi := 108, ty := 3, acc := .live, len := 4, dflt := 0x3f0000, mask := some (0xff7f1fff) },
  -- CTR_VALUE
  { idx := 0xA001, lo := 1, hi := 108, ty := 4, acc := .live, len := 8, dflt := 0 },
  -- CTR_READER_ENABLE
  { idx := 0xA002, lo := 1, hi := 1, ty := 0, acc := .live, len := 1, dflt := 0 },
  -- CTR_READ_PERIOD
  { idx := 0xA002, lo := 2, hi := 2, ty := 3, acc := .live, len := 4, dflt := 0x64, persist := true },
  -- CTR_RING
  { idx := 0xA002, lo := 3, hi := 3, ty := 10, acc := .idle, len := 32, dflt := 0, mask := some (0x1FFF + 7 * 2 ^ 16 + (2 ^ 192 - 1) * 2 ^ 64) },
  -- CTR_RING_STATE
  { idx := 0xA002, lo := 4, hi := 4, ty := 10, acc := .ro, len := 16, dflt := 0 },
  -- SAMPLE_CTRL
  { idx := 0xA003, lo := 1, hi := 1, ty := 3, acc := .live, len := 4, dflt := 0, mask := some (0x3f), persist := true },
  -- SAMPLE_DROPS
  { idx := 0xA003, lo := 2, hi := 2, ty := 4, acc := .ro, len := 8, dflt := 0 } ]

/-- Objects of area 0xB000 (R306). -/
def objsB : List Obj := [
  -- STORE_STATE
  { idx := 0xB000, lo := 1, hi := 1, ty := 3, acc := .ro, len := 4, dflt := 0 },
  -- STORE_WEAR
  { idx := 0xB000, lo := 2, hi := 2, ty := 10, acc := .ro, len := 64, dflt := 0 },
  -- STORE_POOL
  { idx := 0xB000, lo := 3, hi := 3, ty := 10, acc := .ro, len := 16, dflt := 0 },
  -- STORE_STAGING
  { idx := 0xB000, lo := 4, hi := 4, ty := 3, acc := .ro, len := 4, dflt := 0 },
  -- STORE_SCRUB_PERIOD
  { idx := 0xB000, lo := 5, hi := 5, ty := 3, acc := .live, len := 4, dflt := 0xa8, persist := true },
  -- STORE_REFRESH_PCT
  { idx := 0xB000, lo := 6, hi := 6, ty := 1, acc := .live, len := 1, dflt := 0x32, persist := true },
  -- STORE_LOG_CURSOR
  { idx := 0xB000, lo := 7, hi := 7, ty := 4, acc := .live, len := 8, dflt := 1 },
  -- STORE_LOG_WINDOW
  { idx := 0xB000, lo := 8, hi := 8, ty := 10, acc := .ro, len := 65536, dflt := 0 },
  -- STORE_COUNTS
  { idx := 0xB000, lo := 9, hi := 9, ty := 10, acc := .ro, len := 128, dflt := 0 },
  -- FN_STORE_ALLOT
  { idx := 0xB010, lo := 0, hi := 255, ty := 4, acc := .idle, len := 8, dflt := 0, mask := some (2 ^ 33 - 1), persist := true, scope := .fn },
  -- FN_STORE_USE
  { idx := 0xB011, lo := 0, hi := 255, ty := 3, acc := .ro, len := 4, dflt := 0, scope := .fn },
  -- FN_STORE_STATE
  { idx := 0xB012, lo := 0, hi := 255, ty := 1, acc := .live, len := 1, dflt := 0, mask := some (1), persist := true, scope := .fn },
  -- FN_STORE_TRIM
  { idx := 0xB013, lo := 0, hi := 255, ty := 10, acc := .live, len := 16, dflt := 0, scope := .fn } ]

/-- Objects of area 0xC000 (R306). -/
def objsC : List Obj := [
  -- FW_STATE
  { idx := 0xC000, lo := 1, hi := 1, ty := 3, acc := .ro, len := 4, dflt := 0 },
  -- FW_SLOTS
  { idx := 0xC000, lo := 2, hi := 2, ty := 10, acc := .ro, len := 48, dflt := 0 },
  -- FW_UPLOAD_CTRL
  { idx := 0xC001, lo := 1, hi := 1, ty := 1, acc := .live, len := 1, dflt := 0 },
  -- FW_UPLOAD_DATA
  { idx := 0xC001, lo := 2, hi := 2, ty := 10, acc := .live, len := 65536, dflt := 0 },
  -- FW_UPLOAD_OFFSET
  { idx := 0xC001, lo := 3, hi := 3, ty := 3, acc := .ro, len := 4, dflt := 0 },
  -- FW_ACTIVATE
  { idx := 0xC002, lo := 1, hi := 1, ty := 1, acc := .live, len := 1, dflt := 0xff },
  -- FW_CONFIRM
  { idx := 0xC002, lo := 2, hi := 2, ty := 3, acc := .live, len := 4, dflt := 0 },
  -- FW_FALLBACK
  { idx := 0xC002, lo := 3, hi := 3, ty := 0, acc := .live, len := 1, dflt := 0 },
  -- FW_TRIAL_LEFT
  { idx := 0xC002, lo := 4, hi := 4, ty := 3, acc := .ro, len := 4, dflt := 0 },
  -- FW_HEALTH_WINDOW
  { idx := 0xC002, lo := 5, hi := 5, ty := 3, acc := .const, len := 4, dflt := 0x258 },
  -- FW_ARB
  { idx := 0xC010, lo := 1, hi := 1, ty := 1, acc := .ro, len := 1, dflt := 0 },
  -- FW_KEY_STATE
  { idx := 0xC010, lo := 2, hi := 2, ty := 1, acc := .ro, len := 1, dflt := 0 },
  -- FW_KEY_REVOKE
  { idx := 0xC010, lo := 3, hi := 3, ty := 1, acc := .live, len := 1, dflt := 0xff },
  -- UNIT_CERT
  { idx := 0xC020, lo := 1, hi := 1, ty := 10, acc := .const, len := 17120, dflt := 0 },
  -- ATTEST_REQ
  { idx := 0xC021, lo := 1, hi := 6, ty := 10, acc := .live, len := 32, dflt := 0 },
  -- ATTEST_QUOTE
  { idx := 0xC022, lo := 1, hi := 6, ty := 10, acc := .ro, len := 36560, dflt := 0 },
  -- MEAS
  { idx := 0xC023, lo := 1, hi := 5, ty := 10, acc := .ro, len := 48, dflt := 0 } ]

/-- Objects of area 0xD000 (R306). -/
def objsD : List Obj := [
  -- FT_NOW
  { idx := 0xD000, lo := 1, hi := 1, ty := 10, acc := .ro, len := 16, dflt := 0 },
  -- FT_ROLE
  { idx := 0xD000, lo := 2, hi := 2, ty := 1, acc := .idle, len := 1, dflt := 0, persist := true },
  -- FT_STATE
  { idx := 0xD000, lo := 3, hi := 3, ty := 3, acc := .ro, len := 4, dflt := 0 },
  -- FT_ROOT_ID
  { idx := 0xD000, lo := 4, hi := 4, ty := 3, acc := .ro, len := 4, dflt := 0x1fffff },
  -- FT_OFFSET
  { idx := 0xD000, lo := 5, hi := 5, ty := 6, acc := .ro, len := 4, dflt := 0 },
  -- FT_SYNC_INTERVAL
  { idx := 0xD000, lo := 6, hi := 6, ty := 3, acc := .live, len := 4, dflt := 0x3e8, persist := true },
  -- FT_STEP_LIMIT
  { idx := 0xD000, lo := 7, hi := 7, ty := 3, acc := .live, len := 4, dflt := 0x3e8, persist := true },
  -- FT_HOLDOVER_LIMIT
  { idx := 0xD000, lo := 8, hi := 8, ty := 3, acc := .live, len := 4, dflt := 0x3e8, persist := true },
  -- FT_SET
  { idx := 0xD000, lo := 9, hi := 9, ty := 4, acc := .live, len := 8, dflt := 0 },
  -- FT_TIMEIN_DELAY
  { idx := 0xD000, lo := 10, hi := 10, ty := 3, acc := .live, len := 4, dflt := 0, persist := true },
  -- FT_TIMEOUT_CTRL
  { idx := 0xD000, lo := 11, hi := 11, ty := 1, acc := .live, len := 1, dflt := 0, mask := some (3), persist := true },
  -- FT_TIMEOUT_OFFSET
  { idx := 0xD000, lo := 12, hi := 12, ty := 6, acc := .live, len := 4, dflt := 0, persist := true },
  -- FT_PORT_ASYM
  { idx := 0xD001, lo := 1, hi := 64, ty := 5, acc := .live, len := 2, dflt := 0, persist := true },
  -- FT_PORT_STATE
  { idx := 0xD002, lo := 1, hi := 64, ty := 4, acc := .ro, len := 8, dflt := 0 },
  -- FT_PORT_ELIGIBLE
  { idx := 0xD003, lo := 1, hi := 64, ty := 0, acc := .live, len := 1, dflt := 1, persist := true },
  -- GATE_SCHED
  { idx := 0xD010, lo := 1, hi := 64, ty := 10, acc := .shadow, len := 272, dflt := gateDflt, mask := some (gateMask), persist := true },
  -- GATE_STATUS
  { idx := 0xD011, lo := 1, hi := 64, ty := 10, acc := .ro, len := 16, dflt := 0 },
  -- SHAPER
  { idx := 0xD020, lo := 1, hi := 64, ty := 10, acc := .live, len := 72, dflt := shaperDflt, mask := some (rep 64 9 (2 ^ 64 - 0xFFFF)), persist := true },
  -- POLICER
  { idx := 0xD021, lo := 1, hi := 64, ty := 10, acc := .live, len := 56, dflt := policerDflt, mask := some (rep 64 7 (2 ^ 64 - 0xFFFF)), persist := true },
  -- SHAPE_COUNTS
  { idx := 0xD022, lo := 1, hi := 64, ty := 10, acc := .ro, len := 56, dflt := 0 },
  -- QSAMPLE_PERIOD
  { idx := 0xD030, lo := 1, hi := 1, ty := 3, acc := .live, len := 4, dflt := 1, persist := true },
  -- QSAMPLE_PORTS
  { idx := 0xD030, lo := 2, hi := 2, ty := 4, acc := .live, len := 8, dflt := 0, persist := true },
  -- QUEUE_SAMPLE
  { idx := 0xD031, lo := 1, hi := 64, ty := 10, acc := .ro, len := 96, dflt := 0 } ]

/-- The objects of one area (R306). -/
def objsOf (area : Nat) : List Obj :=
  match area with
  | 1 => objs1
  | 2 => objs2
  | 3 => objs3
  | 4 => objs4
  | 5 => objs5
  | 6 => objs6
  | 7 => objs7
  | 8 => objs8
  | 9 => objs9
  | 10 => objsA
  | 11 => objsB
  | 12 => objsC
  | 13 => objsD
  | _ => []

/-- The object an index and sub-index name, if the manual assigns it (R304). -/
def objAt (idx sub : Nat) : Option Obj :=
  (objsOf (idx / 0x1000)).find? (fun o => o.idx ≤ idx && idx ≤ max o.idx o.hiIdx && o.lo ≤ sub && sub ≤ o.hi)

/-- True when some sub-index of the index is assigned. -/
def idxKnown (idx : Nat) : Bool :=
  (objsOf (idx / 0x1000)).any (fun o => o.idx ≤ idx && idx ≤ max o.idx o.hiIdx)

/-- Key of an object's value. -/
def okey (idx sub : Nat) : Nat := idx * 256 + sub

end Sys2Proof.Machine
end

