-- ==== Sys2Proof/Machine/State.lean ====
section
/-! DEFINITION. The state of the Ospiaz as plain data: everything the spec gives the device, the queue of
waiting commands, and the state after reset. Each structure cites the rules that name its fields. Reset
values are the fields' defaults; NOTES.md names those the spec does not give. -/

namespace Sys2Proof.Machine

/-- A sparse table by a Nat key, keys strictly rising (see Tbl.wf). -/
abbrev Tbl (α : Type) := List (Nat × α)

/-- Why the machine stops. No command of this device stops it: a protective reaction, a checkstop or a
held BOOT is state, not a stop. The constructor is raised by nobody (safe). -/
inductive Fault where
  /-- Raised by no command (safe): a placeholder so that the type is inhabited and closed. -/
  | unreachable
  deriving DecidableEq, Repr

/-- Why a command has no meaning. -/
inductive Refusal where
  /-- Raised only by an arm of exec whose command has no meaning yet (safe). -/
  | notModelled (mnemonic : String)
  deriving DecidableEq, Repr

/-! ### Packets inside a tile -/

/-- A packet inside a tile: its virtual channel, the ingress it came from (0–63 port, 64 + n injected
through port tile n, 72 issued by a reduction unit), when it arrived, and whether its copy must be stomped (R124, R146, R156). -/
structure QPkt where
  pkt     : Packet
  vc      : Nat
  ingress : Nat
  arr     : Nat
  stomp   : Bool := false
  /-- What is left of a packet that the link dropped after its head had gone on (R123, R124): it holds no buffer. -/
  ghost   : Bool := false
  /-- The packet's data block count on the link it came by (R142 LENGTH). -/
  blocks  : Nat := 0
  deriving DecidableEq, Repr

/-! ### Host ports, functions, event queues (R32 to R62) -/

/-- Training state of a host port (R9, R415). -/
inductive HostTrain where
  | detect | training | l0
  deriving DecidableEq, Repr

structure HostPort where
  train    : HostTrain := .detect
  rate     : Nat := 0
  width    : Nat := 0
  flit     : Bool := false
  reversed : Bool := false
  downs    : Nat := 0
  /-- PERST_N low (R415). -/
  perst    : Bool := true
  /-- HOST_NO_FLIT recorded in this power cycle (R9). -/
  noFlitRecorded : Bool := false
  retryAt  : Nat := 0
  vfEnable : Bool := false
  numVfs   : Nat := 0
  /-- Max_Read_Request_Size and Max_Payload_Size the host has set (R34). -/
  mrrs     : Nat := 512
  mps      : Nat := 128
  /-- All that the host has set on the port since its link came up (R32, R34, R41). -/
  cfg      : HostCfg := {}
  /-- The 14-bit tag that the port's next request tries first (R34). -/
  nextReq  : Nat := 0
  deriving DecidableEq, Repr

/-- What an address is used for, which decides a translation fault's outcome (R75). -/
inductive AddrUse where
  | status (ctx : Nat) (idx : U32)
  | head (ctx : Nat)
  | event (q : Nat)
  | payload (ctx : Nat)
  | recvBuf (ctx : Nat) (idx : U32)
  | result (ctx : Nat) (idx : U32)
  | window (ctx : Nat)
  | spill (ctx : Nat)
  /-- An overflow block that holds a packet of a message (R241). -/
  | overflow (ctx msn : Nat)
  | ring
  | ringIndex
  /-- An access by an on-die master under the on-behalf tag (R70). -/
  | behalf (m : Nat)
  /-- A response's bytes at the bus address held for their landing (R269, R271). -/
  | landing (ctx : Nat) (idx : U32)
  /-- An untranslated address: completion records, TOKENs, spill homes already translated (R65). -/
  | bus
  deriving DecidableEq, Repr

/-- An event entry's fields (R56), without PHASE. -/
structure Event where
  type     : Nat
  status   : Nat := 0
  context  : Nat := 0
  source   : Nat := 0
  userData : Nat := 0
  info     : Nat := 0
  length   : Nat := 0
  comm     : Nat := 0
  /-- The send-queue entry whose head waits for this event (R49), as context and index. -/
  holds    : Option (Nat × U32) := none
  /-- The LAST packet whose completion response waits for this NOTIFY (R268), as context and PSN. -/
  notify   : Option (Nat × U32) := none
  deriving DecidableEq, Repr

/-- What a write to a receive buffer brings there (R243): the arrival context and MSN of its message, the landing slots
its issue frees, and whether it is a straight packet's payload, which its issue secures (R208). -/
structure Landing where
  ctx      : Nat
  msn      : Nat
  slots    : Nat := 0
  straight : Bool := false
  deriving DecidableEq, Repr

/-- A write to host memory held in the device until its address is translated (R61, R75). An event's slot
and bytes are formed when its turn comes. -/
structure HeldWrite where
  addr  : Nat := 0
  bytes : List Byte := []
  use   : AddrUse
  ev    : Option Event := none
  /-- The HOST_WALK_EXCL ranges in force when its first check began (R86). -/
  excl  : Option (List Nat) := none
  /-- A further piece of the same access follows it (R77). -/
  more  : Bool := false
  land  : Option Landing := none
  /-- The window slot whose REGISTER record this is: the window is admitted from its issue (R257). -/
  admits : Option Nat := none
  deriving DecidableEq, Repr

structure EventQ where
  log2     : Nat
  vector   : Nat
  base     : Nat
  modCount : Nat
  modTime  : Nat
  producer : U32 := 0
  consumer : U32 := 0
  armed    : Bool := false
  counted  : Nat := 0
  timerAt  : Option Nat := none
  waiting  : List Event := []
  /-- The write at the producer waits on a translation fault (R75). -/
  faulted  : Bool := false
  deriving DecidableEq, Repr

/-- An invalidation request in progress (R82, R83). -/
structure Inval where
  all    : Bool
  lo     : Nat
  hi     : Nat
  compl  : Nat
  token  : Nat
  at_    : Nat
  /-- Host reads and walks, by number, that it waits for (R84). -/
  reads  : List Nat := []
  walks  : List Nat := []
  deriving DecidableEq, Repr

/-- A revoke in progress (R258). -/
structure RevokeWait where
  rkey  : Nat
  compl : Nat
  token : Nat
  reads : List Nat
  deriving DecidableEq, Repr

structure Fn where
  /-- FN_STATE: 0 absent, 1 enabled, 2 in function-level reset. -/
  state      : Nat := 0
  badDoorbells : Nat := 0
  asyncDrops : Nat := 0
  xlateFaults : Nat := 0
  /-- FN_XLATE_LAST, 16 B. -/
  xlateLast  : Nat := 0
  invLast    : BitVec 256 := 0
  invals     : List Inval := []
  epoch      : Nat := 1
  mbGo       : Bool := false
  mbLen      : Nat := 0
  mbReq      : List Byte := []
  mbResp     : List Byte := []
  flrReads   : List Nat := []
  ctxCmds    : List (BitVec 512) := []
  ctxCmdLast : BitVec 512 := 0
  winCmds    : List (BitVec 512) := []
  winCmdLast : BitVec 512 := 0
  revokes    : List RevokeWait := []
  /-- EQ_DESC as last written, by queue (R55). -/
  eqDesc     : Tbl Nat := []
  /-- The eight function counters of R366 as counter words (R365). -/
  ctrs       : List Nat := [0, 0, 0, 0, 0, 0, 0, 0]
  writes     : List HeldWrite := []
  overBlocks : List Nat := []
  /-- BAR0, a 64-bit bus address of 32 MiB (R32), and whether it decodes: the host's Memory Space Enable (R41, log entry 133). -/
  bar0       : Nat := 0
  memOn      : Bool := false
  /-- MSI-X as the host has set it, and the pending bits (R32, R41, R59). -/
  msix       : Msix := {}
  msixPend   : List Nat := []
  deriving DecidableEq, Repr

/-! ### Work entries and contexts (R45 to R54, R190 to R246) -/

/-- How far a fetched entry has come (R49, R195). -/
inductive EntrySt where
  | fetched
  /-- Handed on (a RECV posted, a COLLECTIVE waiting for its turn or contributing). -/
  | started
  /-- The finishing condition is met with this status and event length; ENTRY_FINISH is due. -/
  | done (status len : Nat)
  /-- STATUS written, its event waits in its queue (R49). -/
  | eventWait
  | finished
  deriving DecidableEq, Repr

structure Entry where
  idx      : U32
  words    : BitVec 512
  st       : EntrySt := .fetched
  /-- Packets of the entry that have taken a PSN, and how many it has. -/
  sent     : Nat := 0
  total    : Nat := 0
  firstPsn : U32 := 0
  lastPsn  : U32 := 0
  msn      : U32 := 0
  /-- A failure status of the entry itself (XLATE, …) that overrides its responses (R271). -/
  own      : Option Nat := none
  /-- Statuses other than OK by PSN, and responses still awaited (R271). -/
  bad      : List (Nat × Nat) := []
  awaited  : Nat := 0
  /-- The RECV event a finishing RECV writes (R233). -/
  recvEv   : Option Event := none
  /-- Rendezvous: the FIN has been accepted (R229). -/
  fin      : Bool := false
  /-- A SEND that travels by rendezvous (R228). -/
  rndv     : Bool := false
  /-- COLLECTIVE: the operation number taken (R284). -/
  op       : Option Nat := none
  /-- Tagged for entry-mode tracing (R369). -/
  tagged   : Bool := false
  deriving DecidableEq, Repr

/-- The payload of the next packet of the entry being sent: where it starts, its bytes once read. -/
structure TxCur where
  idx  : U32
  off  : Nat
  len  : Nat
  data : Option (List Byte)
  /-- Held bus addresses of a READ's or atomic's landing (R269). -/
  held : List (Nat × Nat) := []
  deriving DecidableEq, Repr

/-- A replay record (R205, R269), kept until acknowledged and, with a response awaited, answered. It holds no payload. -/
structure Replay where
  psn    : U32
  idx    : U32
  off    : Nat
  len    : Nat
  opc    : Nat
  slots  : Nat
  /-- The operation header (R206 resends the same one). -/
  hdr    : Nat
  resp   : Bool := false
  acked  : Bool := false
  held   : List (Nat × Nat) := []
  /-- First and last addresses of the leaves the landing was translated through (R84). -/
  spans  : List (Nat × Nat) := []
  voided : Bool := false
  /-- Its payload is being read again, or its resend waits for the pacer. -/
  reread : Bool := false
  last   : Bool := false
  deriving DecidableEq, Repr

/-- A control or protocol packet the context owes the peer without a work entry: PULL or FIN (R230, R231). -/
structure Owed where
  mkind : Nat
  msn   : U32
  off   : Nat
  len   : Nat
  deriving DecidableEq, Repr

/-- A round of receiver-not-ready (R246). -/
structure RnrRound where
  start   : Nat
  psns    : List Nat
  /-- RNR_BACKOFF when the round opened, in ns. -/
  wait    : Nat
  resent  : Bool := false
  first   : U32 := 0
  deriving DecidableEq, Repr

/-- State of a message record (R225 to R238). -/
inductive MsgSt where
  | shadow | matched | unexpected | void
  deriving DecidableEq, Repr

/-- A posted receive (R232): its place in order, envelope, buffer, and the shadow that claims it. -/
structure Posted where
  pseq  : Nat
  ctx   : Nat
  idx   : U32
  comm  : Nat
  tag   : Nat
  mask  : Nat
  anySrc : Bool
  source : Nat
  addr  : Nat
  len   : Nat
  /-- The claiming shadow: arrival context and MSN. -/
  claim : Option (Nat × Nat) := none
  deriving DecidableEq, Repr

/-- A landed piece of an eager message: offset, slots it holds, overflow block, bytes (R236, R241). -/
structure Piece where
  off   : Nat
  slots : Nat
  block : Option Nat := none
  bytes : List Byte
  /-- The packet it came in, without payload, while its host write is still to be traced (R369). -/
  trace : Option Packet := none
  deriving DecidableEq, Repr

/-- A message record (R225, R236). -/
structure Msg where
  msn    : Nat
  rts    : Bool
  /-- MKIND of the packet that made the record (R227). -/
  mkind  : Nat := 0
  comm   : Nat
  tag    : Nat
  /-- SOURCE (R222); none when SFORM is 1, with SRC_FN beside it. -/
  source : Option Nat
  srcFn  : Nat
  mlen   : Nat
  st     : MsgSt
  recv   : Option Posted := none
  bitmap : BitVec 16 := 0
  pieces : List Piece := []
  /-- Bytes written to the receive buffer (R244). -/
  written : Nat := 0
  /-- Rendezvous: next offset to pull, PULLs in flight by PSN with offset and length. -/
  pullOff : Nat := 0
  pulls   : List (Nat × Nat × Nat) := []
  /-- The receive's failure status, OK while none (R244). -/
  status : Nat := 0
  complete : Bool := false
  /-- Pieces being read back from overflow blocks (R241). -/
  reading : Nat := 0
  deriving DecidableEq, Repr

/-- A LAST packet of a WRITE or WRITE_NOTIFY accepted and not yet completed (R268). -/
structure LastPkt where
  psn    : U32
  opc    : Nat
  rkey   : Nat
  raddr  : Nat
  notify : Nat
  xlen   : Nat
  source : Nat
  eq     : Nat
  /-- The NOTIFY waits in its queue, so step 2 waits (R268). -/
  waitEv : Bool := false
  /-- Duplicates that arrived meanwhile and are answered when it finishes (R266). -/
  dups   : Nat := 0
  deriving DecidableEq, Repr

/-- A context: the record of R190, its working state, and its matching state (R225). -/
structure Ctx where
  /-- STATE: 0 CLOSED, 1 OPEN, 2 CLOSING. -/
  state    : Nat := 0
  sqLog2   : Nat := 0
  sqEq     : Nat := 0
  rqEq     : Nat := 0
  inc      : Nat := 0
  peerInc  : Nat := 0
  peerDev  : Nat := 0
  peerForm : Bool := false
  peerFn   : Nat := 0
  peerCtx  : Nat := 0
  rxPend   : Nat := 0
  sqBase   : Nat := 0
  headAddr : Nat := 0
  sqDb     : U32 := 0
  head     : U32 := 0
  fetch    : U32 := 0
  nextPsn  : U32 := 0
  una      : U32 := 0
  retries  : Nat := 0
  rxEpsn   : U32 := 0
  rxMap    : BitVec 64 := 0
  txUsed   : U16 := 0
  txLimit  : U16 := 0
  rxLimit  : U16 := 0
  rate     : Nat := 800
  rttEst   : Nat := 0
  deriving DecidableEq, Repr

/-- The working state of a context (R190, R208, R212 to R219, R268). -/
structure CtxWork where
  pacerAt  : Nat := 0
  rtoAt    : Option Nat := none
  rtoLen   : Nat := 0
  ackAt    : Option Nat := none
  credAt   : Option Nat := none
  /-- An ACK is due and waits until every accepted packet is secured (R208). -/
  ackDue   : Bool := false
  lastDec  : Nat := 0
  resyncAt : Nat := 0
  resyncTs : Nat := 0
  /-- Start of the running RESYNC_PERIOD, and its length in ns (R215, R220). -/
  resyncBase : Nat := 0
  resyncLen  : Nat := 0
  /-- Largest one-way delay of the packets not yet acknowledged, and whether all had one (R218). -/
  owd      : Nat := 0
  owdOk    : Bool := true
  /-- SEND_TS and arrival of the newest accepted packet (R208). -/
  echoTs   : Nat := 0
  echoAt   : Nat := 0
  /-- CHINT and NONMIN of the last request received (R146). -/
  chint    : Nat := 0
  echoNm   : Bool := false
  /-- Head index in host memory, when it first lagged, entries passed since, and whether it is withheld. -/
  headMem  : U32 := 0
  headLag  : Option Nat := none
  headWait : Bool := false
  /-- The 0 that OPEN writes to HEAD_ADDR has not been issued yet (R45). -/
  zeroOwed : Bool := false
  entries  : List Entry := []
  fetching : Bool := false
  fetchWait : Bool := false
  cur      : Option TxCur := none
  replay   : List Replay := []
  /-- Resends that wait for the pacer: PSN and payload read again (R206, R217). -/
  resends  : List (U32 × Option (List Byte)) := []
  owed     : List Owed := []
  /-- Kept status of the first refused WRITE packet (R268). -/
  kept     : Nat := 0
  /-- Accepted LAST packets, in PSN order, not yet completed. -/
  lasts    : List LastPkt := []
  /-- A CLOSE command's completion address and token, and the status other entries end with. -/
  closeTok : Option (Nat × Nat) := none
  /-- A close waiting for a tombstone has recorded TOMBSTONE_FULL (R196). -/
  tombFull : Bool := false
  /-- The context is lost (R24, R75, R199): its packets are answered as for one that is not open. -/
  lost     : Bool := false
  deriving DecidableEq, Repr

/-- The matching state of a context (R225, R246). -/
structure CtxMatch where
  txMsn   : U32 := 0
  rxMsn   : U32 := 0
  inorder : Bool := false
  rnrRounds : Nat := 0
  rnr     : Option RnrRound := none
  refused : List Nat := []
  msgs    : List Msg := []
  deriving DecidableEq, Repr

/-- A context with its residency (R198). -/
structure CtxAll where
  c        : Ctx := {}
  w        : CtxWork := {}
  m        : CtxMatch := {}
  resident : Bool := true
  /-- Referenced since the clock sweep last passed (R198). -/
  refd     : Bool := true
  filling  : Bool := false
  deriving DecidableEq, Repr

/-! ### Endpoint tiles: transport, translation, matching, remote access -/

structure Tombstone where
  fn  : Nat
  ctx : Nat
  inc : Nat
  at_ : Nat
  deriving DecidableEq, Repr

/-- A cached leaf (R78): function (256 for the privileged domain), page base, size log2, target, rights. -/
structure Leaf where
  fn   : Nat
  base : Nat
  log2 : Nat
  out  : Nat
  r    : Bool
  w    : Bool
  x    : Bool
  u    : Bool
  /-- Size log2 of the leaf in memory: more than log2 for the page of it that a merged walk hands on (R72). -/
  whole : Nat := log2
  deriving DecidableEq, Repr

/-- A walk-buffer entry (R78): the table that serves a span of addresses at a level. -/
structure WalkPtr where
  fn    : Nat
  base  : Nat
  level : Nat
  table : Nat
  deriving DecidableEq, Repr

/-- What a host read is for (R35). -/
inductive ReadFor where
  | entries (ctx : Nat) (first : U32) (n : Nat)
  | payload (ctx : Nat) (idx : U32) (off : Nat)
  | reread (ctx : Nat) (psn : U32)
  | pull (ctx : Nat) (msn psn off len : Nat)
  | target (ctx : Nat) (psn : U32)
  | operand (ctx : Nat) (idx : U32)
  | spill (ctx : Nat)
  | overflow (ctx msn off blk : Nat)
  | consIndex
  /-- A table entry of a translation walk. -/
  | table
  /-- An access by an on-die master under the on-behalf tag (R70). -/
  | behalf (m : Nat)
  deriving DecidableEq, Repr

/-- A walk (R72): level of the entry being read, the table it lies in, its outstanding read (none while it waits
for one of the 64), and the reads that wait for it; writes wait in their function's list. -/
structure Walk where
  fn    : Nat
  va    : Nat
  kind  : AccKind
  level : Nat
  table : Nat
  tag   : Option Nat := none
  waits : List Nat := []
  /-- An invalidation overlapped it after it began: its result is dropped (R84). -/
  stale : Bool := false
  /-- Its number, the ranges invalidated since it began (R84), and the HOST_WALK_EXCL ranges then in force (R86). -/
  id    : Nat := 0
  since : List (Nat × Nat) := []
  excl  : List Nat := []
  deriving DecidableEq, Repr

/-- A host read not yet answered: who reads, where, what for. -/
structure HostRead where
  hp   : Nat
  fn   : Nat
  addr : Nat
  len  : Nat
  use  : ReadFor
  /-- Bus address and length of each piece once every page is translated and the read is issued. -/
  pieces : Option (List (Nat × Nat)) := none
  /-- Its translation ended with this fault code: it completes as failed and no read is issued (R75). -/
  fault : Option Nat := none
  /-- A function-level reset discards its data (R61). -/
  dead : Bool := false
  /-- The rights it needs: a target atomic needs both R and W on one leaf (R69). -/
  kind : AccKind := .read
  /-- The 14-bit tags of its requests on the link (R34). -/
  tags : List Nat := []
  /-- First and last addresses of the leaves it was translated through (R84). -/
  spans : List (Nat × Nat) := []
  /-- An atomic whose word the atomic cache held: the value, and no read on the link (R265). -/
  hit : Option Nat := none
  /-- The word of an atomic that has been dropped from the cache since its read began: it is not cached (R265). -/
  noCache : Bool := false
  /-- The HOST_WALK_EXCL ranges in force when its first check began (R86). -/
  excl : Option (List Nat) := none
  deriving DecidableEq, Repr

/-- A READ or atomic accepted at the target and not answered (R262, R264). -/
structure TargetOp where
  fn    : Nat
  ctx   : Nat
  psn   : U32
  opc   : Nat
  rkey  : Nat
  raddr : Nat
  len   : Nat
  a     : Nat := 0
  b     : Nat := 0
  /-- Bus address of the word, for an atomic (R265). -/
  bus   : Nat := 0
  /-- Duplicates that arrived meanwhile and are answered when it finishes (R266). -/
  dups  : Nat := 0
  deriving DecidableEq, Repr

/-- A saved response (R266). -/
structure Saved where
  fn     : Nat
  ctx    : Nat
  psn    : U32
  opc    : Nat
  rkey   : Nat
  raddr  : Nat
  status : Nat
  data   : List Byte
  at_    : Nat
  /-- Its release time, taken when it was made (R276). -/
  ttl    : Nat
  deriving DecidableEq, Repr

/-- A rendezvous record (R229). -/
structure Rndv where
  fn  : Nat
  ctx : Nat
  msn : Nat
  idx : U32
  deriving DecidableEq, Repr

/-- A word of the atomic cache (R265). -/
structure AtomWord where
  fn  : Nat
  va  : Nat
  bus : Nat
  val : Nat
  /-- First and last addresses of the leaf it was translated through (R84). -/
  spans : List (Nat × Nat) := []
  deriving DecidableEq, Repr

/-- Where the payload of a taken matching packet goes (R236). -/
inductive PayloadDest where
  | landing (slots : Nat)
  | straight
  | block (b : Nat)
  | discard
  deriving DecidableEq, Repr

/-- An item on its way to a matching engine: a header with its packet's payload and the engine its lookup gave, or a
RECV posting (R235). -/
inductive EngItem where
  | header (fn ctx : Nat) (pkt : Packet) (dest : PayloadDest) (engine : Nat)
  | posting (fn ctx : Nat) (idx : U32) (comm engine : Nat)
  /-- A commit step of a context whose message lies in a moving matching context (R249). -/
  | commit (fn ctx comm : Nat)
  deriving DecidableEq, Repr

/-- A matching context (R224): lists, next PSEQ, home engine, operation count. -/
structure MatchCtx where
  posted : List Posted := []
  /-- Unexpected messages in commit order, as (context, MSN). -/
  unexp  : List (Nat × Nat) := []
  pseq   : Nat := 0
  /-- How far moves have carried the home from engine (function identity + COMM) mod 4 (R224, R247). -/
  home   : Nat := 0
  ops    : Nat := 0
  deriving DecidableEq, Repr

/-- A move of a matching context between engines (R248). -/
structure Move where
  fn   : Nat
  comm : Nat
  src  : Nat
  at_  : Nat
  fenced : Bool := true
  deriving DecidableEq, Repr

/-- One endpoint tile's engines. -/
structure EtTile where
  /-- Packets handed to the transport by PACKET_DELIVER. -/
  rx        : List QPkt := []
  /-- Accepted PULL and FIN packets waiting for their steps (R229, R230), with their context. -/
  ops       : List (Nat × Nat × Packet) := []
  items     : List EngItem := []
  /-- Items held at the new engine inside a move's fence (R248). -/
  heldItems : List EngItem := []
  fullAt    : Option Nat := none
  fullRec   : Bool := false
  notFullAt : Nat := 0
  tombs     : List Tombstone := []
  landZeroAt : Option Nat := none
  landRec   : Bool := false
  landPosAt : Nat := 0
  rndv      : List Rndv := []
  cache     : List Leaf := []
  ptrs      : List WalkPtr := []
  atoms     : List AtomWord := []
  targets   : List TargetOp := []
  saved     : List Saved := []
  saveAt    : Option Nat := none
  saveRec   : Bool := false
  saveFreeAt : Nat := 0
  staleAt   : Option Nat := none
  engOps    : List Nat := [0, 0, 0, 0]
  moves     : List Move := []
  tmoves    : List Move := []
  balanceAt : Nat := 0
  /-- MATCH_BALANCE as the running interval began with it, once a write has replaced it (R252). -/
  balanceOld : Option Nat := none
  sweep     : Nat := 0
  entryLfsr : BitVec 16 := 1
  /-- TRANSPORT_COUNTS, MATCH_COUNTS, RMA_COUNTS: 16 counters each (R220, R252, R276). -/
  tCounts   : List Nat := List.replicate 16 0
  mCounts   : List Nat := List.replicate 16 0
  rCounts   : List Nat := List.replicate 16 0
  traces    : List Nat := []
  deriving DecidableEq, Repr

/-- A window (R254). -/
structure Win where
  /-- The slot's TAG, from 1 (R254). -/
  tag    : Nat := 1
  reg    : Bool := false
  /-- A REVOKE of the key has been accepted: it is gone from lookup (R258). -/
  gone   : Bool := false
  fn     : Nat := 0
  store  : Bool := false
  rd     : Bool := false
  wr     : Bool := false
  atm    : Bool := false
  nt     : Bool := false
  ctxb   : Bool := false
  notifyEq : Nat := 0
  base   : Nat := 0
  len    : Nat := 0
  bound  : Nat := 0
  /-- The registered command image (R256). -/
  img    : BitVec 512 := 0
  deriving DecidableEq, Repr

/-! ### Access control and semaphores (R87 to R106) -/

structure Region where
  enable : Bool
  first  : Nat
  last   : Nat
  rmask  : BitVec 16
  wmask  : BitVec 16
  deriving DecidableEq, Repr

/-- A read of ACU_SYNC that waits (R94): who reads, ACU_EPOCH at its arrival, and when the last access checked before it
finishes. -/
structure SyncRead where
  r     : Req
  /-- The master and length of a read of the ACU_SYNC register; none for a read of the object. -/
  bus   : Option (SemMaster × Nat) := none
  /-- The address a datagram was sent to (R323). -/
  dest    : Nat := 0
  epoch : U32
  ahead : Nat
  deriving DecidableEq, Repr

/-- An access that the access-control unit has let pass and that has not finished (R94): master, address, and when it
finishes. -/
structure Flying where
  master : Nat
  addr   : Nat
  fin    : Nat
  deriving DecidableEq, Repr

structure Acu where
  regions : List Region := []
  epoch   : U32 := 0
  denied  : Nat := 0
  lastDenied : Nat := 0
  /-- SEM_BAD_RELEASES (R105). -/
  badReleases : Nat := 0
  /-- Accesses checked and not yet known finished (R94), newest last. -/
  flying  : List Flying := []
  /-- ACU_SYNC reads that wait (R94). -/
  syncs   : List SyncRead := []
  deriving DecidableEq, Repr

structure Waiter where
  who    : SemMaster
  prio   : Nat
  ticket : Nat
  at_    : Nat
  /-- The host wait bound in force at its arrival, in ns (R102). -/
  bound  : Option Nat
  deriving DecidableEq, Repr

structure Hold where
  who   : SemMaster
  count : Nat
  eff   : Nat
  deriving DecidableEq, Repr

structure Sem where
  limit     : Nat := 0
  enable    : Bool := false
  avail     : Nat := 0
  abandoned : Bool := false
  /-- In arrival order. -/
  waiters   : List Waiter := []
  holds     : List Hold := []
  deriving DecidableEq, Repr

/-! ### The privileged domain and internal memory (R63, R78, R88) -/

/-- The cache and the walk buffer of the management tile or of the store tile (R78). -/
structure PrivTile where
  cache : List Leaf := []
  ptrs  : List WalkPtr := []
  deriving DecidableEq, Repr

/-- The privileged domain's caches, and the bytes of management SRAM and staging that on-die masters have written. -/
structure Priv where
  mt   : PrivTile := {}
  st   : PrivTile := {}
  /-- Bytes written, by internal address, addresses strictly rising (R88). -/
  sram : List Host.Cell := []
  /-- 8-byte words of management SRAM that an uncorrectable error has spoiled and no write has mended (R73). -/
  bad  : List Nat := []
  deriving DecidableEq, Repr

/-! ### Fabric ports (R107 to R138) -/

/-- A block of the 64b/66b stream (R113): a data block, a control block with its body, or a block the receiver cannot
use (R115). -/
inductive Block where
  | data (b : List Byte)
  | idle
  | lpi (st kind : Nat) (force : Bool)
  | train
  | fc (xoff : BitVec 10)
  | time (word seq : Nat) (val : BitVec 48)
  | lx (word : Nat) (val : BitVec 48)
  | sop (lseq vc : Nat)
  | eop (crc : BitVec 32)
  | eopSop (crc : BitVec 32) (lseq vc : Nat)
  | stomp
  | bad
  deriving DecidableEq, Repr

/-- One lane of a fabric port. -/
structure Lane where
  /-- Scrambler of the transmitter (R109). -/
  txScr   : BitVec 58 := 0
  /-- The last marker field received (R111), and the codewords received but not yet dealt back, each with its CWSEQ and ACTIVE
  (R112). -/
  marker  : BitVec 58 := 0
  codewords : List (Nat × Nat × List Block) := []
  /-- The transmitter's equalizer taps in force: those of the lane's last stage 2 (R137). -/
  txEq    : Nat := 0x0038F800
  /-- Bits of the pattern that the checker has compared since it was turned on, and where in the pattern it began, a
  free value (R136). -/
  patAt   : Nat := 0
  /-- Runs of bad and good codewords, and whether one with 77 valid sync headers has come since the lane lost lock (R116,
  R130). -/
  badRun  : Nat := 0
  goodRun : Nat := 0
  synced  : Bool := false
  lostAt  : Option Nat := none
  lockAt  : Nat := 0
  /-- Descrambler state (R109). -/
  scr     : BitVec 58 := 0
  /-- LANE_FEC_STATS: 19 counters. -/
  fec     : List Nat := List.replicate 19 0
  pattern : Nat := 0
  deriving DecidableEq, Repr

/-- A packet in reception (R120 to R123): its sequence number, VC, and what has gone wrong so far. -/
structure RxPkt where
  lseq : Nat
  vc   : Nat
  bad  : Bool := false
  old  : Bool := false
  /-- Its ingress port's policer has cut it (R183). -/
  policed : Bool := false
  at_  : Nat
  /-- Fabric time of its SOP (R369). -/
  ft   : Nat := 0
  deriving DecidableEq, Repr

/-- One fabric port's link. -/
structure Link where
  /-- STAGE of PORT_STATE: 0 disabled, 1 to 8, 9 up. -/
  stage     : Nat := 0
  stageAt   : Nat := 0
  /-- Transmitters off after a failed attempt or a link down, since this instant (R119, R132). -/
  silentAt  : Option Nat := none
  attempts  : Nat := 0
  failRec   : Bool := false
  miscabled : Bool := false
  /-- Link-exchange words of the set in progress and of the set before (R118). -/
  lxCur     : List (BitVec 48) := []
  lxPrev    : List (BitVec 48) := []
  lxSame    : Bool := false
  peer      : Nat := 0
  active    : BitVec 4 := 0
  rxLock    : BitVec 4 := 0
  rxUsable  : BitVec 4 := 0
  /-- Polarity and lane order found in stages 3 and 5, and those committed in stage 6 (R117). -/
  foundInv  : BitVec 4 := 0
  foundRev  : Bool := false
  inverted  : BitVec 4 := 0
  reversed  : Bool := false
  /-- PORT_MIN_WIDTH since the last width decision or bring-up, and LINK_TIME_WAIT since stage 8 began (R137). -/
  minW      : Nat := 2
  timeWait  : Nat := 10000
  flatOnly  : Bool := false
  mgmtOnly  : Bool := false
  peerLock  : BitVec 4 := 0
  peerUsable : BitVec 4 := 0
  peerStage : Nat := 1
  /-- Lanes that carry the peer's block stream, and the ACTIVE of its last marker, which holds from two codewords
  later (R112). -/
  peerActive : BitVec 4 := 0xF
  peerNext  : BitVec 4 := 0xF
  /-- The transmitter's CWSEQ, the ACTIVE of its last marker, the lanes it deals to, and whether the next codeword
  carries only IDLE blocks (R111, R112). -/
  cwSeq     : BitVec 8 := 0
  txMark    : BitVec 4 := 0xF
  txDeal    : BitVec 4 := 0xF
  txIdle    : Bool := false
  /-- Control blocks and packet blocks that wait for the transmitter (R120). -/
  txCtl     : List Block := []
  tx        : List Block := []
  /-- The codeword interval under way, and what its block places have taken so far, in the stream's order; none is a place
  that nothing waited for (R112, R179). -/
  cwNo      : Nat := 0
  cw        : List (Option Block) := []
  /-- The receiver's blocks that begin, end or spoil packets and that no command has taken yet; whether the stream
  stands inside a packet; and the bad blocks met outside one (R115). -/
  stream    : List Block := []
  inPkt     : Bool := false
  strays    : Nat := 0
  lanes     : List Lane := [{}, {}, {}, {}]
  txSeq     : BitVec 12 := 0
  rxSeq     : BitVec 12 := 0
  rx        : Option RxPkt := none
  xoffSent  : BitVec 10 := 0
  xoffPeer  : BitVec 10 := 0
  fcAt      : Nat := 0
  /-- When each VC sent toward the peer went XOFF, the XOFF_STUCK marks, and when it last became XON (R129). -/
  xoffAt    : List (Option Nat) := List.replicate 10 none
  xoffRec   : List Bool := List.replicate 10 false
  xonAt     : List Nat := List.replicate 10 0
  /-- Bytes held at this ingress per VC (R127). -/
  held      : List Nat := List.replicate 10 0
  narrowAt  : Option Nat := none
  /-- PORT_LINK_COUNTS: 16 counters (R137). -/
  counts    : List Nat := List.replicate 16 0
  /-- Low-power state 0–3, 4 entering, 5 exiting; the state asked for; the last request's outcome (R133, R137). -/
  lps       : Nat := 0
  lpsGoal   : Nat := 0
  lpsLast   : Nat := 0
  /-- This side's own LPI REQ outstanding since (R134). -/
  lpsReqAt  : Option Nat := none
  lpsExitAt : Option Nat := none
  /-- The limiter of the port's connector has tripped, since this instant (R414). -/
  cableTripAt : Option Nat := none
  deriving DecidableEq, Repr

/-- A token bucket (R181): level in 2^-16 tokens and last refill. -/
structure Bucket where
  level : Nat := 0
  at_   : Nat := 0
  deriving DecidableEq, Repr

/-- One egress and ingress port inside its port tile (R146, R152, R177 to R186). -/
structure PortQ where
  /-- Packets that wait for PACKET_ROUTE at this ingress. -/
  ingress : List QPkt := []
  /-- Packets that wait to leave by this egress, in arrival order. -/
  egress  : List QPkt := []
  /-- Collective packets that have arrived and wait for the reduction unit. -/
  coll    : List QPkt := []
  /-- Weighted round robin: the VC served last, its remaining turns, and ESC's skipped starts (R152). -/
  rrVc    : Nat := 0
  rrLeft  : Nat := 0
  escSkip : Nat := 0
  /-- The ingress served last for each VC. -/
  rrIn    : List Nat := List.replicate 10 0
  /-- q as last published, in KiB (R146). -/
  q       : Nat := 0
  linkDelay : Nat := 0
  shapers : List Bucket := List.replicate 9 {}
  policers : List Bucket := List.replicate 7 {}
  policed : List Nat := List.replicate 7 0
  /-- QUEUE_SAMPLE block, whether the next is marked LOST, maxima per VC (R186). -/
  sample  : Nat := 0
  lost    : Bool := false
  maxDepth : List Nat := List.replicate 10 0
  maxDelay : List Nat := List.replicate 10 0
  collAt  : Nat := 0
  deriving DecidableEq, Repr

/-- Fabric time at one port (R165 to R169). -/
structure TimePort where
  locked    : Bool := false
  peerState : Nat := 0
  peerSteps : Nat := 0
  peerRoot  : Nat := 0x1FFFFF
  badSets   : Nat := 0
  run       : Nat := 0
  need      : Nat := 16
  lastAt    : Nat := 0
  seq       : Nat := 0
  sentAt    : Nat := 0
  /-- The last four word-0 departures: SEQ and fabric time in 2^-16 ns. -/
  departs   : List (Nat × Nat) := []
  peerSeq   : Option Nat := none
  peerArr   : Nat := 0
  /-- The port has offered a better parent since this instant (R171). -/
  betterAt  : Option Nat := none
  sets      : Nat := 0
  maxDelay  : Nat := 0
  deriving DecidableEq, Repr

/-- Time gates of one port (R178 to R180): the schedule in force (header and 64 words), the pending one and its S. -/
structure Gate where
  sched    : BitVec 2176 := 0
  pend     : Option (BitVec 2176 × Nat) := none
  lastSw   : Nat := 0
  openMask : BitVec 4 := 0xF
  deriving DecidableEq, Repr

/-- One port tile (R12, R146, R161). -/
structure PtTile where
  /-- HINT levels by group, sparse (R146). -/
  hint     : Tbl Nat := []
  decayAt  : Nat := 0
  /-- ROUTE_HINT_DECAY as the running interval began with it, once a write has replaced it (R162). -/
  decayOld : Option Nat := none
  /-- 0 NONE, 1 SOFT, 2 HARD (R161). -/
  throttle : Nat := 0
  drops    : List Nat := List.replicate 16 0
  modeDrops : Nat := 0
  qpubAt   : Nat := 0
  /-- Time of the tile's last queue sample on its own timer (R185). -/
  sampleAt : Nat := 0
  traces   : List Nat := []
  deriving DecidableEq, Repr

/-! ### Fabric time (R163 to R176) -/

structure TimeUnit where
  /-- Fabric time, 80 bits: ns in [79:16] and 2^-16 ns in [15:0] (R163). -/
  ft        : BitVec 80 := 0
  /-- 0 FREE, 1 ACQUIRING, 2 LOCKED, 3 HOLDOVER, 4 ROOT_REF, 5 ROOT_FREE (R165). -/
  st        : Nat := 0
  parent    : Option Nat := none
  steps     : Nat := 15
  rootId    : Nat := 0x1FFFFF
  offset    : Int := 0
  /-- The offset still to be slewed out, in 2^-16 ns (R170). -/
  slew      : Int := 0
  stepped   : Bool := false
  /-- The first set of a parent taken over in ACQUIRING steps only past FT_STEP_LIMIT (R173). -/
  condStep  : Bool := false
  goodRun   : Nat := 0
  farRun    : Nat := 0
  holdAt    : Nat := 0
  /-- The servo's own frequency, which HOLDOVER keeps (R170), in 2^-32 ns for each ns, and the part of
  2^-16 ns that it has gained so far. -/
  freq      : Int := 0
  frac      : Int := 0
  /-- The instant LOCKED was entered, and the parent's time then, in 2^-16 ns (R170). -/
  lockRef   : Option (Nat × Int) := none
  twoRoots  : Bool := false
  twoGoneAt : Option Nat := none
  pulseAt   : Option Nat := none
  pulseSec  : Option Nat := none
  msgSec    : Option Nat := none
  validRun  : Nat := 0
  lastValid : Nat := 0
  /-- One more than the second the last TIME_OUT pulse marked (R175). -/
  outSec    : Nat := 0
  /-- The TIME_OUT pin is high until this instant (R175). -/
  outUntil  : Nat := 0
  /-- FT_TIMEOUT_CTRL and FT_TIMEOUT_OFFSET until the whole second from which a write of them applies (R187). -/
  outOld    : Nat × Nat := (0, 0)
  outFrom   : Nat := 0
  /-- The pulse whose message is still due (R175). -/
  outPulseAt : Option Nat := none
  deriving DecidableEq, Repr

/-! ### Collectives (R278 to R303) -/

/-- One input of an operation (R289): which edge or member, status, HAS_ROOT, payload so far, whether all in. -/
structure CollIn where
  /-- 0–63 child port; 64 + f member f. -/
  src     : Nat
  status  : Nat := 0
  hasRoot : Bool := false
  kind    : Nat := 0
  dtype   : Nat := 0
  redop   : Nat := 0
  exact_  : Bool := false
  length  : Nat := 0
  bytes   : List Byte := []
  full    : Bool := false
  /-- A member's operand waits in its endpoint tile for its turn (R289). -/
  held    : Bool := false
  /-- A member has handed its contribution to the mesh (R284). -/
  sent    : Bool := false
  deriving DecidableEq, Repr

/-- One operation in flight at this device (R284, R292, R293). -/
structure CollOp where
  num      : Nat
  inputs   : List CollIn := []
  sentUp   : Bool := false
  /-- Its result or notices are on their way: complete once they have left on every child edge (R292). -/
  downSent : Bool := false
  /-- The result coming down: status, bytes so far. -/
  result   : Option (Nat × List Byte) := none
  complete : Bool := false
  deriving DecidableEq, Repr

structure Tree where
  entry    : BitVec 512 := 0
  broken   : Bool := false
  installed : Bool := false
  breakCode : Nat := 0
  oldest   : Nat := 0
  units    : Nat := 0
  /-- Next operation number of each local member (R284). -/
  next     : Tbl Nat := []
  ops      : List CollOp := []
  deriving DecidableEq, Repr

/-! ### Architecture: islands, mesh, SRAM (R12 to R27) -/

/-- What crosses the mesh between two tiles (R15, R17). -/
inductive Cross where
  /-- A packet into a tile: injected at a port tile (R429), or delivered to its endpoint tile or to the management tile. -/
  | packet (q : QPkt)
  /-- A routed packet on its way to the egress queues of a port of another port tile (R429). -/
  | egress (p : Nat) (q : QPkt)
  /-- A collective packet that arrived at port p, on its way to its tree's home tile (R278). -/
  | coll (p : Nat) (q : QPkt)
  /-- A member's operand on its way to the home tile (R289, R429). -/
  | operand (t num : Nat) (i : CollIn)
  /-- An operation's result or notice for the members of one endpoint tile (R288, R296). -/
  | result (t num status : Nat) (fns : List Nat) (bytes : List Byte)
  /-- What was dropped on its way (R149, R336): its flits still arrive. -/
  | gone
  deriving DecidableEq, Repr

/-- One 64-byte flit on a handshake channel: what it belongs to, and which flit of how many (R15, R16). -/
structure Flit where
  x : Cross
  k : Nat
  n : Nat
  deriving DecidableEq, Repr

/-- Islands and mesh (R12 to R27). -/
structure Arch where
  /-- ISLAND_STATE bits [14:0]: 0–7 PT, 8–11 ET, 12 MT, 13 ST, 14 time unit. -/
  islands   : BitVec 15 := 0
  /-- Each island's own fabric-time counter, 2^-16 ns, from its first beacon on (R19). -/
  islandFt  : Tbl Nat := []
  /-- Flits offered and not yet delivered, by channel (R15 to R17). -/
  chans     : Tbl (List Flit) := []
  /-- For a channel that waits at its tile input: the channels the arbiter has served meanwhile (R20). -/
  behind    : Tbl (List Nat) := []
  discards  : Nat := 0
  /-- When each island's last beacon came (R19). -/
  beaconAt  : Tbl Nat := []
  /-- Packets that have crossed the mesh into a tile and wait there, by tile. -/
  inbox     : Tbl (List QPkt) := []
  /-- Words scrubbed in the pass in progress, its start, and when the next word is due (R24). -/
  scrubWord : Nat := 0
  scrubAt   : Nat := 0
  scrubNext : Nat := 0
  /-- Route entries (key pt·2^20 + gen·2^12 + group) waiting for a reload, and flat ones (R24). -/
  reloadGrp : List Nat := []
  reloadFlat : List Nat := []
  deriving DecidableEq, Repr

/-! ### Dictionary (R304 to R330) -/

/-- A request waiting in one of the seven queues (R308): who asked, its PDU bytes, the address it was sent to. -/
structure DictReq where
  r    : Req
  pdu  : List Byte
  dest   : Nat := 0
  deriving DecidableEq, Repr

/-- An open segmented transfer or a snapshot (R319, R320). -/
structure Seg where
  id    : Nat
  r     : Req
  idx   : Nat
  sub   : Nat
  total : Nat
  bytes : List Byte
  write : Bool
  at_   : Nat
  deriving DecidableEq, Repr

/-- A kept response (R322). -/
structure Kept where
  src  : Nat
  key  : Nat
  pdu  : List Byte
  at_  : Nat
  deriving DecidableEq, Repr

/-- A relay in flight (R326): its requester, its target, and the TXID of the inner request. -/
structure Relay where
  id    : Nat
  r     : Req
  /-- The address a datagram was sent to (R323). -/
  dest    : Nat := 0
  dev   : Nat
  form  : Bool
  txid  : Nat
  at_   : Nat
  /-- DICT_RELAY_TIMEOUT when it was sent, in ns. -/
  limit : Nat
  deriving DecidableEq, Repr

/-- An integrator object (R316). -/
structure UserObj where
  type  : Nat
  len   : Nat
  dflt  : Nat
  deriving DecidableEq, Repr

structure Dict where
  /-- Accepted values of writable objects that differ from their default, key index·256 + sub. -/
  vals     : Tbl Nat := []
  /-- Persisted values in the journal, same keys (R315). -/
  journal  : Tbl Nat := []
  /-- New-format records during an update (R397). -/
  journal2 : Tbl Nat := []
  queues   : Tbl (List DictReq) := []
  segs     : List Seg := []
  /-- Why a segmented write ended, told at its next segment: requester and code (R319, R327). -/
  ended    : List (Req × Abort) := []
  kept     : List Kept := []
  relays   : List Relay := []
  /-- MGT packets delivered to the management tile and not yet taken (R324, R326). -/
  rx       : List Packet := []
  users    : Tbl UserObj := []
  nextId   : Nat := 0
  counts   : List Nat := List.replicate 8 0
  fwVersion : Nat := 0
  mgmtLink : Bool := false
  mdix     : Bool := false
  /-- The amber LED flashes for 50 ms after a frame (R416). -/
  amberAt  : Option Nat := none
  smbAddr  : Nat := 3
  /-- SMB_ADDR1 and SMB_ADDR0 straps as the backplane ties them (R423). -/
  straps   : Nat := 3
  deriving DecidableEq, Repr

/-! ### Modes and the input supervisor (R331 to R354) -/

/-- Operating modes (R331). -/
inductive Mode where
  | seat | boot | standby | train | run | hold | pass | test
  deriving DecidableEq, Repr

structure ModeSt where
  mode     : Mode := .seat
  target   : Mode := .seat
  changing : Bool := false
  cause    : Nat := 0
  changeAt : Nat := 0
  quiesced : Bool := false
  /-- The 100 µs of R336 have passed since the quiesce began. -/
  drained  : Bool := false
  /-- The modes that FATAL_DEVICE records latched during a change selected, in their order (R339). -/
  react    : List Mode := []
  /-- BOOT holds the device because no slot passed (R392). -/
  bootHeld : Bool := false
  deriving DecidableEq, Repr

structure Supervisor where
  powered  : Bool := false
  /-- SEAT_A_N and SEAT_B_N levels, true high. -/
  seatA    : Bool := true
  seatB    : Bool := true
  seatLowAt : Option Nat := none
  /-- When SEAT_A_N and SEAT_B_N went high (R346). -/
  seatHighA : Option Nat := none
  seatHighB : Option Nat := none
  debounced : Bool := false
  /-- Input switch closed; the ramp runs; the ramp is complete; converters on. -/
  switch   : Bool := false
  ramping  : Bool := false
  rampDone : Bool := false
  converters : Bool := false
  /-- When the 1.8 V, the 1.2 V and the 0.9 V converter start (R343). -/
  convAt   : List Nat := []
  /-- The fault timer: running since, and the value it compares with in ns. -/
  timerAt  : Option Nat := none
  timerLimit : Nat := 8000000
  faultTimer : Nat := 8
  /-- Latch causes in PWR_LATCH order and FIRST (R345, R353). -/
  latched  : Bool := false
  causes   : BitVec 5 := 0
  first    : Nat := 0
  /-- When FIRST's cause was found (R345). -/
  latchAt  : Nat := 0
  latches  : Nat := 0
  flushOk  : Bool := false
  mv       : Nat := 0
  ma       : Nat := 0
  mw       : Nat := 0
  /-- Input energy in mV·mA·10 µs, which is 10 pJ (R347). -/
  energy   : Nat := 0
  /-- PWR_EVENTS: 8 counters. -/
  events   : List Nat := List.replicate 8 0
  rails    : Nat := 0
  powerGood : Bool := false
  pwrWarn  : Bool := false
  /-- The input has sagged and has not yet been back for 1 ms (R348). -/
  sag      : Bool := false
  /-- The switch has opened after a ramp: PWR_WARN_N stays low until POWER_GOOD (R348). -/
  warnHeld : Bool := false
  /-- Samples have read 43.0 V or more since (R348). -/
  okAt     : Option Nat := none
  /-- A flush runs since this instant, for this cause. -/
  flushAt  : Option Nat := none
  /-- Events to be recorded at the next BOOT (R351): fault codes. -/
  bootFaults : List Nat := []
  /-- RESET_N low since (R421). -/
  resetAt  : Option Nat := none
  temps    : List Int := List.replicate 15 0
  warnRec  : Bool := false
  coolAt   : Option Nat := none
  deriving DecidableEq, Repr

/-! ### Faults and counters (R355 to R370) -/

/-- A fault record (R357). -/
structure FaultRec where
  ft    : Nat
  code  : Nat
  cls   : Nat
  esc   : Bool
  tile  : Nat
  unit  : Nat
  fn    : Option Nat
  ctx   : Option Nat
  mode  : Nat
  info  : Nat
  seq   : Nat
  deriving DecidableEq, Repr

/-- Record state of a class (R358). -/
inductive RecSt where
  | empty | latched | acked
  deriving DecidableEq, Repr

structure ClassRec where
  st       : RecSt := .empty
  overflow : Bool := false
  count    : Nat := 0
  record   : Option FaultRec := none
  deriving DecidableEq, Repr

structure Faults where
  classes  : List ClassRec := List.replicate 5 {}
  /-- Reports on their way to the collector, in order. -/
  coming   : List FaultReport := []
  queue    : List FaultRec := []
  logLost  : Nat := 0
  seq      : Nat := 1
  recent   : List FaultRec := []
  checkstop : Bool := false
  /-- SEQ of the FATAL_DEVICE record a checkstop came from, for the next BOOT (R363). -/
  stopSeq  : Option Nat := none
  deriving DecidableEq, Repr

structure Counters where
  /-- CTR_CFG and counter words by sub 1 to 0x6C, sparse. -/
  cfg      : Tbl Nat := []
  val      : Tbl Nat := []
  producer : U32 := 0
  consumer : U32 := 0
  drops    : Nat := 0
  lostSnap : Bool := false
  /-- The record that waits for a read of CONS_ADDR (R367): slots, bytes. -/
  waitRec  : Option (Nat × List Byte) := none
  snapAt   : Nat := 0
  /-- Fabric time in ns of the last snapshot. -/
  snapFt   : Nat := 0
  /-- The producer index last written to PROD_ADDR. -/
  wrote    : U32 := 0
  /-- Record type and port of each record whose index write has not been issued (R186, R367). -/
  inRing   : List (Nat × Nat) := []
  /-- Queue sample blocks and trace records offered to the reader (R186, R369). -/
  offered  : List (Nat × List Byte) := []
  sampleDrops : Nat := 0
  deriving DecidableEq, Repr

/-! ### The flash store (R371 to R386) -/

/-- An item in staging (R373): a window page's bytes, a journal record, a fault record. -/
inductive StageItem where
  | window (fn page off : Nat) (bytes : List Byte)
  | journal (key val : Nat)
  | log (rec : FaultRec)
  deriving DecidableEq, Repr

/-- A page of an allotment (R378, R380). -/
structure FlashPage where
  bytes : List Host.Cell := []
  /-- The flash copy is uncorrectable; and flash holds a copy at all. -/
  unreadable : Bool := false
  flashed : Bool := false
  block : Nat := 0
  deriving DecidableEq, Repr

/-- A window READ waiting for flash (R374). -/
structure StoreRead where
  id    : Nat
  op    : TargetOp
  /-- The bytes at its place in the order of arrival. -/
  bytes : List Byte
  deriving DecidableEq, Repr

structure Store where
  staging  : List StageItem := []
  /-- Allocated pages, key fn·2^28 + page. -/
  pages    : Tbl FlashPage := []
  /-- Flush image in the flush area: items and whether its closing record is good (R376). -/
  flush    : Option (List StageItem × Bool) := none
  /-- STORE_STATE: 0 NORMAL, 1 PERSIST_RO, 2 SYSTEM_RO, 3 FAILED. -/
  st       : Nat := 0
  replayed : Bool := false
  discarded : Bool := false
  spare    : Nat := 15744
  grown    : List Nat := []
  /-- Erase counts by block, sparse; blocks being refreshed; blocks to be erased. -/
  erases   : Tbl Nat := []
  refreshing : List Nat := []
  /-- What the scrub pass has read, and when it began (R381). -/
  scrubbed : List FlashSite := []
  scrubAt  : Nat := 0
  scrubBehind : Bool := false
  scrubbing : Bool := false
  lowRec   : Bool := false
  critRec  : Bool := false
  wear90   : Bool := false
  wear100  : Bool := false
  /-- Bytes programmed and accepted since manufacture (R383). -/
  programmed : Nat := 0
  accepted : Nat := 0
  log      : List FaultRec := []
  reads    : List StoreRead := []
  nextId   : Nat := 0
  counts   : List Nat := List.replicate 16 0
  deriving DecidableEq, Repr

/-! ### Firmware and trust (R387 to R409) -/

/-- Slot states of R389. -/
inductive SlotSt where
  | empty | valid | confirmed | trial
  deriving DecidableEq, Repr

structure Slot where
  st     : SlotSt := .empty
  result : Nat := 0
  /-- The image's bytes as far as received. -/
  image  : List Byte := []
  /-- A flash read of it was uncorrectable (R380, check 10 of R394). -/
  unread : Bool := false
  deriving DecidableEq, Repr

/-- The cluster not holding control (R387). -/
inductive ClusterSt where
  | idle | loading | ready | warm
  deriving DecidableEq, Repr

structure Firmware where
  /-- False: cluster A holds control. -/
  onB      : Bool := false
  other    : ClusterSt := .idle
  /-- 0 NONE, 1 UPLOADING, 2 UPLOADED, 3 LOADING, 4 READY, 5 TRIAL (R408). -/
  phase    : Nat := 0
  running  : Nat := 0
  result   : Nat := 0
  selftest : Bool := false
  s0       : Slot := {}
  s1       : Slot := {}
  srec     : Slot := {}
  upSlot   : Option Nat := none
  upOff    : Nat := 0
  /-- The slot an update loads or tries, and when loading or the trial began. -/
  newSlot  : Nat := 0
  loadAt   : Nat := 0
  trialAt  : Option Nat := none
  oldSlot  : Nat := 0
  arb      : Nat := 0
  revoked  : BitVec 4 := 0
  /-- M0 to M4 (R406). -/
  meas     : List (BitVec 384) := [0, 0, 0, 0, 0]
  /-- Nonces, quotes and "being signed" by sub 1 to 6 (R407). -/
  nonce    : Tbl Nat := []
  quotes   : Tbl Nat := []
  signing  : List Nat := []
  /-- A fallback waits for a mode change to end: its sub-code (R398, R401). -/
  fallDue  : Option Nat := none
  deriving DecidableEq, Repr

/-! ### What the device drives outward -/

/-- One thing the device sends out, in order. -/
inductive Out where
  /-- A posted write issued on a host port (R34). -/
  | hostWrite (hp fn addr : Nat) (bytes : List Byte)
  /-- A read issued on a host port: its number, and the 14-bit tag, bus address and length of each request (R34). -/
  | hostRead (read hp fn : Nat) (reqs : List (Nat × Nat × Nat))
  /-- A function's MSI-X message (R59): the vector, and the address and data of its table entry. -/
  | msix (hp fn vector addr data : Nat)
  /-- The answer to a BAR0 read of the SEMAPHORE window, or to an on-die master (R98). -/
  | semWord (who : SemMaster) (sem word : Nat)
  /-- A packet leaving a fabric port (R120 to R123): port, LSEQ, VC, the packet, EOP_STOMP or not. -/
  | packet (port lseq vc : Nat) (pkt : Packet) (stomp : Bool)
  | fc (port : Nat) (xoff : BitVec 10)
  | lpi (port kind st : Nat) (force : Bool)
  | lx (port word : Nat) (val : BitVec 48)
  | time (port : Nat) (seq : Nat) (w0 w1 w2 w3 : BitVec 48)
  | laneExit (port : Nat)
  /-- A codeword leaving a lane: the level of each of its 2,720 unit intervals (R108, R110). -/
  | codeword (port lane : Nat) (levels : List Int)
  /-- The EOP_STOMP that ends the packet in transmission when its port goes down (R149). -/
  | stomped (port : Nat)
  /-- A dictionary response PDU to its requester; `source` is the address it leaves from (R317, R323). -/
  | dictResp (r : Req) (source : Nat) (pdu : List Byte)
  | mgmtReply (frame : MgmtFrame)
  | smbus (data : Option (List Byte))
  /-- The end of an on-die master's or a host's access (R93): the status of R11 and, for a read, the bytes. -/
  | accessResp (who : SemMaster) (status : Nat) (data : List Byte)
  | notice (master sem prio : Nat)
  /-- A TIME_OUT pulse that marks this second (R175). -/
  | timeOutPulse (second : Nat)
  | timeOutMsg (bytes : List Byte)
  | flashProgram (block : Nat)
  deriving DecidableEq, Repr

/-- The whole device. -/
structure State where
  /-- Commands waiting, first in, first out. -/
  pending : List Instr
  /-- Elapsed time in ns, and the endpoint tiles' timer clock, which stands still in HOLD (R336). -/
  now     : Nat
  etNow   : Nat
  /-- Number of the next free value (the model's own field). -/
  free    : Nat
  /-- Number of the next host read (the model's own field). -/
  nextTag : Nat
  arch    : Arch
  hosts   : Tbl HostPort
  fns     : Tbl Fn
  eqs     : Tbl EventQ
  ctxs    : Tbl CtxAll
  ets     : Tbl EtTile
  reads   : Tbl HostRead
  walks   : List Walk
  mctxs   : Tbl MatchCtx
  wins    : Tbl Win
  acu     : Acu
  priv    : Priv
  sems    : Tbl Sem
  nextTicket : Nat
  links   : Tbl Link
  portqs  : Tbl PortQ
  tports  : Tbl TimePort
  gates   : Tbl Gate
  pts     : Tbl PtTile
  /-- End of each generation's quiet period, none when over (R160). -/
  quiet   : List (Option Nat)
  time    : TimeUnit
  trees   : Tbl Tree
  collCounts : List Nat
  keepAt  : Nat
  dict    : Dict
  mode    : ModeSt
  sup     : Supervisor
  faults  : Faults
  ctrs    : Counters
  store   : Store
  fw      : Firmware
  out     : List Out
  deriving DecidableEq, Repr

/-- The regions of R90 at reset. -/
def Acu.resetRegions : List Region :=
  [ ⟨true, 0, 0x1FFFF, 0x0300, 0x0300⟩,
    ⟨true, 0x40000, 0x5FFFF, 0x0700, 0x0700⟩,
    ⟨true, 0x80000, 0x800FF, 0x07FF, 0x07FF⟩,
    ⟨true, 0x88000, 0x8BFFF, 0x03FF, 0x0300⟩,
    ⟨true, 0xC0000, 0xFFFFF, 0x0300, 0x0300⟩,
    ⟨true, 0x100000, 0x100000, 0x0300, 0x0000⟩ ]
  ++ List.replicate 58 ⟨false, 0, 0, 0, 0⟩

/-- The device as it leaves the factory, before any input power: SEAT, every register at its reset value. -/
def State.reset : State where
  pending := []
  now := 0
  etNow := 0
  free := 0
  nextTag := 0
  arch := {}
  hosts := []
  fns := []
  eqs := []
  ctxs := []
  ets := []
  reads := []
  walks := []
  mctxs := []
  wins := []
  acu := { regions := Acu.resetRegions }
  priv := {}
  sems := [(0, { limit := 1, enable := true, avail := 1 })]
  nextTicket := 0
  links := []
  portqs := []
  tports := []
  gates := []
  pts := []
  quiet := [none, none]
  time := {}
  trees := []
  collCounts := List.replicate 16 0
  keepAt := 0
  dict := {}
  mode := {}
  sup := {}
  faults := {}
  ctrs := {}
  store := {}
  fw := { srec := { st := .confirmed, image := Config.factoryImage } }
  out := []

end Sys2Proof.Machine
end

