-- ==== Sys2Proof/Machine/Tbl.lean ====
section
/-! DEFINITION. Sparse tables by a Nat key, and byte memory, each in one canonical form. -/

namespace Sys2Proof.Machine

/-- The entry of key `k`, if listed. -/
def Tbl.get? {α : Type} (t : Tbl α) (k : Nat) : Option α :=
  match t with
  | [] => none
  | (j, v) :: r => if j = k then some v else Tbl.get? r k

/-- The entry of key `k`, or `d`. -/
def Tbl.getD {α : Type} (t : Tbl α) (k : Nat) (d : α) : α := (Tbl.get? t k).getD d

/-- Put `v` at key `k`, keeping keys strictly rising. -/
def Tbl.put {α : Type} (t : Tbl α) (k : Nat) (v : α) : Tbl α :=
  match t with
  | [] => [(k, v)]
  | (j, u) :: r =>
    if j = k then (k, v) :: r
    else if k < j then (k, v) :: (j, u) :: r
    else (j, u) :: Tbl.put r k v

/-- Drop key `k`. -/
def Tbl.del {α : Type} (t : Tbl α) (k : Nat) : Tbl α := t.filter (fun e => e.1 != k)

/-- Change the entry of key `k` if it is listed. -/
def Tbl.modify {α : Type} (t : Tbl α) (k : Nat) (f : α → α) : Tbl α :=
  t.map (fun e => if e.1 = k then (e.1, f e.2) else e)

/-- Keys strictly rising: the one form of a table. -/
def Tbl.wf {α : Type} (t : Tbl α) : Prop := t.Pairwise (fun a b => a.1 < b.1)

/-- Byte memory of an allotment page: addresses strictly rising, no byte equal to what an unlisted address
reads as, which is 0 (R378). -/
abbrev Mem := List Host.Cell

/-- The byte at address `a`; an unlisted address reads as 0 (R378). -/
def Mem.byte (m : Mem) (a : Nat) : Byte := Tbl.getD m a 0

/-- Write one byte: 0 is unlisted. -/
def Mem.put (m : Mem) (a : Nat) (b : Byte) : Mem := if b = 0 then Tbl.del m a else Tbl.put m a b

/-- Write a byte string from address `a` upward. -/
def Mem.write (m : Mem) (a : Nat) : List Byte → Mem
  | [] => m
  | b :: r => Mem.write (Mem.put m a b) (a + 1) r

/-- Read `n` bytes from address `a` upward. -/
def Mem.read (m : Mem) (a : Nat) : Nat → List Byte
  | 0 => []
  | n + 1 => Mem.byte m a :: Mem.read m (a + 1) n

/-- The canonical form of byte memory. -/
abbrev Mem.wf (m : Mem) : Prop := m.Pairwise (fun a b => a.1 < b.1) ∧ ∀ e ∈ m, e.2 ≠ 0

end Sys2Proof.Machine
end

