-- ==== Sys2Proof/Machine/Ops.lean ====
section
/-! DEFINITION. Named operations over the state: accessors of its parts, object values, outputs, fault reports,
counters, host accesses and mesh crossings. -/

namespace Sys2Proof.Machine

/-- What a command answers. -/
abbrev Res := Host.Outcome State Fault Refusal

/-! ### Time -/

/-- One microsecond in ns. -/
abbrev us : Nat := 1000

/-- One millisecond in ns. -/
abbrev ms : Nat := 1000000

/-- One second in ns. -/
abbrev sec : Nat := 1000000000

/-! ### Parts of the state -/

def State.hostPort (s : State) (h : Nat) : HostPort := Tbl.getD s.hosts h {}
def State.modHost (s : State) (h : Nat) (f : HostPort → HostPort) : State :=
  { s with hosts := Tbl.put s.hosts h (f (s.hostPort h)) }

def State.fn (s : State) (f : Nat) : Fn := Tbl.getD s.fns f {}
def State.modFn (s : State) (f : Nat) (g : Fn → Fn) : State :=
  { s with fns := Tbl.put s.fns f (g (s.fn f)) }

/-- Key of a function's context or event queue. -/
def ckey (f c : Nat) : Nat := f * 2 ^ 20 + c
def qkey (f q : Nat) : Nat := f * 2 ^ 12 + q

def State.ctx? (s : State) (f c : Nat) : Option CtxAll := Tbl.get? s.ctxs (ckey f c)
def State.ctx (s : State) (f c : Nat) : CtxAll := Tbl.getD s.ctxs (ckey f c) {}
def State.modCtx (s : State) (f c : Nat) (g : CtxAll → CtxAll) : State :=
  { s with ctxs := Tbl.put s.ctxs (ckey f c) (g (s.ctx f c)) }
/-- Change a context's record, its working state or its matching state. -/
def State.modC (s : State) (f c : Nat) (g : Ctx → Ctx) : State := s.modCtx f c (fun x => { x with c := g x.c })
def State.modW (s : State) (f c : Nat) (g : CtxWork → CtxWork) : State := s.modCtx f c (fun x => { x with w := g x.w })
def State.modM (s : State) (f c : Nat) (g : CtxMatch → CtxMatch) : State := s.modCtx f c (fun x => { x with m := g x.m })

def State.eq? (s : State) (f q : Nat) : Option EventQ := Tbl.get? s.eqs (qkey f q)
def State.modEq (s : State) (f q : Nat) (g : EventQ → EventQ) : State :=
  { s with eqs := Tbl.modify s.eqs (qkey f q) g }

/-- Endpoint tile n. -/
def State.et (s : State) (n : Nat) : EtTile := Tbl.getD s.ets n {}
def State.modEt (s : State) (n : Nat) (g : EtTile → EtTile) : State :=
  { s with ets := Tbl.put s.ets n (g (s.et n)) }

def State.link (s : State) (p : Nat) : Link := Tbl.getD s.links p {}
def State.modLink (s : State) (p : Nat) (g : Link → Link) : State :=
  { s with links := Tbl.put s.links p (g (s.link p)) }

def State.portq (s : State) (p : Nat) : PortQ := Tbl.getD s.portqs p {}
def State.modPortq (s : State) (p : Nat) (g : PortQ → PortQ) : State :=
  { s with portqs := Tbl.put s.portqs p (g (s.portq p)) }

def State.tport (s : State) (p : Nat) : TimePort := Tbl.getD s.tports p {}
def State.modTport (s : State) (p : Nat) (g : TimePort → TimePort) : State :=
  { s with tports := Tbl.put s.tports p (g (s.tport p)) }

def State.gate (s : State) (p : Nat) : Gate := Tbl.getD s.gates p {}
def State.modGate (s : State) (p : Nat) (g : Gate → Gate) : State :=
  { s with gates := Tbl.put s.gates p (g (s.gate p)) }

/-- Port tile n. -/
def State.pt (s : State) (n : Nat) : PtTile := Tbl.getD s.pts n {}
def State.modPt (s : State) (n : Nat) (g : PtTile → PtTile) : State :=
  { s with pts := Tbl.put s.pts n (g (s.pt n)) }

def State.sem (s : State) (n : Nat) : Sem := Tbl.getD s.sems n {}
def State.setSem (s : State) (n : Nat) (x : Sem) : State := { s with sems := Tbl.put s.sems n x }

/-- The matching context of a function's communicator (R224). -/
def mkey (f comm : Nat) : Nat := f * 2 ^ 16 + comm
def State.mctx (s : State) (f comm : Nat) : MatchCtx := Tbl.getD s.mctxs (mkey f comm) {}
def State.modMctx (s : State) (f comm : Nat) (g : MatchCtx → MatchCtx) : State :=
  { s with mctxs := Tbl.put s.mctxs (mkey f comm) (g (s.mctx f comm)) }

/-- Window slot k of endpoint tile n. -/
def wkey (n k : Nat) : Nat := n * 8192 + k
def State.win (s : State) (n k : Nat) : Win := Tbl.getD s.wins (wkey n k) {}
def State.modWin (s : State) (n k : Nat) (g : Win → Win) : State :=
  { s with wins := Tbl.put s.wins (wkey n k) (g (s.win n k)) }

def State.tree (s : State) (t : Nat) : Tree := Tbl.getD s.trees t {}
def State.modTree (s : State) (t : Nat) (g : Tree → Tree) : State :=
  { s with trees := Tbl.put s.trees t (g (s.tree t)) }

/-- The endpoint tile of a function (R12): its host port's number. -/
def etOf (f : Nat) : Nat := f / 64

/-- True for a physical function (R5). -/
def isPf (f : Nat) : Bool := f % 64 == 0

/-- The port tile of a port. -/
def ptOf (p : Nat) : Nat := p / 8

/-! ### Object values -/

/-- A region entry's 16 bytes (R89). -/
def Region.word (g : Region) : Nat :=
  pack [(0, 1, b2n g.enable), (6, 34, g.first), (48, 16, g.rmask.toNat), (70, 34, g.last), (112, 16, g.wmask.toNat)]

/-- The default of an object, where its table's default depends on the sub-index. -/
def objDefault (idx sub : Nat) : Nat :=
  match idx with
  | 0x1021 => if isPf sub then 3 else 0
  | 0x9011 => if isPf sub then 0x1C else 0
  | 0x2021 => if sub = 0 then 0x10001 else 0
  | 0x2020 => ((Acu.resetRegions[sub - 1]?).map Region.word).getD 0
  | _ => ((objAt idx sub).map (·.dflt)).getD 0

/-- The accepted value of a writable object (R308): its default until a write is accepted. -/
def State.cfg (s : State) (idx sub : Nat) : Nat :=
  (Tbl.get? s.dict.vals (okey idx sub)).getD (objDefault idx sub)

/-- Take a value as an object's accepted value. -/
def State.setCfg (s : State) (idx sub v : Nat) : State :=
  { s with dict := { s.dict with vals := Tbl.put s.dict.vals (okey idx sub) v } }

/-! ### Modes -/

/-- MODE_STATE's code of a mode (R331). -/
def Mode.code : Mode → Nat
  | .seat => 0 | .boot => 1 | .standby => 2 | .train => 3 | .run => 4 | .hold => 5 | .pass => 6 | .test => 7

/-- True in the stable mode `m` or while leaving it: bits [3:0] of MODE_STATE (R335). -/
def State.inMode (s : State) (m : Mode) : Bool := s.mode.mode == m

/-- True when the management island runs (R328). -/
def State.island (s : State) (k : Nat) : Bool := bitAt s.arch.islands.toNat k

/-! ### Outputs, free values, faults -/

def State.emit (s : State) (o : Out) : State := { s with out := s.out ++ [o] }

/-- A free value of `w` bits; the next one is another. -/
def State.freeVal (s : State) (w : Nat) : Nat := Config.free s.free % 2 ^ w
def State.nextFree (s : State) : State := { s with free := s.free + 1 }

/-- Send a fault on its way to the collector (R358). -/
def State.report (s : State) (f : FaultReport) : State :=
  { s with faults := { s.faults with coming := s.faults.coming ++ [f] } }

/-- Fault classes (R355). -/
abbrev corrected : Nat := 0
abbrev deferred : Nat := 1
abbrev fatalPort : Nat := 2
abbrev fatalFunction : Nat := 3
abbrev fatalDevice : Nat := 4

/-- A fault of a port: TILE its port tile, UNIT the port within it (R357). -/
def State.portFault (s : State) (code cls p : Nat) (info : Nat := 0) : State :=
  s.report { code := code, cls := cls, tile := ptOf p, unit := p % 8, info := info }

/-- A fault of an endpoint tile that names a function, and a context if it belongs to one. -/
def State.fnFault (s : State) (code cls f : Nat) (ctx : Option Nat := none) (info : Nat := 0) : State :=
  s.report { code := code, cls := cls, tile := 8 + etOf f, fn := some f, ctx := ctx, info := info }

/-- A fault of the management tile. -/
def State.mtFault (s : State) (code cls : Nat) (info : Nat := 0) : State :=
  s.report { code := code, cls := cls, tile := 13, info := info }

/-- A fault of the store tile. -/
def State.stFault (s : State) (code cls : Nat) (info : Nat := 0) : State :=
  s.report { code := code, cls := cls, tile := 12, info := info }

/-! ### Host accesses (R34, R35) -/

/-- Issue a write on a function's host port, at a bus address, split at Max_Payload_Size (R34). -/
def State.hostWrite (s : State) (f addr : Nat) (bytes : List Byte) : State :=
  let m := max 1 (s.hostPort (etOf f)).mps
  (List.range (ceilDiv bytes.length m)).foldl
    (fun (s : State) k => s.emit (.hostWrite (etOf f) f (addr + k * m) ((bytes.drop (k * m)).take m))) s

/-! ### The mesh (R15 to R21) -/

/-- A channel's number: source tile, destination tile (ISLAND_STATE numbering), which of the eight. -/
def chan (src dst k : Nat) : Nat := (src * 16 + dst) * 8 + k

/-- Bytes of a packet on the mesh and on a link: header and payload (R139). -/
def pktSize (p : Packet) : Nat := 8 * p.hlen + p.plen

/-- Bytes of what crosses the mesh: a packet's, or a collective payload's. -/
def Cross.size (x : Cross) : Nat :=
  match x with
  | .packet q | .egress _ q | .coll _ q => pktSize q.pkt
  | .operand _ _ i => i.bytes.length
  | .result _ _ _ _ bytes => bytes.length
  | .gone => 0

/-- The flits of what crosses (R15): 64 bytes each. -/
def Cross.flits (x : Cross) : List Flit :=
  (List.range (max 1 (ceilDiv x.size 64))).map (fun k => { x := x, k := k, n := max 1 (ceilDiv x.size 64) })

/-- The packet on its way to an egress queue of port p, from its last flit. -/
def Flit.toEgress (f : Flit) (p : Nat) : Option QPkt :=
  match f.x with
  | .egress p' q => if p' = p ∧ f.k + 1 = f.n then some q else none
  | _ => none

/-- Routed packets that still cross the mesh to an egress port. -/
def State.crossingTo (s : State) (p : Nat) : List QPkt := s.arch.chans.flatMap (fun e => e.2.filterMap (fun f => f.toEgress p))

/-- Packets queued anywhere in the device for an egress port (R146, R185). -/
def State.queuedFor (s : State) (p : Nat) : List QPkt := (s.portq p).egress ++ s.crossingTo p

/-- What crosses and is dropped on its way: its flits arrive and bring nothing. -/
def State.loseCrossing (s : State) (f : Cross → Bool) : State :=
  { s with arch := { s.arch with
      chans := s.arch.chans.map (fun e => (e.1, e.2.map (fun y => if f y.x then { y with x := .gone } else y))) } }

/-! ### Mode carriers -/

/-- True while an up port's router carries a VC: 0–8 as R114 orders them, 9 ESC (R331, R332). -/
def State.carries (s : State) (vc : Nat) : Bool :=
  match s.mode.mode with
  | .run => true
  | .train | .test => vc == 8
  | .pass => vc ≤ 5 || vc == 8 || vc == 9
  | _ => false

/-- Fabric time is usable (R164): LOCKED, HOLDOVER, ROOT_REF or ROOT_FREE. -/
def State.ftUsable (s : State) : Bool := 2 ≤ s.time.st && s.time.st ≤ 5

/-- Fabric time in ns (R163). -/
def State.ftNs (s : State) : Nat := s.time.ft.toNat / 65536

/-- Fabric time stands at a multiple of a period that has not been taken yet: the last one taken stood at `last`, at the
elapsed time `lastAt` (R185, R367). -/
def atMultiple (ft period last lastAt now : Nat) : Bool :=
  decide (ft % period < 2) && (ft / period != last / period || decide (lastAt + 4 ≤ now))

end Sys2Proof.Machine
end

