-- ==== Sys2Proof/Machine/Flags.lean ====
section
/-! DEFINITION. Counters and their overflow flags (R365, R366), the saturating count objects, and the status
words other blocks read: MODE_STATE, FAULT_SUMMARY, the semaphore's and FT_STATE. -/

namespace Sys2Proof.Machine

/-- MODE_STATE (R353). -/
def State.modeWord (s : State) : Nat :=
  pack [(0, 4, s.mode.mode.code), (4, 4, (if s.mode.changing then s.mode.target else s.mode.mode).code),
    (8, 1, b2n s.mode.changing), (9, 2, s.mode.cause)]

/-- True in the modes in which a counter wraps (R365). -/
def State.ctrWraps (s : State) : Bool :=
  match s.mode.mode with
  | .boot | .train | .test => true
  | .hold => s.mode.cause == 2
  | _ => false

/-- A counter word after `n` more events (R365): VALUE wraps and sets WRAPPED, or stays at its end and sets
SATURATED, as the mode requires. -/
def ctrAdd (wraps : Bool) (w n : Nat) : Nat :=
  let v := w % 2 ^ 48 + n
  let flags := bf w 48 2
  if v < 2 ^ 48 then v + flags * 2 ^ 48
  else if wraps then v % 2 ^ 48 + (if flags % 2 = 1 then flags else flags + 1) * 2 ^ 48
  else 2 ^ 48 - 1 + (if flags / 2 = 1 then flags else flags + 2) * 2 ^ 48

/-- True when a counter's configuration word counts this event of this unit and function (R364). -/
def ctrCounts (cfg ev unit : Nat) (fn : Option Nat) : Bool :=
  bf cfg 0 12 == ev && bitAt cfg 12 && (bf cfg 16 6 == 0x3F || bf cfg 16 6 == unit)
    && (!bitAt cfg 22 || fn == some (bf cfg 24 8))

/-- Count `n` events in tile `t` (R364's numbering: 0–7 PT, 8–11 ET, 12 ST, 13 MT). -/
def State.perf (s : State) (t ev unit : Nat) (fn : Option Nat) (n : Nat) : State :=
  { s with ctrs := { s.ctrs with
      val := s.ctrs.cfg.foldl (fun val e =>
        if (e.1 - 1) / 8 = t ∧ ctrCounts e.2 ev unit fn
        then Tbl.put val e.1 (ctrAdd s.ctrWraps (Tbl.getD val e.1 0) n) else val) s.ctrs.val } }

/-- Count `n` of a function's own counters (R366): 0 ENTRIES_FINISHED, 1 DATA_TX, 2 DATA_RX, 3 BYTES_TX,
4 BYTES_RX, 5 RETX, 6 RNR_RX, 7 EVENTS_WRITTEN. -/
def State.fnCtr (s : State) (f k n : Nat) : State :=
  s.modFn f (fun x => { x with ctrs := x.ctrs.set k (ctrAdd s.ctrWraps (nth x.ctrs k) n) })

/-- Count in TRANSPORT_COUNTS, MATCH_COUNTS or RMA_COUNTS of endpoint tile n (R220, R252, R276). -/
def State.tCount (s : State) (n k : Nat) (c : Nat := 1) : State := s.modEt n (fun e => { e with tCounts := bump e.tCounts k c })
def State.mCount (s : State) (n k : Nat) (c : Nat := 1) : State := s.modEt n (fun e => { e with mCounts := bump e.mCounts k c })
def State.rCount (s : State) (n k : Nat) (c : Nat := 1) : State := s.modEt n (fun e => { e with rCounts := bump e.rCounts k c })

/-- Count in PORT_LINK_COUNTS (R137), ROUTE_DROPS (R142), COLL_COUNTS (R301), DICT_COUNTS (R329),
STORE_COUNTS (R385) and PWR_EVENTS (R353). -/
def State.linkCount (s : State) (p k : Nat) : State := s.modLink p (fun l => { l with counts := bump l.counts k 1 })
def State.dropCount (s : State) (n k : Nat) (unit : Nat := 0x3F) : State :=
  (s.modPt n (fun t => { t with drops := bump t.drops k 1 })).perf n 0x130 unit none 1
def State.collCount (s : State) (k : Nat) : State := { s with collCounts := bump s.collCounts k 1 }
def State.dictCount (s : State) (k : Nat) : State := { s with dict := { s.dict with counts := bump s.dict.counts k 1 } }
def State.storeCount (s : State) (k n : Nat) : State := { s with store := { s.store with counts := bump s.store.counts k n } }
def State.pwrCount (s : State) (k : Nat) : State := { s with sup := { s.sup with events := bump s.sup.events k 1 } }

/-- Count a packet the mode does not carry (R332). -/
def State.modeDrop (s : State) (n : Nat) : State := s.modPt n (fun t => { t with modeDrops := satAdd 64 t.modeDrops 1 })

/-- Record states as FAULT_SUMMARY codes them (R370). -/
def RecSt.code : RecSt → Nat
  | .empty => 0 | .latched => 1 | .acked => 2

/-- FAULT_N is driven low while the management island runs (R362, R420): an unmasked record that is not EMPTY, a
checkstop, or a BOOT that no slot ends (R392). -/
def State.faultN (s : State) : Bool :=
  s.island 12 && (s.faults.checkstop || s.mode.bootHeld ||
    (List.range 5).any (fun c => (s.faults.classes.getD c {}).st != .empty && !bitAt (s.cfg 0x9001 3) c))

/-- FAULT_SUMMARY (R370). -/
def State.faultSummary (s : State) : Nat :=
  pack ((List.range 5).map (fun c =>
      (8 * c, 4, (s.faults.classes.getD c {}).st.code + 4 * b2n (s.faults.classes.getD c {}).overflow
        + 8 * b2n (bitAt (s.cfg 0x9001 3) c)))
    ++ [(40, 1, b2n s.faults.checkstop), (41, 1, b2n s.faultN)])

/-- FT_STATE (R187): state, parent port, parent valid, own STEPS. -/
def State.ftState (s : State) : Nat :=
  pack [(0, 4, s.time.st), (4, 6, s.time.parent.getD 0), (10, 1, b2n s.time.parent.isSome), (11, 4, s.time.steps)]

end Sys2Proof.Machine
end

