-- ==== Sys2Proof/Machine/Acu.lean ====
section
/-! DEFINITION. The access-control unit (R87 to R94): the check, refusals, region entries, the accesses that have not
finished. -/

namespace Sys2Proof.Machine

/-! ### Access control (R87 to R94) -/

/-- Master identity of a host function (R87). -/
def masterOf (f : Nat) : Nat := if isPf f then etOf f else 4 + etOf f

/-- A region's blocks contain a byte address (R89). -/
def Region.holds (g : Region) (a : Nat) : Bool := g.enable && decide (g.first ≤ a / 64) && decide (a / 64 ≤ g.last)

/-- The check of R92: the fault code of a refusal, or none. -/
def State.acuCheck (s : State) (m addr len : Nat) (wr : Bool) : Option Nat :=
  match s.acu.regions.find? (fun g => g.holds addr) with
  | none => some 0x0310
  | some g =>
    if !g.holds (addr + (len - 1)) then some 0x0330
    else if bitAt (if wr then g.wmask.toNat else g.rmask.toNat) m then none else some 0x0320

/-- The check of an access whose translation gives several pieces: it is checked once, as a whole, from its first byte to its
last, which must all lie in the first byte's region (R92). -/
def State.acuCheckAll (s : State) (m : Nat) (l : List (Nat × Nat)) (wr : Bool) : Option Nat :=
  match l with
  | [] => none
  | (a, n) :: r =>
    match s.acuCheck m a n wr, s.acu.regions.find? (fun g => g.holds a) with
    | some code, _ => some code
    | none, some g => if r.all (fun p => g.holds p.1 && g.holds (p.1 + (p.2 - 1))) then none else some 0x0330
    | none, none => some 0x0310

/-- The 16 bytes of ACU_LAST_DENIED (R91). -/
def deniedWord (m addr len : Nat) (wr : Bool) (code : Nat) : Nat :=
  pack [(0, 40, addr), (40, 4, m), (44, 13, len - 1), (57, 1, b2n wr), (64, 16, code)]

/-- Count a refused access; masters other than hosts raise a DEFERRED record (R93). -/
def State.acuDeny (s : State) (m addr len : Nat) (wr : Bool) (code : Nat) : State :=
  let s := { s with acu := { s.acu with denied := s.acu.denied + 1, lastDenied := deniedWord m addr len wr code } }
  if m ≤ 7 then s
  else s.report { code := code, cls := deferred, tile := if m = 10 then 12 else if m = 12 then 14 else 13,
                  unit := if m = 9 then 1 else 0 }

/-- Two regions share a block. -/
def Region.overlaps (a b : Region) : Bool := decide (a.first ≤ b.last) && decide (b.first ≤ a.last)

/-- A region entry from its 16 bytes (R89). -/
def regionOf (v : Nat) : Region :=
  { enable := bitAt v 0, first := bf v 6 34, last := bf v 70 34, rmask := BitVec.ofNat 16 (bf v 48 13),
    wmask := BitVec.ofNat 16 (bf v 112 13) }

/-- A region write is rejected (R91): END below START, or a block shared with another enabled region. -/
def State.regionClash (s : State) (k : Nat) (g : Region) : Bool :=
  g.enable && (decide (g.last < g.first)
    || (List.range 64).any (fun j => j != k && (match s.acu.regions[j]? with | some h => h.enable && g.overlaps h | none => false)))

/-! ### Accesses in flight (R94) -/

/-- An access that the check let pass finishes at some time within 4 µs. -/
def State.fly (s : State) (m addr : Nat) : State :=
  ({ s with acu := { s.acu with flying := s.acu.flying ++ [{ master := m, addr := addr, fin := s.now + s.freeVal 16 % 4001 }] } } : State).nextFree

/-- Accesses that have finished are forgotten. -/
def State.land (s : State) : State :=
  { s with acu := { s.acu with flying := s.acu.flying.filter (fun f => decide (s.now < f.fin)) } }

/-- When the last access checked before now has finished. -/
def Acu.settled (x : Acu) : Nat := (x.flying.map (·.fin)).foldl max 0

end Sys2Proof.Machine
end

