-- ==== Sys2Proof/Machine/Operands.lean ====
section
/-! DEFINITION. Operand forms: the fields of work entries (R51, R53), commands (R191, R255), event entries (R56),
packet headers (R139, R201, R202, R226, R260) and the context record (R190), and the rules that make an entry
malformed (R54, R261, R284). -/

namespace Sys2Proof.Machine

/-! ### Status codes (R11) -/

abbrev stOk : Nat := 0x00
abbrev stMalformed : Nat := 0x01
abbrev stKey : Nat := 0x02
abbrev stBounds : Nat := 0x03
abbrev stUnreachable : Nat := 0x04
abbrev stRetry : Nat := 0x05
abbrev stRnr : Nat := 0x06
abbrev stXlate : Nat := 0x07
abbrev stRemote : Nat := 0x08
abbrev stTruncated : Nat := 0x09
abbrev stTreeBroken : Nat := 0x0A
abbrev stLost : Nat := 0x0B
abbrev stStoreFull : Nat := 0x0C

/-- A status code taken from a packet: a reserved code counts as MALFORMED (R11). -/
def takeStatus (v : Nat) : Nat := if v ≤ 0x0C then v else stMalformed

/-! ### Work entries (R51) -/

abbrev opNop : Nat := 0
abbrev opSend : Nat := 1
abbrev opRecv : Nat := 2
abbrev opWrite : Nat := 3
abbrev opWriteNotify : Nat := 4
abbrev opRead : Nat := 5
abbrev opFetchAdd : Nat := 6
abbrev opSwap : Nat := 7
abbrev opCswap : Nat := 8
abbrev opCollective : Nat := 9

def wOpcode (w : Nat) : Nat := bf w 0 8
def wFence (w : Nat) : Bool := bitAt w 16
def wSignal (w : Nat) : Bool := bitAt w 17
def wInline (w : Nat) : Bool := bitAt w 18
def wLength (w : Nat) : Nat := bf w 32 32
def wLocal (w : Nat) : Nat := bf w 64 64
def wA (w : Nat) : Nat := bf w 128 64
def wB (w : Nat) : Nat := bf w 192 64
def wC (w : Nat) : Nat := bf w 256 64
def wD (w : Nat) : Nat := bf w 320 64
def wUser (w : Nat) : Nat := bf w 384 64
/-- COMM of SEND and RECV, RKEY and NOTIFY_DATA of remote accesses (R53). -/
def wComm (w : Nat) : Nat := bf w 192 16
def wRkey (w : Nat) : Nat := bf w 192 32
def wNotify (w : Nat) : Nat := bf w 224 32
/-- COLLECTIVE's word A (R53). -/
def wTree (w : Nat) : Nat := bf w 128 12
def wKind (w : Nat) : Nat := bf w 140 3
def wDtype (w : Nat) : Nat := bf w 143 4
def wRedop (w : Nat) : Nat := bf w 147 3
def wExact (w : Nat) : Bool := bitAt w 150
def wRoot (w : Nat) : Bool := bitAt w 151

/-- True for the three atomics. -/
def isAtomic (op : Nat) : Bool := op == opFetchAdd || op == opSwap || op == opCswap

/-- The opcode rules of R54 other than COLLECTIVE's own (R283). -/
def badEntry (w : Nat) : Bool :=
  9 < wOpcode w
    || (wInline w && (!(wOpcode w == opSend || wOpcode w == opWrite || wOpcode w == opWriteNotify) || 16 < wLength w))
    || (isAtomic (wOpcode w) && (wLength w != 8 || wA w % 8 != 0 || wLocal w % 8 != 0))

/-- The inline payload: the first LENGTH bytes of words C and D (R51). -/
def inlineBytes (w : Nat) : List Byte := (natLe 16 (bf w 256 128)).take (wLength w)

/-- Packets of an entry that sends payload or asks for it (R228, R261). -/
def entryPackets (len : Nat) : Nat := if len = 0 then 1 else ceilDiv len 4096

/-- Landing slots of an eager packet (R213). -/
def landSlots (plen : Nat) : Nat := max 1 (ceilDiv plen 256)

/-! ### Events (R56) -/

/-- The 32 bytes of an event entry, with its PHASE. -/
def Event.bytes (e : Event) (phase : Bool) : List Byte :=
  natLe 32 (pack [(0, 8, e.type), (8, 8, e.status), (16, 1, b2n phase), (18, 20, e.context), (38, 26, e.source),
    (64, 64, e.userData), (128, 64, e.info), (192, 32, e.length), (224, 16, e.comm)])

abbrev evWorkDone : Nat := 1
abbrev evRecv : Nat := 2
abbrev evNotify : Nat := 3
abbrev evUnexpected : Nat := 4
abbrev evQueueError : Nat := 5
abbrev evSemInherit : Nat := 6
abbrev evPwrWarn : Nat := 7
abbrev evFault : Nat := 8

/-! ### Addresses of devices (R6, R7) -/

/-- An endpoint address (R6): coordinate and function. -/
def endpoint (dev fn : Nat) : Nat := dev * 256 + fn

/-- SOURCE of an event for a sender (R222): its endpoint address, or group 4,095 when it is named flat. -/
def eventSource (sform : Bool) (dev fn : Nat) : Nat :=
  if sform then 4095 * 2 ^ 14 + fn else endpoint (dev % 2 ^ 18) fn

/-- A reserved device value (R6, R7). -/
def reservedDev (form : Bool) (dev : Nat) : Bool :=
  if form then 262143 < dev else 2 ^ 18 ≤ dev || 3200 < dev / 64

/-- This device's coordinate, if it has one (R27). -/
def State.coord? (s : State) : Option Nat :=
  let c := s.cfg 0x2000 1
  if c / 64 = 4095 then none else some c

/-- This device's flat identifier, if it has one (R27). -/
def State.flat? (s : State) : Option Nat :=
  let c := s.cfg 0x2000 2
  if c = 0xFFFFF then none else some c

/-- How the device names itself in SRC_DEV (R26): its coordinate, or its flat identifier where it has no
coordinate, with SFORM. -/
def State.selfName (s : State) : Nat × Bool :=
  match s.coord? with
  | some c => (c, false)
  | none => (s.cfg 0x2000 2, true)

/-- True when a packet's destination names this device. -/
def State.isSelf (s : State) (form : Bool) (dev : Nat) : Bool :=
  if form then s.flat? == some dev else s.coord? == some dev

/-! ### Packet headers -/

/-- The packet's KIND codes (R140). -/
abbrev kindReq : Nat := 0
abbrev kindRsp : Nat := 1
abbrev kindCup : Nat := 2
abbrev kindCdn : Nat := 3
abbrev kindMgt : Nat := 4

/-- The VC that KIND, DFORM and GV give a packet (R140), numbered as R114 does. -/
def vcOf (k : Packet) : Nat :=
  if k.kind = kindReq then (if k.dform then 9 else k.gv)
  else if k.kind = kindRsp then (if k.dform then 9 else 3 + k.gv)
  else if k.kind = kindCup then 6 else if k.kind = kindCdn then 7 else 8

/-- TOP codes (R201). -/
abbrev topData : Nat := 1
abbrev topResp : Nat := 2
abbrev topAck : Nat := 3
abbrev topNak : Nat := 4
abbrev topResync : Nat := 5
abbrev topResyncAck : Nat := 6

/-- Fields of the transport header at byte 24 (R201) and the control header (R202). -/
def xTop (p : Packet) : Nat := bf p.ext 0 4
def xRetx (p : Packet) : Bool := bitAt p.ext 4
def xTsv (p : Packet) : Bool := bitAt p.ext 5
def xAckreq (p : Packet) : Bool := bitAt p.ext 6
def xSlots (p : Packet) : Nat := bf p.ext 8 8
def xSrcInc (p : Packet) : Nat := bf p.ext 16 16
def xDstInc (p : Packet) : Nat := bf p.ext 32 16
def xRackOff (p : Packet) : Nat := bf p.ext 48 16
def xPsn (p : Packet) : U32 := BitVec.ofNat 32 (bf p.ext 64 32)
def xSendTs (p : Packet) : Nat := bf p.ext 96 32
/-- Control header. -/
def cOwdv (p : Packet) : Bool := bitAt p.ext 4
def cCode (p : Packet) : Nat := bf p.ext 8 8
def cLimit (p : Packet) : U16 := BitVec.ofNat 16 (bf p.ext 48 16)
def cTs (p : Packet) : Nat := bf p.ext 96 32
def cHold (p : Packet) : Nat := bf p.ext 128 32
def cOwd (p : Packet) : Nat := bf p.ext 160 32
/-- Operation header at byte 40 (R226, R260). -/
def oOpc (p : Packet) : Nat := bf p.ext 128 8
def oMkind (p : Packet) : Nat := bf p.ext 136 4
def oComm (p : Packet) : Nat := bf p.ext 144 16
def oMsn (p : Packet) : Nat := bf p.ext 160 32
def oTag (p : Packet) : Nat := bf p.ext 192 64
def oOffset (p : Packet) : Nat := bf p.ext 256 32
def oMlen (p : Packet) : Nat := bf p.ext 288 32
def oLast (p : Packet) : Bool := bitAt p.ext 136
def oStatus (p : Packet) : Nat := bf p.ext 144 8
def oRkey (p : Packet) : Nat := bf p.ext 160 32
def oRaddr (p : Packet) : Nat := bf p.ext 192 64
def oNotify (p : Packet) : Nat := bf p.ext 256 32
def oXlen (p : Packet) : Nat := bf p.ext 288 32

/-- The match header (R226) as the 24 bytes from byte 40, shifted to its place. -/
def matchHdr (mkind comm msn tag offset mlen : Nat) : Nat :=
  pack [(128, 8, 1), (136, 4, mkind), (144, 16, comm), (160, 32, msn), (192, 64, tag), (256, 32, offset), (288, 32, mlen)]

/-- The remote-access header (R260). -/
def rmaHdr (opc : Nat) (last : Bool) (status rkey raddr notify xlen : Nat) : Nat :=
  pack [(128, 8, opc), (136, 1, b2n last), (144, 8, status), (160, 32, rkey), (192, 64, raddr), (256, 32, notify), (288, 32, xlen)]

/-! ### Commands of contexts and windows (R191, R255) -/

def ccOp (v : Nat) : Nat := bf v 0 2
def ccCtx (v : Nat) : Nat := bf v 8 20
def ccInc (v : Nat) : Nat := bf v 32 12
def ccCompl (v : Nat) : Nat := bf v 320 64
def ccToken (v : Nat) : Nat := bf v 384 32
def wcOp (v : Nat) : Nat := bf v 0 2
def wcRkey (v : Nat) : Nat := bf v 32 32
def wcCompl (v : Nat) : Nat := bf v 256 64
def wcToken (v : Nat) : Nat := bf v 320 32

/-- The 64-byte record of a context (R190). -/
def Ctx.record (c : Ctx) : Nat :=
  pack [(0, 2, c.state), (2, 5, c.sqLog2), (7, 12, c.sqEq), (19, 12, c.rqEq), (32, 16, c.inc), (48, 16, c.peerInc),
    (64, 20, c.peerDev), (84, 1, b2n c.peerForm), (85, 8, c.peerFn), (93, 20, c.peerCtx), (113, 7, c.rxPend),
    (128, 45, c.sqBase / 2 ^ 12), (173, 55, c.headAddr / 4), (228, 32, c.sqDb.toNat),
    (260, 17, dist c.sqDb c.head), (277, 17, dist c.sqDb c.fetch), (294, 32, c.nextPsn.toNat),
    (326, 7, dist c.nextPsn c.una), (333, 3, c.retries), (336, 32, c.rxEpsn.toNat), (368, 64, c.rxMap.toNat),
    (432, 16, c.txUsed.toNat), (448, 16, c.txLimit.toNat), (464, 16, c.rxLimit.toNat), (480, 12, c.rate),
    (492, 12, c.rttEst)]

end Sys2Proof.Machine
end

