-- ==== Sys2Proof/Machine/Packets.lean ====
section
/-! DEFINITION. Packets an endpoint tile or the management tile builds and offers to the mesh (R15, R201 to R203,
R429), and the marks an entry's own failure leaves on it. -/

namespace Sys2Proof.Machine

/-- Counter tile number (R364) of a tile in ISLAND_STATE's numbering. -/
def ctrTile (t : Nat) : Nat := if t = 12 then 13 else if t = 13 then 12 else t

/-- Offer what crosses the mesh to a channel, as flits in order (R15); toward a tile in reset every flit is discarded
and counted (R21). -/
def State.offer (s : State) (src dst k : Nat) (x : Cross) : State :=
  let ch := chan src dst k
  ({ s with arch :=
      if s.island dst then { s.arch with chans := Tbl.put s.arch.chans ch (Tbl.getD s.arch.chans ch [] ++ x.flits) }
      else { s.arch with discards := satAdd 64 s.arch.discards x.flits.length } }).perf
    (ctrTile src) 0x002 0x3F none x.flits.length

/-- The port tile R429's fixed hash gives a packet. -/
def injectTile (p : Packet) : Nat := Config.portHash p.dform p.dstDev p.dstFn p.dstCtx % 8

/-- Offer a packet to the port tile that R429 selects, on channel k of the pair. -/
def State.injectFrom (s : State) (src : Nat) (p : Packet) (k : Nat := 0) : State :=
  s.offer src (injectTile p) k (.packet { pkt := p, vc := vcOf p, ingress := 64 + injectTile p, arr := s.now })

/-- On its way to PASS or STANDBY the device has wiped every function: no new work of theirs begins (R335, R337). -/
def State.wiping (s : State) : Bool := s.mode.changing && (s.mode.target == .pass || s.mode.target == .standby)

/-- True while a quiesce stops injection (R336). -/
def State.injectStopped (s : State) : Bool := s.mode.quiesced || s.inMode .hold || s.faults.checkstop

/-- The routing header of a packet a context sends (R203). -/
def State.ctxPacket (s : State) (f c : Nat) (x : Ctx) (kind hlen ext : Nat) (payload : List Byte) : Packet :=
  { kind := kind, hlen := hlen, dform := x.peerForm, plen := payload.length, dstDev := x.peerDev, dstFn := x.peerFn,
    dstCtx := x.peerCtx, srcDev := s.selfName.1, sform := s.selfName.2, srcFn := f, srcCtx := c, ext := ext,
    payload := payload }

/-- Copy the last request's congestion level into a response (R146). -/
def CtxWork.echo (w : CtxWork) (p : Packet) : Packet := { p with echo := w.chint, echoNm := w.echoNm }

/-- Send a packet of a context through its endpoint tile; a quiesce discards it (R336). Of a pair's two channels a
response takes the second, every other packet the first (DESIGN CHOICE, log entry 41). -/
def State.sendCtx (s : State) (f : Nat) (p : Packet) : State :=
  if s.injectStopped then s else s.injectFrom (8 + etOf f) p (if p.kind == kindRsp then 1 else 0)

/-- Fabric time in ns, bits [31:0], for send stamps (R201). -/
def State.stamp (s : State) : Nat := s.ftNs % 2 ^ 32

/-- A control packet's header (R202). -/
def ctlHdr (top : Nat) (owdv tsv : Bool) (code srcInc dstInc limit psn ts hold owd : Nat) : Nat :=
  pack [(0, 4, top), (4, 1, b2n owdv), (5, 1, b2n tsv), (8, 8, code), (16, 16, srcInc), (32, 16, dstInc),
    (48, 16, limit), (64, 32, psn), (96, 32, ts), (128, 32, hold), (160, 32, owd)]

/-- Nanoseconds from the arrival of the newest accepted packet (HOLD of R202). -/
def State.holdOf (s : State) (w : CtxWork) : Nat := min (s.etNow - w.echoAt) (2 ^ 32 - 1)

/-- The largest valid delay an acknowledgement reports (R202, R218): none when a packet accepted since the last ACK had
none, or when none was accepted. -/
def CtxWork.owdNow (w : CtxWork) (x : Ctx) : Bool × Nat := (w.owdOk && decide (0 < x.rxPend), min w.owd (2 ^ 32 - 1))

/-- The arrival context that a waiting write's accepted packet belongs to (R208). -/
def HeldWrite.arrival (h : HeldWrite) : Option Nat :=
  match h.use with
  | .window c | .overflow c _ => some c
  | _ => h.land.bind (fun l => if l.straight then some l.ctx else none)

/-- An accepted packet of a context that waits for its engine and holds no landing slots (R208). -/
def EngItem.unsecured (f c : Nat) : EngItem → Bool
  | .header f' c' _ dest _ => f' == f && c' == c && !(dest matches .landing _)
  | .posting _ _ _ _ _ | .commit _ _ _ => false

/-- An operation at the target still reads: a READ, an atomic, a store read, a PULL. -/
def State.targetBusy (s : State) (f c : Nat) : Bool :=
  (s.et (etOf f)).targets.any (fun t => t.fn == f && t.ctx == c)
    || s.store.reads.any (fun r => r.op.fn == f && r.op.ctx == c)
    || s.reads.any (fun e => e.2.fn == f && !e.2.dead && (match e.2.use with | .pull c' _ _ _ _ => c' == c | _ => false))

/-- Every packet the context has accepted is secured (R208): no payload of one waits to be issued as a host write, none
but a landed one waits for its operation, and no operation waits for what it reads. -/
def State.secured (s : State) (f c : Nat) : Bool :=
  let e := s.et (etOf f)
  !((s.fn f).writes.any (fun h => h.arrival == some c) || e.ops.any (fun o => o.1 == f && o.2.1 == c)
    || (e.items ++ e.heldItems).any (EngItem.unsecured f c) || s.targetBusy f c)

/-- Send an ACK (R208), which sets RX_PEND to 0 and stops the timers. -/
def State.sendAck (s : State) (f c : Nat) : State :=
  let x := (s.ctx f c).c
  let w := (s.ctx f c).w
  let p := w.echo (s.ctxPacket f c x kindRsp 7
    (ctlHdr topAck (w.owdNow x).1 false 0 x.inc x.peerInc x.rxLimit.toNat x.rxEpsn.toNat w.echoTs (s.holdOf w) (w.owdNow x).2) [])
  ((s.sendCtx f p).modCtx f c (fun y => { y with
    c := { y.c with rxPend := 0 }
    w := { y.w with ackAt := none, credAt := none, ackDue := false, owd := 0, owdOk := true } })).tCount (etOf f) 4

/-- Send an ACK that is due: at once, or as soon as every packet it covers is secured (R208; DEDUCED, log entry 146). -/
def State.ackNow (s : State) (f c : Nat) : State :=
  if s.secured f c then s.sendAck f c else s.modW f c (fun w => { w with ackDue := true })

/-- The last packet an ACK waited for may have been secured (R208). -/
def State.ackIfDue (s : State) (f c : Nat) : State :=
  if (s.ctx f c).w.ackDue && s.secured f c then s.sendAck f c else s

/-- Answer a RESYNC at once (R215): absolute RX_EPSN and RX_LIMIT, echoing its TS. -/
def State.sendResyncAck (s : State) (f c ts : Nat) : State :=
  let x := (s.ctx f c).c
  let w := (s.ctx f c).w
  s.sendCtx f (w.echo (s.ctxPacket f c x kindRsp 7
    (ctlHdr topResyncAck (w.owdNow x).1 false 0 x.inc x.peerInc x.rxLimit.toNat x.rxEpsn.toNat ts 0 (w.owdNow x).2) []))

/-- Refuse a packet as not ready (R207, R236, R267). -/
def State.sendRnr (s : State) (f c : Nat) (psn : U32) (ts : Nat) : State :=
  let x := (s.ctx f c).c
  let w := (s.ctx f c).w
  s.sendCtx f (w.echo (s.ctxPacket f c x kindRsp 7
    (ctlHdr topNak false false 1 x.inc x.peerInc 0 psn.toNat ts 0 0) []))

/-- Answer a packet that names no matching context (R207): NAK STALE, at most one per 100 ns per tile. -/
def State.sendStale (s : State) (et : Nat) (p : Packet) : State :=
  match (s.et et).staleAt with
  | some t => if s.now < t + 100 then s else go s
  | none => go s
where
  go (s : State) : State :=
    let resync := xTop p == topResync
    let inc := match s.ctx? p.dstFn p.dstCtx with | some x => if x.c.state = 0 ∨ x.w.lost then 0 else x.c.inc | none => 0
    let q : Packet :=
      { kind := kindRsp, hlen := 7, dform := p.sform, dstDev := p.srcDev, dstFn := p.srcFn, dstCtx := p.srcCtx,
        srcDev := s.selfName.1, sform := s.selfName.2, srcFn := p.dstFn, srcCtx := p.dstCtx, echo := p.chint,
        echoNm := p.nonmin,
        ext := ctlHdr topNak false false 2 inc (xSrcInc p) 0 (if resync then 0 else (xPsn p).toNat) (xSendTs p) 0 0 }
    ((if s.injectStopped then s else s.injectFrom (8 + et) q 1).modEt et (fun e => { e with staleAt := some s.now })).tCount et 8

/-- Send a RESYNC (R215), which stamps the context's latest. -/
def State.sendResync (s : State) (f c : Nat) : State :=
  let x := (s.ctx f c).c
  ((s.sendCtx f (s.ctxPacket f c x kindReq 7
    (ctlHdr topResync false s.ftUsable 0 x.inc x.peerInc 0 0 s.stamp 0 0) [])).modW f c
      (fun w => { w with resyncAt := s.etNow, resyncTs := s.stamp, resyncBase := s.etNow, resyncLen := s.cfg 0x5000 5 * us })).tCount (etOf f) 10

/-- A RESP packet (R201): the PSN of the request answered, its operation header, its payload. -/
def State.sendResp (s : State) (f c : Nat) (psn : U32) (hdr : Nat) (payload : List Byte) : State :=
  let x := (s.ctx f c).c
  let w := (s.ctx f c).w
  s.sendCtx f (w.echo (s.ctxPacket f c x kindRsp 8
    (pack [(0, 4, topResp), (5, 1, b2n s.ftUsable), (16, 16, x.inc), (32, 16, x.peerInc), (64, 32, psn.toNat),
      (96, 32, s.stamp)] + hdr) payload))

/-! ### Entries -/

/-- Change the entry with an index in a context's working list. -/
def State.modEntry (s : State) (f c : Nat) (idx : U32) (g : Entry → Entry) : State :=
  s.modW f c (fun w => { w with entries := w.entries.map (fun e => if e.idx = idx then g e else e) })

/-- The entry with an index. -/
def State.entry? (s : State) (f c : Nat) (idx : U32) : Option Entry := (s.ctx f c).w.entries.find? (fun e => e.idx = idx)

/-- Give an entry a failure status of its own (R271): it stands before its responses' statuses, and a finish
already met takes it too, with its event. -/
def Entry.fail (e : Entry) (st : Nat) : Entry :=
  let st := match e.own with
    | some 0 | none => st
    | some k => k
  match e.st with
  | .done _ _ => { e with own := some st, st := .done st 0, recvEv := e.recvEv.map (fun v => { v with status := st }) }
  | .finished | .eventWait => e
  | _ => { e with own := some st }

/-- Finish an entry now with a status (R49): STATUS, event and head follow at its ENTRY_FINISH. -/
def Entry.finish (e : Entry) (st : Nat) : Entry :=
  match e.st with
  | .finished | .eventWait => e
  | _ => { e with own := some st, st := .done st 0 }

/-- True while the entry has not met its finishing condition. -/
def Entry.open (e : Entry) : Bool :=
  match e.st with
  | .fetched | .started => true
  | _ => false

/-! ### Replay records (R205) -/

/-- Replay records of a function and of a tile. -/
def State.replayOf (s : State) (f : Nat) : Nat :=
  ((s.ctxs.filter (fun e => e.1 / 2 ^ 20 == f)).map (fun e => e.2.w.replay.length)).foldl (· + ·) 0
def State.replayUse (s : State) (h : Nat) : Nat :=
  ((s.ctxs.filter (fun e => etOf (e.1 / 2 ^ 20) == h)).map (fun e => e.2.w.replay.length)).foldl (· + ·) 0

/-- Follow the replay table's fullness (R205): since when it is full, or since when it is not. -/
def State.replayWatch (s : State) (h : Nat) : State :=
  if 65536 ≤ s.replayUse h then
    s.modEt h (fun e => match e.fullAt with
      | some _ => e
      | none => { e with fullAt := some s.etNow, fullRec := e.fullRec && decide (s.etNow < e.notFullAt + ms) })
  else
    match (s.et h).fullAt with
    | some t => (s.modEt h (fun e => { e with fullAt := none, notFullAt := s.etNow })).tCount h 15 ((s.etNow - t) / us)
    | none => s

end Sys2Proof.Machine
end

