-- ==== Sys2Proof/Machine/MatchCore.lean ====
section
/-! DEFINITION. Message records, claims and rollbacks (R222 to R238), the end of a receive (R233, R244), and what a
closing context leaves (R250). Nothing here touches host memory. -/

namespace Sys2Proof.Machine

/-- The record of a message on its arrival context. -/
def State.msg? (s : State) (f c msn : Nat) : Option Msg := (s.ctx f c).m.msgs.find? (fun m => m.msn == msn)

/-- Change a message's record. -/
def State.modMsg (s : State) (f c msn : Nat) (g : Msg → Msg) : State :=
  s.modM f c (fun x => { x with msgs := x.msgs.map (fun m => if m.msn = msn then g m else m) })

/-- Inside the fence of a move (R248). -/
def State.fenced (s : State) (f comm : Nat) : Bool :=
  (s.et (etOf f)).moves.any (fun m => m.fn == f && m.comm == comm)

/-- A matching context exists: it holds a posted receive, a message record or a shadow entry (R224). -/
def State.mctxLive (s : State) (f comm : Nat) : Bool :=
  !(s.mctx f comm).posted.isEmpty || !(s.mctx f comm).unexp.isEmpty
    || s.ctxs.any (fun e => e.1 / 2 ^ 20 == f && e.2.m.msgs.any (fun m => m.comm == comm))

/-- The matching context an item is for: function and communicator. -/
def EngItem.key : EngItem → Nat × Nat
  | .header f _ p _ _ => (f, oComm p)
  | .posting f _ _ comm _ => (f, comm)
  | .commit f _ comm => (f, comm)

/-- A matching context that holds nothing any more is gone, and its home with it (R224); a move's fence keeps it, and an
item on its way to its engine. -/
def State.tidyMctx (s : State) (f comm : Nat) : State :=
  if s.mctxLive f comm || s.fenced f comm
      || ((s.et (etOf f)).items ++ (s.et (etOf f)).heldItems).any (fun i => i.key == (f, comm)) then s else { s with mctxs := Tbl.del s.mctxs (mkey f comm) }

/-- Drop a message's record; its landing slots and overflow blocks go with it. -/
def State.dropMsg (s : State) (f c msn : Nat) : State :=
  let blocks := ((s.msg? f c msn).map (fun m => m.pieces.filterMap (·.block))).getD []
  let s := if blocks = [] then s else s.modFn f (fun x => { x with overBlocks := x.overBlocks.filter (fun b => !blocks.contains b) })
  let s' := s.modM f c (fun x => { x with msgs := x.msgs.filter (fun m => m.msn != msn) })
  match s.msg? f c msn with
  | some m => s'.tidyMctx f m.comm
  | none => s'

/-- Home engine of a matching context (R224, R247). -/
def State.homeOf (s : State) (f comm : Nat) : Nat := (f + comm + (s.mctx f comm).home) % 4

/-- Count one operation of a home engine (R235). -/
def State.engOp (s : State) (f comm : Nat) : State :=
  let k := s.homeOf f comm
  (s.modEt (etOf f) (fun e => { e with engOps := e.engOps.set k (nth e.engOps k + 1) })).modMctx f comm (fun x => { x with ops := x.ops + 1 })

/-- A posted receive matches a message (R223). A message named flat matches only ANY_SOURCE, and a SOURCE of a
group of 3,201 or above never matches. -/
def envMatches (r : Posted) (comm tag : Nat) (source : Option Nat) : Bool :=
  r.comm == comm
    && (r.anySrc || (match source with | some a => a == r.source && decide (r.source / 2 ^ 14 ≤ 3200) | none => false))
    && (Nat.xor r.tag tag) &&& r.mask == 0

/-- A receive is eligible for a message of arrival context c (R237): unclaimed, or claimed by a SHADOW of the same
context with a higher MSN. -/
def State.eligible (s : State) (f c : Nat) (m : Msg) (r : Posted) : Bool :=
  envMatches r m.comm m.tag m.source &&
    (match r.claim with
     | none => true
     | some (c', n) => c' == c && (n + 2 ^ 32 - m.msn) % 2 ^ 32 ≤ 63 && n != m.msn &&
        (match s.msg? f c' n with | some y => y.st == .shadow | none => false))

/-- Claim the eligible receive of lowest PSEQ for a shadow; a shadow that loses its claim is rematched (R237).
At most 63 shadows of one context can roll back. -/
def State.firstMatch : Nat → State → Nat → Nat → Nat → State
  | 0, s, _, _, _ => s
  | n + 1, s, f, c, msn =>
    match s.msg? f c msn with
    | none => s
    | some m =>
      match (s.mctx f m.comm).posted.find? (s.eligible f c m) with
      | none => s.modMsg f c msn (fun y => { y with recv := none })
      | some r =>
        let s := s.modMctx f m.comm (fun x => { x with
          posted := x.posted.map (fun q => if q.pseq = r.pseq then { q with claim := some (c, msn) } else q) })
        let s := s.modMsg f c msn (fun y => { y with recv := some { r with claim := some (c, msn) } })
        match r.claim with
        | none => s
        | some (c', n') =>
          let s := (s.modMsg f c' n' (fun y => { y with recv := none })).engOp f m.comm
          State.firstMatch n ((s.mCount (etOf f) 3).perf (8 + etOf f) 0x431 0x3F (some f) 1) f c' n'

/-- The RECV event of a receive (R233). -/
def recvEvent (f c : Nat) (m : Msg) (user status len : Nat) : Event :=
  { type := evRecv, status := status, context := c,
    source := (match m.source with | some a => a | none => eventSource true f m.srcFn),
    userData := user, info := m.tag, length := len, comm := m.comm }

/-- End a receive (R244): its entry finishes with the status, and its event names the message. -/
def State.recvEnd (s : State) (f c : Nat) (m : Msg) (status len : Nat) : State :=
  match m.recv with
  | none => s
  | some r =>
    s.modEntry f r.ctx r.idx (fun e => { (e.finish status) with
      recvEv := some (recvEvent f c m (wUser e.words.toNat) status len) })

/-- Give up the claims of an arrival context's shadow. -/
def State.releaseClaim (s : State) (f c : Nat) (m : Msg) : State :=
  s.modMctx f m.comm (fun x => { x with
    posted := x.posted.map (fun q => if q.claim = some (c, m.msn) then { q with claim := none } else q) })

/-- True when the last byte of an eager message has arrived (R236). -/
def Msg.allArrived (m : Msg) : Bool :=
  let n := if m.mlen = 0 then 1 else ceilDiv m.mlen 4096
  m.bitmap.toNat % 2 ^ n == 2 ^ n - 1

/-! ### Landing slots (R213, R242) -/

/-- Slots of one item on its way to an engine. -/
def EngItem.slots : EngItem → Nat
  | .header _ _ _ (.landing n) _ => n
  | _ => 0

def EngItem.fn : EngItem → Nat
  | .header f _ _ _ _ => f
  | .posting f _ _ _ _ => f
  | .commit f _ _ => f

/-- Slots a message holds. -/
def Msg.slots (m : Msg) : Nat := (m.pieces.map (·.slots)).foldl (· + ·) 0

/-- Landing slots that a function's waiting writes hold until they are issued (R243). -/
def Fn.writeSlots (x : Fn) : Nat := (x.writes.map (fun h => (h.land.map (·.slots)).getD 0)).foldl (· + ·) 0

/-- Landing slots a function holds (H of R242). -/
def State.landHeld (s : State) (f : Nat) : Nat :=
  (s.fn f).writeSlots +
  (((s.ctxs.filter (fun e => e.1 / 2 ^ 20 == f)).map (fun e => (e.2.m.msgs.map Msg.slots).foldl (· + ·) 0)).foldl (· + ·) 0)
  + ((((s.et (etOf f)).items ++ (s.et (etOf f)).heldItems).filter (fun i => i.fn == f)).map EngItem.slots).foldl (· + ·) 0

/-- Free landing slots of a tile (F of R242). -/
def State.landFree (s : State) (h : Nat) : Nat :=
  32768 - (((s.fns.filter (fun e => etOf e.1 == h)).map (fun e => e.2.writeSlots)).foldl (· + ·) 0
    + ((s.ctxs.filter (fun e => etOf (e.1 / 2 ^ 20) == h)).map (fun e => (e.2.m.msgs.map Msg.slots).foldl (· + ·) 0)).foldl (· + ·) 0
    + (((s.et h).items ++ (s.et h).heldItems).map EngItem.slots).foldl (· + ·) 0)

/-- Return freed slots to the peer (R213); an ACK reports them within ACK_DELAY (R208). -/
def State.returnSlots (s : State) (f c n : Nat) : State :=
  if n = 0 then s
  else s.modCtx f c (fun y => { y with
    c := { y.c with rxLimit := y.c.rxLimit + BitVec.ofNat 16 n }
    w := { y.w with credAt := some (y.w.credAt.getD s.etNow) } })

/-- Follow the landing buffer's exhaustion (R242). -/
def State.landWatch (s : State) (h : Nat) : State :=
  if s.landFree h = 0 then
    s.modEt h (fun e => match e.landZeroAt with
      | some _ => e
      | none => { e with landZeroAt := some s.etNow, landRec := e.landRec && decide (s.etNow < e.landPosAt + ms) })
  else
    match (s.et h).landZeroAt with
    | some _ => s.modEt h (fun e => { e with landZeroAt := none, landPosAt := s.etNow })
    | none => s

/-- Return a message's slots; one kept from a closed incarnation has no sender left to credit (R250). -/
def State.returnFor (s : State) (f c msn n : Nat) : State := if msn < 2 ^ 32 then s.returnSlots f c n else s

/-- Queue the FIN of a rendezvous message (R231): the bytes taken. -/
def State.queueFin (s : State) (f c msn n : Nat) : State :=
  s.modW f c (fun w => { w with owed := w.owed ++ [{ mkind := 4, msn := BitVec.ofNat 32 msn, off := 0, len := n }] })

/-- Status and length a finished receive reports (R244). -/
def recvOutcome (m : Msg) (r : Posted) : Nat × Nat :=
  if m.status ≠ 0 then (m.status, m.written)
  else if m.mlen ≤ r.len then (stOk, m.mlen)
  else (stTruncated, r.len)

/-- End a matched message's receive when its bytes are all written, or when it failed (R231, R236, R244). -/
def State.tryEnd (s : State) (f c msn : Nat) : State :=
  match s.msg? f c msn with
  | none => s
  | some m =>
    match m.st, m.recv with
    | .matched, some r =>
      let total := min m.mlen r.len
      let ready := !((s.fn f).writes.any (fun h => h.land.any (fun l => l.ctx == c && l.msn == msn))) && if m.rts then m.pulls.isEmpty && (m.status != 0 || decide (total ≤ m.pullOff))
        else m.reading == 0 && (m.status != 0 || (m.allArrived && m.pieces.isEmpty))
      if !ready then s
      else
        let o := recvOutcome m r
        let s := if o.1 = stTruncated then s.mCount (etOf f) 10 else s
        let s := if m.rts then s.modW f c (fun w => { w with owed := w.owed.filter (fun x => !(x.mkind == 2 && x.msn.toNat == msn)) }) else s
        let s := if m.rts then s.queueFin f c msn m.written else s
        let s := (m.pieces.map (·.slots)).foldl (fun s n => s.returnFor f c msn n) s
        ((s.recvEnd f c m o.1 o.2).engOp f m.comm).dropMsg f c msn
    | _, _ => s

/-- Discard a message with its landing slots, which count as freed (R213). -/
def State.discardMsg (s : State) (f c : Nat) (m : Msg) : State :=
  ((m.pieces.map (·.slots)).foldl (fun s n => s.returnFor f c m.msn n) s).dropMsg f c m.msn

/-- Treat one message of a closing arrival context (R250): a complete eager message, matched or unexpected, stays. A receive
that ends here counts every byte placed so far; a write that still waits and then faults takes its bytes off again. -/
def State.closeMsg (s : State) (f c : Nat) (m : Msg) : State :=
  match m.st with
  | .shadow => (s.releaseClaim f c m).discardMsg f c m
  | .void => s.dropMsg f c m.msn
  | .matched => if !m.rts && m.allArrived && m.status == 0 then s else (s.recvEnd f c m stLost m.written).discardMsg f c m
  | .unexpected =>
    if !m.rts && m.allArrived then s
    else (s.modMctx f m.comm (fun x => { x with unexp := x.unexp.filter (fun e => e != (c, m.msn)) })).discardMsg f c m

/-- Remove one posted receive of a closing posting context that no message has committed to; a shadow that claimed
it is rematched (R250). -/
def State.closePosted (s : State) (f : Nat) (r : Posted) : State :=
  let s := s.modMctx f r.comm (fun x => { x with posted := x.posted.filter (fun q => q.pseq != r.pseq) })
  let s := s.modEntry f r.ctx r.idx (fun e => e.finish stLost)
  match r.claim with
  | some (c', n) => ((s.modMsg f c' n (fun y => { y with recv := none })).engOp f r.comm).firstMatch 64 f c' n
  | none => s.tidyMctx f r.comm

/-- The posted receives of a context, over every communicator of its function. -/
def State.postedOf (s : State) (f c : Nat) : List Posted :=
  (s.mctxs.filter (fun e => e.1 / 2 ^ 16 == f)).flatMap (fun e => e.2.posted.filter (fun r => r.ctx == c))

/-- An item of a context. -/
def EngItem.ofCtx (f c : Nat) : EngItem → Bool
  | .header f' c' _ _ _ => f' == f && c' == c
  | .posting f' c' _ _ _ => f' == f && c' == c
  | .commit f' c' _ => f' == f && c' == c

/-- An item of a closing context leaves the engines: a posting's entry finishes, a packet's landing slots and overflow block
are free (R213, R250). -/
def State.dropItem (s : State) : EngItem → State
  | .posting f c idx _ _ => s.modEntry f c idx (fun e => e.finish stLost)
  | .header f c _ (.landing n) _ => s.returnSlots f c n
  | .header f _ _ (.block b) _ => s.modFn f (fun x => { x with overBlocks := x.overBlocks.filter (· != b) })
  | .header _ _ _ _ _ | .commit _ _ _ => s

/-- The matching state of a closing context (R250): its messages, its postings, its rendezvous records. -/
def State.closeMatching (s : State) (f c : Nat) : State :=
  let s := (((s.et (etOf f)).items ++ (s.et (etOf f)).heldItems).filter (EngItem.ofCtx f c)).foldl State.dropItem s
  let s := (s.ctx f c).m.msgs.foldl (fun s m => s.closeMsg f c m) s
  let s := (s.postedOf f c).foldl (fun s r => s.closePosted f r) s
  s.modEt (etOf f) (fun e => { e with
    rndv := e.rndv.filter (fun r => !(r.fn == f && r.ctx == c))
    items := e.items.filter (fun i => !i.ofCtx f c), heldItems := e.heldItems.filter (fun i => !i.ofCtx f c) })
    |>.landWatch (etOf f)

end Sys2Proof.Machine
end

