-- ==== Sys2Proof/Machine/Xlate.lean ====
section
/-! DEFINITION. Address translation (spec 03): lookups, walks, the reads that wait for them, and the effects of a
translation fault by what the address was for (R63 to R84). -/

namespace Sys2Proof.Machine

/-- Answer of a lookup: a bus address, a fault code with its level, or no cached leaf. -/
inductive XRes where
  | ok (bus : Nat)
  | fault (code level : Nat)
  | miss
  deriving DecidableEq, Repr

/-- Fault codes of R74. -/
abbrev xNotValid : Nat := 0x0710
abbrev xRights : Nat := 0x0720
abbrev xUser : Nat := 0x0730
abbrev xFormat : Nat := 0x0740
abbrev xTarget : Nat := 0x0750
abbrev xWalkBus : Nat := 0x0761
abbrev xWalkRegion : Nat := 0x0762

/-- The rights a function's access needs of a leaf (R69): the fault code, or none. An instruction fetch on behalf
of a function is never allowed. A leaf that lacks both a right and U faults with RIGHTS (DESIGN CHOICE, log entry 132). -/
def leafFault (k : AccKind) (l : Leaf) : Option Nat :=
  match k with
  | .fetch => some xUser
  | .read => if !l.r then some xRights else if !l.u then some xUser else none
  | .write => if !l.w then some xRights else if !l.u then some xUser else none
  | .atomic => if !(l.r && l.w) then some xRights else if !l.u then some xUser else none

/-- The HOST_WALK_EXCL ranges of a host port in force now (R86). -/
def State.excl (s : State) (hp : Nat) : List Nat := (List.range 8).map (fun k => s.cfg 0x2019 (8 * hp + k + 1))

/-- A bus address lies in an enabled range (R86). -/
def inExcl (v addr : Nat) : Bool := bitAt v 0 && addr / 2 ^ (bf v 6 6) == (bf v 12 40 * 2 ^ 12) / 2 ^ (bf v 6 6)

/-- True when a bus address lies in the BAR0 of a function of the host port or in one of the ranges (R71, R73). -/
def State.forbiddenBy (s : State) (ex : List Nat) (hp addr : Nat) : Bool :=
  s.fns.any (fun e => etOf e.1 == hp &&
      e.2.memOn && decide (e.2.bar0 ≤ addr) && decide (addr < e.2.bar0 + 2 ^ 25))
  || ex.any (fun v => inExcl v addr)

/-- The same by the ranges in force now. -/
def State.forbidden (s : State) (hp addr : Nat) : Bool := s.forbiddenBy (s.excl hp) hp addr

/-- What a leaf gives an access that is checked by the ranges `ex` (R69, R71): the bus address, or the fault. A leaf that
lacks the rights and yields a forbidden address faults with RIGHTS or USER (DESIGN CHOICE, log entry 132). -/
def State.leafBy (s : State) (ex : List Nat) (f va level : Nat) (k : AccKind) (l : Leaf) : XRes :=
  match leafFault k l with
  | some code => .fault code level
  | none =>
    if s.forbiddenBy ex (etOf f) (l.out + va % 2 ^ l.log2) then .fault xTarget level else .ok (l.out + va % 2 ^ l.log2)

/-- The same by the ranges in force now. -/
def State.leafAccess (s : State) (f va level : Nat) (k : AccKind) (l : Leaf) : XRes := s.leafBy (s.excl (etOf f)) f va level k l

/-- The cached leaf that serves an address of a function's domain (R78). -/
def State.leafFor (s : State) (f va : Nat) : Option Leaf :=
  (s.et (etOf f)).cache.find? (fun l => l.fn == f && va / 2 ^ l.log2 == l.base / 2 ^ l.log2)

/-- Translate one address in a function's domain from the cache alone (R64, R66, R70, R78). -/
def State.lookupBy (s : State) (ex : List Nat) (f va : Nat) (k : AccKind) : XRes :=
  if k = .fetch then .fault xUser 0
  else if !bitAt (s.cfg 0x2017 f) 0 then .ok va
  else if 2 ^ 48 ≤ va then .fault xFormat 0
  else
    match s.leafFor f va with
    | some l => s.leafBy ex f va 0 k l
    | none => .miss

/-- The same by the ranges in force now. -/
def State.lookup (s : State) (f va : Nat) (k : AccKind) : XRes := s.lookupBy (s.excl (etOf f)) f va k

/-- The pieces of an access, one per 4 KiB page (R77). -/
def pagePieces (va len : Nat) : List (Nat × Nat) :=
  (List.range (max 1 (ceilDiv (va % 4096 + len) 4096))).map (fun i =>
    let a := if i = 0 then va else (va / 4096 + i) * 4096
    (a, min (va + len) ((va / 4096 + i + 1) * 4096) - a))

/-- Translate every piece of an access: the bus pieces, or the first address that faults or misses. -/
def State.lookupAllBy (s : State) (ex : List Nat) (f : Nat) (k : AccKind) :
    List (Nat × Nat) → List (Nat × Nat) × Option (Nat × XRes)
  | [] => ([], none)
  | (a, n) :: r =>
    match s.lookupBy ex f a k with
    | .ok b => let (l, e) := s.lookupAllBy ex f k r; ((b, n) :: l, e)
    | x => ([], some (a, x))

/-- The same by the ranges in force now. -/
def State.lookupAll (s : State) (f : Nat) (k : AccKind) (l : List (Nat × Nat)) : List (Nat × Nat) × Option (Nat × XRes) :=
  s.lookupAllBy (s.excl (etOf f)) f k l

/-- First and last address of a leaf's span in memory. -/
def Leaf.span (l : Leaf) : Nat × Nat := (l.base / 2 ^ l.whole * 2 ^ l.whole, l.base / 2 ^ l.whole * 2 ^ l.whole + 2 ^ l.whole - 1)

/-- Spans of the cached leaves that serve an access's pages (R84). -/
def State.spansOf (s : State) (f : Nat) (l : List (Nat × Nat)) : List (Nat × Nat) :=
  if bitAt (s.cfg 0x2017 f) 0 then l.filterMap (fun p => (s.leafFor f p.1).map Leaf.span) else []

/-- Count a fault in a function's domain (R76): FN_XLATE_FAULTS, FN_XLATE_LAST and, for WALK_ABORT, a DEFERRED
record, whose FAULT event names the function (R362). -/
def State.xlateFault (s : State) (f va code level : Nat) (k : AccKind) : State :=
  let kc := match k with | .read => 0 | .write => 1 | .atomic => 2 | .fetch => 3
  let s := s.modFn f (fun x => { x with
    xlateFaults := satAdd 32 x.xlateFaults 1
    xlateLast := pack [(0, 64, va), (64, 16, code), (80, 3, level), (83, 2, kc)] })
  if code = xWalkBus || code = xWalkRegion then s.fnFault code deferred f else s

/-! ### Walks (R72) -/

/-- Walks of an endpoint tile that have a table read outstanding. -/
def State.walksIn (s : State) (et : Nat) : Nat :=
  (s.walks.filter (fun w => etOf w.fn == et && w.tag.isSome)).length

/-- A walk in flight serves an access to the same 4 KiB page of the same domain (R72), checked by the same ranges: no
access mixes two sets of them (R86). -/
def samePage (ex : List Nat) (w : Walk) (f va : Nat) : Bool := w.fn == f && w.va / 4096 == va / 4096 && w.excl == ex && !w.stale

/-- Bit position of a level's index in an address (R66). -/
def levelShift (level : Nat) : Nat := 12 + 9 * (level - 1)

/-- Address of the entry a walk reads at its level (R66). -/
def Walk.entryAddr (w : Walk) : Nat := w.table + 8 * bf w.va (levelShift w.level) 9

/-- The requests of a translated access: each piece split at Max_Read_Request_Size (R34). -/
def State.requestsOf (s : State) (hp : Nat) (l : List (Nat × Nat)) : List (Nat × Nat) :=
  let m := max 1 (s.hostPort hp).mrrs
  l.flatMap (fun p => (List.range (ceilDiv p.2 m)).map (fun k => (p.1 + k * m, min m (p.2 - k * m))))

/-- Tags of the requests a port has outstanding on its link: each request has one of its own (R34). -/
def State.tagsOut (s : State) (hp : Nat) : List Nat :=
  (s.reads.filter (fun e => e.2.hp == hp)).flatMap (fun e => e.2.tags)

/-- The next `n` 14-bit tags from `t` on that are not in use (R34); the fuel is a whole turn of the tags. -/
def freshTags (used : List Nat) : Nat → Nat → Nat → List Nat
  | 0, _, _ => []
  | _ + 1, _, 0 => []
  | fuel + 1, t, n + 1 =>
    if used.contains (t % 16384) then freshTags used fuel (t + 1) (n + 1) else t % 16384 :: freshTags used fuel (t + 1) n

/-- A port has room for `n` more of its 8,192 outstanding requests (R34). -/
def State.readRoom (s : State) (hp n : Nat) : Bool := decide ((s.tagsOut hp).length + n ≤ 8192)

/-- Put a translated read on the link: its requests, each under a free tag (R34). -/
def State.issueRead (s : State) (num : Nat) (r : HostRead) (l : List (Nat × Nat)) : State :=
  let reqs := s.requestsOf r.hp l
  let tags := freshTags (s.tagsOut r.hp) 16384 (s.hostPort r.hp).nextReq reqs.length
  let s := s.modHost r.hp (fun h => { h with nextReq := (tags.getLastD (h.nextReq + 16383) + 1) % 16384 })
  { s with
    reads := Tbl.put s.reads num { r with pieces := some l, tags := tags }
    out := s.out ++ [Out.hostRead num r.hp r.fn (tags.zip reqs)] }

/-- Issue the table read of a walk and remember its number; a walk beyond the tile's 64, or a read beyond the port's
requests, waits (R34, R72). -/
def State.issueTable (s : State) (w : Walk) : State :=
  if s.walksIn (etOf w.fn) < 64 ∧ s.readRoom (etOf w.fn) 1 then
    ({ s with
      nextTag := s.nextTag + 1
      walks := s.walks ++ [{ w with tag := some s.nextTag }] } : State).issueRead s.nextTag
        { hp := etOf w.fn, fn := w.fn, addr := w.entryAddr, len := 8, use := .table } [(w.entryAddr, 8)]
  else { s with walks := s.walks ++ [{ w with tag := none }] }

/-- Start the oldest walk of a tile that waits. -/
def State.nextWalk (s : State) (et : Nat) : State :=
  match s.walks.find? (fun w => etOf w.fn == et && w.tag.isNone) with
  | some w => if s.walksIn et < 64 ∧ s.readRoom et 1 then ({ s with walks := s.walks.erase w } : State).issueTable w else s
  | none => s

/-- Start the walks of a tile that wait, as many as may run. -/
def State.startWalks : Nat → State → Nat → State
  | 0, s, _ => s
  | n + 1, s, et => State.startWalks n (s.nextWalk et) et

/-- Where a new walk starts: the walk buffer's lowest table that serves the address, or the root (R72, R78). -/
def State.walkStart (s : State) (f va : Nat) : Nat × Nat :=
  let fits := (s.et (etOf f)).ptrs.filter (fun p =>
    p.fn == f && va / 2 ^ (levelShift (p.level + 1)) == p.base / 2 ^ (levelShift (p.level + 1)))
  match (fits.filter (fun p => p.level == 1)).head?, (fits.filter (fun p => p.level == 2)).head?,
      (fits.filter (fun p => p.level == 3)).head? with
  | some p, _, _ => (1, p.table)
  | none, some p, _ => (2, p.table)
  | none, none, some p => (3, p.table)
  | none, none, none => (4, bf (s.cfg 0x2017 f) 12 40 * 2 ^ 12)

/-- Begin a walk for an address, or join the one in flight for its page (R72); `tag` is a read that waits for it, `ex`
the ranges the access is checked by. The answer carries a fault code when the table to read lies in a forbidden region
(R73 REGION). -/
def State.beginWalk (s : State) (ex : List Nat) (f va : Nat) (k : AccKind) (tag : Option Nat) : State × Option (Nat × Nat) :=
  if s.walks.any (fun w => samePage ex w f va) then
    ({ s with walks := s.walks.map (fun w =>
        if samePage ex w f va then { w with waits := w.waits ++ tag.toList } else w) }, none)
  else
    let (level, table) := s.walkStart f va
    if s.forbiddenBy ex (etOf f) table then (s, some (xWalkRegion, level))
    else
      let w : Walk := { fn := f, va := va, kind := k, level := level, table := table, waits := tag.toList, id := s.nextTag, excl := ex }
      ((({ s with nextTag := s.nextTag + 1 } : State).perf (8 + etOf f) 0x451 0x3F (some f) 1).issueTable w, none)

/-! ### Reads -/

/-- Mark a waiting read as ended by a translation fault; a work-entry fetch waits at its index and is retried
(R75). A fault that waits and is retried counts once (R76). -/
def State.readFault (s : State) (tag : Nat) (r : HostRead) (va code level : Nat) : State :=
  match r.use with
  | .entries c _ _ =>
    let again := (s.ctx r.fn c).w.fetchWait
    let s := s.modW r.fn c (fun w => { w with fetching := false, fetchWait := true })
    let s := { s with reads := Tbl.del s.reads tag }
    if again then s else s.xlateFault r.fn va code level .read
  | _ =>
    ({ s with reads := Tbl.put s.reads tag { r with fault := some code } }).xlateFault r.fn va code level r.kind

/-- Another atomic works on a word: its read is outstanding, or its new value waits to be issued (R264). -/
def State.wordBusy (s : State) (hp bus : Nat) : Bool :=
  s.reads.any (fun e => e.2.kind == .atomic && e.2.hp == hp && e.2.pieces == some [(bus, 8)])
    || s.fns.any (fun e => etOf e.1 == hp && e.2.writes.any (fun h => h.use == .bus && h.addr == bus && h.bytes.length == 8))

/-- One atomic at a time on each word (R264). -/
def State.atomBusy (s : State) (r : HostRead) (l : List (Nat × Nat)) : Bool :=
  r.kind == .atomic && l.any (fun p => s.wordBusy r.hp p.1)

/-- The cached value of an atomic's word (R265). -/
def State.cachedWord (s : State) (f bus : Nat) : Option Nat :=
  if s.cfg 0x5034 (etOf f + 1) = 1 then
    ((s.et (etOf f)).atoms.find? (fun x => x.fn == f && x.bus == bus)).map (·.val)
  else none

/-- Issue a read whose pages are all translated, unless it must wait for its word or for the port's requests. An atomic whose
word the cache holds by then needs no read (R265). -/
def State.readTranslated (s : State) (tag : Nat) (r : HostRead) (l : List (Nat × Nat)) : State :=
  if s.atomBusy r l || !s.readRoom r.hp (s.requestsOf r.hp l).length then { s with reads := Tbl.put s.reads tag r }
  else
    let r := { r with spans := s.spansOf r.fn (pagePieces r.addr r.len) }
    match (if r.kind = .atomic then (l.head?).bind (fun p => s.cachedWord r.fn p.1) else none) with
    | some v => { s with reads := Tbl.put s.reads tag { r with pieces := some l, hit := some v } }
    | none =>
    let s := s.issueRead tag r l
    let s := s.perf (8 + r.hp) 0x460 0x3F (some r.fn) r.len
    let s := match r.use with
      | .entries c _ _ => s.modW r.fn c (fun w => { w with fetchWait := false })
      | _ => s
    s.perf (8 + r.hp) 0x450 0x3F (some r.fn) 1

/-- Try to issue a read: all its pages translated, or a walk, or a fault. Its checks all use the ranges in force at the
first of them (R86). -/
def State.tryRead (s : State) (tag : Nat) : State :=
  match Tbl.get? s.reads tag with
  | none => s
  | some r =>
    if r.pieces.isSome || r.fault.isSome || r.dead then s
    else
      let ex := r.excl.getD (s.excl r.hp)
      match s.lookupAllBy ex r.fn r.kind (pagePieces r.addr r.len) with
      | (l, none) => s.readTranslated tag { r with excl := some ex } l
      | (_, some (a, .fault code level)) => s.readFault tag r a code level
      | (_, some (a, _)) =>
        match ({ s with reads := Tbl.put s.reads tag { r with excl := some ex } } : State).beginWalk ex r.fn a r.kind (some tag) with
        | (s, some (code, level)) => s.readFault tag r a code level
        | (s, none) => s

/-- Read host memory at an address of a function's domain. -/
def State.hostReadReq (s : State) (f va len : Nat) (use : ReadFor) (kind : AccKind := .read) : State :=
  let tag := s.nextTag
  ({ s with
    nextTag := s.nextTag + 1
    reads := Tbl.put s.reads tag { hp := etOf f, fn := f, addr := va, len := len, use := use, kind := kind } }).tryRead tag

/-! ### Cache -/

/-- Put a leaf into the cache; a full cache loses a victim that the spec's LFSR draws (R78). -/
def State.cacheLeaf (s : State) (l : Leaf) : State :=
  let et := etOf l.fn
  if (s.et et).cache.length < 1024 then s.modEt et (fun e => { e with cache := e.cache ++ [l] })
  else (s.modEt et (fun e => { e with cache := e.cache.eraseIdx (s.freeVal 16 % 1024) ++ [l] })).nextFree

/-- Put a pointer into the walk buffer, as for the cache. -/
def State.cachePtr (s : State) (p : WalkPtr) : State :=
  let et := etOf p.fn
  if (s.et et).ptrs.length < 256 then s.modEt et (fun e => { e with ptrs := e.ptrs ++ [p] })
  else (s.modEt et (fun e => { e with ptrs := e.ptrs.eraseIdx (s.freeVal 16 % 256) ++ [p] })).nextFree

/-- A leaf's span overlaps a range of addresses. -/
def Leaf.overlaps (l : Leaf) (lo hi : Nat) : Bool := decide (l.base ≤ hi) && decide (lo < l.base + 2 ^ l.log2)

/-- A pointer spans everything its table maps (R82). -/
def WalkPtr.overlaps (p : WalkPtr) (lo hi : Nat) : Bool :=
  let w := levelShift (p.level + 1)
  decide (p.base / 2 ^ w * 2 ^ w ≤ hi) && decide (lo < p.base / 2 ^ w * 2 ^ w + 2 ^ w)

/-- The pointer through which a walk reads its present table (R72); the root's span is the whole domain. -/
def Walk.pointer (w : Walk) : WalkPtr := { fn := w.fn, base := w.va, level := w.level, table := w.table }

/-- An invalidation of a range meets a walk in flight: the range is noted for the entries the walk has still to find, and
a pointer it has come by that overlaps the range, or its own page in the range, makes it stale (R84). -/
def Walk.meets (w : Walk) (lo hi : Nat) : Walk :=
  { w with
    since := w.since ++ [(lo, hi)]
    stale := w.stale || (decide (w.va / 4096 * 4096 ≤ hi) && decide (lo < w.va / 4096 * 4096 + 4096))
      || (decide (w.level < 4) && w.pointer.overlaps lo hi) }

/-- Drop every cached leaf and pointer of a function that overlaps a range; walks of it that began before lose
their result if it overlaps (R82, R84). -/
def State.invalidate (s : State) (f lo hi : Nat) : State :=
  let s := s.modEt (etOf f) (fun e => { e with
    cache := e.cache.filter (fun l => !(l.fn == f && l.overlaps lo hi))
    ptrs := e.ptrs.filter (fun p => !(p.fn == f && p.overlaps lo hi)) })
  { s with walks := s.walks.map (fun w => if w.fn = f then w.meets lo hi else w) }

end Sys2Proof.Machine
end

