-- ==== Sys2Proof/Machine/Events.lean ====
section
/-! DEFINITION. Writes to host memory in issue order, event queues and interrupt moderation (R49, R50, R56 to R59),
the completion point of remote writes (R268), and what a translation fault of a write does (R75). -/

namespace Sys2Proof.Machine

/-! ### Queued writes -/

/-- Append a write of a function's domain to its list, one piece per page. -/
def State.queueWrite (s : State) (f addr : Nat) (bytes : List Byte) (use : AddrUse) (land : Option Landing := none) : State :=
  let ps := (pagePieces addr bytes.length).map (fun p =>
    { addr := p.1, bytes := (bytes.drop (p.1 - addr)).take p.2, use := use, more := decide (p.1 + p.2 < addr + bytes.length),
      land := land.map (fun l => if p.1 + p.2 < addr + bytes.length then { l with slots := 0 } else l) : HeldWrite })
  s.modFn f (fun x => { x with writes := x.writes ++ ps })

/-- Append an event for queue q. -/
def State.queueEvent (s : State) (f q : Nat) (e : Event) : State :=
  s.modFn f (fun x => { x with writes := x.writes ++ [{ use := .event q, ev := some e }] })

/-- True while a write of this use waits. -/
def State.writePending (s : State) (f : Nat) (use : AddrUse) : Bool := (s.fn f).writes.any (fun w => w.use == use)

/-! ### Finishing conditions (R49, R271) -/

/-- UNA has passed the entry's last packet. -/
def Entry.acked (e : Entry) (una : U32) : Bool :=
  e.sent == e.total && decide (0 < e.total) && decide (dist una (e.lastPsn + 1) < 2 ^ 31)

/-- The opcode's finishing condition holds. -/
def Entry.met (e : Entry) (una : U32) (eager : Bool) : Bool :=
  let op := wOpcode e.words.toNat
  if op == opSend then e.acked una && (eager || e.fin)
  else if op == opWrite || op == opWriteNotify then e.acked una && e.awaited == 0
  else if op == opRead || isAtomic op then e.sent == e.total && decide (0 < e.total) && e.awaited == 0
  else false

/-- First status other than OK among the responses, in PSN order (R271). -/
def Entry.firstBad (e : Entry) : Nat :=
  match e.bad.foldl (fun a p => match a with
      | none => some p
      | some q => if p.1 < q.1 then some p else a) (none : Option (Nat × Nat)) with
  | some p => p.2
  | none => 0

/-- Finish the started entries of a context whose condition holds: a READ's and an atomic's landed bytes must have been
issued too (R271). -/
def State.settle (s : State) (f c : Nat) : State :=
  let una := (s.ctx f c).c.una
  s.modW f c (fun w => { w with entries := w.entries.map (fun e =>
    if e.st = .started ∧ e.met una (!e.rndv) ∧ !s.writePending f (.landing c e.idx) then
      let st := e.own.getD e.firstBad
      { e with st := .done st (if st = 0 then wLength e.words.toNat else 0) }
    else e) })

/-! ### Contexts away in their spill region (R198) -/

/-- A context's spill home (R198). -/
def State.spillHome (s : State) (f c : Nat) : Nat := bf (s.cfg 0x5012 f) 12 45 * 2 ^ 12 + 256 * c

/-- Spill reads a tile has outstanding (R198). -/
def State.missesIn (s : State) (h : Nat) : Nat :=
  (s.reads.filter (fun e => e.2.hp == h && (match e.2.use with | .spill _ => true | _ => false))).length

/-- Bring a spilled context back: one read of its record. With 1,024 misses outstanding in the tile the work waits
(R198). -/
def State.startFill (s : State) (f c : Nat) : State :=
  if (s.ctx f c).resident || (s.ctx f c).filling || (s.ctx f c).w.lost || decide (1024 ≤ s.missesIn (etOf f)) then s
  else
    let s := ((s.modCtx f c (fun y => { y with filling := true })).tCount (etOf f) 12).perf (8 + etOf f) 0x420 0x3F (some f) 1
    s.hostReadReq f (s.spillHome f c) 256 (.spill c)

/-- A context's work may be done: it is resident, or lost and beyond filling (R198, R199). -/
def CtxAll.here (y : CtxAll) : Bool := y.resident || y.w.lost

/-- Do a context's work, which must be resident to be done: a spilled one is brought back first (R198). -/
def State.atHome (s : State) (f c : Nat) (go : State → State) : State :=
  if (s.ctx f c).here then go s else s.startFill f c

/-! ### Send-queue heads (R49, R50) -/

/-- Entries at the front that have finished. -/
def frontFinished : List Entry → Nat
  | [] => 0
  | e :: r => if e.st = .finished then frontFinished r + 1 else 0

/-- Queue the head-index write. -/
def State.queueHead (s : State) (f c : Nat) : State :=
  let x := (s.ctx f c).c
  s.queueWrite f x.headAddr (natLe 4 x.head.toNat) (.head c)

/-- Advance the head over its finished entries; write it at once when it reaches the last accepted doorbell or
64 entries have passed since the last head write. -/
def State.advanceHead (s : State) (f c : Nat) : State :=
  let n := frontFinished (s.ctx f c).w.entries
  if n = 0 then s
  else s.atHome f c fun s =>
    let s := s.modCtx f c (fun y => { y with
      c := { y.c with head := y.c.head + BitVec.ofNat 32 n }
      w := { y.w with entries := y.w.entries.drop n, headLag := some (y.w.headLag.getD s.etNow) } })
    let y := s.ctx f c
    if y.c.head = y.c.sqDb ∨ 64 ≤ dist y.c.head y.w.headMem then s.queueHead f c else s

/-- Mark an entry finished: its STATUS and event are written. -/
def State.entryFinished (s : State) (f c : Nat) (idx : U32) : State :=
  ((s.modEntry f c idx (fun e => { e with st := .finished })).fnCtr f 0 1).perf (8 + etOf f) 0x401 0x3F (some f) 1
    |>.advanceHead f c

/-! ### The completion point of remote writes (R266, R268) -/

/-- Save a response for its request's duplicates (R266). -/
def State.saveResp (s : State) (f c : Nat) (psn : U32) (opc rkey raddr status : Nat) (data : List Byte) : State :=
  s.modEt (etOf f) (fun e => { e with saved := e.saved ++
    [{ fn := f, ctx := c, psn := psn, opc := opc, rkey := rkey, raddr := raddr, status := status, data := data,
       at_ := s.etNow, ttl := s.cfg 0x5033 1 * us }] })

/-- Send a response once for the request and once for each duplicate that came while it was in progress (R266). -/
def State.sendResps : Nat → State → Nat → Nat → U32 → Nat → List Byte → State
  | 0, s, _, _, _, _, _ => s
  | n + 1, s, f, c, psn, hdr, data => State.sendResps n (s.sendResp f c psn hdr data) f c psn hdr data

/-- Step 2 and 3 of R268 for an accepted LAST packet: the completion response with the kept status, saved, and an
ACK with it. -/
def State.lastDone (s : State) (f c : Nat) (l : LastPkt) : State :=
  let kept := (s.ctx f c).w.kept
  let s := State.sendResps (1 + l.dups) s f c l.psn (rmaHdr l.opc false kept l.rkey l.raddr 0 0) []
  let s := s.saveResp f c l.psn l.opc l.rkey l.raddr kept []
  let s := s.modW f c (fun w => { w with kept := 0, lasts := w.lasts.filter (fun y => y.psn != l.psn) })
  s.ackNow f c

/-- The first accepted LAST packet, once RX_EPSN has passed it and every payload write is issued. -/
def State.lastReady (s : State) (f c : Nat) : Option LastPkt :=
  match (s.ctx f c).w.lasts.head? with
  | some l =>
    let d := dist (s.ctx f c).c.rxEpsn l.psn
    if 1 ≤ d ∧ d < 2 ^ 31 ∧ !l.waitEv ∧ !s.writePending f (.window c) then some l else none
  | none => none

/-- Complete accepted LAST packets in PSN order (R268): a NOTIFY first where one is due, and the response after
it. -/
def State.completeLasts : Nat → State → Nat → Nat → State
  | 0, s, _, _ => s
  | n + 1, s, f, c =>
    match s.lastReady f c with
    | none => s
    | some l =>
      if l.opc = opWriteNotify ∧ (s.ctx f c).w.kept = 0 then
        let s := s.modW f c (fun w => { w with lasts := w.lasts.map (fun y => if y.psn = l.psn then { y with waitEv := true } else y) })
        (s.queueEvent f l.eq
          { type := evNotify, context := c, source := l.source, info := pack [(0, 32, l.notify), (32, 32, l.rkey)],
            length := l.xlen, notify := some (c, l.psn) }).rCount (etOf f) 3
      else State.completeLasts n (s.lastDone f c l) f c

/-- Complete what R268 lets complete on a context. -/
def State.completeAll (s : State) (f c : Nat) : State := State.completeLasts ((s.ctx f c).w.lasts.length) s f c

/-! ### Event queues -/

/-- Occupancy of an event queue (R58). -/
def EventQ.used (q : EventQ) : Nat := dist q.producer q.consumer

/-- A full event queue (R58). -/
def EventQ.full (q : EventQ) : Bool := decide (2 ^ q.log2 ≤ q.used)

/-- A receive queue is congested while an event waits for it; a full queue holds the next event's payload in the
same way (R245 and its worked example). -/
def State.congested (s : State) (f q : Nat) : Bool :=
  match s.eq? f q with
  | some e => e.full || !e.waiting.isEmpty
  | none => false

/-- The queue's moderation conditions hold (R59). -/
def EventQ.due (q : EventQ) (now : Nat) : Bool :=
  q.armed && q.vector != 0xFFFF && decide (0 < q.counted)
    && (decide (max 1 q.modCount ≤ q.counted) || q.modTime == 0
      || (match q.timerAt with | some t => decide (t + 100 * q.modTime ≤ now) | none => false))

/-- Send a function's MSI-X message; while MSI-X is off or the vector is masked its pending bit is set instead (R59,
PRESUMED of the base specification, log entry 133). -/
def State.msixSend (s : State) (f v : Nat) : State :=
  let m := (s.fn f).msix
  let e := m.table.getD v {}
  if m.enable && !m.fmask && !e.masked then s.emit (.msix (etOf f) f v e.addr e.data)
  else s.modFn f (fun x => { x with msixPend := if x.msixPend.contains v then x.msixPend else x.msixPend ++ [v] })

/-- Send the queue's message if its conditions hold; that clears the flag (R59). -/
def State.moderate (s : State) (f q : Nat) : State :=
  match s.eq? f q with
  | none => s
  | some e =>
    if e.due s.etNow then
      (s.modEq f q (fun e => { e with armed := false, counted := 0, timerAt := none })).msixSend f e.vector
    else s

/-- An event has been written: it counts toward the armed flag, and what it held goes on (R49, R268). -/
def State.eventWritten (s : State) (f q : Nat) (e : Event) : State :=
  let s := s.modEq f q (fun x => { x with
    producer := x.producer + 1
    counted := if x.armed then x.counted + 1 else x.counted
    timerAt := if x.armed then some (x.timerAt.getD s.etNow) else x.timerAt })
  let s := ((s.moderate f q).fnCtr f 7 1).perf (8 + etOf f) 0x470 0x3F (some f) 1
  let s := match e.holds with
    | some (c, idx) => s.entryFinished f c idx
    | none => s
  match e.notify with
  | some (c, psn) =>
    match (s.ctx f c).w.lasts.find? (fun l => l.psn = psn) with
    | some l => (s.lastDone f c l).completeAll f c
    | none => s
  | none => s

/-- Events of types 0x05 to 0x08 that find no queue 0, or find it full, are counted and dropped (R58). -/
def State.asyncDrop (s : State) (f : Nat) : State := s.modFn f (fun x => { x with asyncDrops := satAdd 32 x.asyncDrops 1 })

/-- Let an event wait inside the device, in order. -/
def State.eventWaits (s : State) (f q : Nat) (e : Event) : State :=
  s.modEq f q (fun x => { x with waiting := x.waiting ++ [e] })

/-! ### Contexts that end -/

/-- End every entry of a context with CONTEXT_LOST but one, which ends with `st` (R195, R211, R212); nothing more
is sent for it, STATE becomes CLOSING, and its matching state is closed (R250). A receive a message has committed
to finishes with its message. -/
def State.endContext (s : State) (f c : Nat) (one : Option U32) (st : Nat) : State :=
  (s.modCtx f c (fun y => { y with
    c := { y.c with state := if y.c.state = 0 then 0 else 2 }
    w := { y.w with
      entries := y.w.entries.map (fun e => if some e.idx = one then e.finish st else
        (if e.open && !(wOpcode e.words.toNat == opRecv && e.st == .started) then e.finish stLost else e))
      cur := none, replay := [], resends := [], owed := [], rtoAt := none }
    m := { y.m with rnr := none, refused := [] } })).closeMatching f c |>.replayWatch (etOf f)

/-- A context is lost: its outstanding work completes with CONTEXT_LOST (R24, R75, R199). -/
def State.loseContext (s : State) (f c : Nat) : State :=
  (s.endContext f c none stLost).modW f c (fun w => { w with lost := true })

/-! ### Faults of a write (R75) -/

/-- Bytes of a buffer's writes that wait behind one that faulted. -/
def State.waitingBytes (s : State) (f c : Nat) (idx : U32) : Nat :=
  (((s.fn f).writes.filter (fun h => h.use == .recvBuf c idx)).map (fun h => h.bytes.length)).foldl (· + ·) 0

/-- The receive that a buffer write of n bytes belonged to ends with XLATE: the bytes written before the fault count
(R244). -/
def State.recvFault (s : State) (f c : Nat) (idx : U32) (n : Nat) : State :=
  { s with ctxs := s.ctxs.map (fun e =>
      if e.1 / 2 ^ 20 = f then
        (e.1, { e.2 with m := { e.2.m with msgs := e.2.m.msgs.map (fun m =>
          match m.recv with
          | some r =>
            if r.ctx = c ∧ r.idx = idx ∧ m.status = 0
            then { m with status := stXlate, written := m.written - (n + s.waitingBytes f c idx) } else m
          | none => m) } })
      else e) }

/-- A receive that has ended and whose event has still to be written counts some bytes less (R244). -/
def Entry.unwrite (e : Entry) (n : Nat) : Entry :=
  match e.st with
  | .done _ _ => { e with recvEv := e.recvEv.map (fun v => { v with length := v.length - n }) }
  | _ => e

/-- A write waits no more: the landing slots it held are free (R243), its message may end (R244), and an ACK may have
waited for it (R208). -/
def State.written (s : State) (f : Nat) (h : HeldWrite) : State :=
  let s := match h.land with
    | some l => ((s.returnFor f l.ctx l.msn l.slots).landWatch (etOf f)).tryEnd f l.ctx l.msn
    | none => s
  match h.arrival with
  | some c => s.ackIfDue f c
  | none => s

/-- A record of the central reader is lost: a snapshot is marked in the next, a queue sample in its port's next block (R186,
R367). -/
def State.recordLost (s : State) (rtype port : Nat) : State :=
  if rtype = 1 then { s with ctrs := { s.ctrs with lostSnap := true } }
  else if rtype = 2 then s.modPortq (port % 64) (fun q => { q with lost := true })
  else s

/-- Every record whose index write has not been issued is lost. -/
def State.ringLost (s : State) : State :=
  let s' := s.ctrs.inRing.foldl (fun s e => s.recordLost e.1 e.2) s
  { s' with ctrs := { s'.ctrs with inRing := [] } }

/-- The pieces of one access at the front of a list of waiting writes. -/
def restOf : List HeldWrite → List HeldWrite
  | [] => []
  | h :: r => if h.more then restOf r else r

/-- Drop the further pieces of the write that has just left the list: a faulted access ends there. -/
def State.dropPieces (s : State) (f : Nat) : State := s.modFn f (fun x => { x with writes := restOf x.writes })

/-- What a write that cannot be translated leaves (R75), with its fault counted. -/
def State.writeFault (s : State) (f : Nat) (h : HeldWrite) (code level va : Nat) : State :=
  match h.use with
  | .head c =>
    let again := (s.ctx f c).w.headWait
    let s := s.modW f c (fun w => { w with headWait := true })
    if again then s else s.xlateFault f va code level .write
  | .event q =>
    if q = 0 then (s.asyncDrop f).xlateFault f va code level .write
    else
      let again := match s.eq? f q with | some e => e.faulted | none => false
      let s := match h.ev with | some e => s.eventWaits f q e | none => s
      let s := s.modEq f q (fun x => { x with faulted := true })
      if again then s else s.xlateFault f va code level .write
  | .recvBuf c idx =>
    ((s.recvFault f c idx h.bytes.length).modEntry f c idx (fun e =>
      if e.open then e else (e.fail stXlate).unwrite h.bytes.length)).xlateFault f va code level .write
  | .result c idx => (s.modEntry f c idx (fun e => e.fail stXlate)).xlateFault f va code level .write
  | .window c =>
    let s := ((s.modW f c (fun w => { w with kept := if w.kept = 0 then stRemote else w.kept })).rCount (etOf f) 9).xlateFault f va code level .write
    if s.writePending f (.window c) then s else s.completeAll f c
  | .overflow c msn =>
    (s.modMsg f c msn (fun m => { m with status := if m.status = 0 then stXlate else m.status })).xlateFault f va code level .write
  | .spill c => (s.loseContext f c).xlateFault f va code level .write
  | .ring | .ringIndex =>
    let s := s.modFn f (fun x => { x with writes := x.writes.filter (fun w => w.use != .ring && w.use != .ringIndex) })
    let s := s.ringLost
    let s := { s with ctrs := { s.ctrs with
        drops := satAdd 64 s.ctrs.drops 1, producer := s.ctrs.wrote, waitRec := none } }
    let s := s.setCfg 0xA002 1 0
    (s.report { code := 0x0270, cls := deferred, tile := 13, fn := some f }).xlateFault f va code level .write
  | .behalf m =>
    ((if h.more then s.dropPieces f else s).xlateFault f va code level .write).emit (.accessResp (.die m) stXlate [])
  | .status _ _ | .payload _ => s.xlateFault f va code level .write
  | .landing _ _ | .bus => s

/-- After a piece has been issued: a head write that lands, a window write's completions. -/
def State.writeIssued (s : State) (f : Nat) (h : HeldWrite) : State :=
  match h.use with
  | .head c =>
    s.modW f c (fun w => { w with
      headMem := BitVec.ofNat 32 (leNat h.bytes), headWait := false, zeroOwed := false,
      headLag := if (s.ctx f c).c.head.toNat = leNat h.bytes then none else w.headLag })
  | .window c => if s.writePending f (.window c) then s else s.completeAll f c
  | .ringIndex => { s with ctrs := { s.ctrs with wrote := BitVec.ofNat 32 (leNat h.bytes), inRing := s.ctrs.inRing.drop 1 } }
  | .behalf m => if h.more then s else s.emit (.accessResp (.die m) stOk [])
  | .landing c _ => s.settle f c
  | _ => s

/-- Atomics in flight whose word an event drops from the cache: what they read is not cached (R265). -/
def State.uncache (s : State) (is_ : HostRead → Bool) : State :=
  { s with reads := s.reads.map (fun (e : Nat × HostRead) =>
      if e.2.kind == .atomic && is_ e.2 then (e.1, { e.2 with noCache := true }) else e) }

/-- A WRITE placed over a cached word drops it (R265). -/
def State.dropAtoms (s : State) (h bus len : Nat) : State :=
  (s.modEt h (fun e => { e with atoms := e.atoms.filter (fun a => !(decide (a.bus < bus + len) && decide (bus < a.bus + 8))) })).uncache
    (fun r => r.hp == h && (r.pieces.getD []).any (fun p => decide (p.1 < bus + len) && decide (bus < p.1 + 8)))

/-- Drop the first waiting write. -/
def State.popWrite (s : State) (f : Nat) : State := s.modFn f (fun x => { x with writes := x.writes.drop 1 })

/-- A write whose address is a bus address already (R65, R269). -/
def AddrUse.held : AddrUse → Bool
  | .bus | .landing _ _ => true
  | _ => false

/-- All pieces of the access at the front are checked by these ranges. -/
def checkedBy (ex : List Nat) : List HeldWrite → List HeldWrite
  | [] => []
  | h :: r => { h with excl := some ex } :: (if h.more then checkedBy ex r else r)

/-- The first waiting write, with the further pieces of its access, is checked by these ranges from now on (R86). -/
def State.writeExcl (s : State) (f : Nat) (ex : List Nat) : State :=
  s.modFn f (fun x => { x with writes := checkedBy ex x.writes })

/-- Issue a function's waiting writes in order, as far as translation lets them go (R34, R61). -/
def State.drain : Nat → State → Nat → State
  | 0, s, _ => s
  | n + 1, s, f =>
    match (s.fn f).writes.head? with
    | none => s
    | some h =>
      match h.ev with
      | some e =>
        match h.use with
        | .event q =>
          match s.eq? f q with
          | none => State.drain n (if q = 0 then (s.popWrite f).asyncDrop f else s.popWrite f) f
          | some eq =>
            if eq.full || !eq.waiting.isEmpty then
              State.drain n (if q = 0 then (s.popWrite f).asyncDrop f else (s.popWrite f).eventWaits f q e) f
            else
              let a := eq.base + 32 * (eq.producer.toNat % 2 ^ eq.log2)
              let ex := h.excl.getD (s.excl (etOf f))
              match s.lookupBy ex f a .write with
              | .ok b =>
                let s := (s.popWrite f).hostWrite f b (e.bytes (!bitAt eq.producer.toNat eq.log2))
                State.drain n ((s.modEq f q (fun x => { x with faulted := false })).eventWritten f q e) f
              | .fault code level => State.drain n ((s.popWrite f).writeFault f h code level a) f
              | .miss =>
                match (s.writeExcl f ex).beginWalk ex f a .write none with
                | (s, some (code, level)) => State.drain n ((s.popWrite f).writeFault f h code level a) f
                | (s, none) => s
        | _ => State.drain n (s.popWrite f) f
      | none =>
        let ex := h.excl.getD (s.excl (etOf f))
        match (if h.use.held then XRes.ok h.addr else s.lookupBy ex f h.addr .write) with
        | .ok b =>
          let s := (((if h.more then s.writeExcl f ex else s).popWrite f).hostWrite f b h.bytes).perf (8 + etOf f) 0x461 0x3F (some f) h.bytes.length
          let s := match h.use with
            | .window _ => s.dropAtoms (etOf f) b h.bytes.length
            | _ => s
          State.drain n ((s.writeIssued f h).written f h) f
        | .fault code level => State.drain n (((s.popWrite f).writeFault f h code level h.addr).written f h) f
        | .miss =>
          match (s.writeExcl f ex).beginWalk ex f h.addr .write none with
          | (s, some (code, level)) => State.drain n (((s.popWrite f).writeFault f h code level h.addr).written f h) f
          | (s, none) => s

/-- Issue what can be issued: each waiting write may add one more (a head after an event, a NOTIFY after a
window write). In a checkstop the tiles stand still, and none leaves (R363). -/
def State.flushWrites (s : State) (f : Nat) : State := if s.faults.checkstop then s else State.drain (3 * (s.fn f).writes.length + 3) s f

/-- Write bytes at an address of a function's domain. -/
def State.put (s : State) (f addr : Nat) (bytes : List Byte) (use : AddrUse) (land : Option Landing := none) : State :=
  (s.queueWrite f addr bytes use land).flushWrites f

/-- Write an event. -/
def State.post (s : State) (f q : Nat) (e : Event) : State := (s.queueEvent f q e).flushWrites f

/-- Post an event of types 0x05 to 0x08 on the function's queue 0 (R58). -/
def State.postAsync (s : State) (f : Nat) (e : Event) : State := s.post f 0 e

/-- Space has come to a queue: its waiting events go first, in the order they arose. -/
def State.retryEvents (s : State) (f q : Nat) : State :=
  match s.eq? f q with
  | none => s
  | some e =>
    let hs : List HeldWrite := e.waiting.map (fun v => { use := .event q, ev := some v })
    let s := s.modEq f q (fun x => { x with waiting := [] })
    (s.modFn f (fun x => { x with writes := hs ++ x.writes })).flushWrites f

end Sys2Proof.Machine
end

