-- ==== Sys2Proof/Machine/Contexts.lean ====
section
/-! DEFINITION. Contexts at rest: quotas (R39, R40), residency and spill records (R198, R199), entry fetches (R48),
landing slots and credits (R213), tombstones (R196). -/

namespace Sys2Proof.Machine

/-! ### Quotas (R40) -/

/-- NumVFs in force on a host port. -/
def State.numVfs (s : State) (h : Nat) : Nat := if (s.hostPort h).vfEnable then (s.hostPort h).numVfs else 0

/-- A quota: the written value, or the pool's share while it holds the value that means "share" (R40). -/
def State.quota (s : State) (idx f share pool cap : Nat) : Nat :=
  if s.cfg idx f = share then min cap (pool / (s.numVfs (etOf f) + 1)) else s.cfg idx f

def State.ctxQuota (s : State) (f : Nat) : Nat := s.quota 0x2012 f 0xFFFFFFFF 262144 262144
def State.eqQuota (s : State) (f : Nat) : Nat := s.quota 0x2013 f 0xFFFF 16384 4096
def State.matchQuota (s : State) (f : Nat) : Nat := s.quota 0x6011 f 0xFFFFFFFF 131072 131072
def State.winQuota (s : State) (f : Nat) : Nat := s.quota 0x5031 f 0xFFFF 8192 8192

/-- A function exists and is not in reset (R38, R61). -/
def State.present (s : State) (f : Nat) : Bool := (s.fn f).state == 1

/-- Event queues of a function. -/
def State.eqsOf (s : State) (f : Nat) : Nat := (s.eqs.filter (fun e => e.1 / 2 ^ 12 == f)).length

/-- On-chip slots a function holds, and a port's (R198). -/
def State.slotsOf (s : State) (f : Nat) : Nat :=
  (s.ctxs.filter (fun e => e.1 / 2 ^ 20 == f && e.2.resident && e.2.c.state != 0)).length
def State.slotsIn (s : State) (h : Nat) : Nat :=
  (s.ctxs.filter (fun e => etOf (e.1 / 2 ^ 20) == h && e.2.resident && e.2.c.state != 0)).length

/-- Any open or closing context of a function. -/
def State.anyCtx (s : State) (f : Nat) : Bool := s.ctxs.any (fun e => e.1 / 2 ^ 20 == f && e.2.c.state != 0)

/-! ### Spill records (R198 to R200) -/

def State.spillOn (s : State) (f c : Nat) : Bool :=
  bitAt (s.cfg 0x5012 f) 0 && decide (c < 2 ^ bf (s.cfg 0x5012 f) 1 5)

/-- The 248 bytes before CHECK (R199): the record, working state and matching state; bytes whose format is not
defined are free. -/
def State.spillBody (s : State) (f c : Nat) : List Byte :=
  let y := s.ctx f c
  natLe 64 y.c.record ++ (List.range 64).map (Config.freeByte s.free)
    ++ natLe 4 y.m.txMsn.toNat ++ natLe 4 y.m.rxMsn.toNat ++ natLe 1 (b2n y.m.inorder) ++ natLe 1 y.m.rnrRounds
    ++ (List.range 54).map (fun i => Config.freeByte s.free (64 + i)) ++ List.replicate 56 0

/-- CHECK of a spill record (R199). -/
def spillCheck (f c : Nat) (body : List Byte) : Nat := crc32c (body ++ natLe 1 f ++ natLe 3 c)

/-- A context's record read back from its 64 bytes (R190). -/
def ctxOfRecord (old : Ctx) (v : Nat) : Ctx :=
  let db : U32 := BitVec.ofNat 32 (bf v 228 32)
  let next : U32 := BitVec.ofNat 32 (bf v 294 32)
  { old with
    state := bf v 0 2, sqLog2 := bf v 2 5, sqEq := bf v 7 12, rqEq := bf v 19 12, inc := bf v 32 16,
    peerInc := bf v 48 16, peerDev := bf v 64 20, peerForm := bitAt v 84, peerFn := bf v 85 8, peerCtx := bf v 93 20,
    rxPend := bf v 113 7, sqBase := bf v 128 45 * 2 ^ 12, headAddr := bf v 173 55 * 4, sqDb := db,
    head := db - BitVec.ofNat 32 (bf v 260 17), fetch := db - BitVec.ofNat 32 (bf v 277 17), nextPsn := next,
    una := next - BitVec.ofNat 32 (bf v 326 7), retries := bf v 333 3, rxEpsn := BitVec.ofNat 32 (bf v 336 32),
    rxMap := BitVec.ofNat 64 (bf v 368 64), txUsed := BitVec.ofNat 16 (bf v 432 16),
    txLimit := BitVec.ofNat 16 (bf v 448 16), rxLimit := BitVec.ofNat 16 (bf v 464 16), rate := bf v 480 12,
    rttEst := bf v 492 12 }

/-- A context holds something that keeps it from eviction (R225). -/
def State.pinned (s : State) (f c : Nat) : Bool :=
  let y := s.ctx f c
  y.m.msgs.any (fun m => m.st == .shadow || ((m.st == .matched || m.st == .unexpected) && !m.complete)) || !y.m.refused.isEmpty || !y.w.owed.isEmpty
    || (s.et (etOf f)).rndv.any (fun r => r.fn == f && r.ctx == c)

/-- The tile works on a context's behalf: an entry fetch, a packet on its way through the engines, an operation at the
target, or a WRITE whose completion is due. Its slot counts as referenced until then (DESIGN CHOICE, log entry 145). -/
def State.working (s : State) (f c : Nat) : Bool :=
  let e := s.et (etOf f)
  (s.ctx f c).w.fetching || !(s.ctx f c).w.lasts.isEmpty || e.targets.any (fun t => t.fn == f && t.ctx == c)
    || (e.items ++ e.heldItems).any (EngItem.ofCtx f c) || e.ops.any (fun o => o.1 == f && o.2.1 == c)

/-- Contexts of a function that may be evicted, in slot order from the sweep's position (R198). -/
def State.evictable (s : State) (f : Nat) : List Nat :=
  let cs := (s.ctxs.filter (fun e => e.1 / 2 ^ 20 == f && e.2.resident && e.2.c.state != 0 && !e.2.w.lost)).map (fun e => e.1 % 2 ^ 20)
  let cs := cs.filter (fun c => s.spillOn f c && !s.pinned f c && !s.working f c)
  let at_ := (s.et (etOf f)).sweep
  cs.filter (fun c => at_ ≤ c) ++ cs.filter (fun c => c < at_)

/-- The clock sweep's victim: the first that is not referenced; those it passes lose their mark (R198). -/
def State.victim (s : State) (f : Nat) : Option Nat :=
  let cs := s.evictable f
  (cs.find? (fun c => !(s.ctx f c).refd)).or cs.head?

/-- Evict a context: its marks pass, its spill record is written, its slot is free (R198). -/
def State.evict (s : State) (f c : Nat) : State :=
  let passed := (s.evictable f).takeWhile (· != c)
  let s := passed.foldl (fun s d => s.modCtx f d (fun y => { y with refd := false })) s
  let s := s.modEt (etOf f) (fun e => { e with sweep := c + 1 })
  let body := s.spillBody f c
  let s := (s.modCtx f c (fun y => { y with resident := false, refd := false })).nextFree
  (s.put f (s.spillHome f c) (body ++ natLe 4 (spillCheck f c body) ++ natLe 4 0) (.spill c)).tCount (etOf f) 14

/-- A slot for one more resident context of the function, evicting if it must (R198); none when none can be had. -/
def State.makeRoom (s : State) (f : Nat) : Option State :=
  if s.slotsOf f < s.ctxQuota f ∧ s.slotsIn (etOf f) < 262144 then some s
  else (s.victim f).map (s.evict f)

/-! ### Entry fetches (R48) -/

/-- Modes in which entries are fetched and started (R331, R338). -/
def State.entriesRun (s : State) : Bool :=
  (s.inMode .run || s.inMode .test) && !s.mode.quiesced && !s.faults.checkstop

/-- Entries of the next run: up to 64, to the end of the ring and the doorbell, within Max_Read_Request_Size. -/
def State.fetchRun (s : State) (f c : Nat) : Nat :=
  let x := (s.ctx f c).c
  let size := 2 ^ x.sqLog2
  min (min (dist x.sqDb x.fetch) (size - x.fetch.toNat % size)) (min 64 (max 1 ((s.hostPort (etOf f)).mrrs / 64)))

/-- Read the next run of entries, if any waits and none is being read. -/
def State.startFetch (s : State) (f c : Nat) : State :=
  let y := s.ctx f c
  if y.c.state = 0 || y.w.fetching || s.fetchRun f c == 0 || (!s.entriesRun && y.c.state != 2) then s
  else s.atHome f c fun s =>
    let n := s.fetchRun f c
    let a := y.c.sqBase + 64 * (y.c.fetch.toNat % 2 ^ y.c.sqLog2)
    (s.modW f c (fun w => { w with fetching := true })).hostReadReq f a (64 * n) (.entries c y.c.fetch n)

/-! ### Starting in order (R49, R272) -/

/-- The next fetched entry that has not started (R49): entries start in index order. -/
def State.nextEntry (s : State) (f c : Nat) : Option Entry := (s.ctx f c).w.entries.find? (fun e => e.st == .fetched)

/-- Every earlier entry has met its finishing condition (R272). -/
def State.fenceOpen (s : State) (f c : Nat) (idx : U32) : Bool :=
  !((s.ctx f c).w.entries.takeWhile (fun e => e.idx != idx)).any Entry.open

/-! ### Tombstones (R196) -/

/-- A tombstone of a context holds this incarnation. -/
def State.tombHolds (s : State) (f c inc : Nat) : Bool :=
  (s.et (etOf f)).tombs.any (fun t => t.fn == f && t.ctx == c && t.inc == inc)

/-- A context that no started entry holds any more (R195): everything fetched, finished and passed by the head. -/
def State.closable (s : State) (f c : Nat) : Bool :=
  let y := s.ctx f c
  y.c.state == 2 && y.w.entries.isEmpty && y.c.fetch == y.c.sqDb && y.c.head == y.c.sqDb && !y.w.fetching

end Sys2Proof.Machine
end

