-- ==== Sys2Proof/Machine/Routes.lean ====
section
/-! DEFINITION. Route tables (R143, R144, R150), port roles (R29), and sampled tracing's records (R369). -/

namespace Sys2Proof.Machine

/-- The entry of group G in generation g (R144). -/
def State.routeGroup (s : State) (g grp : Nat) : Nat := s.cfg (0x4100 + 16 * g + grp / 256) (grp % 256)

/-- The entry of flat identifier F in generation g (R150). -/
def State.routeFlat (s : State) (g fl : Nat) : Nat := s.cfg (0x4200 + 0x400 * g + fl / 256) (fl % 256)

/-- ROUTE_GEN_ACTIVE (R159). -/
def State.genNow (s : State) : Nat := s.cfg 0x4000 1

/-- Word of exit k, 1 to 31: PORT, SLOT, RANK, EVALID. -/
def exitWord (e k : Nat) : Nat := bf e (16 * k) 16

/-- The valid exits of a group entry: device in the group as rank and slot, and global port. -/
def validExits (e : Nat) : List (Nat × Nat) :=
  ((List.range 31).map (fun k => exitWord e (k + 1))).filter (fun w => bitAt w 12) |>.map (fun w =>
    (bf w 9 3 * 8 + bf w 6 3, bf w 0 6))

/-- A destination the active generation reaches (R143). -/
def State.reachable (s : State) (form : Bool) (dev : Nat) : Bool :=
  if reservedDev form dev then false
  else if form then bitAt (s.routeFlat s.genNow dev) 0
  else
    match s.coord? with
    | some c =>
      if c / 64 == dev / 64 then true
      else bitAt (s.routeGroup s.genNow (dev / 64)) 0 && !(validExits (s.routeGroup s.genNow (dev / 64))).isEmpty
    | none => bitAt (s.routeGroup s.genNow (dev / 64)) 0 && !(validExits (s.routeGroup s.genNow (dev / 64))).isEmpty

/-- The row port toward slot t from slot x (R29). -/
def rowPort (x t : Nat) : Nat := if t < x then t else t - 1

/-- The column port toward rank q from rank r (R29). -/
def colPort (r q : Nat) : Nat := if q < r then 7 + q else 6 + q

/-! ### Tracing (R369) -/

/-- SAMPLE_CTRL's fields: on, entry mode, K. -/
def State.tracing (s : State) : Bool := bitAt (s.cfg 0xA003 1) 0
def State.traceEntries (s : State) : Bool := bitAt (s.cfg 0xA003 1) 1
def State.traceK (s : State) : Nat := bf (s.cfg 0xA003 1) 2 4

/-- The 11 bytes TAGHASH runs over. -/
def tagBytes (p : Packet) : List Byte :=
  natLe 3 (p.srcDev + b2n p.sform * 2 ^ 20) ++ natLe 1 p.srcFn ++ natLe 3 p.srcCtx ++ natLe 4 (xPsn p).toNat

/-- A DATA packet that packet mode tags. -/
def State.tagged (s : State) (p : Packet) : Bool :=
  s.tracing && !s.traceEntries && p.kind == kindReq && xTop p == topData && crc16 (tagBytes p) % 2 ^ s.traceK == 0

/-- A 64-byte trace record of a stage reached at fabric time `ft`, as a number. -/
def State.traceRec (s : State) (stage port hops srcDev : Nat) (sform : Bool) (srcFn srcCtx psn ft : Nat) : Nat :=
  pack [(0, 8, 3), (8, 8, 1), (16, 3, stage), (19, 1, b2n s.ftUsable), (20, 1, b2n s.traceEntries), (24, 6, port),
    (32, 4, hops), (64, 80, ft), (144, 20, srcDev), (164, 1, b2n sform), (165, 8, srcFn),
    (173, 20, srcCtx), (193, 32, psn)]

/-- Count a record that finds its tile's buffer of 256 full. -/
def State.traceDrop (s : State) : State := { s with ctrs := { s.ctrs with sampleDrops := satAdd 64 s.ctrs.sampleDrops 1 } }

/-- Put a record into an endpoint tile's or a port tile's buffer. -/
def State.traceEt (s : State) (n r : Nat) : State :=
  if (s.et n).traces.length < 256 then s.modEt n (fun e => { e with traces := e.traces ++ [r] }) else s.traceDrop
def State.tracePt (s : State) (n r : Nat) : State :=
  if (s.pt n).traces.length < 256 then s.modPt n (fun e => { e with traces := e.traces ++ [r] }) else s.traceDrop

/-- Record a stage of a tagged packet at an endpoint tile. -/
def State.tracePkt (s : State) (n stage : Nat) (p : Packet) : State :=
  if s.tagged p then s.traceEt n (s.traceRec stage 0 0 p.srcDev p.sform p.srcFn p.srcCtx (xPsn p).toNat s.time.ft.toNat) else s

/-- Record a stage of an entry that entry mode tagged. -/
def State.traceEntry (s : State) (f c : Nat) (e : Entry) (stage : Nat) : State :=
  if s.tracing && s.traceEntries && e.tagged then
    s.traceEt (etOf f) (s.traceRec stage 0 0 s.selfName.1 s.selfName.2 f c e.idx.toNat s.time.ft.toNat)
  else s

/-- One step of the entry-mode register, x^16 + x^14 + x^13 + x^11 + 1 (R369). -/
def entryLfsr (v : Nat) : Nat :=
  let b := (bf v 0 1 + bf v 2 1 + bf v 3 1 + bf v 5 1) % 2
  v / 2 + b * 2 ^ 15

/-- Step the tile's register for a starting entry; the entry is tagged one time in 2^K. -/
def State.tagEntry (s : State) (f c : Nat) (idx : U32) : State :=
  if !(s.tracing && s.traceEntries) then s
  else
    let v := entryLfsr (s.et (etOf f)).entryLfsr.toNat
    let s := s.modEt (etOf f) (fun e => { e with entryLfsr := BitVec.ofNat 16 v })
    if v % 2 ^ s.traceK = 0 then s.modEntry f c idx (fun e => { e with tagged := true }) else s

end Sys2Proof.Machine
end

