-- ==== Sys2Proof/Machine/Transport.lean ====
section
/-! DEFINITION. Sending (R204 to R219, R246, R269 to R272): the shared operations of the transport's send side. -/

namespace Sys2Proof.Machine

/-! ### Awaited responses (R201, R270) -/

/-- Requests that await a response (R270). -/
def CtxWork.awaiting (w : CtxWork) : Nat := (w.replay.filter (·.resp)).length

/-- RACK_OFF of a packet with this PSN (R201): the PSN minus the oldest PSN that awaits a response, which its record,
the first of them, names; 0 with none. The header keeps its 16 low bits (DEDUCED, log entry 148). -/
def CtxWork.rackOff (w : CtxWork) (psn : U32) : Nat :=
  match w.replay.find? (·.resp) with
  | none => 0
  | some r => dist psn r.psn

/-! ### Timers -/

/-- RTO (R212): RTO_BASE × 2^RETRIES. -/
def State.rto (s : State) (retries : Nat) : Nat := s.cfg 0x5000 3 * us * 2 ^ retries

/-- Something the retransmit timer watches: an unacknowledged packet or an awaited response (R212, R270). -/
def CtxAll.outstanding (y : CtxAll) : Bool := y.c.nextPsn != y.c.una || decide (0 < y.w.awaiting)

/-- Restart the retransmit timer, or stop it when nothing is outstanding. -/
def State.restartRto (s : State) (f c : Nat) : State :=
  s.modW f c (fun w => { w with
    rtoAt := if (s.ctx f c).outstanding then some s.etNow else none
    rtoLen := s.rto (s.ctx f c).c.retries })

/-! ### Building DATA packets -/

/-- A new DATA packet (R204): what it carries and how it is kept. -/
structure NewPkt where
  idx     : U32
  off     : Nat
  len     : Nat
  opc     : Nat
  slots   : Nat := 0
  hdr     : Nat
  payload : List Byte := []
  resp    : Bool := false
  /-- Bytes of the response it asks for (R217). -/
  respLen : Nat := 0
  held    : List (Nat × Nat) := []
  spans   : List (Nat × Nat) := []
  /-- Last packet of an entry with SIGNAL = 1. -/
  sigLast : Bool := false

/-- Length L of a packet of 64 header bytes (R140, R217). -/
def pacedLen (hlen plen : Nat) : Nat := max 64 (8 * hlen + plen)

/-- The transport header (R201) of a DATA packet. -/
def dataHdr (retx tsv ackreq : Bool) (slots srcInc dstInc rack psn ts : Nat) : Nat :=
  pack [(0, 4, topData), (4, 1, b2n retx), (5, 1, b2n tsv), (6, 1, b2n ackreq), (8, 8, slots), (16, 16, srcInc),
    (32, 16, dstInc), (48, 16, rack), (64, 32, psn), (96, 32, ts)]

/-- The rate pacer (R217): after L bytes the next packet waits 40 × L / RATE ns. -/
def State.pace (s : State) (f c l : Nat) : State :=
  s.modW f c (fun w => { w with pacerAt := max s.etNow w.pacerAt + 40 * l / max 1 (s.ctx f c).c.rate })

/-- Count a function's sent DATA packet. -/
def State.countTx (s : State) (f plen : Nat) : State :=
  (((s.tCount (etOf f) 0).fnCtr f 1 1).fnCtr f 3 plen).perf (8 + etOf f) 0x410 0x3F (some f) 1

/-- Send a new DATA packet (R204): it takes PSN NEXT_PSN and its slots, keeps a replay record, is paced, and
starts the retransmit timer and a RESYNC_PERIOD (DESIGN CHOICE, log entry 147) when none was outstanding. -/
def State.sendNew (s : State) (f c : Nat) (n : NewPkt) : State :=
  let y := s.ctx f c
  let psn := y.c.nextPsn
  let rack := ({ y.w with replay := y.w.replay ++ (if n.resp then [{ psn := psn, idx := n.idx, off := 0, len := 0, opc := n.opc, slots := 0, hdr := 0, resp := true : Replay }] else []) } : CtxWork).rackOff psn
  let credit := (y.c.txLimit - y.c.txUsed).toNat
  let ackreq := decide (dist y.c.nextPsn y.c.una = 63) || (decide (0 < n.slots) && credit == n.slots) || n.sigLast
  let p := s.ctxPacket f c y.c kindReq 8
    (dataHdr false s.ftUsable ackreq n.slots y.c.inc y.c.peerInc rack psn.toNat s.stamp + n.hdr) n.payload
  let r : Replay :=
    { psn := psn, idx := n.idx, off := n.off, len := n.len, opc := n.opc, slots := n.slots, hdr := n.hdr,
      resp := n.resp, held := n.held, spans := n.spans, last := n.sigLast }
  let s := s.modCtx f c (fun y => { y with
    c := { y.c with nextPsn := psn + 1, txUsed := y.c.txUsed + BitVec.ofNat 16 n.slots }
    w := { y.w with
      replay := y.w.replay ++ [r]
      rtoAt := if y.outstanding then y.w.rtoAt else some s.etNow
      rtoLen := if y.outstanding then y.w.rtoLen else s.rto y.c.retries
      resyncBase := if y.c.nextPsn = y.c.una then s.etNow else y.w.resyncBase
      resyncLen := if y.c.nextPsn = y.c.una then s.cfg 0x5000 5 * us else y.w.resyncLen }
    refd := true })
  let s := (s.sendCtx f p).tracePkt (etOf f) 1 p
  ((s.pace f c (if n.respLen = 0 then pacedLen 8 n.payload.length else pacedLen 8 n.respLen)).countTx f n.payload.length).replayWatch (etOf f)

/-- The peer can be reached (R143); in TEST only this device can (R338). -/
def State.canReach (s : State) (x : Ctx) : Bool :=
  s.reachable x.peerForm x.peerDev && (!s.inMode .test || s.isSelf x.peerForm x.peerDev)

/-- Bytes a resent packet is paced by: a READ's and a PULL's are those of the response it asks for (R217, R230). -/
def Replay.paced (r : Replay) (payload : List Byte) : Nat :=
  if r.opc = opRead then r.len else if r.opc = opSend ∧ bf r.hdr 136 4 = 2 then bf r.hdr 288 32 else payload.length

/-- Resend a kept packet with its payload (R206): RETX and ACKREQ set, a new stamp, everything else the same. -/
def State.resend (s : State) (f c : Nat) (r : Replay) (payload : List Byte) : State :=
  let y := s.ctx f c
  let p := s.ctxPacket f c y.c kindReq 8
    (dataHdr true s.ftUsable true r.slots y.c.inc y.c.peerInc (y.w.rackOff r.psn) r.psn.toNat s.stamp + r.hdr) payload
  let s := ((s.sendCtx f p).tracePkt (etOf f) 1 p).modW f c (fun w => { w with
    replay := w.replay.map (fun q => if q.psn = r.psn then { q with reread := false } else q) })
  ((s.pace f c (pacedLen 8 (r.paced payload))).tCount (etOf f) 1).fnCtr f 5 1 |>.perf (8 + etOf f) 0x411 0x3F (some f) 1

/-- Where a resend reads its payload again, and how much (R206): words C and D of the work entry for an inline payload
or an atomic's operands, else the entry's buffer. READ, RTS, PULL and FIN carry none. -/
def State.rereadAt (s : State) (f c : Nat) (r : Replay) : Option (Nat × Nat) :=
  let x := (s.ctx f c).c
  let wordC := x.sqBase + 64 * (r.idx.toNat % 2 ^ x.sqLog2) + 32
  if isAtomic r.opc then some (wordC, if r.opc = opCswap then 16 else 8)
  else if r.len = 0 ∨ r.opc = opRead then none
  else (s.entry? f c r.idx).map (fun e =>
    if wInline e.words.toNat then (wordC, r.len) else (wLocal e.words.toNat + r.off, r.len))

/-- A PULL or a FIN, which belongs to no work entry (R230, R231). -/
def Replay.ownerless (r : Replay) : Bool := r.opc == opSend && (bf r.hdr 136 4 == 2 || bf r.hdr 136 4 == 4)

/-- The first resend that waits leaves: its record has gone, or its payload is here. A peer that cannot be reached ends the
work entry instead, and nothing is sent (R143; DESIGN CHOICE, log entry 156). -/
def State.resendNext (s : State) (f c : Nat) : State :=
  match (s.ctx f c).w.resends with
  | [] => s
  | (psn, payload) :: rest =>
    match (s.ctx f c).w.replay.find? (fun r => r.psn = psn), payload with
    | none, _ => s.modW f c (fun w => { w with resends := rest })
    | some _, none => s
    | some r, some d =>
      let s := s.modW f c (fun w => { w with resends := rest })
      if s.canReach (s.ctx f c).c then s.resend f c r d
      else
        let s := s.modW f c (fun w => { w with replay := w.replay.map (fun q => if q.psn = psn then { q with reread := false } else q) })
        if r.ownerless then s else s.modEntry f c r.idx (fun e => e.finish stUnreachable)

/-- Resends leave in the order they were asked for, each once its payload is here, the context is resident and the pacer
allows it (R198, R217, R246); what cannot leave yet waits for a DATA_SEND of its context (DESIGN CHOICE, log entry 57). -/
def State.resendRun : Nat → State → Nat → Nat → State
  | 0, s, _, _ => s
  | n + 1, s, f, c =>
    let y := s.ctx f c
    if y.here && !y.w.resends.isEmpty && decide (y.w.pacerAt ≤ s.etNow) then State.resendRun n (s.resendNext f c) f c else s

/-- Let the resends of a context go. -/
def State.resends (s : State) (f c : Nat) : State := State.resendRun ((s.ctx f c).w.resends.length) s f c

/-- A resend's payload has been read again. -/
def State.resendReady (s : State) (f c : Nat) (psn : U32) (payload : List Byte) : State :=
  (s.modW f c (fun w => { w with
    resends := w.resends.map (fun (x : U32 × Option (List Byte)) => if x.1 = psn then (psn, some payload) else x) })).resends f c

/-- Retransmit the packet with a PSN (R206): it joins the resends, and its payload, if it has one, is read from host memory
again. -/
def State.retransmit (s : State) (f c : Nat) (psn : U32) : State :=
  match (s.ctx f c).w.replay.find? (fun r => r.psn = psn) with
  | none => s
  | some r =>
    if r.reread then s
    else
      let at_ := s.rereadAt f c r
      let s := s.modW f c (fun w => { w with
        replay := w.replay.map (fun q => if q.psn = psn then { q with reread := true } else q)
        resends := w.resends ++ [(psn, if at_.isSome then none else some [])] })
      match at_ with
      | none => s.resends f c
      | some (a, n) => s.hostReadReq f a n (.reread c psn.toNat)

/-! ### The next packet of a context (R204) -/

/-- Checks 1, 2, 4, 5 of R204 and step 1 of R246, for a packet that may need a response (R270). -/
def State.mayStart (s : State) (f c : Nat) (resp : Bool) : Bool :=
  let y := s.ctx f c
  (y.c.state == 1 || y.c.state == 2) && decide (dist y.c.nextPsn y.c.una < 64)
    && (!resp || decide (y.w.awaiting < 64)) && decide (y.w.pacerAt ≤ s.etNow)
    && decide (s.replayUse (etOf f) < 65536) && decide (s.replayOf f < s.cfg 0x5014 f)
    && y.m.refused.isEmpty && s.entriesRun && !s.injectStopped

/-- Check 3: the credit covers the slots. -/
def Ctx.credit (x : Ctx) (slots : Nat) : Bool :=
  decide ((x.txLimit - x.txUsed).toNat < 2 ^ 15) && decide (slots ≤ (x.txLimit - x.txUsed).toNat)

/-- The started entry whose packet comes next (R49). -/
def State.nextTx (s : State) (f c : Nat) : Option Entry :=
  (s.ctx f c).w.entries.find? (fun e => e.st == .started && decide (e.sent < e.total))

/-- Note a packet of an entry sent with the PSN just taken. -/
def State.noteSent (s : State) (f c : Nat) (idx psn : U32) : State :=
  s.modEntry f c idx (fun e => { e with
    sent := e.sent + 1, firstPsn := if e.sent = 0 then psn else e.firstPsn, lastPsn := psn })

/-- The payload of the next packet: inline, empty, already read, or none while its read is outstanding. -/
def State.txData (s : State) (f c : Nat) (e : Entry) (off len : Nat) : Option (List Byte) :=
  let w := e.words.toNat
  if wInline w then some (inlineBytes w)
  else if len = 0 then some []
  else
    match (s.ctx f c).w.cur with
    | some t => if t.idx = e.idx ∧ t.off = off then t.data else none
    | none => none

/-- Ask for the payload of the next packet unless it is already asked for. -/
def State.askData (s : State) (f c : Nat) (e : Entry) (off len : Nat) : State :=
  match (s.ctx f c).w.cur with
  | some _ => s
  | none =>
    (s.modW f c (fun w => { w with cur := some { idx := e.idx, off := off, len := len, data := none } })).hostReadReq
      f (wLocal e.words.toNat + off) len (.payload c e.idx off)

/-- Send the next packet of an eager SEND or of a WRITE, once its payload is here. -/
def State.sendPayload (s : State) (f c : Nat) (e : Entry) : State :=
  let w := e.words.toNat
  let op := wOpcode w
  let off := 4096 * e.sent
  let len := min 4096 (wLength w - off)
  let slots := if op = opSend then landSlots len else 0
  if slots ≠ 0 ∧ !(s.ctx f c).c.credit slots then s
  else
    match s.txData f c e off len with
    | none => s.askData f c e off len
    | some d =>
      let last := e.sent + 1 == e.total
      let psn := (s.ctx f c).c.nextPsn
      let msn := if e.sent = 0 then (s.ctx f c).m.txMsn else e.msn
      let hdr := if op = opSend then matchHdr 0 (wComm w) msn.toNat (wA w) off (wLength w)
        else rmaHdr op last 0 (wRkey w) ((wA w + off) % 2 ^ 64) (if op = opWriteNotify then wNotify w else 0) (wLength w)
      let s := s.modCtx f c (fun y => { y with
        w := { y.w with cur := none }
        m := { y.m with txMsn := if op = opSend ∧ e.sent = 0 then y.m.txMsn + 1 else y.m.txMsn } })
      let s := s.sendNew f c
        { idx := e.idx, off := off, len := len, opc := op, slots := slots, hdr := hdr, payload := d,
          resp := last && op != opSend, sigLast := last && wSignal w }
      let s := if e.sent = 0 then s.traceEntry f c e 1 else s
      (s.noteSent f c e.idx psn).modEntry f c e.idx (fun e => { e with msn := msn })

/-- Send the RTS of a rendezvous SEND (R229): its record is kept until the peer's FIN. -/
def State.sendRts (s : State) (f c : Nat) (e : Entry) : State :=
  let w := e.words.toNat
  if 16384 ≤ (s.et (etOf f)).rndv.length then s
  else
    let psn := (s.ctx f c).c.nextPsn
    let msn := (s.ctx f c).m.txMsn
    let s := (s.modM f c (fun m => { m with txMsn := m.txMsn + 1 })).modEt (etOf f) (fun t => { t with
      rndv := t.rndv ++ [{ fn := f, ctx := c, msn := msn.toNat, idx := e.idx }] })
    let s := (s.sendNew f c
      { idx := e.idx, off := 0, len := 0, opc := opSend, hdr := matchHdr 1 (wComm w) msn.toNat (wA w) 0 (wLength w),
        sigLast := wSignal w }).traceEntry f c e 1
    (s.noteSent f c e.idx psn).modEntry f c e.idx (fun e => { e with msn := msn })

/-- An entry ends with XLATE of its own (R35, R75): before its first packet the context carries on, after it the
context closes. -/
def State.entryXlate (s : State) (f c : Nat) (e : Entry) : State :=
  if e.sent = 0 then
    (s.modEntry f c e.idx (fun e => e.finish stXlate)).modW f c (fun w => { w with cur := none })
  else s.endContext f c (some e.idx) stXlate

/-- The landing of a READ or an atomic cannot be translated (R75, R269): before its first request the entry ends,
after it no further request is sent. -/
def State.requestFault (s : State) (f c : Nat) (e : Entry) (a code level : Nat) : State :=
  ((s.xlateFault f a code level .write).modEntry f c e.idx (fun e =>
    if e.sent = 0 then e.finish stXlate
    else { e with own := some stXlate, total := e.sent, awaited := e.awaited - (e.total - e.sent) })).settle f c

/-- The range a READ or an atomic lands in next. -/
def Entry.landing (e : Entry) : List (Nat × Nat) :=
  let w := e.words.toNat
  let len := if wOpcode w = opRead then min 4096 (wLength w - 4096 * e.sent) else 8
  if len = 0 then [] else pagePieces (wLocal w + 4096 * e.sent) len

/-- Send the next request of a READ or an atomic, with its landing translated and held (R269). -/
def State.sendRequest (s : State) (f c : Nat) (e : Entry) : State :=
  let w := e.words.toNat
  let op := wOpcode w
  let off := 4096 * e.sent
  let len := if op = opRead then min 4096 (wLength w - off) else 8
  let last := e.sent + 1 == e.total
  match s.lookupAll f .write e.landing with
  | (held, none) =>
    let psn := (s.ctx f c).c.nextPsn
    let pay := if op = opRead then [] else natLe 8 (wC w) ++ (if op = opCswap then natLe 8 (wD w) else [])
    let s := s.sendNew f c
      { idx := e.idx, off := off, len := len, opc := op,
        hdr := rmaHdr op last 0 (wRkey w) ((wA w + off) % 2 ^ 64) 0 (if op = opRead then len else 8),
        payload := pay, resp := true, respLen := if op = opRead then len else 0, held := held, spans := s.spansOf f e.landing, sigLast := last && wSignal w }
    let s := if e.sent = 0 then s.traceEntry f c e 1 else s
    s.noteSent f c e.idx psn
  | (_, some (a, .fault code level)) => s.requestFault f c e a code level
  | (_, some (a, _)) =>
    match s.beginWalk (s.excl (etOf f)) f a .write none with
    | (s, some (code, level)) => s.requestFault f c e a code level
    | (s, none) => s

/-- A PULL whose receive's queue is congested does not start (R245), and nothing is sent to a peer that cannot be reached
(R143). -/
def State.owedOk (s : State) (f c : Nat) (o : Owed) : Bool :=
  s.canReach (s.ctx f c).c && if o.mkind = 2 then
    match s.msg? f c o.msn.toNat with
    | some m => (match m.recv with
      | some r => !s.congested f (if (s.ctx f r.ctx).c.rqEq = 0 then (s.ctx f r.ctx).c.sqEq else (s.ctx f r.ctx).c.rqEq)
      | none => false) && m.status == 0
    | none => false
  else true

/-- Send a PULL or a FIN (R230, R231). -/
def State.sendOwed (s : State) (f c : Nat) (o : Owed) : State :=
  let psn := (s.ctx f c).c.nextPsn
  let s := s.modW f c (fun w => { w with owed := w.owed.erase o })
  let s := s.sendNew f c
    { idx := 0, off := 0, len := 0, opc := opSend, hdr := matchHdr o.mkind 0 o.msn.toNat 0 o.off o.len,
      resp := o.mkind == 2, respLen := if o.mkind = 2 then o.len else 0 }
  if o.mkind = 2 then
    let next := o.off + o.len
    let total := match s.msg? f c o.msn.toNat with
      | some m => min m.mlen ((m.recv.map (·.len)).getD 0)
      | none => 0
    let s := s.modMsg f c o.msn.toNat (fun m => { m with pulls := m.pulls ++ [(psn.toNat, o.off, o.len)], pullOff := next })
    if next < total then
      s.modW f c (fun w => { w with owed := w.owed ++ [{ mkind := 2, msn := o.msn, off := next, len := min 4096 (total - next) }] })
    else s
  else s

/-- An entry's next packet has nowhere to go (R143): nothing more of it is sent. -/
def Entry.unreach (e : Entry) : Entry :=
  if e.sent = 0 then e.finish stUnreachable
  else
    let one := wOpcode e.words.toNat == opWrite || wOpcode e.words.toNat == opWriteNotify
    { e with own := some stUnreachable, total := e.sent, awaited := if one then 0 else e.awaited - (e.total - e.sent) }

/-! ### Congestion control (R219) -/

/-- The rate update for a delay sample. Before a context's first decrease there is no `last_decrease` to wait for: the first
one happens at once (DESIGN CHOICE, log entry 157). -/
def State.ccRate (s : State) (f c d : Nat) : State :=
  let t := s.cfg 0x5000 7
  let y := s.ctx f c
  if s.cfg 0x5000 13 = 0 then s.modC f c (fun x => { x with rate := s.cfg 0x5000 11 })
  else
    let rmin := s.cfg 0x5000 12
    let rate := max y.c.rate rmin
    if d ≤ t then s.modC f c (fun x => { x with rate := min 4000 (rate + s.cfg 0x5000 8) })
    else if max 1000 (16 * y.c.rttEst) ≤ s.etNow - y.w.lastDec ∨ y.w.lastDec = 0 then
      let k := min (s.cfg 0x5000 10) (s.cfg 0x5000 9 * (d - t) / d)
      s.modCtx f c (fun y => { y with
        c := { y.c with rate := max rmin (rate - rate * k / 256) }
        w := { y.w with lastDec := s.etNow } })
    else s.modC f c (fun x => { x with rate := rate })

/-- The update on an accepted ACK or RESYNC_ACK (R219): the round trip by the sender's own clock, then the rate. -/
def State.ccAck (s : State) (f c : Nat) (echoTs hold : Nat) (owd : Option Nat) : State :=
  let rtt := (s.stamp + 2 ^ 33 - echoTs - hold) % 2 ^ 32
  let s := if rtt < 1000000 then
      s.modC f c (fun x => { x with rttEst := min 0xFFF (if x.rttEst = 0 then rtt / 16 else (7 * x.rttEst + rtt / 16) / 8) })
    else s
  match owd with
  | some d => s.ccRate f c d
  | none => if rtt < 1000000 then s.ccRate f c (rtt / 2) else s

/-- One-way delay of an arriving packet (R218), when both ends' times are usable; a negative result counts as 0. -/
def State.owdOf (s : State) (p : Packet) : Option Nat :=
  if xTsv p && s.ftUsable then
    let d := (s.stamp + 2 ^ 32 - xSendTs p) % 2 ^ 32
    some (if d < 2 ^ 31 then d else 0)
  else none

/-- The update on a RESP received (R219): its one-way delay, where it has one. -/
def State.respDelay (s : State) (p : Packet) : State :=
  match s.owdOf p with
  | some d => s.ccRate p.dstFn p.dstCtx d
  | none => s

/-! ### Acknowledgements (R209, R214) -/

/-- An arriving control or response packet names this context's incarnations (R209). -/
def State.fromPeer (s : State) (p : Packet) : Bool :=
  match s.ctx? p.dstFn p.dstCtx with
  | some y => y.c.state != 0 && !y.w.lost && xDstInc p == y.c.inc && xSrcInc p == y.c.peerInc
  | none => false

/-- Release the records below UNA (R209); a request that awaits its response keeps its own (R205). -/
def ackRecords (una : U32) (r : List Replay) : List Replay :=
  (r.map (fun q => if dist una q.psn < 2 ^ 31 ∧ una ≠ q.psn then { q with acked := true } else q)).filter
    (fun q => !q.acked || q.resp)

/-- Move UNA up to a PSN (R209): records go, refused PSNs it covers are accepted, the round may close (R246). -/
def State.advanceUna (s : State) (f c : Nat) (psn : U32) : State :=
  let s := s.modCtx f c (fun y =>
    let refused := y.m.refused.filter (fun q => !(dist psn (BitVec.ofNat 32 q) < 2 ^ 31 ∧ q ≠ psn.toNat))
    { y with
      c := { y.c with una := psn, retries := 0 }
      w := { y.w with replay := ackRecords psn y.w.replay }
      m := { y.m with
        refused := refused
        rnrRounds := if refused.isEmpty then 0 else y.m.rnrRounds
        rnr := match y.m.rnr with
          | some r => if r.resent ∧ dist psn r.first < 2 ^ 31 ∧ psn ≠ r.first then none else some r
          | none => none } })
  ((s.restartRto f c).settle f c).replayWatch (etOf f)

/-- Take a LIMIT (R214). -/
def State.takeLimit (s : State) (f c : Nat) (lim : U16) (force : Bool) : State :=
  s.modC f c (fun x => { x with txLimit := if force ∨ (lim - x.txLimit).toNat < 2 ^ 15 then lim else x.txLimit })

/-- The action of R209 on an ACK or RESYNC_ACK from the peer. -/
def State.takeAck (s : State) (p : Packet) (force : Bool) : State :=
  let f := p.dstFn
  let c := p.dstCtx
  let x := (s.ctx f c).c
  let a := dist (xPsn p) x.una
  let out := dist x.nextPsn x.una
  if (1 ≤ a ∧ a ≤ out) ∨ a = 0 ∨ 2 ^ 31 ≤ a then
    let s := if 1 ≤ a ∧ a ≤ out then s.advanceUna f c (xPsn p) else s
    let s := s.takeLimit f c (cLimit p) force
    (s.ccAck f c (cTs p) (cHold p) (if cOwdv p then some (cOwd p) else none)).tCount (etOf f) 5
      |>.perf (8 + etOf f) 0x412 0x3F (some f) 1
  else s.tCount (etOf f) 11

/-! ### Receiver not ready (R246) -/

/-- PSNs in order from UNA. -/
def psnOrder (una : U32) (l : List Nat) : List Nat :=
  l.foldl (fun acc q => insertBy acc q) []
where
  insertBy : List Nat → Nat → List Nat
    | [], q => [q]
    | a :: r, q =>
      if a = q then a :: r
      else if dist (BitVec.ofNat 32 q) una < dist (BitVec.ofNat 32 a) una then q :: a :: r
      else a :: insertBy r q

/-- The entry whose packet has a PSN. -/
def State.entryOfPsn (s : State) (f c : Nat) (psn : U32) : Option U32 :=
  ((s.ctx f c).w.replay.find? (fun r => r.psn = psn && !r.ownerless)).map (·.idx)

/-- Open a round over the refused PSNs (R246), or end the context when RNR_ROUNDS would exceed RNR_LIMIT. -/
def State.openRound (s : State) (f c : Nat) : State :=
  let y := s.ctx f c
  let lim := s.cfg 0x6000 2
  if lim ≠ 255 ∧ lim < y.m.rnrRounds + 1 then
    let oldest := (y.m.refused.head?).getD 0
    (s.endContext f c (s.entryOfPsn f c (BitVec.ofNat 32 oldest)) stRnr).mCount (etOf f) 9
  else
    (s.modM f c (fun m => { m with
      rnrRounds := min 255 (m.rnrRounds + 1)
      rnr := some { start := s.etNow, psns := m.refused, wait := s.cfg 0x6000 1 * us } })).restartRto f c

/-- A NAK RNR for a PSN (R211, R246). -/
def State.takeRnr (s : State) (f c : Nat) (psn : U32) : State :=
  let s := (((s.tCount (etOf f) 9).mCount (etOf f) 8).fnCtr f 6 1).modM f c (fun m => { m with
    refused := psnOrder (s.ctx f c).c.una (m.refused ++ [psn.toNat]) })
  match (s.ctx f c).m.rnr with
  | none => s.openRound f c
  | some r =>
    if r.resent then (s.modM f c (fun m => { m with rnr := none })).openRound f c
    else s.modM f c (fun m => { m with rnr := some { r with psns := m.refused } })

end Sys2Proof.Machine
end

