-- ==== Sys2Proof/Machine/Match.lean ====
section
/-! DEFINITION. Message matching (spec 09): taking packets (R236, R242), headers, claims and commits (R237, R238),
delivery (R243 to R245), postings (R232), rendezvous (R229 to R231), moves between engines (R247, R248). -/

namespace Sys2Proof.Machine

/-! ### Stores and queues -/

/-- How far an MSN lies above RX_MSN. -/
def State.msnAbove (s : State) (f c msn : Nat) : Nat := (msn + 2 ^ 32 - (s.ctx f c).m.rxMsn.toNat) % 2 ^ 32

/-- The record an item on its way to an engine will make: a posting its own, a header that of its message's first packet. -/
def State.newEntry (s : State) : EngItem → Option (Nat × Nat × Nat)
  | .posting f c idx _ _ => some (f, 2 ^ 20 + c, idx.toNat)
  | .header f c p _ _ =>
    if oMkind p ≤ 1 ∧ (s.msg? f c (oMsn p)).isNone ∧ s.msnAbove f c (oMsn p) < 64 then some (f, c, oMsn p) else none
  | .commit _ _ _ => none

/-- Match store entries promised to the items of a tile that wait for their engine, of the functions named (R232, R236). -/
def State.coming (s : State) (h : Nat) (of_ : Nat → Bool) : Nat :=
  (((((s.et h).items ++ (s.et h).heldItems).filter (fun i => of_ i.fn)).filterMap s.newEntry).eraseDups).length

/-- Match store entries of a function and of a tile (R232): posted receives, message records, and those promised. -/
def State.matchUse (s : State) (f : Nat) : Nat :=
  ((s.mctxs.filter (fun e => e.1 / 2 ^ 16 == f)).map (fun e => e.2.posted.length)).foldl (· + ·) 0
  + ((s.ctxs.filter (fun e => e.1 / 2 ^ 20 == f)).map (fun e => e.2.m.msgs.length)).foldl (· + ·) 0
  + s.coming (etOf f) (fun g => g == f)
def State.matchUseIn (s : State) (h : Nat) : Nat :=
  ((s.mctxs.filter (fun e => etOf (e.1 / 2 ^ 16) == h)).map (fun e => e.2.posted.length)).foldl (· + ·) 0
  + ((s.ctxs.filter (fun e => etOf (e.1 / 2 ^ 20) == h)).map (fun e => e.2.m.msgs.length)).foldl (· + ·) 0
  + s.coming h (fun _ => true)

/-- No entry can be had (R232, R236). -/
def State.matchFull (s : State) (f : Nat) : Bool :=
  decide (s.matchQuota f ≤ s.matchUse f) || decide (131072 ≤ s.matchUseIn (etOf f))

/-- The receive queue of a posting context (R233). -/
def State.recvQueue (s : State) (f c : Nat) : Nat :=
  if (s.ctx f c).c.rqEq = 0 then (s.ctx f c).c.sqEq else (s.ctx f c).c.rqEq

/-- The receive's queue is congested (R245). -/
def State.recvCongested (s : State) (f : Nat) (r : Posted) : Bool := s.congested f (s.recvQueue f r.ctx)

/-! ### Format (R227) -/

/-- The first packet of an MSN keeps the rules of R227. -/
def goodFirst (p : Packet) : Bool :=
  if oMkind p = 0 then
    decide (oMlen p ≤ 65536) && decide (oOffset p % 4096 = 0)
      && (decide (oOffset p < oMlen p) || (oOffset p == 0 && oMlen p == 0))
      && p.plen == min 4096 (oMlen p - oOffset p)
  else if oMkind p = 1 then p.plen == 0 && oOffset p == 0
  else false

/-- A later packet names the same message as the record (R227). -/
def sameMsg (m : Msg) (p : Packet) : Bool :=
  oMkind p == m.mkind && oComm p == m.comm && oTag p == m.tag && oMlen p == m.mlen

/-- A later packet agrees with its record (R227). -/
def agrees (m : Msg) (p : Packet) : Bool :=
  sameMsg m p && goodFirst p && !m.rts && !bitAt m.bitmap.toNat (oOffset p / 4096)

/-- A message's SOURCE (R222): none when the sender is named flat. -/
def sourceOf (p : Packet) : Option Nat := if p.sform then none else some (endpoint (p.srcDev % 2 ^ 18) p.srcFn)

/-- A new record from a packet's envelope (R237). -/
def newMsg (p : Packet) : Msg :=
  { msn := oMsn p, rts := oMkind p == 1, mkind := oMkind p, comm := oComm p, tag := oTag p, source := sourceOf p, srcFn := p.srcFn,
    mlen := oMlen p, st := if goodFirst p then .shadow else .void }

/-! ### Taking a packet (R236, R242) -/

/-- The first free block of a function's overflow region (R241). -/
def State.freeBlock (s : State) (f : Nat) : Option Nat :=
  let v := s.cfg 0x6013 f
  if bitAt v 0 then (List.range (2 ^ bf v 1 5)).find? (fun b => !(s.fn f).overBlocks.contains b) else none

/-- Slots fit the tile and the function (R242). -/
def State.slotsFit (s : State) (f n : Nat) : Bool :=
  decide (n ≤ s.landFree (etOf f)) && decide (s.landHeld f + n ≤ s.cfg 0x6012 f)

/-- Row 3 of R242: slots, or an overflow block, or nothing. -/
def State.takeUnexpected (s : State) (f n : Nat) : Option PayloadDest :=
  if s.slotsFit f n then some (.landing n) else (s.freeBlock f).map .block

/-- Row 4 of R242, or a straight write to a clear queue (R236). -/
def State.takeMatched (s : State) (f n : Nat) (r : Posted) : Option PayloadDest :=
  if !s.recvCongested f r then some .straight
  else if s.slotsFit f n then some (.landing n) else none

/-- Rows 1 and 2 of R242, for a shadow above RX_MSN: speculation needs LANDING_SPEC_MIN slots left. -/
def State.takeShadow (s : State) (f c n : Nat) : State × Option PayloadDest :=
  let free := s.landFree (etOf f)
  let min_ := s.cfg 0x6000 3
  if (s.ctx f c).m.inorder then (s, none)
  else if free < n + min_ then
    ((s.modM f c (fun m => { m with inorder := true })).mCount (etOf f) 14, none)
  else if s.landHeld f + n ≤ s.cfg 0x6012 f then (s, some (.landing n)) else (s, none)

/-- The receive a message at RX_MSN will commit to (R238, R242). -/
def State.recvAhead (s : State) (f c : Nat) (m : Msg) : Option Posted :=
  match m.recv with
  | some r => some r
  | none => (s.mctx f m.comm).posted.find? (s.eligible f c m)

/-- Decide whether an EAGER or RTS packet can be taken and where its payload goes (R236); none refuses it. -/
def State.matchTake (s : State) (f c : Nat) (p : Packet) : State × Option PayloadDest :=
  let s := if s.cfg 0x6000 3 + 2048 ≤ s.landFree (etOf f) then s.modM f c (fun m => { m with inorder := false }) else s
  let n := landSlots p.plen
  let rec? := s.msg? f c (oMsn p)
  let coming := ((s.et (etOf f)).items ++ (s.et (etOf f)).heldItems).any (fun i => match i with
    | .header f' c' q _ _ => f' == f && c' == c && oMsn q == oMsn p
    | _ => false)
  match rec? with
  | none =>
    if oMkind p > 1 ∨ 64 ≤ s.msnAbove f c (oMsn p) then (s, some .discard)
    else if !coming && s.matchFull f then (s, none)
    else if !goodFirst p || oMkind p == 1 then (s, some .discard)
    else if s.msnAbove f c (oMsn p) = 0 then
      match s.recvAhead f c (newMsg p) with
      | some r => (s, s.takeMatched f n r)
      | none => (s, s.takeUnexpected f n)
    else s.takeShadow f c n
  | some m =>
    if !agrees m p || m.status != 0 then (s, some .discard)
    else
      match m.st with
      | .void => (s, some .discard)
      | .matched => (match m.recv with
        | some r => (s, s.takeMatched f n r)
        | none => (s, some .discard))
      | .unexpected => (s, s.takeUnexpected f n)
      | .shadow =>
        if s.msnAbove f c (oMsn p) = 0 then
          match s.recvAhead f c m with
          | some r => (s, s.takeMatched f n r)
          | none => (s, s.takeUnexpected f n)
        else s.takeShadow f c n

/-! ### Delivery (R243, R244) -/

/-- A receive's first payload write is issued: entry-mode tracing records it (R369). -/
def State.traceWrite (s : State) (f : Nat) (r : Posted) (written : Nat) : State :=
  if written = 0 then
    match s.entry? f r.ctx r.idx with
    | some e => s.traceEntry f r.ctx e 4
    | none => s
  else s

/-- Write one landed piece to the receive buffer, within its LENGTH; a block is read back first, once the packet's write to it
has been issued (R241). -/
def State.deliverPiece (s : State) (f c msn : Nat) (r : Posted) (q : Piece) : State :=
  match q.block with
  | some b =>
    let base := bf (s.cfg 0x6013 f) 12 45 * 2 ^ 12
    if (s.fn f).writes.any (fun h => h.use == .overflow c msn && h.addr == base + 4096 * b) then s
    else
    let s := s.modMsg f c msn (fun m => { m with
      pieces := m.pieces.filter (fun x => x.off != q.off), reading := m.reading + 1 })
    s.hostReadReq f (base + 4096 * b) (max 1 (min 4096 (((s.msg? f c msn).map (·.mlen)).getD 0 - q.off))) (.overflow c msn q.off b)
  | none =>
    let s := s.modMsg f c msn (fun m => { m with pieces := m.pieces.filter (fun x => x.off != q.off) })
    let s := match q.trace with
      | some p => s.tracePkt (etOf f) 4 p
      | none => s
    let n := min q.bytes.length (r.len - q.off)
    if n = 0 then (s.returnFor f c msn q.slots).landWatch (etOf f)
    else
      let s := (s.traceWrite f r (((s.msg? f c msn).map (·.written)).getD 0)).modMsg f c msn (fun m => { m with written := m.written + n })
      s.put f (r.addr + q.off) (q.bytes.take n) (.recvBuf r.ctx r.idx)
        (some { ctx := c, msn := msn, slots := q.slots, straight := q.slots == 0 })

/-- Deliver what a matched message holds while its queue is clear (R243, R245), and end it if that completes it. -/
def State.deliver (s : State) (f c msn : Nat) : State :=
  match s.msg? f c msn with
  | none => s
  | some m =>
    match m.st, m.recv with
    | .matched, some r =>
      let s := if s.recvCongested f r then s
        else m.pieces.foldl (fun s q =>
          if (s.msg? f c msn).any (fun m => m.status == 0 && m.pieces.contains q) then s.deliverPiece f c msn r q else s) s
      s.tryEnd f c msn
    | _, _ => s

/-- Start pulling a committed rendezvous message (R230, R231). -/
def State.startPull (s : State) (f c : Nat) (m : Msg) (r : Posted) : State :=
  if m.rts then
    let total := min m.mlen r.len
    if total = 0 then s
    else s.modW f c (fun w => { w with owed := w.owed ++
      [{ mkind := 2, msn := BitVec.ofNat 32 m.msn, off := 0, len := min 4096 total }] })
  else s

/-- The queue of an entry's event (R57, R233). -/
def State.eventQueue (s : State) (f c : Nat) (e : Entry) : Nat :=
  if wOpcode e.words.toNat = opRecv then s.recvQueue f c else (s.ctx f c).c.sqEq

/-- Events of finishing entries that a queue has still to take. -/
def State.eventsDue (s : State) (f q : Nat) : Nat :=
  ((s.ctxs.filter (fun e => e.1 / 2 ^ 20 == f)).map (fun e => (e.2.w.entries.filter (fun x =>
    (match x.st with | .done _ _ => true | _ => false) && wSignal x.words.toNat
      && s.eventQueue f (e.1 % 2 ^ 20) x == q)).length)).foldl (· + ·) 0

/-- Entries a queue has room for beyond the events that wait for it and those still due. -/
def State.queueRoom (s : State) (f q : Nat) : Nat :=
  match s.eq? f q with
  | some e => 2 ^ e.log2 - (e.used + e.waiting.length + s.eventsDue f q)
  | none => 0

/-- Deliver the messages that have overflow blocks to read, now that writes have been issued (R241). -/
def State.releaseBlocks (s : State) (f : Nat) : State :=
  ((s.ctxs.filter (fun e => e.1 / 2 ^ 20 == f)).flatMap (fun e =>
    (e.2.m.msgs.filter (fun m => m.st == .matched && m.pieces.any (fun q => q.block.isSome))).map (fun m => (e.1 % 2 ^ 20, m.msn)))).foldl
      (fun s e => s.deliver f e.1 e.2) s

/-- The messages whose receives use a queue: deliver what was held, as far as the queue has room for their events (R245). -/
def State.releaseHeld (s : State) (f q : Nat) : State :=
  ((s.ctxs.filter (fun e => e.1 / 2 ^ 20 == f)).flatMap (fun e => (e.2.m.msgs.filter (fun m => m.st == .matched)).map (fun m => (e.1 % 2 ^ 20, m)))).foldl
    (fun s e => match e.2.recv with
      | some r => if s.recvQueue f r.ctx = q ∧ 0 < s.queueRoom f q then s.deliver f e.1 e.2.msn else s
      | none => s) s

/-- End the matched messages of a function that a fault has marked (R244). -/
def State.endFailed (s : State) (f : Nat) : State :=
  ((s.ctxs.filter (fun e => e.1 / 2 ^ 20 == f)).flatMap (fun e => (e.2.m.msgs.filter (fun m => m.st == .matched && m.status != 0)).map (fun m => (e.1 % 2 ^ 20, m.msn)))).foldl
    (fun s e => s.tryEnd f e.1 e.2) s

/-! ### Commit (R238, R240) -/

/-- Commit the message at RX_MSN as matched. -/
def State.commitMatched (s : State) (f c : Nat) (m : Msg) (r : Posted) : State :=
  let s := s.modMctx f m.comm (fun x => { x with posted := x.posted.filter (fun q => q.pseq != r.pseq) })
  let s := s.modMsg f c m.msn (fun y => { y with st := .matched, recv := some r })
  let s := s.modM f c (fun y => { y with rxMsn := y.rxMsn + 1 })
  let s := match s.entry? f r.ctx r.idx with
    | some e => s.traceEntry f r.ctx e 3
    | none => s
  (s.startPull f c m r).deliver f c m.msn

/-- Commit the message at RX_MSN as unexpected, with its event where the function asks for one. -/
def State.commitUnexpected (s : State) (f c : Nat) (m : Msg) : State :=
  let s := s.modMctx f m.comm (fun x => { x with unexp := x.unexp ++ [(c, m.msn)] })
  let s := (s.modMsg f c m.msn (fun y => { y with st := .unexpected, recv := none })).mCount (etOf f) 5
  let s := s.perf (8 + etOf f) 0x432 (s.homeOf f m.comm) (some f) 1
  let s := s.modM f c (fun y => { y with rxMsn := y.rxMsn + 1 })
  if bitAt (s.cfg 0x6014 f) 0 ∧ (s.ctx f c).c.rqEq ≠ 0 then
    s.post f (s.ctx f c).c.rqEq
      { recvEvent f c m 0 stOk m.mlen with type := evUnexpected }
  else s

/-- A commit step of a context for a matching context waits: inside a move's fence, or behind what waited in it (R249). -/
def State.commitWaits (s : State) (f c comm : Nat) : Bool :=
  s.fenced f comm || (s.et (etOf f)).items.contains (.commit f c comm)

/-- A commit step waits with the held items, once (R249). -/
def State.holdCommit (s : State) (f c comm : Nat) : State :=
  let e := s.et (etOf f)
  if (e.items ++ e.heldItems).contains (.commit f c comm) then s
  else s.modEt (etOf f) (fun e => { e with heldItems := e.heldItems ++ [.commit f c comm] })

/-- Commit in MSN order while the record at RX_MSN is a SHADOW, pass it while it is VOID (R227, R238). A message
inside a move's fence waits (R249). -/
def State.commitReady : Nat → State → Nat → Nat → State
  | 0, s, _, _ => s
  | n + 1, s, f, c =>
    match s.msg? f c (s.ctx f c).m.rxMsn.toNat with
    | none => s
    | some m =>
      match m.st with
      | .void =>
        let s := if m.rts then s.queueFin f c m.msn 0 else s
        State.commitReady n ((s.dropMsg f c m.msn).modM f c (fun y => { y with rxMsn := y.rxMsn + 1 })) f c
      | .shadow =>
        if s.commitWaits f c m.comm then s.holdCommit f c m.comm
        else
          let s := s.engOp f m.comm
          let s := if m.recv.isNone then s.firstMatch 64 f c m.msn else s
          let s := s.mCount (etOf f) 4
          match (s.msg? f c m.msn).bind (·.recv) with
          | some r => State.commitReady n (s.commitMatched f c m r) f c
          | none => State.commitReady n (s.commitUnexpected f c m) f c
      | _ => s

/-! ### Headers (R227, R237, R238) -/

/-- A packet that voids its MSN or is discarded alone (R227); the record names its home engine (R357). -/
def State.matchFormat (s : State) (f c comm : Nat) : State :=
  (s.mCount (etOf f) 11).report { code := 0x0610, cls := corrected, tile := 8 + etOf f, unit := s.homeOf f comm, fn := some f, ctx := some c }

/-- Attach a taken packet to its record: its arrival bit, and its payload where R236 put it. -/
def State.attach (s : State) (f c : Nat) (p : Packet) (dest : PayloadDest) : State :=
  let s := s.modMsg f c (oMsn p) (fun m =>
    let m := { m with bitmap := m.bitmap ||| (1 <<< (oOffset p / 4096)) }
    { m with complete := !m.rts && m.allArrived })
  let piece (n : Nat) (b : Option Nat) (bytes : List Byte) : Piece := 
    { off := oOffset p, slots := n, block := b, bytes := bytes,
      trace := if s.tagged p && b.isNone then some { p with payload := [] } else none }
  let add (s : State) (q : Piece) : State := s.modMsg f c (oMsn p) (fun m => { m with pieces := m.pieces ++ [q] })
  match dest with
  | .landing n => add s (piece n none p.payload)
  | .straight => add s (piece 0 none p.payload)
  | .block b =>
    let s := add ((s.returnSlots f c (landSlots p.plen)).mCount (etOf f) 6 |>.tracePkt (etOf f) 4 p) (piece 0 (some b) [])
    s.put f (bf (s.cfg 0x6013 f) 12 45 * 2 ^ 12 + 4096 * b) p.payload (.overflow c (oMsn p))
  | .discard => s

/-- Write a packet taken for straight writing even though its queue has become congested since (R245). -/
def State.deliverStraight (s : State) (f c : Nat) (p : Packet) (dest : PayloadDest) : State :=
  match dest, s.msg? f c (oMsn p) with
  | .straight, some m =>
    match m.st, m.recv, m.pieces.find? (fun q => q.off == oOffset p && q.slots == 0 && q.block.isNone) with
    | .matched, some r, some q => s.deliverPiece f c (oMsn p) r q
    | _, _, _ => s
  | _, _ => s

/-- One matching packet's header at its home engine (R238). -/
def State.header (s : State) (f c : Nat) (p : Packet) (dest : PayloadDest) : State :=
  let back (s : State) : State := match dest with
    | .landing n => s.returnSlots f c n
    | .block _ => s.returnSlots f c (xSlots p)
    | _ => s
  let s := (s.mCount (etOf f) 0).perf (8 + etOf f) 0x430 (s.homeOf f (oComm p)) (some f) 1 |>.tracePkt (etOf f) 3 p
  let s := s.engOp f (oComm p)
  if oMkind p = 3 then back (s.matchFormat f c (oComm p))
  else match s.msg? f c (oMsn p) with
  | none =>
    if 64 ≤ s.msnAbove f c (oMsn p) then back (s.matchFormat f c (oComm p))
    else
      let s := s.modM f c (fun x => { x with msgs := x.msgs ++ [newMsg p] })
      if goodFirst p then
        let s := (s.mCount (etOf f) 2).firstMatch 64 f c (oMsn p)
        let s := if oMkind p = 0 then s.attach f c p dest else s
        let s := s.commitReady 64 f c
        (s.deliverStraight f c p dest).deliver f c (oMsn p)
      else (back (s.matchFormat f c (oComm p))).commitReady 64 f c
  | some m =>
    if m.st = .void then (if sameMsg m p then back s else back (s.matchFormat f c (oComm p)))
    else if !agrees m p then back (s.matchFormat f c (oComm p))
    else ((s.attach f c p dest).deliverStraight f c p dest).deliver f c (oMsn p)

/-! ### Postings (R232) -/

/-- The receive a RECV entry posts. -/
def postedOfEntry (c : Nat) (e : Entry) (pseq : Nat) : Posted :=
  let w := e.words.toNat
  { pseq := pseq, ctx := c, idx := e.idx, comm := wComm w, tag := wA w, mask := wC w, anySrc := bitAt (wB w) 16,
    source := wD w % 2 ^ 26, addr := wLocal w, len := wLength w }

/-- The first unexpected message, in commit order, that a receive matches. -/
def State.findUnexpected (s : State) (f : Nat) (r : Posted) : Option (Nat × Msg) :=
  (s.mctx f r.comm).unexp.findSome? (fun e =>
    match s.msg? f e.1 e.2 with
    | some m => if envMatches r m.comm m.tag m.source then some (e.1, m) else none
    | none => none)

/-- Perform a posting at the home engine: bind the first matching unexpected message, or join the posted list. -/
def State.posting (s : State) (f c : Nat) (e : Entry) : State :=
  let comm := wComm e.words.toNat
  let r := postedOfEntry c e (s.mctx f comm).pseq
  let s := (s.mCount (etOf f) 1).engOp f comm
  match s.findUnexpected f r with
  | some (c', m) =>
    let s := s.modMctx f comm (fun x => { x with unexp := x.unexp.filter (fun y => y != (c', m.msn)), pseq := x.pseq + 1 })
    let s := (s.modMsg f c' m.msn (fun y => { y with st := .matched, recv := some r })).traceEntry f c e 3
    (s.startPull f c' m r).deliver f c' m.msn
  | none => s.modMctx f comm (fun x => { x with posted := x.posted ++ [r], pseq := x.pseq + 1 })

/-! ### Rendezvous at the sender (R229, R230) -/

/-- The rendezvous record of an MSN. -/
def State.rndv? (s : State) (f c msn : Nat) : Option Rndv :=
  (s.et (etOf f)).rndv.find? (fun r => r.fn == f && r.ctx == c && r.msn == msn)

/-- Answer a PULL (R230). -/
def State.pullResp (s : State) (f c : Nat) (psn : U32) (msn off len status : Nat) (data : List Byte) : State :=
  s.sendResp f c psn (matchHdr 3 0 msn status off len) data

/-- Take an accepted PULL (R230): read the buffer, or answer BOUNDS; a PULL of more than 4,096 B, which no receiver sends, has
BOUNDS too (DESIGN CHOICE, log entry 158). -/
def State.takePull (s : State) (f c : Nat) (p : Packet) : State :=
  let bad (s : State) : State := s.pullResp f c (xPsn p) (oMsn p) (oOffset p) (oMlen p) stBounds []
  match s.rndv? f c (oMsn p) with
  | none => bad s
  | some r =>
    match s.entry? f c r.idx with
    | none => bad s
    | some e =>
      if wLength e.words.toNat < oOffset p + oMlen p ∨ 4096 < oMlen p then bad s
      else if oMlen p = 0 then s.pullResp f c (xPsn p) (oMsn p) (oOffset p) 0 stOk []
      else s.hostReadReq f (wLocal e.words.toNat + oOffset p) (oMlen p)
        (.pull c (oMsn p) (xPsn p).toNat (oOffset p) (oMlen p))

/-- Take an accepted FIN (R229): the record goes, the SEND may finish. -/
def State.takeFin (s : State) (f c : Nat) (p : Packet) : State :=
  match s.rndv? f c (oMsn p) with
  | none => s
  | some r =>
    let s := s.modEt (etOf f) (fun e => { e with rndv := e.rndv.filter (fun q => !(q.fn == f && q.ctx == c && q.msn == oMsn p)) })
    (s.modEntry f c r.idx (fun e => { e with fin := true })).settle f c

/-! ### Responses landing (R231, R270) -/

/-- A response has come for a request (R270, R271): its record goes once acknowledged too, and it counts as
progress. -/
def State.responded (s : State) (f c : Nat) (psn : U32) : State :=
  let s := s.modCtx f c (fun y => { y with
    c := { y.c with retries := 0 }
    w := { y.w with
      replay := (y.w.replay.map (fun q => if q.psn = psn then { q with resp := false } else q)).filter
        (fun q => !q.acked || q.resp) } })
  (s.restartRto f c).replayWatch (etOf f)

/-- Take a PULL_RESP (R231): its payload goes straight to the receive buffer, the whole of it, also where its length is not
what its PULL asked for (DESIGN CHOICE, log entry 158). -/
def State.takePullResp (s : State) (p : Packet) : State :=
  let f := p.dstFn
  let c := p.dstCtx
  match (s.ctx f c).w.replay.find? (fun r => r.psn = xPsn p ∧ r.resp) with
  | none => s
  | some _ =>
    let s := s.responded f c (xPsn p)
    match (s.ctx f c).m.msgs.find? (fun m => m.pulls.any (fun q => q.1 == (xPsn p).toNat)) with
    | none => s
    | some m =>
      let st := takeStatus (oTag p % 256)
      let off := match m.pulls.find? (fun q => q.1 == (xPsn p).toNat) with | some q => q.2.1 | none => 0
      let s := s.modMsg f c m.msn (fun y => { y with
        pulls := y.pulls.filter (fun q => q.1 != (xPsn p).toNat)
        status := if y.status = 0 ∧ st ≠ 0 then stRemote else y.status
        written := if y.status = 0 ∧ st = 0 then y.written + p.payload.length else y.written })
      let s := match m.recv with
        | some r => if m.status = 0 ∧ st = 0 ∧ p.payload ≠ [] then (s.traceWrite f r m.written).put f (r.addr + off) p.payload (.recvBuf r.ctx r.idx) (some { ctx := c, msn := m.msn }) else s
        | none => s
      s.tryEnd f c m.msn

/-! ### Moves between engines (R247, R248) -/

/-- Index of the largest and of the smallest element. -/
def argMax (l : List Nat) : Nat := (List.range l.length).foldl (fun b i => if nth l b < nth l i then i else b) 0
def argMin (l : List Nat) : Nat := (List.range l.length).foldl (fun b i => if nth l i < nth l b then i else b) 0

/-- The matching context of the busiest engine whose own count is nearest half the difference, of those that may
move (R247). -/
def State.moveChoice (s : State) (h busy half : Nat) : Option (Nat × Nat) :=
  let cs := (s.mctxs.filter (fun e => etOf (e.1 / 2 ^ 16) == h)).filter (fun e =>
    s.homeOf (e.1 / 2 ^ 16) (e.1 % 2 ^ 16) == busy
      && s.mctxLive (e.1 / 2 ^ 16) (e.1 % 2 ^ 16) && !((s.et h).tmoves ++ (s.et h).moves).any (fun m => m.fn == e.1 / 2 ^ 16 && m.comm == e.1 % 2 ^ 16))
  let gap (n : Nat) : Nat := if n < half then half - n else n - half
  (cs.foldl (fun b e => match b with
    | none => some (e.1, e.2.ops)
    | some x => if gap e.2.ops < gap x.2 then some (e.1, e.2.ops) else some x) (none : Option (Nat × Nat))).map
      (fun x => (x.1 / 2 ^ 16, x.1 % 2 ^ 16))

/-- MATCH_BALANCE for the running interval: a write applies from the next (R252). -/
def State.balanceCfg (s : State) (h : Nat) : Nat := (s.et h).balanceOld.getD (s.cfg 0x6000 4)

/-- Keep the old MATCH_BALANCE for the intervals that run (R252). -/
def State.balanceHold (s : State) (old : Nat) : State :=
  [0, 1, 2, 3].foldl (fun s n => s.modEt n (fun e => { e with balanceOld := some (e.balanceOld.getD old) })) s

/-- Compare the engines' loads at the end of an interval and start a move if they differ enough (R247). -/
def State.balance (s : State) (h : Nat) : State :=
  let v := s.balanceCfg h
  let e := s.et h
  let busy := argMax e.engOps
  let least := argMin e.engOps
  let diff := nth e.engOps busy - nth e.engOps least
  let s := if bitAt v 0 ∧ bf v 16 16 * us * bf v 8 8 < 100 * diff then
      match s.moveChoice h busy (diff / 2) with
      | some (f, comm) =>
        ((s.modMctx f comm (fun x => { x with home := (x.home + least + 4 - busy) % 4 })).modEt h (fun e => { e with
          moves := e.moves ++ [{ fn := f, comm := comm, src := busy, at_ := s.etNow }] })).mCount h 12
      | none => s
    else s
  let s := s.modEt h (fun e => { e with engOps := [0, 0, 0, 0], balanceAt := s.etNow, balanceOld := none })
  { s with mctxs := s.mctxs.map (fun x => if etOf (x.1 / 2 ^ 16) = h then (x.1, { x.2 with ops := 0 }) else x) }

/-- An item that was looked up at this engine (R248). -/
def EngItem.at (k : Nat) : EngItem → Bool
  | .header _ _ _ _ e => e == k
  | .posting _ _ _ _ e => e == k
  | .commit _ _ _ => false

/-- The item in the hands of this engine. -/
def EngItem.to (k : Nat) : EngItem → EngItem
  | .header f c p d _ => .header f c p d k
  | .posting f c i comm _ => .posting f c i comm k
  | .commit f c comm => .commit f c comm

/-- End the fence of a move (R248): its tombstone begins, and what waited inside goes on at the new engine, the forwarded items
before the held ones, each in arrival order; commit steps among them (R249). -/
def State.endFence (s : State) (h : Nat) (m : Move) : State :=
  let mine (i : EngItem) : Bool := i.key == (m.fn, m.comm)
  let forwarded (i : EngItem) : Bool := i.at m.src
  let held := (s.et h).heldItems.filter mine
  let held := held.filter forwarded ++ held.filter (fun i => !forwarded i)
  let s := s.modEt h (fun e => { e with
    moves := e.moves.erase m, tmoves := e.tmoves ++ [{ m with fenced := false }]
    heldItems := e.heldItems.filter (fun i => !mine i), items := held.map (EngItem.to (s.homeOf m.fn m.comm)) ++ e.items })
  s.tidyMctx m.fn m.comm

end Sys2Proof.Machine
end

