-- ==== Sys2Proof/Machine/Priv.lean ====
section
/-! DEFINITION. The privileged domain (R63, R67 to R69, R72, R73, R76, R78): translation for the firmware clusters and the
store tile through tables in management SRAM, with the caches of the management tile and the store tile; and the store
tile's, the management port's and the time unit's own transfers (R87, R88, R90, R93). -/

namespace Sys2Proof.Machine

/-! ### Internal memory (R88) -/

/-- A byte of management SRAM or of the staging buffer. -/
def State.sramByte (s : State) (a : Nat) : Byte := (Tbl.get? s.priv.sram a).getD (Config.sramByte a)

/-- Write bytes from an internal address on; a word written whole is sound again. -/
def State.sramWrite (s : State) (a : Nat) : List Byte → State
  | [] => s
  | b :: r => ({ s with priv := { s.priv with sram := Tbl.put s.priv.sram a b } } : State).sramWrite (a + 1) r

/-- Words that a write of `len` bytes covers whole are sound again. -/
def State.sramMend (s : State) (a len : Nat) : State :=
  { s with priv := { s.priv with bad := s.priv.bad.filter (fun w => !(decide (a ≤ 8 * w) && decide (8 * w + 8 ≤ a + len))) } }

/-- A word of management SRAM, none where it holds an uncorrectable error (R73). -/
def State.sramWord (s : State) (a : Nat) : Option Nat :=
  if s.priv.bad.contains (a / 8) then none else some (leNat ((List.range 8).map (fun i => s.sramByte (a + i))))

/-! ### Translation -/

/-- The tile whose cache serves a master: the store tile for master 10, else the management tile (R78). -/
def Priv.tile (x : Priv) (m : Nat) : PrivTile := if m = 10 then x.st else x.mt

def State.modPriv (s : State) (m : Nat) (g : PrivTile → PrivTile) : State :=
  { s with priv := if m = 10 then { s.priv with st := g s.priv.st } else { s.priv with mt := g s.priv.mt } }

/-- The rights a privileged access needs of a leaf (R69); a leaf that lacks a right and has U 1 faults with RIGHTS (DESIGN
CHOICE, log entry 132). -/
def privFault (k : AccKind) (l : Leaf) : Option Nat :=
  let right : Bool := match k with
    | .read => l.r
    | .write => l.w
    | .atomic => l.r && l.w
    | .fetch => l.x
  if !right then some xRights else if l.u then some xUser else none

/-- A table lies in the table area of management SRAM (R73). -/
def inTableArea (t : Nat) : Bool := decide (Config.tableLo ≤ t) && decide (t + 4096 ≤ Config.tableHi)

/-- What a privileged walk ends with: a fault, or the leaf; and the pointers it has read. -/
structure PrivWalk where
  res  : Except (Nat × Nat) Leaf
  ptrs : List WalkPtr

/-- The number of the privileged domain in cached entries (R78). -/
abbrev privFn : Nat := 256

/-- Names of a table entry's fields (R67). -/
def pteValid (e : Nat) : Bool := bitAt e 0
def pteLeaf (e : Nat) : Bool := bitAt e 7
def pteAddr (e : Nat) : Nat := bf e 12 40 * 2 ^ 12

/-- The leaf a table entry at a level makes for an address. -/
def leafOf (f va level e : Nat) : Leaf :=
  let k := levelShift level
  { fn := f, base := va / 2 ^ k * 2 ^ k, log2 := k, out := pteAddr e, r := bitAt e 1, w := bitAt e 2, x := bitAt e 3,
    u := bitAt e 4 }

/-- Walk the privileged tables from a level down (R66 to R68, R72, R73). -/
def State.privWalk (s : State) (va : Nat) : Nat → Nat → List WalkPtr → PrivWalk
  | 0, _, ps => { res := .error (xFormat, 0), ptrs := ps }
  | level + 1, table, ps =>
    if !inTableArea table then { res := .error (xWalkRegion, level + 1), ptrs := ps }
    else
      match s.sramWord (table + 8 * bf va (levelShift (level + 1)) 9) with
      | none => { res := .error (xWalkBus, level + 1), ptrs := ps }
      | some e =>
        if !pteValid e then { res := .error (xNotValid, level + 1), ptrs := ps }
        else if level + 1 = 4 ∧ pteLeaf e then { res := .error (xFormat, level + 1), ptrs := ps }
        else if level = 0 ∨ pteLeaf e then
          let l := leafOf privFn va (level + 1) e
          if l.out % 2 ^ l.log2 ≠ 0 then { res := .error (xFormat, level + 1), ptrs := ps } else { res := .ok l, ptrs := ps }
        else s.privWalk va level (pteAddr e) (ps ++ [{ fn := privFn, base := va, level := level, table := pteAddr e }])

/-- Where a privileged walk starts: the walk buffer's lowest table that serves the address, or the root. -/
def State.privStart (s : State) (m va : Nat) : Nat × Nat :=
  let fits (k : Nat) : Option WalkPtr := (s.priv.tile m).ptrs.find? (fun p =>
    p.level == k && va / 2 ^ (levelShift (k + 1)) == p.base / 2 ^ (levelShift (k + 1)))
  match fits 1, fits 2, fits 3 with
  | some p, _, _ => (1, p.table)
  | none, some p, _ => (2, p.table)
  | none, none, some p => (3, p.table)
  | none, none, none => (4, bf (s.cfg 0x2018 1) 12 40 * 2 ^ 12)

/-- Put a leaf into a cache of 64; a full one loses a victim that the spec's LFSR draws (R78). -/
def State.privLeaf (s : State) (m : Nat) (l : Leaf) : State :=
  if (s.priv.tile m).cache.length < 64 then s.modPriv m (fun t => { t with cache := t.cache ++ [l] })
  else (s.modPriv m (fun t => { t with cache := t.cache.eraseIdx (s.freeVal 16 % 64) ++ [l] })).nextFree

/-- Put a pointer into a walk buffer of 16, as for the cache. -/
def State.privPtr (s : State) (m : Nat) (p : WalkPtr) : State :=
  if (s.priv.tile m).ptrs.length < 16 then s.modPriv m (fun t => { t with ptrs := t.ptrs ++ [p] })
  else (s.modPriv m (fun t => { t with ptrs := t.ptrs.eraseIdx (s.freeVal 16 % 16) ++ [p] })).nextFree

/-- What a leaf gives a privileged access. -/
def privAccess (va level : Nat) (k : AccKind) (l : Leaf) : XRes :=
  match privFault k l with
  | some code => .fault code level
  | none => .ok (l.out + va % 2 ^ l.log2)

/-- Translate an address of the privileged domain for a master (R63, R66): the cache, or a walk, whose pointers and whose
leaf, unless it faults, are cached. While ENABLE is 0 an address is an internal address (DESIGN CHOICE, log entry 137). -/
def State.privXlate (s : State) (m va : Nat) (k : AccKind) : State × XRes :=
  if !bitAt (s.cfg 0x2018 1) 0 then (s, .ok va)
  else if 2 ^ 48 ≤ va then (s, .fault xFormat 0)
  else
    match (s.priv.tile m).cache.find? (fun l => va / 2 ^ l.log2 == l.base / 2 ^ l.log2) with
    | some l => (s, privAccess va 0 k l)
    | none =>
      let w := s.privWalk va (s.privStart m va).1 (s.privStart m va).2 []
      let s := w.ptrs.foldl (fun s p => s.privPtr m p) s
      match w.res with
      | .error (code, level) => (s, .fault code level)
      | .ok l =>
        match privAccess va ((l.log2 - 3) / 9) k l with
        | .ok a => (s.privLeaf m l, .ok a)
        | x => (s, x)

/-- Translate the pieces of an access in order: the internal pieces, or the first fault. -/
def State.privAll (s : State) (m : Nat) (k : AccKind) : List (Nat × Nat) → State × Except Nat (List (Nat × Nat))
  | [] => (s, .ok [])
  | (a, n) :: r =>
    match s.privXlate m a k with
    | (s, .ok b) =>
      match s.privAll m k r with
      | (s, .ok l) => (s, .ok ((b, n) :: l))
      | x => x
    | (s, .fault code _) => (s, .error code)
    | (s, .miss) => (s, .error xNotValid)

/-- Record of a fault in the privileged domain (R76): DEFERRED, or FATAL_DEVICE for an instruction fetch of the cluster that
holds control. -/
def State.privRecord (s : State) (m code : Nat) (k : AccKind) : State :=
  let holds := m == (if s.fw.onB then 9 else 8)
  s.report { code := code, cls := if k = .fetch ∧ holds then fatalDevice else deferred, tile := if m = 10 then 12 else 13,
             unit := if m = 9 then 1 else 0 }

/-! ### Transfers of masters 10 to 12 (R87, R88, R90) -/

/-- Where a transfer of the store tile, a frame of the management port, or a sample of the time unit lies in its buffer:
the spec leaves the place within the buffer open. Under an enabled privileged domain the store tile names a virtual address,
any of 2^48 (R63, log entry 137). -/
def State.bufferAddr (s : State) (m : Nat) : Nat :=
  match m with
  | 10 => if bitAt (s.cfg 0x2018 1) 0 then s.freeVal 48 else 0x01000000 + 4096 * (s.freeVal 11)
  | 11 => 0x007C0000 + 2048 * (s.freeVal 6)
  | _ => 0x007E0000 + 64 * (s.freeVal 11)

/-- The internal pieces of a transfer: the store tile's is translated in the privileged domain first (R63). -/
def State.transferPieces (s : State) (m a len : Nat) (wr : Bool) : State × Except Nat (List (Nat × Nat)) :=
  if m = 10 ∧ bitAt (s.cfg 0x2018 1) 0 then s.privAll m (if wr then .write else .read) (pagePieces a len)
  else (s, .ok [(a, len)])

/-- Write the bytes of a transfer into its pieces (R88). -/
def State.fillPieces (s : State) : List (Nat × Nat) → List Byte → State
  | [], _ => s
  | (a, n) :: r, d => ((s.sramWrite a (d.take n)).sramMend a (d.take n).length).fillPieces r (d.drop n)

/-- Check a transfer of `len` bytes by master 10, 11 or 12 and perform it: a write leaves its bytes in the buffer. A refusal is
counted and recorded (R93), a fault of the store tile's translation recorded (R76). Answers whether it is performed. -/
def State.transfer (s : State) (m len : Nat) (wr : Bool) (data : List Byte := []) : State × Bool :=
  let a := s.bufferAddr m
  match s.transferPieces m a len wr with
  | (s, .error code) => ((s.privRecord m code (if wr then .write else .read)).nextFree, false)
  | (s, .ok l) =>
    match s.acuCheckAll m l wr with
    | none => ((if wr then s.fillPieces l data else s).nextFree.fly m ((l.map (·.1)).headD a), true)
    | some code => ((s.acuDeny m ((l.map (·.1)).headD a) len wr code).nextFree, false)

end Sys2Proof.Machine
end

