-- ==== Sys2Proof/Machine/Store.lean ====
section
/-! DEFINITION. The flash store's shared operations (spec 15): staging, persistent-window pages and space, reads,
programs, block retirement, and the fault log (R371 to R386). -/

namespace Sys2Proof.Machine

/-! ### Allotments (R377, R378), in 4 KiB pages -/

/-- Pages of 768 GiB, the persistent pool. -/
abbrev poolPages : Nat := 201326592

/-- Key of a page of a function's allotment. -/
def pkey (f page : Nat) : Nat := f * 2 ^ 28 + page

/-- SIZE and GUARANTEE of a function, in pages (a GiB is 262,144 pages). -/
def State.allotPages (s : State) (f : Nat) : Nat := bf (s.cfg 0xB010 f) 0 16 * 262144
def State.guarPages (s : State) (f : Nat) : Nat := bf (s.cfg 0xB010 f) 16 16 * 262144

/-- Physical pages a function holds. -/
def State.usedPages (s : State) (f : Nat) : Nat := (s.store.pages.filter (fun e => e.1 / 2 ^ 28 == f)).length

/-- Sum over all functions of the larger of used and guaranteed space. -/
def State.claimed (s : State) : Nat := ((List.range 256).map (fun f => max (s.usedPages f) (s.guarPages f))).foldl (· + ·) 0

/-- The free pool (R378). -/
def State.freePool (s : State) : Nat := poolPages - s.claimed

/-- Pages that `len` bytes at `off` touch. -/
def pagesOf (off len : Nat) : List Nat := (pagePieces off len).map (fun p => p.1 / 4096)

/-- Pages of a write that hold no space yet. -/
def State.newPages (s : State) (f off len : Nat) : List Nat :=
  if len = 0 then [] else (pagesOf off len).filter (fun p => (Tbl.get? s.store.pages (pkey f p)).isNone)

/-- Space can be had for every new page of a write (R378), in a store that takes window writes (R382). -/
def State.storeSpace (s : State) (f off len : Nat) : Bool :=
  s.store.st == 0 &&
    (let n := (s.newPages f off len).length
     n == 0 || decide (s.usedPages f + n ≤ s.guarPages f)
      || decide (s.usedPages f + n - max (s.usedPages f) (s.guarPages f) ≤ s.freePool))

/-! ### Staging (R373) -/

/-- Bytes an item holds in staging: window data, a journal record's 8-byte key and value, a 32-byte log record. -/
def StageItem.size : StageItem → Nat
  | .window _ _ _ b => b.length
  | .journal _ _ => 16
  | .log _ => 32

/-- Staging bytes held. -/
def State.staged (s : State) : Nat := (s.store.staging.map StageItem.size).foldl (· + ·) 0

/-- A window write leaves 256 KiB of staging free (R373). -/
def State.stagingTakes (s : State) (len : Nat) : Bool := decide (s.staged + len + 262144 ≤ 8388608)

/-- Append an item. -/
def State.stage (s : State) (i : StageItem) : State :=
  ({ s with store := { s.store with staging := s.store.staging ++ [i], accepted := s.store.accepted + i.size } } : State).perf
    12 0x800 0x3F none i.size

/-- True for staged window data of a page. -/
def StageItem.onPage (f page : Nat) : StageItem → Bool
  | .window f' p' _ _ => f' == f && p' == page
  | _ => false

/-- Place one page's bytes of a window write: the page is allocated (R378). -/
def State.stagePage (s : State) (f a : Nat) (bytes : List Byte) : State :=
  let k := pkey f (a / 4096)
  let g : FlashPage := Tbl.getD s.store.pages k {}
  { s with store := { s.store with pages := Tbl.put s.store.pages k g } }.stage (.window f (a / 4096) (a % 4096) bytes)

/-- Place a window write (R273): its bytes are durable once staging holds them. -/
def State.storeWrite (s : State) (f off : Nat) (bytes : List Byte) : State :=
  if bytes = [] then s
  else ((pagePieces off bytes.length).foldl (fun s p => s.stagePage f p.1 ((bytes.drop (p.1 - off)).take p.2)) s).storeCount 0 bytes.length

/-! ### Reads (R374, R380) -/

/-- The newest byte at an offset of an allotment: the last staged write of it, else flash, else 0. -/
def State.storeByte (s : State) (f a : Nat) : Byte :=
  s.store.staging.foldl (fun b i => match i with
      | .window f' p off bs => if f' = f ∧ p = a / 4096 ∧ off ≤ a % 4096 ∧ a % 4096 < off + bs.length
          then bs.getD (a % 4096 - off) 0 else b
      | _ => b)
    (Mem.byte (Tbl.getD s.store.pages (pkey f (a / 4096)) {}).bytes (a % 4096))

/-- Newest bytes of a range. -/
def State.storeBytes (s : State) (f off len : Nat) : List Byte := (List.range len).map (fun i => s.storeByte f (off + i))

/-- A page is unreadable: its flash copy is, and no write of all its 4 KiB is staged (R380). -/
def State.pageUnreadable (s : State) (f page : Nat) : Bool :=
  (Tbl.getD s.store.pages (pkey f page) {}).unreadable
    && !s.store.staging.any (fun i => match i with
      | .window f' p _ b => f' == f && p == page && b.length == 4096
      | _ => false)

/-- A page of the range is unreadable (R380). -/
def State.storeUnreadable (s : State) (f off len : Nat) : Bool :=
  len != 0 && (pagesOf off len).any (fun p => s.pageUnreadable f p)

/-- Pages of a range that only flash can answer: allocated, with no newer copy in staging. -/
def State.needsFlash (s : State) (f off len : Nat) : Bool :=
  len != 0 && (pagesOf off len).any (fun p =>
    (Tbl.get? s.store.pages (pkey f p)).isSome && !s.store.staging.any (StageItem.onPage f p))

/-! ### Blocks (R382, R383) -/

/-- Blocks of the factory bad-block table (R382). -/
def factoryBad : Nat := Config.factoryBad % 1312

/-- Spare blocks usable: those left by retirements, less the factory's bad ones, which the partitions never use (R372,
R382; DEDUCED, log entry 150). -/
def Store.usable (x : Store) : Nat := x.spare - factoryBad

/-- The store's state after a fall of the usable spare count, with each state's fault once (R382). -/
def State.spareWatch (s : State) : State :=
  let s := if s.store.usable < 1024 ∧ !s.store.lowRec then
      ({ s with store := { s.store with lowRec := true, st := max s.store.st 1 } }).stFault 0x0B30 deferred
    else s
  if s.store.usable < 256 ∧ !s.store.critRec then
    ({ s with store := { s.store with critRec := true, st := max s.store.st 2 } }).stFault 0x0B31 deferred
  else s

/-- Retire a block (R382). -/
def State.retire (s : State) (b : Nat) : State :=
  if s.store.grown.contains b then s
  else
    (({ s with store := { s.store with
        grown := s.store.grown ++ [b], spare := s.store.spare - 1
        refreshing := s.store.refreshing.filter (· != b) } }.stFault 0x0B20 corrected b).storeCount 14 1).spareWatch

/-- Sum of erase counts over every block. -/
def Store.eraseSum (x : Store) : Nat := (x.erases.map (·.2)).foldl (· + ·) 0

/-- Highest erase count, and the least over the blocks the store uses: 0 while one of them was never erased. -/
def Store.maxPe (x : Store) : Nat := (x.erases.map (·.2)).foldl max 0
def Store.minPe (x : Store) : Nat :=
  if x.erases.length + factoryBad < 65536 then 0 else (x.erases.map (·.2)).foldl min x.maxPe

/-- AVG_PE in 1/100 cycle and PERCENT_USED (R385). -/
def Store.avgPe (x : Store) : Nat := 100 * x.eraseSum / 65536
def Store.percent (x : Store) : Nat := min 255 (x.avgPe / 3000)

/-- WEAR_90 and WEAR_100 (R383). -/
def State.wearWatch (s : State) : State :=
  let s := if 90 ≤ s.store.percent ∧ !s.store.wear90 then
      ({ s with store := { s.store with wear90 := true } }).stFault 0x0B40 corrected
    else s
  if 100 ≤ s.store.percent ∧ !s.store.wear100 then
    ({ s with store := { s.store with wear100 := true } }).stFault 0x0B41 deferred
  else s

/-- Erase a block: its count rises (R383). -/
def State.eraseBlock (s : State) (b : Nat) : State :=
  ({ s with store := { s.store with erases := Tbl.put s.store.erases b (Tbl.getD s.store.erases b 0 + 1) } }.storeCount 13 1).wearWatch

/-- A block needs a refresh (R381). -/
def State.refresh (s : State) (b : Nat) : State :=
  if s.store.refreshing.contains b || s.store.grown.contains b then s
  else { s with store := { s.store with refreshing := s.store.refreshing ++ [b] } }

/-! ### Programs (R373, R384) -/

/-- A journal key at or above this is a record of the new format (R397). -/
abbrev newFormat : Nat := 2 ^ 26

/-- The last `n` of a list. -/
def newest {α : Type} (n : Nat) (l : List α) : List α := l.drop (l.length - n)

/-- Put an item into flash: window bytes into their page, a journal record into the journal its firmware reads, a
fault record into the log, oldest overwritten first (R372). -/
def State.programItem (s : State) (block : Nat) : StageItem → State
  | .window f page off bs =>
    let k := pkey f page
    match Tbl.get? s.store.pages k with
    | none => s
    | some g => { s with store := { s.store with
        pages := Tbl.put s.store.pages k { g with
          bytes := Mem.write g.bytes off bs, block := block, flashed := true, unreadable := g.unreadable && bs.length != 4096 } } }
  | .journal k v =>
    if k < newFormat then { s with dict := { s.dict with journal := Tbl.put s.dict.journal k v } }
    else { s with dict := { s.dict with journal2 := Tbl.put s.dict.journal2 (k - newFormat) v } }
  | .log r => { s with store := { s.store with log := newest 134217728 (s.store.log ++ [r]) } }

/-- Program the oldest staged item and free its space (R373). -/
def State.programFirst (s : State) (block : Nat) : State :=
  match s.store.staging with
  | [] => s
  | i :: rest =>
    ((({ s with store := { s.store with staging := rest, programmed := s.store.programmed + i.size } }.programItem block i).storeCount 3
      i.size).perf 12 0x801 0x3F none i.size).emit (.flashProgram block)

/-- Move the oldest record of the fault queue into staging, while the store takes log records (R361, R382). -/
def State.logDrain : Nat → State → State
  | 0, s => s
  | n + 1, s =>
    match s.faults.queue with
    | [] => s
    | r :: rest =>
      if 2 ≤ s.store.st then
        State.logDrain n { s with faults := { s.faults with queue := rest, logLost := satAdd 32 s.faults.logLost 1 } }
      else if 8388608 < s.staged + 32 then s
      else State.logDrain n ((({ s with faults := { s.faults with queue := rest } }.stage (.log r)).storeCount 2 32))

/-- Allotment pages of a range freed: they read as 0 and hold no space (R379). -/
def State.freePages (s : State) (f lo hi : Nat) : State :=
  { s with store := { s.store with
      pages := s.store.pages.filter (fun e => !(e.1 / 2 ^ 28 == f && decide (lo ≤ e.1 % 2 ^ 28) && decide (e.1 % 2 ^ 28 < hi)))
      staging := s.store.staging.filter (fun i => match i with
        | .window f' p _ _ => !(f' == f && decide (lo ≤ p) && decide (p < hi))
        | _ => true) } }

/-- A registered KIND 1 window of the function that overlaps a byte range. -/
def State.storeWinOver (s : State) (f lo hi : Nat) : Bool :=
  s.wins.any (fun e => e.2.reg && e.2.store && e.2.fn == f && decide (e.2.base < hi) && decide (lo < e.2.base + e.2.len))

end Sys2Proof.Machine
end

