-- ==== Sys2Proof/Machine/Rma.lean ====
section
/-! DEFINITION. Remote memory access (spec 10): windows and keys, the target's checks, placement, atomics, saved
responses and the completion point (R254 to R274, R430), and responses at the initiator (R269 to R271). -/

namespace Sys2Proof.Machine

/-! ### Windows (R254) -/

/-- The window in a function's slot is admitted: its REGISTER record is issued (R257), no REVOKE accepted (R258). -/
def State.admitted (s : State) (f k : Nat) : Bool :=
  !(s.win (etOf f) k).gone && !(s.fn f).writes.any (fun h => h.admits == some k)

/-- The window a key names for a context of a function (check 2 of R262). -/
def State.winOf (s : State) (f c rkey : Nat) : Option Win :=
  let w := s.win (etOf f) (rkey % 65536)
  if rkey % 65536 < 8192 && w.reg && w.tag == rkey / 65536 && w.fn == f && s.admitted f (rkey % 65536) && (!w.ctxb || w.bound == c)
  then some w else none

/-- The slot a key names, if the function holds it (R257). -/
def State.heldKey (s : State) (f rkey : Nat) : Bool :=
  let w := s.win (etOf f) (rkey % 65536)
  decide (rkey % 65536 < 8192) && w.reg && w.tag == rkey / 65536 && w.fn == f

/-- An accepted REVOKE takes its key from lookup at once (R258). -/
def State.winAccept (s : State) (f v : Nat) : State :=
  if wcOp v = 1 ∧ s.heldKey f (wcRkey v) then s.modWin (etOf f) (wcRkey v % 65536) (fun w => { w with gone := true }) else s

/-- Windows a function holds, and a tile. -/
def State.winUse (s : State) (f : Nat) : Nat := (s.wins.filter (fun e => e.2.reg && e.2.fn == f)).length
def State.winsIn (s : State) (h : Nat) : Nat := (s.wins.filter (fun e => e.1 / 8192 == h && e.2.reg)).length

/-- The lowest slot of a tile that no window holds. -/
def State.freeSlot (s : State) (h : Nat) : Option Nat := (List.range 8192).find? (fun k => !(s.win h k).reg)

/-- The TAG after a revoke: it skips 0 (R254). -/
def bumpTag (t : Nat) : Nat := if t = 65535 then 1 else t + 1

/-- Revoke a slot: its TAG rises, its cached words go (R254, R258, R265). -/
def State.revokeSlot (s : State) (h k : Nat) : State :=
  let w := s.win h k
  let s := s.modWin h k (fun w => { w with reg := false, gone := false, tag := bumpTag w.tag })
  (s.modEt h (fun e => { e with
    atoms := e.atoms.filter (fun a => !(a.fn == w.fn && decide (w.base ≤ a.va) && decide (a.va < w.base + w.len))) })).uncache
    (fun r => r.fn == w.fn && decide (w.base ≤ r.addr) && decide (r.addr < w.base + w.len))

/-! ### Checks (R262, R430) -/

/-- Check 1: OPC, XLEN, PLEN and LAST agree. -/
def rmaShape (p : Packet) : Bool :=
  let op := oOpc p
  let x := oXlen p
  if op = opWrite ∨ op = opWriteNotify then
    if oLast p then p.plen == x - 4096 * (max 1 (ceilDiv x 4096) - 1) else decide (4096 < x) && p.plen == 4096
  else if op = opRead then p.plen == 0 && (if oLast p then decide (x ≤ 4096) else x == 4096)
  else oLast p && x == 8 && p.plen == (if op = opCswap then 16 else 8) && oRaddr p % 8 == 0

/-- Bytes a request acts on. -/
def rmaBytes (p : Packet) : Nat :=
  if oOpc p = opRead then oXlen p else if isAtomic (oOpc p) then 8 else p.plen

/-- Checks 1 to 5 in order: the status, and the window once check 2 has passed. -/
def State.rmaCheck (s : State) (f c : Nat) (p : Packet) : Nat × Win :=
  if !rmaShape p then (stMalformed, {})
  else
    match s.winOf f c (oRkey p) with
    | none => (stKey, {})
    | some w =>
      let op := oOpc p
      let right := if op = opRead then w.rd else if op = opWrite then w.wr else if op = opWriteNotify then w.wr && w.nt
        else w.atm && !w.store
      let n := rmaBytes p
      if !right then (stRemote, w)
      else if oRaddr p < w.base ∨ w.base + w.len < oRaddr p + n then (stBounds, w)
      else if w.store && (op == opWrite || op == opWriteNotify) && !s.storeSpace f (oRaddr p) n then (stStoreFull, w)
      else (stOk, w)

/-- The RMA_COUNTS counter of a refusal (R276). -/
def refusalCtr (st : Nat) : Nat :=
  if st = stMalformed then 4 else if st = stKey then 5 else if st = stRemote then 6 else if st = stBounds then 7 else 8

/-! ### Saved responses (R266, R267) -/

/-- Saved records in use or promised to a request in progress. -/
def State.saveUse (s : State) (h : Nat) : Nat :=
  (s.et h).saved.length + ((s.et h).targets.filter (fun t => isAtomic t.opc)).length
  + ((s.ctxs.filter (fun e => etOf (e.1 / 2 ^ 20) == h)).map (fun e => e.2.w.lasts.length)).foldl (· + ·) 0

/-- Follow the saved-response table's fullness (R267). -/
def State.saveWatch (s : State) (h : Nat) : State :=
  if 16384 ≤ s.saveUse h then
    s.modEt h (fun e => match e.saveAt with
      | some _ => e
      | none => { e with saveAt := some s.etNow, saveRec := e.saveRec && decide (s.etNow < e.saveFreeAt + ms) })
  else
    match (s.et h).saveAt with
    | some _ => s.modEt h (fun e => { e with saveAt := none, saveFreeAt := s.etNow })
    | none => s

/-- Release saved records that an accepted DATA packet shows answered (R266). -/
def State.rack (s : State) (f c : Nat) (p : Packet) : State :=
  let low := xPsn p - BitVec.ofNat 32 (xRackOff p)
  let gone (r : Saved) : Bool := r.fn == f && r.ctx == c &&
    (xRackOff p == 0 || (decide (dist low r.psn < 2 ^ 31) && low != r.psn))
  (s.modEt (etOf f) (fun e => { e with saved := e.saved.filter (fun r => !gone r) })).saveWatch (etOf f)

/-- Why a remote-access request is refused as not ready (R267): its RMA_COUNTS counter. The last two causes need a window that
the packet's key names, whatever its other checks would say (DEDUCED, log entry 159). -/
def State.rmaNotReady (s : State) (f c : Nat) (p : Packet) : Option Nat :=
  let op := oOpc p
  let write := op == opWrite || op == opWriteNotify
  let known := (s.rmaCheck f c p).1 != stMalformed && (s.rmaCheck f c p).1 != stKey
  let w := (s.rmaCheck f c p).2
  if (isAtomic op || (write && oLast p)) && decide (16384 ≤ s.saveUse (etOf f)) then some 10
  else if op == opWriteNotify && oLast p && known && w.nt && s.congested f w.notifyEq then some 11
  else if write && known && w.store && !s.stagingTakes p.plen then some 12
  else none

/-! ### Answers -/

/-- Answer a READ or atomic at the target; an atomic's response is saved. -/
def State.answer (s : State) (o : TargetOp) (status : Nat) (data : List Byte) : State :=
  let s := State.sendResps (1 + o.dups) s o.fn o.ctx o.psn (rmaHdr o.opc false status o.rkey o.raddr 0 data.length) data
  if isAtomic o.opc then (s.saveResp o.fn o.ctx o.psn o.opc o.rkey o.raddr status data).saveWatch (etOf o.fn) else s

/-- Take an operation off the tile's list. -/
def State.dropTarget (s : State) (o : TargetOp) : State :=
  s.modEt (etOf o.fn) (fun e => { e with
    targets := e.targets.filter (fun t => !(t.fn == o.fn && t.ctx == o.ctx && t.psn == o.psn)) })

/-- The operation a read was for. -/
def State.target? (s : State) (f c : Nat) (psn : U32) : Option TargetOp :=
  (s.et (etOf f)).targets.find? (fun t => t.fn == f && t.ctx == c && t.psn == psn)

/-! ### Atomics (R264, R265) -/

/-- The new value of a word, none when CSWAP leaves it. -/
def atomicNew (op a b old : Nat) : Option Nat :=
  if op = opFetchAdd then some ((old + a) % 2 ^ 64)
  else if op = opSwap then some a
  else if old = a then some b else none

def State.cacheOn (s : State) (h : Nat) : Bool := s.cfg 0x5034 (h + 1) == 1

/-- Put a word into the atomic cache; a full cache loses one that the spec does not name. -/
def State.cacheWord (s : State) (h : Nat) (x : AtomWord) : State :=
  if !s.cacheOn h then s
  else
    let s := s.modEt h (fun e => { e with atoms := e.atoms.filter (fun y => !(y.fn == x.fn && y.bus == x.bus)) })
    if (s.et h).atoms.length < 1024 then s.modEt h (fun e => { e with atoms := e.atoms ++ [x] })
    else (s.modEt h (fun e => { e with atoms := e.atoms.eraseIdx (s.freeVal 16 % 1024) ++ [x] })).nextFree

/-- Perform an atomic on the value its word holds and answer it; its word is cached, with the leaves it was translated
through, unless an event has dropped it meanwhile. -/
def State.performAtomic (s : State) (o : TargetOp) (bus old : Nat) (spans : List (Nat × Nat)) (keep : Bool) : State :=
  let s := match atomicNew o.opc o.a o.b old with
    | some v => (s.queueWrite o.fn bus (natLe 8 v) .bus).flushWrites o.fn
    | none => s
  let s := if keep then s.cacheWord (etOf o.fn)
      { fn := o.fn, va := o.raddr, bus := bus, val := (atomicNew o.opc o.a o.b old).getD old, spans := spans } else s
  (s.answer o stOk (natLe 8 old)).dropTarget o

/-- Start an atomic (R264): a cached word is used at once, else its word is read; one at a time on each word. -/
def State.startAtomic (s : State) (o : TargetOp) : State :=
  let read (s : State) : State := s.hostReadReq o.fn o.raddr 8 (.target o.ctx o.psn) .atomic
  match s.lookup o.fn o.raddr .atomic with
  | .ok bus =>
    if s.wordBusy (etOf o.fn) bus then read s
    else
      match s.cachedWord o.fn bus with
      | some v => (s.rCount (etOf o.fn) 13).performAtomic o bus v (s.spansOf o.fn [(o.raddr, 8)]) true
      | none => read s
  | _ => read s

/-- Retry the atomics of a tile that wait for their word. -/
def State.retryAtomics (s : State) (h : Nat) : State :=
  ((s.reads.filter (fun e => e.2.hp == h && e.2.kind == .atomic && e.2.pieces.isNone && e.2.fault.isNone)).map (·.1)).foldl
    (fun s tag => s.tryRead tag) s

/-! ### Requests (R262, R263) -/

/-- Keep the first refused WRITE packet's status (R268). -/
def State.keepStatus (s : State) (f c st : Nat) : State :=
  s.modW f c (fun w => { w with kept := if w.kept = 0 then st else w.kept })

/-- Insert an accepted LAST packet in PSN order. -/
def insertLast (low : U32) (l : LastPkt) : List LastPkt → List LastPkt
  | [] => [l]
  | x :: r => if dist l.psn low < dist x.psn low then l :: x :: r else x :: insertLast low l r

/-- Write the payload of a packet to a persistent window, through staging (R273); a transfer that access control refuses
is not performed, and its work finishes with BOUNDS (R93). -/
def State.windowStore (s : State) (f c : Nat) (p : Packet) : State :=
  if p.payload = [] then s
  else
    match s.transfer 10 p.payload.length true p.payload with
    | (s, true) => s.storeWrite f (oRaddr p) p.payload
    | (s, false) => (s.keepStatus f c stBounds).rCount (etOf f) (refusalCtr stBounds)

/-- Start the read of a READ (R262, R273): host memory, staging, or flash. -/
def State.startRead (s : State) (o : TargetOp) (w : Win) : State :=
  let h := etOf o.fn
  if o.len = 0 then s.answer o stOk []
  else if !w.store then (s.modEt h (fun e => { e with targets := e.targets ++ [o] })).hostReadReq o.fn o.raddr o.len (.target o.ctx o.psn)
  else
    let s := s.storeCount 4 1
    match s.transfer 10 o.len false with
    | (s, false) => (s.answer o stBounds []).rCount h (refusalCtr stBounds)
    | (s, true) =>
    if s.store.st = 3 || s.storeUnreadable o.fn o.raddr o.len then (s.answer o stRemote []).rCount h 6
    else if s.needsFlash o.fn o.raddr o.len then
      { s with store := { s.store with reads := s.store.reads ++ [{ id := s.store.nextId, op := o, bytes := s.storeBytes o.fn o.raddr o.len }], nextId := s.store.nextId + 1 } }
    else (s.storeCount 5 1).answer o stOk (s.storeBytes o.fn o.raddr o.len)

/-- The operation of a request packet. -/
def targetOf (f c : Nat) (p : Packet) : TargetOp :=
  { fn := f, ctx := c, psn := xPsn p, opc := oOpc p, rkey := oRkey p, raddr := oRaddr p, len := rmaBytes p,
    a := leNat (p.payload.take 8), b := leNat ((p.payload.drop 8).take 8) }

/-- A READ passes the checks of R262 and is read, the first time and for every duplicate (R266). -/
def State.takeRead (s : State) (f c : Nat) (p : Packet) : State :=
  let r := s.rmaCheck f c p
  let o := targetOf f c p
  if r.1 = stOk then s.startRead o r.2
  else (s.answer o r.1 []).rCount (etOf f) (refusalCtr r.1)

/-- An accepted remote-access request at the target. -/
def State.rmaTake (s : State) (f c : Nat) (p : Packet) : State :=
  let h := etOf f
  let op := oOpc p
  let r := s.rmaCheck f c p
  if op = opRead then (s.rCount h 1).takeRead f c p
  else if isAtomic op then
    let o := targetOf f c p
    let s := s.rCount h 2
    if r.1 = stOk then (s.modEt h (fun e => { e with targets := e.targets ++ [o] })).startAtomic o
    else (s.answer o r.1 []).rCount h (refusalCtr r.1)
  else
    let s := s.rCount h 0
    let s := if r.1 ≠ stOk then
        let s := if r.1 = stStoreFull then s.storeCount 7 1 else s
        (s.keepStatus f c r.1).rCount h (refusalCtr r.1)
      else if r.2.store then s.windowStore f c p
      else if p.payload = [] then s
      else s.put f (oRaddr p) p.payload (.window c)
    if oLast p then
      s.modCtx f c (fun y => { y with w := { y.w with
        lasts := insertLast (y.c.rxEpsn - 0x80000000)
          { psn := xPsn p, opc := op, rkey := oRkey p, raddr := oRaddr p, notify := oNotify p, xlen := oXlen p,
            source := eventSource p.sform p.srcDev p.srcFn, eq := r.2.notifyEq } y.w.lasts } })
    else s

/-- The read of a READ or of an atomic's word has ended (R262 check 6, R264). -/
def State.targetRead (s : State) (f c : Nat) (psn : U32) (r : HostRead) (res : ReadResult) : State :=
  match s.target? f c psn with
  | none => s
  | some o =>
    let h := etOf f
    let s := match res with
      | .ok data =>
        if r.fault.isSome then ((s.answer o stRemote []).dropTarget o).rCount h 9
        else if isAtomic o.opc then
          match r.pieces with
          | some ((bus, _) :: _) =>
            (if r.hit.isSome then s.rCount h 13 else s).performAtomic o bus (leNat (data.take 8)) r.spans (!r.noCache)
          | _ => s.dropTarget o
        else (s.answer o stOk (data.take o.len)).dropTarget o
      | .failed =>
        let s := if r.fault.isSome then s else s.fnFault 0x0240 deferred f (some c)
        ((s.answer o stRemote []).dropTarget o).rCount h 9
    s.retryAtomics h

/-- Answer a duplicate of a remote-access request (R210, R266): with its original's answer while that is in progress, a READ
by a new pass, anything else from the saved record. -/
def State.rmaDuplicate (s : State) (f c : Nat) (p : Packet) : State :=
  let h := etOf f
  if (s.target? f c (xPsn p)).isSome then
    (s.rCount h 14).modEt h (fun e => { e with
      targets := e.targets.map (fun t => if t.fn == f && t.ctx == c && t.psn == xPsn p then { t with dups := t.dups + 1 } else t) })
  else if s.store.reads.any (fun x => x.op.fn == f && x.op.ctx == c && x.op.psn == xPsn p) then
    let s := s.rCount h 14
    { s with store := { s.store with reads := s.store.reads.map (fun x =>
        if x.op.fn == f && x.op.ctx == c && x.op.psn == xPsn p then { x with op := { x.op with dups := x.op.dups + 1 } } else x) } }
  else if oOpc p = opRead then (s.rCount h 14).takeRead f c p
  else if (s.ctx f c).w.lasts.any (fun l => l.psn == xPsn p) then
    (s.rCount h 14).modW f c (fun w => { w with
      lasts := w.lasts.map (fun l => if l.psn = xPsn p then { l with dups := l.dups + 1 } else l) })
  else
    match (s.et h).saved.find? (fun r => r.fn == f && r.ctx == c && r.psn == xPsn p) with
    | some r => (s.rCount h 14).sendResp f c r.psn (rmaHdr r.opc false r.status r.rkey r.raddr 0 r.data.length) r.data
    | none => s

/-! ### Responses at the initiator (R269 to R271) -/

/-- Write landed bytes at held bus addresses. -/
def State.putHeld (s : State) (f c : Nat) (idx : U32) : List (Nat × Nat) → List Byte → State
  | [], _ => s
  | (b, n) :: r, bytes => ((s.queueWrite f b (bytes.take n) (.landing c idx)).putHeld f c idx r (bytes.drop n))

/-- Take the response to a request that awaits one (R271): place its data, note its status, release its record. -/
def State.takeResponse (s : State) (p : Packet) : State :=
  let f := p.dstFn
  let c := p.dstCtx
  match (s.ctx f c).w.replay.find? (fun r => r.psn = xPsn p ∧ r.resp) with
  | none => s
  | some r =>
    let st := takeStatus (oStatus p)
    let data := r.opc == opRead || isAtomic r.opc
    let s := if r.voided then s.rCount (etOf f) 15
      else if data && st == stOk then (s.putHeld f c r.idx r.held p.payload).flushWrites f else s
    let s := s.modEntry f c r.idx (fun e => { e with
      awaited := e.awaited - 1
      own := if r.voided then some (e.own.getD stXlate) else e.own
      bad := if st = stOk then e.bad else e.bad ++ [(dist (xPsn p) e.firstPsn, st)] })
    let s := s.responded f c (xPsn p)
    s.settle f c

end Sys2Proof.Machine
end

