-- ==== Sys2Proof/Machine/Colls.lean ====
section
/-! DEFINITION. In-network collectives (spec 11): trees, entries, combining, results and breaks (R278 to R303). -/

namespace Sys2Proof.Machine

/-! ### Tree entries (R279) -/

def tRoot (v : Nat) : Bool := bitAt v 1
def tParent (v : Nat) : Nat := bf v 4 6
def tUbuf (v : Nat) : Nat := bf v 16 10
def tDbuf (v : Nat) : Nat := bf v 32 10
def tInst (v : Nat) : Nat := bf v 48 8
def tChild (v p : Nat) : Bool := bitAt v (64 + p)
def tLocal (v f : Nat) : Bool := bitAt v (128 + f)

/-- Child edges in port order and local members in identity order: the fold order of R289. -/
def tChildren (v : Nat) : List Nat := (List.range 64).filter (tChild v)
def tLocals (v : Nat) : List Nat := (List.range 256).filter (tLocal v)

/-- Every edge of a tree at this device. -/
def tEdges (v : Nat) : List Nat := tChildren v ++ (if tRoot v then [] else [tParent v])

/-- The home port tile (R278). -/
def treeHome (t v : Nat) : Nat := if tRoot v then t % 8 else ptOf (tParent v)

/-- Units of 256 B a tree reserves (R280). -/
def treeUnits (v : Nat) : Nat :=
  let c := (tChildren v).length
  let e := ((List.range 4).filter (fun h => (tLocals v).any (fun f => etOf f == h))).length
  2 * tUbuf v * (c + e + 1) + (if tRoot v then 0 else 2 * tDbuf v) + c + (if tRoot v then 0 else 1)

/-- Free units of a port tile's collective buffer. -/
def State.collFree (s : State) (n : Nat) : Nat :=
  4096 - ((s.trees.filter (fun e => e.2.installed && treeHome e.1 e.2.entry.toNat == n)).map (fun e => e.2.units)).foldl (· + ·) 0

/-- A fabric port is up (R131): stage 9. -/
def State.portUp (s : State) (p : Nat) : Bool := (s.link p).stage == 9

/-- The checks of R280 on an entry to install. -/
def State.treeOk (s : State) (t v : Nat) : Bool :=
  let up (p : Nat) : Bool := s.portUp p && !(s.link p).flatOnly && !(s.link p).mgmtOnly
  s.coord?.isSome && (tRoot v || (up (tParent v) && !tChild v (tParent v))) && (tChildren v).all up
    && decide (1 ≤ tUbuf v) && decide (1 ≤ tDbuf v) && !((tChildren v).isEmpty && (tLocals v).isEmpty)
    && (tLocals v).all s.present && decide (treeUnits v ≤ s.collFree (treeHome t v))

/-- A port is an edge of an installed, unbroken tree. -/
def State.treeEdge (s : State) (p : Nat) : Bool :=
  s.trees.any (fun e => e.2.installed && !e.2.broken && (tEdges e.2.entry.toNat).contains p)

/-- Install a tree (R280); the silence of an edge no tree used counts from here (R297). -/
def State.installTree (s : State) (t v : Nat) : State :=
  let fresh := (tEdges v).filter (fun p => !s.treeEdge p)
  (fresh.foldl (fun s p => s.modPortq p (fun q => { q with collAt := s.now })) s).modTree t (fun _ => { entry := BitVec.ofNat 512 v, installed := true, units := treeUnits v })

/-- The 64 bytes a read of COLL_TREE returns (R279, R302). -/
def State.treeWord (s : State) (t : Nat) : Nat :=
  let x := s.tree t
  s.cfg (0x7100 + t / 256) (t % 256)
    + pack [(2, 1, b2n x.broken), (3, 1, b2n x.installed), (384, 16, x.oldest), (400, 16, x.breakCode)]

/-! ### Collective packets (R278, R287, R288) -/

def kCtype (p : Packet) : Nat := bf p.ext 0 4
def kTree (p : Packet) : Nat := bf p.ext 4 12
def kSeq (p : Packet) : Nat := bf p.ext 16 16
def kKind (p : Packet) : Nat := bf p.ext 32 3
def kDtype (p : Packet) : Nat := bf p.ext 35 4
def kRedop (p : Packet) : Nat := bf p.ext 39 3
def kExact (p : Packet) : Bool := bitAt p.ext 42
def kHasRoot (p : Packet) : Bool := bitAt p.ext 43
def kStatus (p : Packet) : Nat := bf p.ext 48 8
def kInst (p : Packet) : Nat := bf p.ext 56 8
def kLength (p : Packet) : Nat := bf p.ext 64 32
def kOffset (p : Packet) : Nat := bf p.ext 96 32

/-- The collective header. -/
def collHdr (ctype t seq kind dtype redop : Nat) (exact_ hasRoot : Bool) (status inst len off : Nat) : Nat :=
  pack [(0, 4, ctype), (4, 12, t), (16, 16, seq), (32, 3, kind), (35, 4, dtype), (39, 3, redop), (42, 1, b2n exact_),
    (43, 1, b2n hasRoot), (48, 8, status), (56, 8, inst), (64, 32, len), (96, 32, off)]

/-- Append a packet to an egress port's queues. -/
def PortQ.enqueue (q : PortQ) (x : QPkt) : PortQ := { q with egress := q.egress ++ [x] }

/-- The highest depth of a queue since the last sample (R186). -/
def State.noteDepth (s : State) (p v : Nat) : State :=
  let d := ((s.queuedFor p).filter (fun q => q.vc == v)).length
  s.modPortq p (fun x => { x with maxDepth := x.maxDepth.set v (max (nth x.maxDepth v) d) })

/-- Put a packet into an egress queue from port tile n; to a port of another tile it crosses the mesh (R429), on the
channel of the pair that the egress port's place in its tile numbers (DESIGN CHOICE, log entry 36). -/
def State.queueAt (s : State) (n p : Nat) (q : QPkt) : State :=
  (if n = ptOf p then s.modPortq p (fun x => x.enqueue q) else s.offer n (ptOf p) (p % 8) (.egress p q)).noteDepth p q.vc

/-- A collective packet to a neighbour, on CUP or on CDN (R278, R287): its GEN is the active generation's (R139). -/
def State.collPacket (s : State) (p : Nat) (up : Bool) (ext : Nat) (payload : List Byte) : Packet :=
  { kind := if up then kindCup else kindCdn, hlen := 5, gen := s.cfg 0x4000 1 == 1, plen := payload.length,
    dstDev := (s.link p).peer % 2 ^ 18, srcDev := s.selfName.1, ext := ext, payload := payload }

/-- Issue a collective packet on an edge from the reduction unit of port tile n: up on CUP, down on CDN. -/
def State.sendColl (s : State) (n p : Nat) (up : Bool) (ext : Nat) (payload : List Byte) : State :=
  s.queueAt n p { pkt := s.collPacket p up ext payload, vc := if up then 6 else 7, ingress := 72, arr := s.now }

/-- Cut payload into the packets of one edge (R288): their OFFSET and bytes, `k` bytes each worth `n` native bytes. -/
def collPieces (k n : Nat) : Nat → Nat → List Byte → List (Nat × List Byte)
  | 0, off, bs => [(off, bs)]
  | m + 1, off, bs => if bs.length ≤ k then [(off, bs)] else (off, bs.take k) :: collPieces k n m (off + n) (bs.drop k)

/-- Send an operation on an edge (R288), in ascending OFFSET; without payload, one packet with PLEN 0. -/
def State.sendOp (s : State) (p t : Nat) (up : Bool) (num : Nat) (x : CollIn) (hasRoot : Bool) (status : Nat) (bytes : List Byte) : State :=
  let v := (s.tree t).entry.toNat
  let partials := up && x.exact_
  let ps := collPieces (if partials then 4080 else 4096) (if partials then 102 * dtSize x.dtype else 4096) bytes.length 0 bytes
  ps.foldl (fun s q => (s.sendColl (treeHome t v) p up
    (collHdr 0 t num x.kind x.dtype x.redop x.exact_ hasRoot status (tInst v) x.length q.1) q.2).collCount (if up then 4 else 5)) s

/-! ### Breaks (R298) -/

/-- Operation `num` of a tree is complete at this device (R292). -/
def State.opOver (s : State) (t num : Nat) : Bool :=
  decide (2 ^ 15 ≤ (num + 2 ^ 16 - (s.tree t).oldest) % 2 ^ 16) || (s.tree t).ops.any (fun o => o.num == num && o.complete)

/-- The entries of a tree's members that hold or wait for an operation. -/
def State.collEntries (s : State) (t : Nat) : List (Nat × Nat × Entry) :=
  s.ctxs.flatMap (fun e => (e.2.w.entries.filter (fun x =>
      wOpcode x.words.toNat == opCollective && wTree x.words.toNat == t && x.open && x.op.isSome)).map
    (fun x => (e.1 / 2 ^ 20, e.1 % 2 ^ 20, x)))

/-- INFO of a collective fault (R303). -/
def collInfo (t : Nat) (port : Option Nat) : Nat :=
  match port with
  | some p => t + p * 2 ^ 12 + 2 ^ 18
  | none => t

/-- The fault record of a break cause (R303). -/
def State.breakFault (s : State) (t code : Nat) (port fn : Option Nat) : State :=
  let home := treeHome t (s.tree t).entry.toNat
  if code = 0x0A10 ∨ code = 0x0A20 ∨ code = 0x0A40 then
    s.report { code := code, cls := deferred, tile := home, info := collInfo t port }
  else if code = 0x0A30 then s.report { code := code, cls := corrected, tile := home, fn := fn, info := collInfo t none }
  else s

/-- Break a tree: the entries of operations not complete here finish with TREE_BROKEN, and one ABORT leaves on every
edge but the arrival's. -/
def State.breakTree (s : State) (t code : Nat) (arrived : Option Nat := none) (port : Option Nat := none) (fn : Option Nat := none) : State :=
  let x := s.tree t
  if !x.installed || x.broken then s
  else
    let v := x.entry.toNat
    let cut := (s.collEntries t).filter (fun e => !(e.2.2.op.any (s.opOver t)))
    let s := cut.foldl (fun s e => s.modEntry e.1 e.2.1 e.2.2.idx (fun y => y.finish stTreeBroken)) s
    let s := x.ops.foldl (fun s o => if o.complete then s else s.collCount 2) s
    let s := s.modTree t (fun y => { y with broken := true, breakCode := code, ops := [] })
    let s := if code = 0x0A70 then s else s.collCount 10
    let s := s.breakFault t code port fn
    ((tEdges v).filter (fun p => arrived != some p)).foldl (fun s p =>
      (s.sendColl (treeHome t v) p (!tRoot v && p == tParent v) (collHdr 1 t x.oldest 0 0 0 false false 0 (tInst v) 0 0) []).collCount 8) s

/-- Break every installed tree that a condition picks. -/
def State.breakTrees (s : State) (pick : Nat → Nat → Bool) (code : Nat) (port : Option Nat := none) (fn : Option Nat := none) : State :=
  (s.trees.filter (fun e => e.2.installed && !e.2.broken && pick e.1 e.2.entry.toNat)).foldl
    (fun s e => s.breakTree e.1 code none port fn) s

/-- Uninstall a tree (R280). -/
def State.uninstallTree (s : State) (t : Nat) : State :=
  (s.breakTree t 0x0A60).modTree t (fun _ => {})

/-- Install what R302 installs at entry to RUN: valid persisted trees, and trees broken with MODE. -/
def State.reinstallTrees (s : State) : State :=
  (List.range 4096).foldl (fun s t =>
    let v := s.cfg (0x7100 + t / 256) (t % 256)
    let x := s.tree t
    if !bitAt v 0 then s
    else if !x.installed then (if s.treeOk t v then s.installTree t v else s)
    else if x.broken && x.breakCode == 0x0A80 then
      let s' := s.modTree t (fun y => { y with installed := false })
      if s'.treeOk t v then s'.installTree t v else s
    else s) s

/-! ### Combining (R289 to R295) -/

/-- An operation's record, by number. -/
def State.collOp? (s : State) (t num : Nat) : Option CollOp := (s.tree t).ops.find? (fun o => o.num == num)

def State.modOp (s : State) (t num : Nat) (g : CollOp → CollOp) : State :=
  s.modTree t (fun x => { x with
    ops := if x.ops.any (fun o => o.num == num) then x.ops.map (fun o => if o.num = num then g o else o)
      else x.ops ++ [g { num := num }] })

/-- An operation's inputs in fold order. -/
def inputsOf (v : Nat) (o : CollOp) : List CollIn :=
  ((tChildren v) ++ (tLocals v).map (· + 64)).filterMap (fun k => o.inputs.find? (fun i => i.src == k && i.full))

/-- Endpoint tiles with members of a tree, in ISLAND_STATE's numbering, each with its members. -/
def tileMembers (v : Nat) : List (Nat × List Nat) :=
  ((List.range 4).map (fun h => (8 + h, (tLocals v).filter (fun f => etOf f == h)))).filter (fun e => !e.2.isEmpty)

/-- Every input has arrived. -/
def CollOp.ready (v : Nat) (o : CollOp) : Bool :=
  decide ((inputsOf v o).length = (tChildren v).length + (tLocals v).length)

/-- Up-wire and down-wire bytes of an operation (R282). -/
def upWire (kind dtype : Nat) (exact_ : Bool) (len : Nat) : Nat :=
  if kind = 0 then 0 else if kind = 1 then len else if exact_ then 40 * len / dtSize dtype else len
def downWire (kind len : Nat) : Nat := if kind = 0 then 0 else len

/-- Bytes on an edge going up, for an input that carries payload. -/
def upBytes (x : CollIn) : Nat := upWire x.kind x.dtype x.exact_ x.length

/-- The first status other than OK in fold order, MALFORMED on a mismatch, else OK (R295). -/
def foldStatus (root : Bool) (l : List CollIn) : Nat :=
  match (l.filter (fun i => i.status != 0)).head?, l.head? with
  | some i, _ => i.status
  | none, some a =>
    let differ := l.any (fun i => i.kind != a.kind || i.dtype != a.dtype || i.redop != a.redop || i.exact_ != a.exact_ || i.length != a.length)
    let roots := (l.filter (·.hasRoot)).length
    if differ || decide (1 < roots) || (root && roots == 0 && (a.kind == 1 || a.kind == 2)) then stMalformed else stOk
  | none, none => stOk

/-- The fold of the inputs' payloads: native elements, or partials in exact mode. -/
def foldInputs (l : List CollIn) : List Byte :=
  match l with
  | [] => []
  | a :: r =>
    if a.kind = 0 then []
    else if a.kind = 1 then ((l.find? (·.hasRoot)).map (·.bytes)).getD []
    else if a.exact_ then r.foldl (fun acc i => foldPartial acc i.bytes) a.bytes
    else r.foldl (fun acc i => foldNative a.dtype a.redop acc i.bytes) a.bytes

/-- Payload of a failed operation: its size, with undefined contents (R295). -/
def State.undef (s : State) (n : Nat) : List Byte := (List.range n).map (Config.freeByte s.free)

/-- The entry of a member that takes part in an operation. -/
def State.memberEntry (s : State) (t f num : Nat) : Option (Nat × Entry) :=
  ((s.collEntries t).find? (fun e => e.1 == f && e.2.2.op == some num && e.2.2.st == .started)).map (fun e => (e.2.1, e.2.2))

/-- Operand and result ranges overlap without being equal (R285). -/
def overlapped (w n : Nat) : Bool := wLocal w != wC w && decide (wLocal w < wC w + n) && decide (wC w < wLocal w + n)

/-- Finish a member's entry with the operation's outcome (R296). A result over an operand range that it overlaps without
being equal is undefined (R285): its bytes are free values. -/
def State.finishMember (s : State) (t f num status : Nat) (bytes : List Byte) : State :=
  match s.memberEntry t f num with
  | none => s
  | some (c, e) =>
    let w := e.words.toNat
    let s := if status = 0 ∧ (wKind w = 1 ∨ wKind w = 3 ∨ (wKind w = 2 ∧ wRoot w)) ∧ bytes ≠ [] ∧ e.own.isNone
      then
        if (wKind w != 1 || wRoot w) && overlapped w bytes.length then s.nextFree.put f (wC w) (s.undef bytes.length) (.result c e.idx)
        else s.put f (wC w) bytes (.result c e.idx)
      else s
    s.modEntry f c e.idx (fun y => { y with
      st := .done (y.own.getD status) (if y.own.getD status = 0 then wLength w else 0) })

/-- OLDEST rises over complete operations, whose records go. -/
def Tree.advance : Nat → Tree → Tree
  | 0, x => x
  | n + 1, x =>
    match x.ops.find? (fun o => o.num == x.oldest) with
    | some o => if o.complete then Tree.advance n { x with oldest := (x.oldest + 1) % 65536, ops := x.ops.filter (fun q => q.num != x.oldest) } else x
    | none => x

/-- A queued packet carries data of an operation, up or down. -/
def isOpPkt (t num : Nat) (up : Bool) (q : QPkt) : Bool :=
  q.pkt.kind == (if up then kindCup else kindCdn) && kCtype q.pkt == 0 && kTree q.pkt == t && kSeq q.pkt == num

/-- Every packet of an operation has left on the child edges, and on the parent edge. -/
def State.leftDown (s : State) (t num : Nat) : Bool :=
  (tChildren (s.tree t).entry.toNat).all (fun p => !(s.queuedFor p).any (isOpPkt t num false))
def State.leftUp (s : State) (t num : Nat) : Bool :=
  !(s.queuedFor (tParent (s.tree t).entry.toNat)).any (isOpPkt t num true)

/-- Operations whose results have left on every child edge are complete here (R292). -/
def State.collSettle (s : State) (t : Nat) : State :=
  s.modTree t (fun x => ({ x with
    ops := x.ops.map (fun q => if q.downSent && s.leftDown t q.num then { q with complete := true } else q) } : Tree).advance 2)

/-- An operation comes before another of the same parity. -/
def sameBefore (a b : Nat) : Bool := a != b && a % 2 == b % 2 && decide ((b + 65536 - a) % 65536 < 2 ^ 15)

/-- The operation two before this one is not complete here: no CUP data of this one leaves (R284, R293). -/
def State.opBehind (s : State) (t num : Nat) : Bool := (s.tree t).ops.any (fun o => sameBefore o.num num && !o.complete)

/-- The accumulator of an operation's parity is free for it (R293): the one before has left on the parent edge; at the root it
is complete. -/
def State.accFree (s : State) (t num : Nat) : Bool :=
  !(s.tree t).ops.any (fun o => sameBefore o.num num && !o.complete
    && (tRoot (s.tree t).entry.toNat || !o.sentUp || !s.leftUp t o.num))

/-- Send the result down every child edge, and over the mesh to every endpoint tile with members: the operation is complete
here once the child edges have carried it (R292). In a REDUCE, tiles without the root's member get a notice without data
(R288). -/
def State.deliverOp (s : State) (t num status : Nat) (bytes : List Byte) : State :=
  match s.collOp? t num with
  | none => s
  | some o =>
    let v := (s.tree t).entry.toNat
    let l := inputsOf v o
    let a := l.headD { src := 0 }
    let s := (tChildren v).foldl (fun s p =>
      let toRoot := l.any (fun i => i.src == p && i.hasRoot)
      let carries := a.kind == 1 || a.kind == 3 || (a.kind == 2 && toRoot)
      s.sendOp p t false num a carries status (if carries then bytes else [])) s
    let s := (tileMembers v).foldl (fun s e =>
      s.offer (treeHome t v) e.1 0 (.result t num status e.2
        (if a.kind = 2 ∧ !(e.2.any (fun f => l.any (fun i => i.src == 64 + f && i.hasRoot))) then [] else bytes))) s
    let s := if status = 0 then s.collCount 0 else if status = stMalformed then s.collCount 1 else s
    let s := if a.exact_ then s.collCount 3 else s
    (s.modOp t num (fun q => { q with downSent := true })).collSettle t

/-- Fold an operation once every input has come (R289) and its parity's accumulator is free (R293): send its partial up, or
turn it around at the root. -/
def State.foldOp (s : State) (t num : Nat) : State :=
  match s.collOp? t num with
  | none => s
  | some o =>
    let v := (s.tree t).entry.toNat
    if !o.ready v || o.sentUp || o.downSent || o.complete || s.opBehind t num then s
    else
      let l := inputsOf v o
      let a := l.headD { src := 0 }
      let status := foldStatus (tRoot v) l
      let hasRoot := l.any (·.hasRoot)
      let home := treeHome t v
      let s := s.perf home 0x150 0x3F none l.length
      let native := downWire a.kind a.length
      if tRoot v then
        let bytes := if status ≠ 0 then s.undef native else if a.exact_ then lowerPartial a.dtype (foldInputs l) else foldInputs l
        (if status ≠ 0 then s.nextFree else s).deliverOp t num status bytes
      else
        let carries := a.kind == 2 || a.kind == 3 || (a.kind == 1 && hasRoot)
        let bytes := if !carries then [] else if status ≠ 0 then s.undef (upBytes a) else foldInputs l
        let s := if status ≠ 0 then s.nextFree else s
        (s.modOp t num (fun x => { x with sentUp := true })).sendOp (tParent v) t true num a hasRoot status bytes

/-! ### Members' entries (R283, R284) -/

/-- The COLLECTIVE rules of R283 on an entry, for a member of a function. -/
def State.badCollective (s : State) (f w : Nat) : Bool :=
  let x := s.tree (wTree w)
  let v := x.entry.toNat
  let k := wKind w
  let d := wDtype w
  let sz := dtSize d
  decide (3 < k) || decide (7 < d) || decide (5 < wRedop w)
    || (decide (k ≤ 1) && (wRedop w != 0 || wExact w))
    || (k == 0 && wLength w != 0)
    || (decide (3 ≤ wRedop w) && decide (4 ≤ d))
    || (wExact w && (decide (d ≤ 4) || wRedop w != 0))
    || (wRoot w && (k == 0 || k == 3))
    || wLength w % sz != 0 || wLocal w % sz != 0 || wC w % sz != 0
    || decide (256 * tUbuf v < upWire k d (wExact w) (wLength w)) || decide (256 * tDbuf v < downWire k (wLength w))
    || !x.installed || !tLocal v f

/-- The member may start operation k (R284): k − 2 is complete here, and it has contributed to all below k. -/
def State.collMayStart (s : State) (t f k : Nat) : Bool :=
  let x := s.tree t
  let d := (k + 65536 - x.oldest) % 65536
  d == 0 || (d == 1 && x.ops.any (fun o => o.num == x.oldest && o.inputs.any (fun i => i.src == 64 + f && i.sent)))

/-- The unit has folded an input (R289): it has come, and so have all before it in fold order; in exact mode the order
does not matter (R290). -/
def CollOp.folded (v : Nat) (o : CollOp) (src : Nat) : Bool :=
  let came (k : Nat) : Bool := o.inputs.any (fun i => i.src == k && i.full)
  came src && (o.inputs.any (fun i => i.src == src && i.exact_)
    || ((tChildren v ++ (tLocals v).map (· + 64)).takeWhile (· != src)).all came)

/-- Each endpoint tile sends its members' operands one at a time, in identity order, the next once the unit has folded the
last (R289): each is offered to the home tile (R429), on the first channel of the pair. -/
def State.sendLocals (s : State) (t num : Nat) : State :=
  let v := (s.tree t).entry.toNat
  match s.collOp? t num with
  | none => s
  | some o =>
    (tileMembers v).foldl (fun s e =>
      match (e.2.find? (fun f => !o.folded v (64 + f))).bind (fun f => o.inputs.find? (fun i => i.src == 64 + f && i.held)) with
      | none => s
      | some i =>
        (s.modOp t num (fun o => { o with inputs := o.inputs.filter (fun j => j.src != i.src) ++ [{ src := i.src, sent := true }] })).offer
          e.1 (treeHome t v) 0 (.operand t num { i with held := false, full := true, sent := true })) s

/-- An operand has crossed the mesh to its tree's home tile (R289); a tree broken or replaced meanwhile takes none. -/
def State.takeOperand (s : State) (t num : Nat) (x : CollIn) : State :=
  if (s.tree t).ops.any (fun o => o.num == num && o.inputs.any (fun i => i.src == x.src && i.sent && !i.full)) then
    ((s.modOp t num (fun o => { o with inputs := o.inputs.filter (fun i => i.src != x.src) ++ [x] })).foldOp t num).sendLocals t num
  else s

/-- A member's contribution has its bytes, or has none to bring: it waits for its turn to cross the mesh. -/
def State.contribute (s : State) (t f num status : Nat) (w : Nat) (bytes : List Byte) : State :=
  let exact_ := wExact w
  let x : CollIn :=
    { src := 64 + f, status := status, hasRoot := wRoot w, kind := wKind w, dtype := wDtype w, redop := wRedop w,
      exact_ := exact_, length := wLength w, bytes := if exact_ then liftPartial (wDtype w) bytes else bytes, held := true }
  (s.modOp t num (fun o => { o with inputs := o.inputs.filter (fun i => i.src != 64 + f) ++ [x] })).sendLocals t num

/-- Start a member's entry (R284, R285): it reads its operand once, or contributes at once when it has none. -/
def State.startCollective (s : State) (f c : Nat) (e : Entry) (num : Nat) : State :=
  let w := e.words.toNat
  let t := wTree w
  let s := s.modEntry f c e.idx (fun y => { y with st := .started })
  let s := (s.perf (8 + etOf f) 0x400 0x3F (some f) 1)
  let reads := wKind w == 2 || wKind w == 3 || (wKind w == 1 && wRoot w)
  if reads && wLength w != 0 then
    (s.modOp t num (fun o => { o with inputs := o.inputs ++ [{ src := 64 + f }] })).hostReadReq f (wLocal w) (wLength w) (.operand c e.idx)
  else s.contribute t f num stOk w []

/-- An operand's read has ended (R289, R295). -/
def State.operandRead (s : State) (f c : Nat) (idx : U32) (r : HostRead) (res : ReadResult) : State :=
  match s.entry? f c idx with
  | none => s
  | some e =>
    let w := e.words.toNat
    match e.op with
    | none => s
    | some num =>
      if !e.open then s
      else match res with
      | .ok data => s.contribute (wTree w) f num stOk w (data.take (wLength w))
      | .failed =>
        let s := if r.fault.isSome then s else s.fnFault 0x0240 deferred f (some c)
        let s := s.modEntry f c idx (fun y => { y with own := some stXlate })
        let bytes := s.undef (wLength w)
        s.nextFree.contribute (wTree w) f num stRemote w bytes

/-! ### Arrivals (R296 to R300) -/

/-- The first collective packet that waits at a port. -/
def State.collHead (s : State) (p : Nat) : Option Packet := ((s.portq p).coll.head?).map (·.pkt)

/-- Take it off the port's queue. -/
def State.collPop (s : State) (p : Nat) : State := s.modPortq p (fun q => { q with coll := q.coll.drop 1 })

/-- A packet of a tree has left an edge: operations may be complete by it, and the next of their parity may fold (R292,
R293). -/
def State.collNext (s : State) (t : Nat) : State :=
  let s := s.collSettle t
  ((s.tree t).ops.map (·.num)).foldl (fun s num => s.foldOp t num) s

/-- An operation of the same parity as `num` still holds contents of port p's buffer that the unit has not folded (R293). -/
def State.parityHeld (s : State) (t p num : Nat) : Bool :=
  (s.tree t).ops.any (fun o => o.num != num && o.num % 2 == num % 2 && o.inputs.any (fun i => i.src == p)
    && !(o.folded (s.tree t).entry.toNat p && s.accFree t o.num))

/-- An input's next packet: its bytes are appended, and it is full when all it carries has come. -/
def addInput (o : CollOp) (p : Nat) (k : Packet) : CollOp :=
  let i := (o.inputs.find? (fun i => i.src == p)).getD { src := p, kind := kKind k, dtype := kDtype k, redop := kRedop k, exact_ := kExact k, length := kLength k }
  let st := takeStatus (kStatus k)
  let i : CollIn := { i with
    status := if i.status = 0 then st else i.status, hasRoot := i.hasRoot || kHasRoot k, bytes := i.bytes ++ k.payload }
  let i : CollIn := { i with full := k.payload == [] || decide (upBytes i ≤ i.bytes.length) }
  { o with inputs := o.inputs.filter (fun x => x.src != p) ++ [i] }

/-- A CUP packet for an operation at this device (R289, R300). One for an operation complete here, sent up already, or whose
input has come whole breaks the tree as a packet that meets an occupied buffer does (DESIGN CHOICE, log entry 151). -/
def State.takeCup (s : State) (p : Nat) (k : Packet) : State :=
  let t := kTree k
  let x := s.tree t
  let v := x.entry.toNat
  let bad (s : State) : State := (s.collCount 12).breakTree t 0x0A40 none (some p)
  if !x.installed ∨ kInst k ≠ tInst v then s.collCount 11
  else if x.broken then s
  else if 2 < kCtype k ∨ !tChild v p then bad s
  else
    let num := kSeq k
    let have_ := match s.collOp? t num with
      | some o => (((o.inputs.find? (fun i => i.src == p)).map (fun i => i.bytes.length)).getD 0)
      | none => 0
    let past : Bool := match s.collOp? t num with
      | some o => o.complete || o.sentUp || o.downSent || o.inputs.any (fun i => i.src == p && i.full)
      | none => decide (2 ^ 15 ≤ (num + 65536 - x.oldest) % 65536)
    if past ∨ s.parityHeld t p num ∨ 256 * tUbuf v < have_ + k.payload.length then bad s
    else ((s.modOp t num (fun o => addInput o p k)).foldOp t num).sendLocals t num

/-- A CDN packet: the result or notice of an operation this device has sent up (R296, R300). -/
def State.takeCdn (s : State) (p : Nat) (k : Packet) : State :=
  let t := kTree k
  let x := s.tree t
  let v := x.entry.toNat
  let bad (s : State) : State := (s.collCount 12).breakTree t 0x0A40 none (some p)
  if !x.installed ∨ kInst k ≠ tInst v then s.collCount 11
  else if x.broken then s
  else if 2 < kCtype k ∨ tRoot v ∨ p ≠ tParent v then bad s
  else
    match s.collOp? t (kSeq k) with
    | none => bad s
    | some o =>
      let got := (match o.result with | some r => r.2 | none => []) ++ k.payload
      if !o.sentUp ∨ !s.leftUp t (kSeq k) ∨ o.downSent ∨ o.complete ∨ 256 * tDbuf v < got.length then bad s
      else
        let st := takeStatus (kStatus k)
        let s := s.modOp t (kSeq k) (fun q => { q with result := some (st, got) })
        if k.payload = [] ∨ kLength k ≤ got.length then s.deliverOp t (kSeq k) st got else s

/-- An ABORT from a neighbour (R298, R300). -/
def State.takeAbort (s : State) (p : Nat) (k : Packet) : State :=
  let t := kTree k
  let x := s.tree t
  let v := x.entry.toNat
  if !x.installed ∨ kInst k ≠ tInst v ∨ x.broken then s
  else
    let up := k.kind == kindCup
    if (up ∧ tChild v p) ∨ (!up ∧ !tRoot v ∧ p = tParent v) then (s.collCount 9).breakTree t 0x0A70 (some p)
    else (s.collCount 12).breakTree t 0x0A40 none (some p)

/-- Ports that are edges of an installed, unbroken tree, as parent or as child (R297). -/
def State.parentPorts (s : State) : List Nat :=
  (List.range 64).filter (fun p => s.trees.any (fun e => e.2.installed && !e.2.broken && !tRoot e.2.entry.toNat && tParent e.2.entry.toNat == p))
def State.childPorts (s : State) : List Nat :=
  (List.range 64).filter (fun p => s.trees.any (fun e => e.2.installed && !e.2.broken && tChild e.2.entry.toNat p))

/-- KEEPALIVEs on every tree-edge port (R297). -/
def State.keepalives (s : State) : State :=
  let send (up : Bool) (s : State) (p : Nat) : State :=
    (s.sendColl (ptOf p) p up (collHdr 2 0 0 0 0 0 false false 0 0 0 0) []).collCount 6
  (s.childPorts).foldl (send false) ((s.parentPorts).foldl (send true) s)

end Sys2Proof.Machine
end

