-- ==== Sys2Proof/Machine/Phys.lean ====
section
/-! DEFINITION. What a fabric lane carries (spec 05, R108 to R114): PAM4 levels, scrambling, RS(544,514), the marker
field, the block types, and how a codeword is built and read. -/

namespace Sys2Proof.Machine

/-! ### The transmitter's stream (R107, R112, R120, R179) -/

/-- Lanes of a set, lowest first. -/
def lanesOf (b : BitVec 4) : List Nat := (List.range 4).filter (fun k => b.getLsbD k)

/-- Number of codeword intervals, 5,440 bits at 225 Gb/s, that have passed by an instant (R107). -/
def cwIndex (now : Nat) : Nat := now * 45 / 1088

/-- Bits of the codeword under way that have left by an instant, and the first row of blocks, one block on each lane, that
has not begun to. -/
def bitsGone (now : Nat) : Nat := 225 * now % 5440
def rowNow (now : Nat) : Nat := min 77 (ceilDiv (bitsGone now) 66)

/-- The places of the codeword under way up to a row take the blocks that wait, control blocks first; a codeword that
changes ACTIVE takes none (R112). -/
def Link.fill (l : Link) (now row : Nat) : Link :=
  let l := if l.cwNo = cwIndex now then l else { l with cwNo := cwIndex now, cw := [] }
  let n := row * (lanesOf l.txDeal).length - l.cw.length
  if l.txIdle then l
  else
    let due := (l.txCtl ++ l.tx).take n
    { l with
      cw := l.cw ++ due.map some ++ List.replicate (n - due.length) none
      tx := l.tx.drop (n - l.txCtl.length), txCtl := l.txCtl.drop n }

/-- The places that have gone by have been taken. -/
def Link.upToNow (l : Link) (now : Nat) : Link := l.fill now (rowNow now)

/-- Time from `now`, in units of 1/225 ns, until block `i` of what waits at the transmitter begins to leave. -/
def Link.leavesIn (l : Link) (now i : Nat) : Nat :=
  let row := (if l.txIdle then 77 else rowNow now) + i / max 1 (lanesOf l.txDeal).length
  5440 * (row / 77) + 66 * (row % 77) - bitsGone now

/-- A port that has entered a low-power state and still sends what waits and the 16 IDLE blocks (R134). -/
def Link.settling (l : Link) : Bool := decide (1 ≤ l.lps) && decide (l.lps ≤ 3) && !l.tx.isEmpty

/-- Blocks that still wait at the transmitter. -/
def Link.waiting (l : Link) : Nat := l.txCtl.length + l.tx.length

/-- Hand control blocks to a port's transmitter: they stand before the packets' blocks that wait (R120). -/
def State.ctl (s : State) (p : Nat) (l : List Block) : State :=
  s.modLink p (fun x => let x := x.upToNow s.now; { x with txCtl := x.txCtl ++ l })

/-- The same for time ordered sets, which come first, so that word 0 goes to the lowest ACTIVE lane (R166). -/
def State.ctlFirst (s : State) (p : Nat) (l : List Block) : State :=
  s.modLink p (fun x => let x := x.upToNow s.now; { x with txCtl := l ++ x.txCtl })

/-- Hand blocks to it that follow the packets which have started. -/
def State.ctlLast (s : State) (p : Nat) (l : List Block) : State :=
  s.modLink p (fun x => let x := x.upToNow s.now; { x with tx := x.tx ++ l })

/-! ### PAM4 (R108) -/

/-- The level of a bit pair: bit 0 of the pair is sent first in the codeword's order. -/
def level (pair : Nat) : Int := match pair % 4 with | 0 => -3 | 1 => -1 | 3 => 1 | _ => 3

/-- The level in each unit interval of a codeword, first in time first. -/
def levels (bits : Nat) : List Int := (List.range 2720).map (fun j => level (bf bits (2 * j) 2))

/-- A lane whose differential pair is swapped: the most significant bit of every pair inverts. -/
def swapPairs (bits : Nat) : Nat := Nat.xor bits ((4 ^ 2720 - 1) / 3 * 2)

/-! ### GF(2^10) and RS(544,514) (R110)

The field's polynomial and the generator's roots come from IEEE 802.3 Clause 91, which R110 names (PRESUMED, log
entry 139). -/

/-- A polynomial over GF(2) times x, reduced by x^10 + x^3 + 1. -/
def gfShift (a : Nat) : Nat := if a < 512 then 2 * a else Nat.xor (2 * a) 0x409

/-- Product in the field, over the bits of the second factor from the highest of `n`. -/
def gfMulBits (a b : Nat) : Nat → Nat → Nat
  | 0, acc => acc
  | k + 1, acc => gfMulBits a b k (if bitAt b k then Nat.xor (gfShift acc) a else gfShift acc)
def gfMul (a b : Nat) : Nat := gfMulBits a b 10 0

/-- The power of the primitive element with an exponent. -/
def gfExp : Nat → Nat
  | 0 => 1
  | k + 1 => gfShift (gfExp k)

/-- The inverse: the power 1,022, by squaring nine times. -/
def gfInvStep (a : Nat) : Nat → Nat → Nat
  | 0, acc => acc
  | k + 1, acc => gfInvStep a k (gfMul (gfMul acc acc) a)
def gfInv (a : Nat) : Nat := let b := gfInvStep a 8 a; gfMul b b

/-- Value of a polynomial, highest coefficient first. -/
def gfEval (p : List Nat) (x : Nat) : Nat := p.foldl (fun acc c => Nat.xor (gfMul acc x) c) 0

/-- Coefficients of a sum of two polynomials, lowest first. -/
def gfAdd : List Nat → List Nat → List Nat
  | [], b => b
  | a, [] => a
  | x :: a, y :: b => Nat.xor x y :: gfAdd a b

/-- The generator polynomial, lowest coefficient first: roots α^0 to α^29. -/
def rsGen : List Nat :=
  (List.range 30).foldl (fun g j => gfAdd (0 :: g) (g.map (gfMul (gfExp j)))) [1]

/-- One symbol enters the encoder's register, which holds the remainder, highest coefficient first. -/
def rsShift (reg : List Nat) (c : Nat) : List Nat :=
  let f := Nat.xor (reg.headD 0) c
  List.zipWith Nat.xor (reg.tail ++ [0]) ((rsGen.take 30).reverse.map (gfMul f))

/-- Symbol k of a codeword. -/
def symbol (bits k : Nat) : Nat := bf bits (10 * k) 10

/-- The symbols of a list laid side by side, the first at the lowest bits. -/
def ofSymbols : List Nat → Nat
  | [] => 0
  | c :: r => c % 1024 + 1024 * ofSymbols r

/-- The codeword of 5,140 message bits: parity over symbols 0 to 513. -/
def rsEncode (msg : Nat) : Nat :=
  let syms := (List.range 514).map (symbol msg)
  msg % 2 ^ 5140 + ofSymbols (syms.foldl rsShift (List.replicate 30 0)) * 2 ^ 5140

/-- The 30 syndromes of a codeword's symbols. -/
def syndromes (syms : List Nat) : List Nat := (List.range 30).map (fun j => gfEval syms (gfExp j))

/-- The search for the error locator, one step for each syndrome: locator, its predecessor, length, shift and last
discrepancy. -/
structure Locator where
  cur   : List Nat := [1]
  prev  : List Nat := [1]
  len   : Nat := 0
  shift : Nat := 1
  disc  : Nat := 1
  deriving DecidableEq, Repr

/-- One step of Berlekamp and Massey's algorithm with syndrome n. -/
def Locator.step (syn : List Nat) (k : Locator) (n : Nat) : Locator :=
  let d := (List.range (k.len + 1)).foldl (fun acc i => Nat.xor acc (gfMul (nth k.cur i) (if i ≤ n then nth syn (n - i) else 0))) 0
  let next := gfAdd k.cur (List.replicate k.shift 0 ++ k.prev.map (gfMul (gfMul d (gfInv k.disc))))
  if d = 0 then { k with shift := k.shift + 1 }
  else if 2 * k.len ≤ n then { cur := next, prev := k.cur, len := n + 1 - k.len, shift := 1, disc := d }
  else { k with cur := next, shift := k.shift + 1 }

/-- Value of a polynomial given lowest coefficient first. -/
def gfAt (p : List Nat) (x : Nat) : Nat := gfEval p.reverse x

/-- The odd coefficients of a polynomial, as its derivative has them. -/
def gfDeriv (p : List Nat) : List Nat := (List.range (p.length - 1)).map (fun i => if i % 2 = 0 then nth p (i + 1) else 0)

/-- What the decoder makes of a codeword's symbols: the symbols corrected and how many were wrong, at most 15; none
for a codeword it cannot correct (R110). -/
def rsCorrect (syms : List Nat) : Option (List Nat × Nat) :=
  let syn := syndromes syms
  if syn.all (· == 0) then some (syms, 0)
  else
    let k := (List.range 30).foldl (Locator.step syn) {}
    let product (i : Nat) : Nat := (List.range (i + 1)).foldl (fun acc j => Nat.xor acc (gfMul (nth k.cur j) (nth syn (i - j)))) 0
    let omega := (List.range 30).map product
    let fixed := (List.range 544).map (fun i =>
      let x := gfExp (543 - i)
      let y := gfInv x
      if gfAt k.cur y = 0 then Nat.xor (nth syms i) (gfMul x (gfMul (gfAt omega y) (gfInv (gfAt (gfDeriv k.cur) y)))) else nth syms i)
    let wrong := ((List.range 544).filter (fun i => nth fixed i != nth syms i)).length
    if k.len ≤ 15 ∧ wrong = k.len ∧ (syndromes fixed).all (· == 0) then some (fixed, wrong) else none

/-- Decode a received codeword: its 5,140 message bits, corrected where that is possible, and the outcome. -/
def rsDecode (bits : Nat) : Nat × Fec :=
  match rsCorrect ((List.range 544).map (symbol bits)) with
  | some (syms, n) => (ofSymbols (syms.take 514), .corrected n)
  | none => (bits % 2 ^ 5140, .uncorrectable)

/-! ### Scrambling (R109) -/

/-- The 64 payload bits of every block of a codeword, side by side. -/
def payloadBits (bits : Nat) : Nat := (List.range 77).foldl (fun acc b => acc + bf bits (66 * b + 2) 64 * 2 ^ (64 * b)) 0

/-- Descramble: the state holds the last 58 payload bits received, oldest first. -/
def descramble (st x : Nat) : Nat :=
  Nat.xor (Nat.xor x ((st + x * 2 ^ 58) / 2 ^ 19 % 2 ^ 4928)) ((st + x * 2 ^ 58) % 2 ^ 4928)

/-- Scramble `n` bits: the state holds the last 58 bits sent, oldest first; the bits sent and the state after. -/
def scramble : Nat → Nat → Nat → Nat × Nat
  | 0, st, _ => (0, st)
  | n + 1, st, x =>
    let b := (x + st + st / 2 ^ 19) % 2
    let r := scramble n (st / 2 + b * 2 ^ 57) (x / 2)
    (b + 2 * r.1, r.2)

/-! ### Blocks (R113, R114, R165) -/

/-- Sync header and payload of a block: bit 0 of the header is sent first. -/
def Block.bits : Block → Nat × Nat
  | .data b => (1, leNat (b.take 8))
  | .idle => (2, 0x1E)
  | .lpi st kind force => (2, pack [(0, 8, 0x2D), (8, 2, st), (10, 2, kind), (12, 1, b2n force)])
  | .train => (2, pack [(0, 8, 0x33), (8, 56, 0x55555555555555)])
  | .fc xoff => (2, pack [(0, 8, 0x4B), (8, 10, xoff.toNat)])
  | .time word seq val => (2, pack [(0, 8, 0x55), (8, 2, word), (10, 4, seq), (16, 48, val.toNat)])
  | .lx word val => (2, pack [(0, 8, 0x66), (8, 4, word), (16, 48, val.toNat)])
  | .sop lseq vc => (2, pack [(0, 8, 0x78), (8, 12, lseq), (20, 4, vc)])
  | .eop crc => (2, pack [(0, 8, 0x87), (8, 32, crc.toNat)])
  | .eopSop crc lseq vc => (2, pack [(0, 8, 0x99), (8, 32, crc.toNat), (40, 12, lseq), (52, 4, vc)])
  | .stomp => (2, 0xB4)
  | .bad => (0, 0)

/-- The block a sync header and a descrambled payload spell (R113, R115). -/
def Block.of (sync x : Nat) : Block :=
  if sync = 1 then .data (natLe 8 x)
  else if sync ≠ 2 then .bad
  else match bf x 0 8 with
    | 0x1E => .idle
    | 0x2D => .lpi (bf x 8 2) (bf x 10 2) (bitAt x 12)
    | 0x33 => .train
    | 0x4B => .fc (BitVec.ofNat 10 (bf x 8 10))
    | 0x55 => .time (bf x 8 2) (bf x 10 4) (BitVec.ofNat 48 (bf x 16 48))
    | 0x66 => .lx (bf x 8 4) (BitVec.ofNat 48 (bf x 16 48))
    | 0x78 => .sop (bf x 8 12) (bf x 20 4)
    | 0x87 => .eop (BitVec.ofNat 32 (bf x 8 32))
    | 0x99 => .eopSop (BitVec.ofNat 32 (bf x 8 32)) (bf x 40 12) (bf x 52 4)
    | 0xB4 => .stomp
    | _ => .bad

/-- Block b of a codeword's message bits, its payload descrambled. -/
def blockAt (msg clear b : Nat) : Block := Block.of (bf msg (66 * b) 2) (bf clear (64 * b) 64)

/-- Blocks of a codeword with a bad sync header (R115). -/
def badSyncs (msg : Nat) : Nat := ((List.range 77).filter (fun b => bf msg (66 * b) 2 == 0 || bf msg (66 * b) 2 == 3)).length

/-! ### Codewords (R110, R111) -/

/-- The marker field's fixed pattern. -/
abbrev markerPattern : Nat := 0xC41B6E

/-- A marker field (R111). -/
def markerField (lane port seq stage : Nat) (active lock usable : BitVec 4) : Nat :=
  pack [(0, 24, markerPattern), (24, 2, lane), (26, 6, port), (32, 8, seq), (40, 4, stage), (44, 4, active.toNat),
    (48, 4, lock.toNat), (52, 4, usable.toNat)]

/-- The message bits of 77 blocks and a marker, and the scrambler's state after them. -/
def message (scr : Nat) (blocks : List Block) (marker : Nat) : Nat × Nat :=
  let bs := blocks.map Block.bits
  let x := scramble 4928 scr (bs.foldr (fun b acc => b.2 % 2 ^ 64 + 2 ^ 64 * acc) 0)
  ((List.range 77).foldl (fun acc b => acc + ((bs.getD b (2, 0)).1 + bf x.1 (64 * b) 64 * 4) * 2 ^ (66 * b)) 0 + marker % 2 ^ 58 * 2 ^ 5082, x.2)

/-- The blocks that lane j of w takes of a stream dealt one block per lane in turn (R112). -/
def dealt (w j : Nat) (blocks : List Block) (pad : Nat → Block) : List Block :=
  (List.range 77).map (fun b => blocks.getD (b * w + j) (pad (b * w + j)))

/-- The stream that codewords of w lanes carry: one block of each lane in turn (R112). -/
def undealt (lanes : List (List Block)) : List Block :=
  (List.range 77).flatMap (fun b => lanes.map (fun l => l.getD b .bad))

/-! ### Packets as blocks (R120, R121) -/

/-- The bytes of a packet (R139): routing header, further headers and payload, zeros to at least 64 B and to whole
blocks. -/
def packetBytes (k : Packet) : List Byte :=
  let hdr := pack [(0, 4, k.version), (4, 4, k.kind), (8, 4, k.hlen), (12, 1, b2n k.dform), (13, 1, b2n k.gen), (14, 1, b2n k.nonmin),
    (15, 1, b2n k.tdown), (16, 13, k.plen), (29, 2, k.gv), (32, 20, k.dstDev), (52, 8, k.dstFn), (64, 20, k.dstCtx),
    (84, 12, k.igroup), (96, 20, k.srcDev), (116, 1, b2n k.sform), (117, 8, k.srcFn), (128, 20, k.srcCtx), (148, 16, k.age),
    (164, 4, k.hops), (168, 4, k.chint), (172, 4, k.echo), (176, 1, b2n k.echoNm), (177, 6, k.ltgt)]
  let b := natLe 24 hdr ++ natLe (8 * k.hlen - 24) k.ext ++ k.payload
  b ++ List.replicate (8 * ceilDiv (max 64 b.length) 8 - b.length) 0

/-- The CRC of a packet's blocks (R121): LSEQ and VC in two bytes, then the packet, pad included. -/
def linkCrc (lseq vc : Nat) (data : List Byte) : Nat := crc32c (natLe 2 (lseq % 4096 + vc % 16 * 4096) ++ data)

/-- Bytes in data blocks of 8. -/
def dataBlocks (data : List Byte) : List Block :=
  (List.range (ceilDiv data.length 8)).map (fun i => .data ((data.drop (8 * i)).take 8))

/-- A packet's blocks join the stream: an EOP that a packet follows directly becomes an EOP_SOP. -/
def framed (stream : List Block) (lseq vc : Nat) (data : List Byte) (stomp : Bool) : List Block :=
  let fin : Block := if stomp then .stomp else .eop (BitVec.ofNat 32 (linkCrc lseq vc data))
  (match stream.getLast? with
    | some (.eop crc) => stream.dropLast ++ [.eopSop crc lseq vc]
    | _ => stream ++ [.sop lseq vc]) ++ dataBlocks data ++ [fin]

end Sys2Proof.Machine
end

