-- ==== Sys2Proof/Machine/Gates.lean ====
section
/-! DEFINITION. Time gates (spec 07, R177 to R180): schedules, their states, and the switch instant. -/

namespace Sys2Proof.Machine

/-! ### Time gates (R177 to R180) -/

/-- Gate class of a VC: 0 REQ, 1 RSP, 2 COLL, 3 ESC; MGT has none. -/
def classOf (vc : Nat) : Option Nat := if vc ≤ 2 then some 0 else if vc ≤ 5 then some 1 else if vc ≤ 7 then some 2 else if vc = 9 then some 3 else none

/-- Fields of a schedule (R178). -/
def gBase (v : Nat) : Nat := bf v 0 64
def gPeriod (v : Nat) : Nat := bf v 64 32
def gEnable (v : Nat) : Bool := bitAt v 96
def gUnlockedOpen (v : Nat) : Bool := bitAt v 97

/-- Valid entries of a class: OFFSET and OPEN. -/
def gEntries (v c : Nat) : List (Nat × Bool) :=
  (((List.range 16).map (fun i => bf v (128 + 32 * (16 * c + i)) 32)).filter (fun e => bitAt e 31)).map
    (fun e => (bf e 0 20, bitAt e 30))

/-- Place in the cycle at a fabric time. -/
def gPos (v ft : Nat) : Nat := (((ft : Int) - gBase v) % (max 1 (gPeriod v) : Nat)).toNat

/-- State of a class at a place in the cycle: before its first entry, that of its last (R178). -/
def gOpen (v c pos : Nat) : Bool :=
  let l := gEntries v c
  match ((l.filter (fun e => e.1 ≤ pos)).getLast?).or l.getLast? with
  | some e => e.2
  | none => true

/-- Time to a class's next close, if it ever closes. -/
def gClose (v c pos : Nat) : Option Nat :=
  let p := max 1 (gPeriod v)
  ((gEntries v c).filter (fun e => !e.2)).foldl (fun b e =>
    let d := (e.1 + p - pos - 1) % p + 1
    match b with
    | none => some d
    | some x => some (min d x)) none

/-- Every gate is open whatever the schedule says. -/
def State.gatesFree (s : State) (v : Nat) : Bool := !gEnable v || (gUnlockedOpen v && !s.ftUsable)

/-- A schedule's state of a class now. -/
def State.gateNow (s : State) (v c ft : Nat) : Bool := s.gatesFree v || gOpen v c (gPos v ft)

/-- Read the schedule in force for a class (R179). -/
def State.gateEvent (s : State) (p c : Nat) : State :=
  let v := (s.gate p).sched.toNat
  let open_ := s.gateNow v c s.ftNs
  s.modGate p (fun g => { g with
    openMask := if open_ then g.openMask ||| (1#4 <<< c) else g.openMask &&& ~~~(1#4 <<< c) })

/-- The switch instant S of a schedule accepted now (R180). -/
def State.switchAt (s : State) (v : Nat) : Nat :=
  let w := s.ftNs + 2000
  if !gEnable v then w
  else if w ≤ gBase v then gBase v
  else gBase v + ceilDiv (w - gBase v) (max 1 (gPeriod v)) * gPeriod v

/-- Every gate takes the state that its schedule gives it now: fabric time has stepped, or has become usable (R180). -/
def State.gatesRead (s : State) : State :=
  s.gates.foldl (fun s e => (List.range 4).foldl (fun s c => s.gateEvent e.1 c) s) s

end Sys2Proof.Machine
end

