-- ==== Sys2Proof/Machine/TimeUnit.lean ====
section
/-! DEFINITION. Fabric time (spec 07, R163 to R176): time sets, link delay, parents, the servo, TIME_IN and TIME_OUT,
and their commands. -/

namespace Sys2Proof.Machine

/-! ### State of the time unit -/

/-- The instants a port keeps in fabric time move with a step of it, so that what has elapsed since stays true (R165). -/
def TimePort.moved (t : TimePort) (d : Int) : TimePort :=
  { t with
    peerArr := unsigned 80 ((t.peerArr : Int) + d)
    departs := t.departs.map (fun e => (e.1, unsigned 80 ((e.2 : Int) + d))) }

/-- Nanoseconds of a fabric time. -/
def nsOf (ft : BitVec 80) : Nat := ft.toNat / 65536

/-- Fabric time that has elapsed between two instants, in 2^-16 ns. -/
def elapsed (to_ from_ : Nat) : Nat := unsigned 80 ((to_ : Int) - from_)

/-- Fabric time moves by a step (R164): what was left to slew goes with it, and so does the time LOCKED measures its
frequency from; a TIME_OUT second may come again (R175); a write of FT_TIMEOUT_CTRL or FT_TIMEOUT_OFFSET that has taken
effect stays in force, and one that has not waits for the new time's next whole second (R187); the gates follow the new
time (R180). -/
def State.ftStep (s : State) (d : Int) : State :=
  let ft : BitVec 80 := BitVec.ofNat 80 (unsigned 80 ((s.time.ft.toNat : Int) + d))
  State.gatesRead { s with
    time := { s.time with
      ft := ft, slew := 0, outSec := 0, lockRef := s.time.lockRef.map (fun r => (r.1, r.2 + d))
      outFrom := if nsOf s.time.ft / sec < s.time.outFrom then nsOf ft / sec + 1 else 0 },
    tports := s.tports.map (fun e => (e.1, e.2.moved d)) }

/-- Start slewing an offset out (R170). -/
def State.ftSlew (s : State) (d : Int) : State := { s with time := { s.time with slew := d } }

/-- The root name a device advertises for itself: RFORM and its coordinate or flat identifier (R165). -/
def State.ownRoot (s : State) : Nat := if s.selfName.2 then 2 ^ 20 + s.selfName.1 else s.selfName.1

/-- What follows from the state and the parent: STEPS and the root name (R171), which in HOLDOVER stays the last parent's
(DESIGN CHOICE, log entry 154); the gates, which follow the schedule again once time is usable (R180); and outside LOCKED,
ACQUIRING and HOLDOVER the own oscillator's frequency (R170). -/
def State.timeNames (s : State) : State :=
  let t := s.time
  State.gatesRead { s with time := { t with
      freq := if 1 ≤ t.st ∧ t.st ≤ 3 then t.freq else 0
      lockRef := if t.st = 2 then t.lockRef else none
      steps := if t.st = 4 ∨ t.st = 5 then 0
        else if t.st = 2 then min 15 ((t.parent.map (fun p => (s.tport p).peerSteps + 1)).getD 15) else 15
      rootId := if t.st = 4 ∨ t.st = 5 then s.ownRoot
        else if t.st = 0 then 0x1FFFFF else (t.parent.map (fun p => (s.tport p).peerRoot)).getD t.rootId } }

/-- A fault of the time unit. -/
def State.timeFault (s : State) (code cls : Nat) : State := s.report { code := code, cls := cls, tile := 14 }

/-! ### Parents (R171 to R173) -/

/-- An eligible parent: a low-power port and one whose FT_PORT_ELIGIBLE is 0 are none. -/
def State.eligibleParent (s : State) (p : Nat) : Bool :=
  let t := s.tport p
  t.locked && s.cfg 0xD003 (p + 1) == 1 && ((s.link p).lps == 0 || (s.link p).lps == 4)
    && (t.peerState == 2 || t.peerState == 4 || t.peerState == 5) && decide (t.peerSteps ≤ 14)

def State.eligibleParents (s : State) : List Nat := (List.range 64).filter s.eligibleParent

/-- Port a comes before port b by root, then STEPS; the port number decides by the order of the list. -/
def State.parentBefore (s : State) (a b : Nat) : Bool :=
  let x := s.tport a
  let y := s.tport b
  decide (x.peerRoot < y.peerRoot) || (x.peerRoot == y.peerRoot && decide (x.peerSteps < y.peerSteps))

/-- The parent that the rules of R171 choose. -/
def State.bestParent (s : State) : Option Nat :=
  s.eligibleParents.foldl (fun b p => match b with
    | none => some p
    | some q => if s.parentBefore p q then some p else some q) none

/-- A port offers what makes a device leave a parent after 1 s: a lower root, or the same with STEPS 2 lower. -/
def State.offersMore (s : State) (parent p : Nat) : Bool :=
  let x := s.tport p
  let y := s.tport parent
  p != parent && s.eligibleParent p
    && (decide (x.peerRoot < y.peerRoot) || (x.peerRoot == y.peerRoot && decide (x.peerSteps + 2 ≤ y.peerSteps)))

/-- Take a parent; in ACQUIRING the first set of one taken over steps only past the limit. -/
def State.takeParent (s : State) (p : Nat) : State :=
  let t := s.time
  let t := { t with
    parent := some p, goodRun := 0, farRun := 0, slew := if t.st = 1 then 0 else t.slew
    stepped := false, condStep := t.st == 1, st := if t.st = 0 then 1 else t.st }
  State.timeNames { s with time := t, tports := s.tports.map (fun e => (e.1, { e.2 with betterAt := none })) }

/-- Lose the parent with no other eligible (R170, R173). -/
def State.orphan (s : State) : State :=
  let t := { s.time with parent := none, goodRun := 0, farRun := 0, slew := 0 }
  if t.st = 2 then
    (({ s with time := { t with st := 3, holdAt := s.now } }).timeNames).timeFault 0x0D20 corrected
  else if t.st = 3 then ({ s with time := { t with holdAt := s.now } }).timeNames
  else ({ s with time := { t with st := 0 } }).timeNames

/-- Choose again after a change of what is eligible (R171, R173). A root follows nobody. -/
def State.reselect (s : State) : State :=
  if 4 ≤ s.time.st then s
  else
    match s.time.parent with
    | some p =>
      if s.eligibleParent p then s
      else (match s.bestParent with
        | some q => s.takeParent q
        | none => s.orphan)
    | none =>
      match s.bestParent with
      | some q => s.takeParent q
      | none => s

/-- Follow which ports have offered more than the parent, and each since when (R171). -/
def State.watchBetter (s : State) : State :=
  let better (p : Nat) : Bool := match s.time.parent with
    | some parent => s.offersMore parent p
    | none => false
  { s with tports := s.tports.map (fun e =>
      (e.1, { e.2 with betterAt := if better e.1 then some (e.2.betterAt.getD s.now) else none })) }

/-- The best port by the rules of R171 of those that have offered more for 1 s without a break. -/
def State.betterParent (s : State) (parent : Nat) : Option Nat :=
  let due (p : Nat) : Bool := s.offersMore parent p && (match (s.tport p).betterAt with
    | some t => decide (t + sec ≤ s.now)
    | none => false)
  ((List.range 64).filter due).foldl (fun b p => match b with
    | none => some p
    | some q => if s.parentBefore p q then some p else some q) none

/-- TWO_ROOTS (R172): recorded once until the condition has been absent for 1 s. -/
def State.watchRoots (s : State) : State :=
  let roots := s.eligibleParents.map (fun p => (s.tport p).peerRoot)
  let two := s.time.st < 4 && roots.any (fun r => roots.any (fun q => q != r))
  if two then
    let again := s.time.twoRoots && (match s.time.twoGoneAt with | some t => decide (s.now < t + sec) | none => true)
    let s := { s with time := { s.time with twoRoots := true, twoGoneAt := none } }
    if again then s else s.timeFault 0x0D40 corrected
  else if s.time.twoRoots ∧ s.time.twoGoneAt = none then { s with time := { s.time with twoGoneAt := some s.now } }
  else s

/-- What follows from a change at some port. -/
def State.timeWatch (s : State) : State := (s.reselect.watchBetter).watchRoots.timeNames

/-- A port is no longer time-locked (R169); after E-IDLE or IDLE-HELD four sets lock it again. -/
def State.timeUnlock (s : State) (p : Nat) (need : Nat := 16) : State :=
  (s.modTport p (fun t => { t with locked := false, run := 0, need := need })).timeWatch

/-- FT_ROLE in force (R170, R187): a root is ROOT_FREE until TIME_IN is valid, also where three valid pulses have come before
(DESIGN CHOICE, log entry 154); a follower starts FREE. -/
def State.timeRole (s : State) : State :=
  if s.cfg 0xD000 2 = 1 then
    if s.time.st < 4 then ({ s with time := { s.time with st := 5, parent := none, slew := 0 } }).timeNames else s
  else if 4 ≤ s.time.st then (({ s with time := { s.time with st := 0, parent := none, slew := 0 } }).timeNames).timeWatch
  else s

/-! ### The servo (R170) -/

/-- 1 ns, and FT_STEP_LIMIT, in 2^-16 ns. -/
abbrev ns16 : Nat := 65536
def State.stepLimit (s : State) : Nat := s.cfg 0xD000 7 * ns16

/-- θ in ps as FT_OFFSET keeps it, saturating (R187). -/
def thetaPs (th : Int) : Int := max (-(2 ^ 31)) (min (2 ^ 31 - 1) (th * 1000 / 65536))

/-- 200 ppm in 2^-32 ns for each ns. -/
abbrev slewMax : Int := 858993

/-- The parent's rate against the own oscillator's since LOCKED was entered, in 2^-32 ns for each ns, from its time now. -/
def parentRate (ref : Nat × Int) (now : Nat) (par : Int) : Int :=
  (par - ref.2 - 65536 * ((now : Int) - ref.1)) * 65536 / max 1 ((now : Int) - ref.1)

/-- The servo's own frequency after a set of the parent, in 2^-32 ns for each ns: at most 200 ppm, and after 600 s in LOCKED
within 5 ns per second of the parent's rate (R170). The spec gives no filter, so within those bounds it is a free value
(DESIGN CHOICE, log entry 53). -/
def State.newFreq (s : State) (par : Int) : Int :=
  match s.time.lockRef with
  | some r =>
    if r.1 + 600 * sec ≤ s.now then max (-slewMax) (min slewMax (parentRate r s.now par + ((s.freeVal 21 : Int) % 43 - 21)))
    else (s.freeVal 21 : Int) % 1717987 - slewMax
  | none => (s.freeVal 21 : Int) % 1717987 - slewMax

/-- A valid set of the parent. -/
def State.servo (s : State) (th : Int) : State :=
  let par : Int := (s.time.ft.toNat : Int) - th
  let s := { s.nextFree with time := { s.time with offset := thetaPs th, freq := s.newFreq par } }
  let near := decide (th.natAbs < ns16)
  let far := decide (s.stepLimit < th.natAbs)
  let lock (s : State) : State :=
    let n := if near then s.time.goodRun + 1 else 0
    if 64 ≤ n then
      ({ s with time := { s.time with
        goodRun := n, st := 2, lockRef := if s.time.st = 2 then s.time.lockRef else some (s.now, par) } }).timeNames
    else { s with time := { s.time with goodRun := n } }
  match s.time.st with
  | 1 =>
    if s.time.stepped then lock (s.ftSlew (-th))
    else
      let s := { s with time := { s.time with stepped := true } }
      lock (if s.time.condStep && !far then s.ftSlew (-th) else s.ftStep (-th))
  | 2 | 3 =>
    if far then
      if 4 ≤ s.time.farRun + 1 then
        (({ s with time := { s.time with st := 1, farRun := 0, goodRun := 0, stepped := false, condStep := false, slew := 0 } }).timeNames).timeFault
          0x0D10 deferred
      else
        let s := { s with time := { s.time with farRun := s.time.farRun + 1, goodRun := 0 } }
        if s.time.st = 2 then s.ftSlew (-th) else s
    else
      let s := { s with time := { s.time with farRun := 0 } }
      lock (s.ftSlew (-th))
  | _ => s

/-! ### Time sets (R165 to R169) -/

/-- FT_PORT_ASYM in 2^-16 ns. -/
def State.asym (s : State) (p : Nat) : Int := signed 16 (s.cfg 0xD001 (p + 1)) * 65536 / 1000

/-- Departure of the own word 0 that a set echoes, if it is among the last four. -/
def TimePort.echoed (t : TimePort) (q : Nat) : Option Nat := (t.departs.find? (fun d => d.1 == q)).map (·.2)

/-- The round trip of a set, when the set may be used (R167). -/
def setRtt (t : TimePort) (x : TimeSet) : Option Int :=
  let turn := bf x.word2.toNat 4 44
  match t.echoed (bf x.word2.toNat 0 4) with
  | none => none
  | some t1 =>
    let rtt : Int := (elapsed x.arrival t1 : Int) - turn
    if x.inOrder && turn != 2 ^ 44 - 1 && decide (0 ≤ rtt) && decide (rtt ≤ 20000 * 65536) then some rtt else none

/-- Take a received set at a port. The halves of R168 and FT_PORT_ASYM are rounded down to 2^-16 ns (DESIGN CHOICE, log
entry 144). A set that never comes breaks no run of valid ones until the lock is lost (DESIGN CHOICE, log entry 154). -/
def State.takeSet (s : State) (p : Nat) (x : TimeSet) : State :=
  let s := s.modTport p (fun t => { t with peerSeq := some x.seq, peerArr := x.arrival })
  match setRtt (s.tport p) x with
  | none => s.modTport p (fun t => { t with badSets := satAdd 32 t.badSets 1, run := 0 })
  | some rtt =>
    let a := s.asym p
    let t3 : Nat := x.word0.toNat + bf x.word1.toNat 0 32 * 2 ^ 48
    let th : Int := (x.arrival : Int) - (t3 + (rtt - a) / 2)
    let dTo := ceilDiv ((rtt + a) / 2).toNat ns16
    let s := s.modTport p (fun t => { t with
      peerState := bf x.word1.toNat 32 4, peerSteps := bf x.word1.toNat 36 4, peerRoot := bf x.word3.toNat 0 21
      run := t.run + 1, locked := t.locked || decide (t.need ≤ t.run + 1), lastAt := s.now
      sets := t.sets + 1, maxDelay := max t.maxDelay dTo })
    let s := if 1024 ≤ (s.tport p).sets then
        (s.modPortq p (fun q => { q with linkDelay := min 0xFFFF (s.tport p).maxDelay })).modTport p (fun t => { t with sets := 0, maxDelay := 0 })
      else s
    let s := s.timeWatch
    if s.time.parent = some p then s.servo th else s

/-- A port sends time sets: from bring-up stage 6, while it is not in a low-power state (R166); until it enters one
(R134), and from stage 6 of its exit. -/
def State.timeSends (s : State) (p : Nat) : Bool :=
  let l := s.link p
  decide (6 ≤ l.stage) && (l.lps == 0 || l.lps == 4 || l.settling || (l.lps == 5 && decide (l.stage < 9)))

/-- Fabric time at which a block handed now to a port's transmitter, before all others, departs (R166): its sync header's
first unit interval. Until then fabric time is taken to run at its nominal rate (DESIGN CHOICE, log entry 155). -/
def State.departure (s : State) (p : Nat) : Nat :=
  (s.time.ft.toNat + ((s.link p).upToNow s.now).leavesIn s.now 0 * 65536 / 225) % 2 ^ 80

/-- Send one set (R165). A TURN that its 44 bits cannot hold is sent as no echo (DESIGN CHOICE, log entry 155). -/
def State.sendSet (s : State) (p : Nat) : State :=
  let t := s.tport p
  let ft := s.departure p
  let w (v : Nat) : BitVec 48 := BitVec.ofNat 48 v
  let none_ := pack [(4, 44, 2 ^ 44 - 1)]
  let word2 := match t.peerSeq with
    | some q => if elapsed ft t.peerArr < 2 ^ 44 - 1 then pack [(0, 4, q), (4, 44, elapsed ft t.peerArr)] else none_
    | none => none_
  let w0 := w (bf ft 0 48)
  let w1 := w (pack [(0, 32, bf ft 48 32), (32, 4, s.time.st), (36, 4, s.time.steps)])
  let w2 := w word2
  let w3 := w s.time.rootId
  (((s.ctlFirst p [.time 0 t.seq w0, .time 1 t.seq w1, .time 2 t.seq w2, .time 3 t.seq w3]).emit (.time p t.seq w0 w1 w2 w3))).modTport p (fun t => { t with
      departs := (t.departs ++ [(t.seq, ft)]).drop (t.departs.length - 3), seq := (t.seq + 1) % 16, sentAt := s.now })

/-! ### TIME_IN (R174) -/

/-- The seconds a TIME_IN message names, when its CRC is right and VALID is 1; another gives the next pulse no seconds
(DESIGN CHOICE, log entry 138). -/
def timeMsg (b : List Byte) : Option Nat :=
  if b.length == 12 && leNat (b.take 2) == 0x5AA5 && crc8 ((b.drop 2).take 9) == (b.getD 11 0).toNat && bitAt (b.getD 10 0).toNat 0
  then some (leNat ((b.drop 2).take 8)) else none

/-- A pulse of TIME_IN. -/
def State.timePulse (s : State) : State :=
  let t := s.time
  let near := match t.pulseAt with
    | some a => decide (a + 999 * ms ≤ s.now) && decide (s.now ≤ a + 1001 * ms)
    | none => false
  let valid := near && t.msgSec.isSome && t.pulseSec.isSome && t.msgSec == t.pulseSec.map (· + 1)
  let run := if valid then t.validRun + 1 else 0
  let s := { s with time := { t with
    pulseAt := some s.now, pulseSec := t.msgSec, msgSec := none, validRun := run
    lastValid := if valid then s.now else t.lastValid } }
  let th : Int := (s.time.ft.toNat : Int) - ((t.msgSec.getD 0) * sec + s.cfg 0xD000 10) * ns16
  if !valid then s
  else if t.st = 4 then s.ftSlew (-th)
  else if t.st = 5 ∧ 3 ≤ run then
    let s := ({ s with time := { s.time with st := 4 } }).timeNames
    if s.stepLimit < th.natAbs then s.ftStep (-th) else s.ftSlew (-th)
  else s

/-! ### TIME_OUT (R175) -/

/-- FT_TIMEOUT_CTRL and FT_TIMEOUT_OFFSET in force: a write applies from the next whole second (R187). -/
def State.outCfg (s : State) : Nat × Nat :=
  if s.ftNs / sec < s.time.outFrom then s.time.outOld else (s.cfg 0xD000 11, s.cfg 0xD000 12)

/-- Either of the two is about to be written: what is in force stays until the next whole second. -/
def State.outHold (s : State) : State := { s with time := { s.time with outOld := s.outCfg, outFrom := s.ftNs / sec + 1 } }

/-- Fabric time less FT_TIMEOUT_OFFSET, in ns. -/
def State.outNs (s : State) : Int := (s.ftNs : Int) - signed 32 s.outCfg.2

/-- The TIME_OUT pin is high: a pulse lasts 1 ms. -/
def State.timeOutPin (s : State) : Bool := decide (s.now < s.time.outUntil)

/-- A TIME_OUT pulse is due: a whole second has been reached that has had none. -/
def State.outDue (s : State) : Bool :=
  bitAt s.outCfg.1 0 && decide (0 ≤ s.outNs) && decide (s.outNs % sec < 2) && (s.outNs / sec).toNat + 1 != s.time.outSec

/-- The 12 bytes of a TIME_OUT message. -/
def outMessage (seconds : Nat) (valid : Bool) : List Byte :=
  let body := natLe 8 seconds ++ natLe 1 (b2n valid)
  natLe 2 0x5AA5 ++ body ++ natLe 1 (crc8 body)

/-! ### Commands -/

/-- FT_SYNC_TIMER (R166). -/
def execFtSyncTimer (p : Nat) (s : State) : Res :=
  .next (if s.timeSends p ∧ (s.tport p).sentAt + s.cfg 0xD000 6 ≤ s.now then s.sendSet p else s)

/-- TIME_SET_RX (R167 to R173). -/
def execTimeSetRx (p : Nat) (set : TimeSet) (s : State) : Res :=
  .next (if s.timeSends p then s.takeSet p set else s)

/-- TIME_LOCK_LOSS (R169): a set has been missing for 8 × FT_SYNC_INTERVAL. -/
def execTimeLockLoss (p : Nat) (s : State) : Res :=
  .next (if (s.tport p).locked ∧ (s.tport p).lastAt + 8 * s.cfg 0xD000 6 ≤ s.now then s.timeUnlock p else s)

/-- HOLDOVER_EXPIRED (R170). -/
def execHoldoverExpired (s : State) : Res :=
  .next (if s.time.st = 3 ∧ s.time.parent = none ∧ s.time.holdAt + s.cfg 0xD000 8 * ms ≤ s.now then
      (({ s with time := { s.time with st := 0, slew := 0 } }).timeNames).timeFault 0x0D30 deferred
    else s)

/-- PARENT_RESELECT_TIMER (R171): a port has offered more for 1 s without a break. -/
def execParentReselectTimer (s : State) : Res :=
  .next (match s.time.parent.bind s.betterParent with
    | some p => (s.takeParent p).timeWatch
    | none => s)

/-- A sample of TIME_IN goes to the time unit's buffer; one that access control refuses is discarded (R87, R93). The spec
gives a sample no layout: its bytes are free values. -/
def State.timeSample (s : State) (len : Nat) (f : State → State) : State :=
  match s.transfer 12 len true ((List.range len).map (Config.freeByte s.free)) with
  | (s, true) => f s
  | (s, false) => s

/-- TIME_IN_PULSE (R174). -/
def execTimeInPulse (s : State) : Res := .next (s.timeSample 16 State.timePulse)

/-- TIME_IN_MESSAGE (R174). -/
def execTimeInMessage (bytes : List Byte) (s : State) : Res :=
  .next (s.timeSample 16 (fun s => { s with time := { s.time with msgSec := timeMsg bytes } }))

/-- TIME_IN_LOST (R174): no valid pulse for 1.5 s. -/
def execTimeInLost (s : State) : Res :=
  .next (if s.time.st = 4 ∧ s.time.lastValid + 1500 * ms ≤ s.now then
      (({ s with time := { s.time with st := 5, validRun := 0, slew := 0 } }).timeNames).timeFault 0x0D50 deferred
    else s)

/-- TIME_OUT_PULSE (R175): with QUALIFY, suppressed while fabric time is not usable. -/
def execTimeOutPulse (s : State) : Res :=
  .next (if s.outDue then
      let k := (s.outNs / sec).toNat
      let s := { s with time := { s.time with outSec := k + 1 } }
      if bitAt s.outCfg.1 1 && !s.ftUsable then s
      else ({ s with time := { s.time with outPulseAt := some s.now, outUntil := s.now + ms } }).emit (.timeOutPulse k)
    else s)

/-- TIME_OUT_MESSAGE (R175): 500 ms after each pulse. -/
def execTimeOutMessage (s : State) : Res :=
  .next (match s.time.outPulseAt with
    | some t =>
      if t + 500 * ms ≤ s.now then
        ({ s with time := { s.time with outPulseAt := none } }).emit (.timeOutMsg (outMessage ((s.outNs / sec).toNat + 1) s.ftUsable))
      else s
    | none => s)

end Sys2Proof.Machine
end

