-- ==== Sys2Proof/Machine/Links.lean ====
section
/-! DEFINITION. Lanes and links (spec 05, R109 to R138, and R30): bring-up, framing, flow control, lane loss, link
down, low-power states, and their commands. -/

namespace Sys2Proof.Machine

/-! ### Packets as bytes (R139) -/

/-- The packet that the bytes of its data blocks spell; pad is left out. -/
def parsePacket (b : List Byte) : Packet :=
  let v := leNat (b.take 24)
  let hlen := bf v 8 4
  let plen := bf v 16 13
  { version := bf v 0 4, kind := bf v 4 4, hlen := hlen, dform := bitAt v 12, gen := bitAt v 13, nonmin := bitAt v 14,
    tdown := bitAt v 15, plen := plen, gv := bf v 29 2, dstDev := bf v 32 20, dstFn := bf v 52 8, dstCtx := bf v 64 20,
    igroup := bf v 84 12, srcDev := bf v 96 20, sform := bitAt v 116, srcFn := bf v 117 8, srcCtx := bf v 128 20,
    age := bf v 148 16, hops := bf v 164 4, chint := bf v 168 4, echo := bf v 172 4, echoNm := bitAt v 176,
    ltgt := bf v 177 6, ext := leNat ((b.drop 24).take (8 * hlen - 24)), payload := (b.drop (8 * hlen)).take plen }

/-! ### Flow control (R126, R127) -/

/-- VC_LIMIT and VC_HEADROOM of a port in bytes. -/
def State.vcLimit (s : State) (p v : Nat) : Nat := bf (s.cfg 0x3008 (p + 1)) (16 * v) 16 * 1024
def State.vcHeadroom (s : State) (p : Nat) : Nat := s.cfg 0x3009 (p + 1) * 1024

/-- Hand a control block to the transmitter (R120), and the block itself to the outside. -/
def State.emitFc (s : State) (p : Nat) (bits : BitVec 10) : State := (s.ctl p [.fc bits]).emit (.fc p bits)

/-- Send LPI REQ or ACK: it follows the packets that have been started (R134); a NAK goes at once. -/
def State.emitLpi (s : State) (p kind st : Nat) (force : Bool) : State :=
  (if kind = 2 then s.ctl p [.lpi st kind force] else s.ctlLast p [.lpi st kind force]).emit (.lpi p kind st force)

/-- A VC's next XOFF bit from the bytes held on it: it holds between the two thresholds. -/
def State.xoffNext (s : State) (p v : Nat) : Bool :=
  let h := nth (s.link p).held v
  let hi := s.vcLimit p v - s.vcHeadroom p
  if hi < h then true else if h + 16384 < hi then false else (s.link p).xoffSent.getLsbD v

/-- Note one VC's change of XOFF toward the peer (R129). -/
def Link.noteXoff (l : Link) (now v : Nat) (on : Bool) : Link :=
  if on then { l with
    xoffAt := l.xoffAt.set v (some now)
    xoffRec := if nth l.xonAt v + ms ≤ now then l.xoffRec.set v false else l.xoffRec
    counts := bump l.counts 10 1 }
  else { l with xoffAt := l.xoffAt.set v none, xonAt := l.xonAt.set v now }

/-- A port whose link layer works: up, in no low-power state nor leaving one (R134), and not looped back to its peer
(R136). -/
def State.rxOn (s : State) (p : Nat) : Bool :=
  s.portUp p && ((s.link p).lps == 0 || (s.link p).lps == 4 || (s.link p).settling) && bf (s.cfg 0x300E (p + 1)) 0 2 != 3

/-- Send an FC block when the bitmap changes; none flows in a low-power state (R134). -/
def State.fcWatch (s : State) (p : Nat) : State :=
  let l := s.link p
  let bits : BitVec 10 := BitVec.ofNat 10 (pack ((List.range 10).map (fun v => (v, 1, b2n (s.xoffNext p v)))))
  if !s.rxOn p || bits == l.xoffSent then s
  else
    (s.modLink p (fun l => { (List.range 10).foldl (fun l v =>
        if bits.getLsbD v = l.xoffSent.getLsbD v then l else l.noteXoff s.now v (bits.getLsbD v)) l with
      xoffSent := bits, fcAt := s.now })).emitFc p bits

/-- The bitmap is all XON again: the port goes down or comes up (R126). -/
def Link.allXon (l : Link) (now : Nat) : Link :=
  { (List.range 10).foldl (fun l v => if l.xoffSent.getLsbD v then l.noteXoff now v false else l) l with xoffSent := 0, xoffPeer := 0 }

/-- Bytes join or leave an ingress port's buffer on a VC. -/
def State.holdBytes (s : State) (p v n : Nat) : State :=
  (s.modLink p (fun l => { l with held := l.held.set v (nth l.held v + n) })).fcWatch p
def State.freeBytes (s : State) (p v n : Nat) : State :=
  (s.modLink p (fun l => { l with held := l.held.set v (nth l.held v - n) })).fcWatch p

/-- Bytes a packet holds at its ingress (R127): its data blocks. -/
def qBytes (q : QPkt) : Nat := if q.blocks = 0 then pktSize q.pkt else 8 * q.blocks

/-! ### Occupancy of a port tile's packet buffer (R161) -/

/-- The port tile whose buffer holds a packet. -/
def QPkt.tile (q : QPkt) : Nat := if q.ingress < 64 then ptOf q.ingress else q.ingress - 64

/-- Bytes of the packets that a port tile's buffer holds, those among them that still cross the mesh. -/
def State.occupancy (s : State) (n : Nat) : Nat :=
  let sum (l : List QPkt) : Nat := ((l.filter (fun q => q.tile == n && !q.ghost)).map qBytes).foldl (· + ·) 0
  let cross : List QPkt := s.arch.chans.flatMap (fun e => e.2.filterMap (fun f =>
    match f.x with | .egress _ q | .coll _ q => if f.k + 1 = f.n then some q else none | _ => none))
  sum cross + (s.portqs.map (fun e => sum e.2.ingress + sum e.2.coll + sum e.2.egress)).foldl (· + ·) 0

/-- Compare the occupancy with LOW, HIGH and CRIT: each state holds until the next threshold is crossed. -/
def State.throttleWatch (s : State) (n : Nat) : State :=
  if 8 ≤ n then s
  else
    let v := s.cfg 0x4003 (n + 1)
    let o := 100 * s.occupancy n
    let above (pct : Nat) : Bool := decide (pct * 12582912 < o)
    let under (pct : Nat) : Bool := decide (o < pct * 12582912)
    s.modPt n (fun t => { t with
      throttle :=
        if above (bf v 16 8) then 2
        else if t.throttle = 2 then (if under (bf v 8 8) then (if under (bf v 0 8) then 0 else 1) else 2)
        else if above (bf v 8 8) then 1
        else if t.throttle = 1 then (if under (bf v 0 8) then 0 else 1) else 0 })

/-- Give back the ingress bytes of a packet that leaves; injected packets, and what is left of a dropped one, hold none at
a port. -/
def State.leaves (s : State) (q : QPkt) (inVc : Nat) : State :=
  (if q.ingress < 64 ∧ !q.ghost then s.freeBytes q.ingress inVc (qBytes q) else s).throttleWatch q.tile

/-- The VC whose buffer a routed packet still holds at its ingress: a global hop has raised it by one. -/
def QPkt.inVc (q : QPkt) (global : Bool) : Nat := if global ∧ q.vc < 6 then q.vc - 1 else q.vc

/-! ### Policers (R181, R183) -/

/-- One token in the units of a bucket's level: 10^-6 of the 2^-16 token that R181 resolves, so that no part of what
accrues in a nanosecond is lost. -/
abbrev token : Nat := 65536000000

/-- The bucket refilled: RATE tokens per ms, at most BURST. -/
def refill (e now : Nat) (b : Bucket) : Bucket :=
  { level := min (bf e 16 16 * token) (b.level + (now - b.at_) * bf e 32 32 * 65536), at_ := now }

/-- Policer k of a VC: REQ0–REQ2, RSP0–RSP2, ESC. -/
def policerOf (vc : Nat) : Option Nat := if vc ≤ 5 then some vc else if vc = 9 then some 6 else none

/-- A packet meets its policer: none when it is dropped. -/
def State.police (s : State) (p vc : Nat) : State × Bool :=
  match policerOf vc with
  | none => (s, true)
  | some k =>
    let e := bf (s.cfg 0xD021 (p + 1)) (64 * k) 64
    if !bitAt e 0 then (s, true)
    else
      let b := refill e s.now ((s.portq p).policers.getD k {})
      if b.level < token then
        (s.modPortq p (fun q => { q with policers := q.policers.set k b, policed := bump q.policed k 1 }), false)
      else (s.modPortq p (fun q => { q with policers := q.policers.set k { b with level := b.level - token } }), true)

/-! ### Reception (R120 to R124) -/

/-- Count in PORT_LINK_COUNTS and end the packet in reception. -/
def State.rxDrop (s : State) (p k : Nat) : State := (s.linkCount p k).modLink p (fun l => { l with rx := none })

/-- The first cause of R123 that drops a packet whose end has come, of those known before its end. -/
def RxPkt.cause (x : RxPkt) (blocks : Nat) : Option Nat :=
  if x.bad then some 2 else if x.old then some 4 else if 10 ≤ x.vc ∨ 520 < blocks then some 5 else none

/-- The head of a packet that R123 drops may have gone on before its end was known (R124): then its outgoing copy, a
stomped one, is what is left of it. It may not where the packet was never forwarded: an old number, no header, no room,
a policed packet, a VC whose packets end here. Whether it had gone is a free value (log entry 35). -/
def State.leftover (s : State) (p k : Nat) (x : RxPkt) (data : List Byte) : State :=
  if k = 4 ∨ k = 8 ∨ data.length < 24 ∨ x.policed ∨ 10 ≤ x.vc ∨ x.vc = 6 ∨ x.vc = 7 then s
  else
    let gone := s.freeVal 1 == 1
    let s := s.nextFree
    if gone then
      s.modPortq p (fun q => { q with ingress := q.ingress ++
        [{ pkt := parsePacket data, vc := x.vc, ingress := p, arr := x.at_, blocks := data.length / 8, stomp := true, ghost := true }] })
    else s

/-- Drop the packet in reception for a cause of R123. -/
def State.rxDropAs (s : State) (p k : Nat) (x : RxPkt) (data : List Byte) : State := (s.rxDrop p k).leftover p k x data

/-- Count an accepted packet and trace its arrival at fabric time `ft` (R137, R368, R369). -/
def State.rxNote (s : State) (p : Nat) (k : Packet) (len ft : Nat) : State :=
  let n := ptOf p
  let s := ((s.linkCount p 1).perf n 0x102 (p % 8) none 1).perf n 0x103 (p % 8) none len
  if s.tagged k then s.tracePt n (s.traceRec 2 p k.hops k.srcDev k.sform k.srcFn k.srcCtx (xPsn k).toNat ft) else s

/-- The home tile of the tree a collective packet names, the tile itself for a KEEPALIVE and a tree not installed (R278, R297). -/
def State.collHome (s : State) (p : Nat) (k : Packet) : Nat :=
  let x := s.tree (kTree k)
  if kCtype k ≠ 2 ∧ x.installed then treeHome (kTree k) x.entry.toNat else ptOf p

/-- A collective packet has arrived on an edge (R297): it waits for the reduction unit, over the mesh when its home tile
is another (R278). -/
def State.collArrive (s : State) (p : Nat) (q : QPkt) : State :=
  let home := s.collHome p q.pkt
  let s := s.modPortq p (fun x => { x with collAt := s.now })
  if home = ptOf p then s.modPortq p (fun x => { x with coll := x.coll ++ [q] }) else s.offer (ptOf p) home (p % 8) (.coll p q)

/-- A packet that breaks a rule of format (R142), with the VC it came on. -/
def badFormat (k : Packet) (vc : Nat) : Bool :=
  k.version != 1 || decide (k.hlen < 3) || decide (8 < k.hlen) || decide (4 < k.kind) || decide (4096 < k.plen)
    || (k.dform && (k.kind == kindCup || k.kind == kindCdn)) || (k.gv == 3 && k.kind != kindCup && k.kind != kindCdn) || vcOf k != vc

/-- The number of data blocks is not the one that HLEN and PLEN give (R142). -/
def QPkt.badLength (q : QPkt) : Bool := q.blocks != ceilDiv (max 64 (pktSize q.pkt)) 8

/-- Why a packet on a collective VC is dropped where it arrives (R142): FORMAT, NO_ROUTE on a management-only port (R30),
LENGTH. -/
def State.collRefuse (s : State) (p : Nat) (q : QPkt) : Option Nat :=
  if badFormat q.pkt q.vc then some 0 else if (s.link p).mgmtOnly then some 3 else if q.badLength then some 1 else none

/-- Place an accepted packet at its ingress; it arrived when its SOP did (R156). -/
def State.rxPlace (s : State) (p vc at_ : Nat) (k : Packet) (len : Nat) : State :=
  let q : QPkt := { pkt := k, vc := vc, ingress := p, arr := at_, blocks := len / 8 }
  let keep (s : State) : State := (s.holdBytes p vc len).throttleWatch (ptOf p)
  if vc = 6 ∨ vc = 7 then
    match s.collRefuse p q with
    | some c => s.dropCount (ptOf p) c (p % 8)
    | none => keep (s.collArrive p q)
  else keep (s.modPortq p (fun x => { x with ingress := x.ingress ++ [q] }))

/-- A packet the link layer passes on (R123) waits at its port; one that its policer cut at its header is gone (R183). -/
def State.rxAccept (s : State) (p : Nat) (x : RxPkt) (data : List Byte) : State :=
  let k := parsePacket data
  let s := s.rxNote p k data.length x.ft
  if !s.carries x.vc then s.modeDrop (ptOf p)
  else if x.policed then s
  else s.rxPlace p x.vc x.at_ k data.length

/-- A packet ends with its CRC (R121, R123). -/
def State.rxEnd (s : State) (p : Nat) (data : List Byte) (crc : Nat) : State :=
  match (s.link p).rx with
  | none => s
  | some x =>
    let s' := s.modLink p (fun l => { l with rx := none })
    match x.cause (data.length / 8) with
    | some k => s.rxDropAs p k x data
    | none =>
      if linkCrc x.lseq x.vc data ≠ crc then s.rxDropAs p 7 x data
      else if !x.policed ∧ s.vcLimit p x.vc < nth (s.link p).held x.vc + data.length then s.rxDropAs p 8 x data
      else s'.rxAccept p x data

/-- A packet starts (R122): one still in reception has lost its end to a bad block, and its bytes with it, so that nothing
is left of its head (log entry 35). Its policer decides now, at its
header (R183). -/
def State.rxStart (s : State) (p lseq vc : Nat) : State :=
  let s := if (s.link p).rx.isSome then s.rxDrop p 2 else s
  let d := (lseq + 4096 - (s.link p).rxSeq.toNat) % 4096
  if d ≤ 2047 then
    let (s, ok) := if s.carries vc then s.police p vc else (s, true)
    s.modLink p (fun l => { l with
      counts := bump l.counts 3 d, rxSeq := BitVec.ofNat 12 (lseq + 1)
      rx := some { lseq := lseq, vc := vc, policed := !ok, at_ := s.now, ft := s.time.ft.toNat } })
  else s.modLink p (fun l => { l with rx := some { lseq := lseq, vc := vc, old := true, at_ := s.now, ft := s.time.ft.toNat } })

/-- A block that starts a packet, and one that ends one. -/
def Block.starts : Block → Bool
  | .sop .. | .eopSop .. => true
  | _ => false
def Block.ends : Block → Bool
  | .eop _ | .eopSop .. | .stomp => true
  | _ => false

/-- Blocks up to the first of a kind, and those after it. -/
def upTo (f : Block → Bool) : List Block → List Block × List Block
  | [] => ([], [])
  | b :: r => if f b then ([b], r) else (b :: (upTo f r).1, (upTo f r).2)

/-- Take from the received stream the blocks up to an SOP or an end: a bad one among the latter spoils the packet in
reception (R115). -/
def State.takeSop (s : State) (p : Nat) : State := s.modLink p (fun l => { l with stream := (upTo Block.starts l.stream).2 })
def State.takeEnd (s : State) (p : Nat) : State :=
  s.modLink p (fun l =>
    let t := upTo Block.ends l.stream
    { l with stream := t.2, rx := l.rx.map (fun x => { x with bad := x.bad || t.1.contains .bad }) })

/-! ### Bring-up (R116 to R119, R30) -/

/-- Modes in which lanes are on (R116). -/
def State.bringsUp (s : State) : Bool := s.inMode .train || s.inMode .run || s.inMode .pass || s.inMode .test

/-- Words 0 to 3 of the link-layer exchange (R118). -/
def State.lxWord (s : State) (p k : Nat) (ack : Bool) : Nat :=
  match k with
  | 0 => pack [(0, 18, s.cfg 0x2000 1), (18, 20, s.cfg 0x2000 2)]
  | 1 => pack [(0, 6, p), (8, 8, 1)]
  | 2 => Config.unitSerial.toNat % 2 ^ 48
  | _ => b2n ack

/-- Send the four words once. -/
def State.sendLx (s : State) (p : Nat) (ack : Bool) : State :=
  (List.range 4).foldl (fun s k => s.emit (.lx p k (BitVec.ofNat 48 (s.lxWord p k ack)))) s

/-- Enter a stage of bring-up: stage 2 takes the lanes' equalizer taps and stage 8 LINK_TIME_WAIT (R137), stage 3 starts
CWSEQ (R111), stage 4 has every lane in block lock and its runs of codewords begin (R116), stage 6 starts the time sets
(R165), stage 7 the exchange (R118). ACTIVE is all four lanes from stage 2 on (R111). -/
def State.enterStage (s : State) (p k : Nat) : State :=
  let s := s.modLink p (fun l => { l with stage := k, stageAt := s.now })
  match k with
  | 2 => s.modLink p (fun l => { l with
      active := 0xF
      lanes := l.lanes.mapIdx (fun i (x : Lane) => { x with txEq := s.cfg 0x300B (4 * p + i) }) })
  | 3 => s.modLink p (fun l => { l with active := 0xF, cwSeq := 0 })
  | 4 => s.modLink p (fun l => { l with rxLock := 0xF, lanes := l.lanes.map (fun x => { x with badRun := 0, goodRun := 0 }) })
  | 6 =>
    let need := if (s.link p).lps = 5 ∧ (s.link p).lpsGoal = 2 then 4 else 16
    s.modTport p (fun t => { t with seq := 0, departs := [], peerSeq := none, run := 0, need := need, locked := false })
  | 7 => (s.modLink p (fun l => { l with lxCur := [], lxPrev := [], lxSame := false })).sendLx p false
  | 8 => s.modLink p (fun l => { l with timeWait := s.cfg 0x3006 1 })
  | _ => s

/-- A link with nothing in reception or in transmission, dealing to and from all four lanes. -/
def Link.still (l : Link) : Link :=
  { l with
    rx := none, stream := [], inPkt := false, tx := [], txCtl := [], cw := [], txMark := 0xF, txDeal := 0xF, txIdle := false
    peerActive := 0xF, peerNext := 0xF, lanes := l.lanes.map (fun x => { x with codewords := [] }) }

/-- The lane map and polarity of R117, found or committed, are forgotten, with what the peer's marker said and what the lanes
had in lock and in use. -/
def Link.unmapped (l : Link) : Link :=
  { l.still with
    foundInv := 0, foundRev := false, inverted := 0, reversed := false, peerStage := 1, active := 0, rxLock := 0, rxUsable := 0 }

/-- Start at stage 1 where lanes are on and the port is enabled, else be off. -/
def State.portStart (s : State) (p : Nat) : State :=
  let on := s.bringsUp && s.cfg 0x3002 (p + 1) == 1
  s.modLink p (fun l => { l.unmapped with
    stage := if on then 1 else 0, stageAt := s.now, lps := 0, lpsReqAt := none, lpsExitAt := none, miscabled := false })

/-- A port that is up, or that reruns stages to leave a low-power state (R133). -/
def State.inService (s : State) (p : Nat) : Bool := s.portUp p || (s.link p).lps == 5

/-- Send LPI REQ: no packet starts meanwhile (R134). -/
def State.lpsRequest (s : State) (p st : Nat) (force : Bool) : State :=
  (s.modLink p (fun l => { l with lps := 4, lpsGoal := st, lpsReqAt := some s.now })).emitLpi p 0 st force

/-- A port that has left E-IDLE or DEEP on the way to HOLD goes to IDLE-HELD (R331, R335). -/
def State.holdPort (s : State) (p : Nat) : State :=
  if s.mode.changing && s.mode.drained && s.mode.target == .hold then s.lpsRequest p 2 true else s

/-- A port comes up (R116, R122, R126). -/
def State.portComesUp (s : State) (p : Nat) : State :=
  (s.modLink p (fun l => { (l.still).allXon s.now with
    stage := 9, stageAt := s.now, attempts := 0, failRec := false, active := 0xF, rxLock := 0xF, rxUsable := 0xF
    peerLock := 0xF, peerUsable := 0xF, txSeq := 0, rxSeq := 0, narrowAt := none, minW := s.cfg 0x3003 (p + 1)
    lps := 0, lpsExitAt := none, lpsReqAt := none, fcAt := s.now
    lanes := l.still.lanes.map (fun x => { x with lostAt := none, lockAt := s.now, badRun := 0, goodRun := 0 }) })).fcWatch p |>.holdPort p

/-- The coordinate that R29 requires of a row or column port's peer. -/
def roleCoord (c p : Nat) : Nat :=
  if p ≤ 6 then c / 8 * 8 + (if p < c % 8 then p else p + 1)
  else c / 64 * 64 + (if p - 7 < c / 8 % 8 then p - 7 else p - 6) * 8 + c % 8

/-- The check of R30: refused, or flat-only and management-only. -/
def State.peerCheck (s : State) (p w0 : Nat) : Option (Bool × Bool) :=
  let coord := bf w0 0 18
  let flat := bf w0 18 20
  match s.coord? with
  | none => some (s.flat?.isSome, s.flat?.isNone)
  | some c =>
    if coord / 64 = 4095 then some (flat != 0xFFFFF, flat == 0xFFFFF)
    else if p ≤ 13 then (if coord = roleCoord c p then some (false, false) else none)
    else if coord / 64 = c / 64 then none else some (false, false)

/-- Two identical sets have been seen (R118): the peer is checked, and ACK is sent, or the port is held. -/
def State.lxDone (s : State) (p : Nat) (set : List (BitVec 48)) : State :=
  let w0 := (set.getD 0 0).toNat
  let w1 := (set.getD 1 0).toNat
  let s := s.modLink p (fun l => { l with peer := bf w0 0 38 + bf w1 0 6 * 2 ^ 38 })
  match (if bf w1 8 8 = 1 then s.peerCheck p w0 else none) with
  | none => (s.modLink p (fun l => { l with miscabled := true })).portFault 0x0420 fatalPort p
  | some (f, m) => (s.modLink p (fun l => { l with lxSame := true, flatOnly := f, mgmtOnly := m })).sendLx p true

/-- A received exchange word (R118). -/
def State.lxRx (s : State) (p word : Nat) (v : BitVec 48) : State :=
  let l := s.link p
  if l.stage ≠ 7 ∨ l.miscabled then s
  else if word = 3 then
    if l.lxSame && v.getLsbD 0 then s.enterStage p 8 else s.modLink p (fun l => { l with lxCur := [] })
  else
    let cur := if word = 0 then [v] else if l.lxCur.length = word then l.lxCur ++ [v] else []
    if cur.length = 3 then
      let same := l.lxPrev == cur
      let s := s.modLink p (fun l => { l with lxCur := [], lxPrev := cur })
      if same && !l.lxSame then s.lxDone p cur else s
    else s.modLink p (fun l => { l with lxCur := cur })

/-- Limit of a bring-up stage in ns (R116). -/
def Link.stageLimit (l : Link) : Nat :=
  match l.stage with
  | 2 => 100 * ms
  | 3 | 4 | 5 | 7 => ms
  | 6 => 100 * us
  | _ => l.timeWait * us

/-! ### Link down (R132, R149) -/

/-- A packet's delay enters MAX_DELAY of its queue as it leaves or is dropped (R186). -/
def State.noteDelay (s : State) (p : Nat) (q : QPkt) : State :=
  s.modPortq p (fun x => { x with maxDelay := x.maxDelay.set q.vc (max (nth x.maxDelay q.vc) (min 0xFFFF ((s.now - q.arr) / 32))) })

/-- Packets that wait to leave by a port, or cross the mesh to it, are dropped as PORT_DOWN. -/
def State.flushEgress (s : State) (p : Nat) : State :=
  let qs := s.queuedFor p
  let s := (s.modPortq p (fun q => { q with egress := [] })).loseCrossing (fun x => match x with | .egress p' _ => p' == p | _ => false)
  qs.foldl (fun s q => ((s.noteDelay p q).dropCount (ptOf p) 9 (p % 8)).leaves q (q.inVc (decide (14 ≤ p)))) s

/-- The head of the packet whose blocks come first has left. -/
def headGone (tx : List Block) : Bool :=
  match tx.head? with
  | some (.data _) | some (.eop _) | some (.eopSop ..) | some .stomp => true
  | _ => false

/-- What the transmitter still holds when its port goes down: the packet whose head has left ends with EOP_STOMP, and
those whose head has not are dropped as PORT_DOWN (R149). -/
def State.cutTx (s : State) (p : Nat) : State :=
  let tx := ((s.link p).upToNow s.now).tx
  let s := (List.range (tx.filter Block.starts).length).foldl (fun s _ => s.dropCount (ptOf p) 9 (p % 8)) s
  if headGone tx then (s.linkCount p 9).emit (.stomped p) else s

/-- What follows wherever an up port goes down. PORT_LINK_DELAY keeps its last value (DESIGN CHOICE, log entry 140). -/
def State.portLost (s : State) (p : Nat) : State :=
  let s := ((s.cutTx p).flushEgress p).breakTrees (fun _ v => (tEdges v).contains p) 0x0A20 (some p)
  let s := s.modLink p (fun l => { l.unmapped.allXon s.now with
    lps := 0, lpsReqAt := none, lpsExitAt := none, narrowAt := none })
  s.timeUnlock p

/-- A port goes down with FATAL_PORT (R132, R135). -/
def State.portDown (s : State) (p : Nat) : State :=
  ((((s.linkCount p 12).portLost p).modLink p (fun l => { l with
    stage := 1, stageAt := s.now, silentAt := some s.now }))).portFault 0x0460 fatalPort p

/-- Turn a port's lanes off (R137, R336): no fault. -/
def State.portOff (s : State) (p : Nat) : State :=
  let s := if s.inService p then s.portLost p else s
  (s.modLink p (fun l => { l.unmapped with stage := 0, stageAt := s.now, miscabled := false, lps := 0 })).timeUnlock p

/-- A failed attempt (R119); an exit from a low-power state that fails takes the port down (R135). -/
def State.failAttempt (s : State) (p code : Nat) : State :=
  let l := s.link p
  if l.lps = 5 then s.portDown p
  else
    let n := l.attempts + 1
    let rec_ := decide (s.cfg 0x3007 1 ≤ n)
    let s := s.modLink p (fun l => { l.unmapped with
      stage := 1, stageAt := s.now, silentAt := some s.now, attempts := n
      failRec := l.failRec || rec_, counts := (bump l.counts 13 1).set 14 code })
    let s := if rec_ && !l.failRec then s.portFault code deferred p else s
    s.timeUnlock p

/-- The end of stage 6 (R117): polarity and lane order are committed; a port that leaves IDLE-HELD is up again (R133). -/
def State.commitMap (s : State) (p : Nat) : State :=
  let s := s.modLink p (fun l => { l with inverted := l.foundInv, reversed := l.foundRev })
  if (s.link p).lps = 5 ∧ (s.link p).lpsGoal = 2 then
    (s.modLink p (fun l => { l with
      stage := 9, stageAt := s.now, lps := 0, lpsExitAt := none, rxLock := 0xF, rxUsable := 0xF
      peerLock := 0xF, peerUsable := 0xF
      lanes := l.lanes.map (fun x => { x with lostAt := none, lockAt := s.now, badRun := 0, goodRun := 0 }) })).fcWatch p
  else s.enterStage p 7

/-- Stage 2's pattern still runs: 50 ms from the end of stage 1, on an exit from DEEP 1 ms from its start (R116). -/
def State.trainsYet (s : State) (p : Nat) : Bool :=
  let l := s.link p
  decide (s.now < (if l.lps = 5 then l.lpsExitAt.getD l.stageAt + ms else l.stageAt + 50 * ms))

/-- The end of a stage. Stage 2 ends no earlier than its pattern, stage 4 when every lane has seen 4 good codewords, stage 5
when every lane shows the same PORT, stage 6 when the peer's STAGE is at least 6; LX_WORD_RX ends stage 7 (R118). -/
def State.stageEnd (s : State) (p : Nat) (x : StageInfo) : State :=
  let l := s.link p
  match l.stage with
  | 2 => if s.trainsYet p then s else s.enterStage p 3
  | 3 => (s.modLink p (fun l => { l with foundInv := x.inverted })).enterStage p 4
  | 4 => if l.lanes.all (fun x => decide (4 ≤ x.goodRun)) then s.enterStage p 5 else s
  | 5 =>
    if !(x.lanes == [0, 1, 2, 3] || x.lanes == [3, 2, 1, 0]) then s.failAttempt p 0x0430
    else if 96 < x.skew then s.failAttempt p 0x0440
    else if x.ports.any (fun k => k != x.ports.headD 0) then s
    else (s.modLink p (fun l => { l with foundRev := x.lanes == [3, 2, 1, 0] })).enterStage p 6
  | 6 => if 6 ≤ l.peerStage then s.commitMap p else s
  | 8 => if (s.tport p).locked then s.portComesUp p else s
  | _ => s

/-- A stage's limit has passed: a failed attempt, but stage 8 ends by expiry. -/
def State.stageTimeout (s : State) (p : Nat) : State :=
  let l := s.link p
  if l.stage < 2 ∨ 8 < l.stage ∨ s.now < l.stageAt + l.stageLimit ∨ (l.stage = 7 ∧ l.miscabled) then s
  else if l.stage = 8 then s.portComesUp p
  else s.failAttempt p (0x0410 + l.stage)

/-! ### Lanes (R130, R131) -/

/-- The set of the lowest `w` lanes of a set. -/
def lowLanes (b : BitVec 4) (w : Nat) : BitVec 4 := BitVec.ofNat 4 (pack (((lanesOf b).take w).map (fun k => (k, 1, 1))))

/-- The ACTIVE that R131 chooses. -/
def chooseActive (min_ : Nat) (lock usable : BitVec 4) : Option (BitVec 4) :=
  match ([4, 2, 1].filter (fun w => min_ ≤ w && w ≤ (lanesOf usable).length)).head? with
  | some w => some (lowLanes usable w)
  | none => if min_ ≤ (lanesOf lock).length then some (lowLanes lock min_) else none

/-- Follow how long too few lanes have been in lock (R132). -/
def State.narrowWatch (s : State) (p : Nat) : State :=
  s.modLink p (fun l => { l with
    narrowAt := if (lanesOf l.rxLock).length < l.minW then some (l.narrowAt.getD s.now) else none })

/-- The peer's marker has changed: choose ACTIVE again (R131), by the PORT_MIN_WIDTH in force from now on (R137). -/
def State.peerMarker (s : State) (p : Nat) (lock usable : BitVec 4) : State :=
  let old := (s.link p).active
  let s := (s.modLink p (fun l => { l with peerLock := lock, peerUsable := usable, minW := s.cfg 0x3003 (p + 1) })).narrowWatch p
  match chooseActive (s.link p).minW lock usable with
  | none => s
  | some a =>
    let s := s.modLink p (fun l => { l with active := a })
    if (lanesOf a).length = (lanesOf old).length then s
    else
      let s := s.linkCount p 11
      if (lanesOf a).length < (lanesOf old).length then s.portFault 0x0450 deferred p else s

/-- LINK_DOWN_TIME has passed with too few lanes in lock (R132). -/
def State.narrowOver (s : State) (p : Nat) : Bool :=
  match (s.link p).narrowAt with
  | some t => decide (t + s.cfg 0x3004 1 * us ≤ s.now)
  | none => false

/-- Change one lane. -/
def State.modLane (s : State) (p k : Nat) (g : Lane → Lane) : State :=
  s.modLink p (fun l => { l with lanes := l.lanes.set k (g (l.lanes.getD k {})) })

/-- The receive lane on which the peer's lane k arrives (R117). -/
def Link.receives (l : Link) (k : Nat) : Nat := if l.foundRev then 3 - k else k

/-- Clear or set lane k of a set. -/
def laneOff (b : BitVec 4) (k : Nat) : BitVec 4 := b &&& ~~~(1#4 <<< k)
def laneOn (b : BitVec 4) (k : Nat) : BitVec 4 := b ||| (1#4 <<< k)

/-! ### Low-power states (R133 to R135) -/

/-- Enter a state: the port's time lock goes, and four sets bring it back except from DEEP (R169). Lock is not judged in
it (R135): the timers of lanes out of lock stop. Trees with an edge on the port break (R298). The lanes go quiet after what waits and 16 IDLE blocks (R134). -/
def State.enterLps (s : State) (p st : Nat) : State :=
  let s := s.breakTrees (fun _ v => (tEdges v).contains p) 0x0A20 (some p)
  ((s.ctlLast p (List.replicate 16 .idle)).modLink p (fun l => { l with
    lps := st, lpsGoal := st, lpsReqAt := none, narrowAt := none
    lanes := l.lanes.map (fun x => { x with lostAt := none, badRun := 0, goodRun := 0 }) })).timeUnlock p (if st = 3 then 16 else 4)

/-- A request ends without entry: packets resume. -/
def State.lpsEnd (s : State) (p last : Nat) : State :=
  s.modLink p (fun l => { l with lps := 0, lpsReqAt := none, lpsLast := last })

/-- Leave a low-power state: send the exit sequence (R135), from E-IDLE 64 TRAIN blocks per lane (R133). -/
def State.lpsExit (s : State) (p : Nat) : State :=
  let burst : List Block := if (s.link p).lps = 1 then List.replicate (64 * (lanesOf (s.link p).txDeal).length) .train else []
  ((s.modLink p (fun l => { l with lps := 5, lpsGoal := l.lps, lpsExitAt := some s.now })).ctl p burst).emit (.laneExit p)

/-- Exit time of a state in ns (R133). -/
def exitTime (st : Nat) : Nat := if st = 1 then 200 else if st = 2 then 20000 else 2000000

/-- Both sides have sent their exit sequences (R133): from E-IDLE packets resume, from IDLE-HELD stages 3 to 6 run again
and from DEEP stages 2 to 8. -/
def State.lpsResume (s : State) (p : Nat) : State :=
  match (s.link p).lpsGoal with
  | 3 => (s.modLink p Link.unmapped).enterStage p 2
  | 2 => (s.modLink p Link.unmapped).enterStage p 3
  | _ =>
    ((s.modLink p (fun l => { l with
      lps := 0, lpsExitAt := none
      lanes := l.lanes.mapIdx (fun i (x : Lane) => if l.rxLock.getLsbD i then x else { x with lostAt := some s.now }) })).narrowWatch p).fcWatch p
    |>.holdPort p

/-! ### Commands -/

/-- SIGNAL_DETECT (R116). -/
def execSignalDetect (p : Nat) (s : State) : Res :=
  .next (if (s.link p).stage = 1 ∧ (s.link p).silentAt = none ∧ s.bringsUp then s.enterStage p 2 else s)

/-- BRINGUP_STAGE_END (R116, R117). -/
def execBringupStageEnd (p : Nat) (info : StageInfo) (s : State) : Res := .next (s.stageEnd p info)

/-- BRINGUP_STAGE_TIMEOUT (R119). -/
def execBringupStageTimeout (p : Nat) (s : State) : Res := .next (s.stageTimeout p)

/-- TRAIN_SILENCE_END (R119): 10 ms after a failed attempt. Once LINK_TRAIN_ATTEMPTS have failed, 1 s after it: the second
between attempts runs from the last one's failure, and the transmitters stay off for all of it (DESIGN CHOICE, log entry
153). -/
def execTrainSilenceEnd (p : Nat) (s : State) : Res :=
  .next (
    let l := s.link p
    match l.silentAt with
    | some t =>
      if t + (if s.cfg 0x3007 1 ≤ l.attempts then sec else 10 * ms) ≤ s.now
      then s.modLink p (fun l => { l with silentAt := none }) else s
    | none => s)

/-- LOSS_OF_SIGNAL (R119, R118): stages 2 to 8 return to stage 1 at once. -/
def execLossOfSignal (p : Nat) (s : State) : Res :=
  .next (
    let k := (s.link p).stage
    if 2 ≤ k ∧ k ≤ 8 then
      let s := if s.inService p then s.portLost p else s
      (s.modLink p (fun l => { l.unmapped with stage := 1, stageAt := s.now, miscabled := false, lps := 0 })).timeUnlock p
    else s)

/-- LX_WORD_RX (R118). -/
def execLxWordRx (p word : Nat) (val : BitVec 48) (s : State) : Res := .next (s.lxRx p word val)

/-- SOP_RX (R122). -/
def execSopRx (p lseq vc : Nat) (s : State) : Res := .next (if s.rxOn p then (s.takeSop p).rxStart p lseq vc else s)

/-- EOP_RX (R121, R123); an EOP_SOP starts the next packet too. -/
def execEopRx (p : Nat) (data : List Byte) (crc : BitVec 32) (nextSop : Option (Nat × Nat)) (s : State) : Res :=
  .next (
    if !s.rxOn p then s
    else
      let s := (s.takeEnd p).rxEnd p data crc.toNat
      match nextSop with
      | some (lseq, vc) => s.rxStart p lseq vc
      | none => s)

/-- EOP_STOMP_RX (R123). -/
def execEopStompRx (x : StompRx) (s : State) : Res :=
  .next (
    if !s.rxOn x.p then s
    else
      let s := s.takeEnd x.p
      match (s.link x.p).rx with
      | some r => s.rxDropAs x.p ((r.cause (x.data.length / 8)).getD 6) r x.data
      | none => s)

/-- FC_RX (R126). -/
def execFcRx (p : Nat) (xoff : BitVec 10) (s : State) : Res :=
  .next (if s.rxOn p then s.modLink p (fun l => { l with xoffPeer := xoff }) else s)

/-- FC_REPEAT_TIMER (R126): again in the next codeword, and at least every 500 ns. -/
def execFcRepeatTimer (p : Nat) (s : State) : Res :=
  .next (if s.rxOn p ∧ (s.link p).fcAt + 25 ≤ s.now
    then (s.modLink p (fun l => { l with fcAt := s.now })).emitFc p (s.link p).xoffSent else s)

/-- XOFF_STUCK (R129). -/
def execXoffStuck (p vc : Nat) (s : State) : Res :=
  .next (
    match (s.link p).xoffAt.getD vc none with
    | some t =>
      if t + s.cfg 0x300A 1 * us < s.now ∧ !(s.link p).xoffRec.getD vc false then
        (s.modLink p (fun l => { l with xoffRec := l.xoffRec.set vc true })).portFault 0x0470 corrected p vc
      else s
    | none => s)

/-- LANE_LOCK_LOSS (R130): in stage 8 it fails the attempt (R119); lock is not judged in a low-power state. -/
def execLaneLockLoss (p lane : Nat) (s : State) : Res :=
  .next (
    if (s.link p).stage = 8 then s.failAttempt p 0x0418
    else if s.portUp p && ((s.link p).lps == 0 || (s.link p).lps == 4) && (s.link p).rxLock.getLsbD lane
        && decide (4 ≤ ((s.link p).lanes.getD lane {}).badRun) then
      let s := (s.modLane p lane (fun x => { x with lostAt := some s.now, badRun := 0, goodRun := 0, synced := false })).modLane p
        ((s.link p).receives lane) (fun x => { x with fec := bump x.fec 18 1 })
      (s.modLink p (fun l => { l with rxLock := laneOff l.rxLock lane, rx := l.rx.map (fun r => { r with bad := true }) })).narrowWatch p
    else s)

/-- Two lanes' last codewords are aligned by CWSEQ within the 96 ns of R116: three codewords of 24.18 ns. -/
def aligned (a b : Nat) : Bool := decide ((a + 256 - b) % 256 ≤ 3) || decide ((b + 256 - a) % 256 ≤ 3)

/-- The lane's rerun of stages 3 to 5 (R130): a codeword with 77 valid sync headers, four good codewords, the peer's PORT and
this LANE in its marker, and its CWSEQ aligned with the lanes in lock. -/
def Link.relocks (l : Link) (k : Nat) : Bool :=
  let x := l.lanes.getD k {}
  x.synced && decide (4 ≤ x.goodRun) && bf x.marker.toNat 24 2 == k && bf x.marker.toNat 26 6 == bf l.peer 38 6
    && (lanesOf l.rxLock).all (fun j => aligned (bf x.marker.toNat 32 8) (bf (l.lanes.getD j {}).marker.toNat 32 8))

/-- LANE_RELOCK (R130). Where LINK_DOWN_TIME has expired at this instant the port goes down (R132). -/
def execLaneRelock (p lane : Nat) (s : State) : Res :=
  .next (
    if s.portUp p && ((s.link p).lps == 0 || (s.link p).lps == 4) && !(s.link p).rxLock.getLsbD lane && (s.link p).relocks lane then
      if s.narrowOver p then s.portDown p
      else ((s.modLane p lane (fun x => { x with lostAt := none, lockAt := s.now })).modLink p (fun l => { l with
        rxLock := laneOn l.rxLock lane })).narrowWatch p
    else s)

/-- LANE_FAIL_TIMER (R130): out of lock for LANE_FAIL_TIME, a lane leaves RX_USABLE. -/
def execLaneFailTimer (p lane : Nat) (s : State) : Res :=
  .next (
    match ((s.link p).lanes.getD lane {}).lostAt with
    | some t =>
      if s.portUp p ∧ (s.link p).lps ∈ [0, 4] ∧ t + s.cfg 0x3005 1 * us ≤ s.now then s.modLink p (fun l => { l with rxUsable := laneOff l.rxUsable lane }) else s
    | none => s)

/-- LANE_USABLE_TIMER (R130): 100 ms in lock. -/
def execLaneUsableTimer (p lane : Nat) (s : State) : Res :=
  .next (
    let l := s.link p
    if s.portUp p && l.rxLock.getLsbD lane && decide ((l.lanes.getD lane {}).lockAt + 100 * ms ≤ s.now) then
      s.modLink p (fun l => { l with rxUsable := laneOn l.rxUsable lane })
    else s)

/-- PEER_MARKER_CHANGE (R131). -/
def execPeerMarkerChange (p : Nat) (rxLock rxUsable : BitVec 4) (s : State) : Res :=
  .next (if s.portUp p then s.peerMarker p rxLock rxUsable else s)

/-- LINK_DOWN (R132). -/
def execLinkDown (p : Nat) (s : State) : Res :=
  .next (if s.portUp p ∧ (s.link p).lps ∈ [0, 4] ∧ s.narrowOver p then s.portDown p else s)

/-- LPI_REQ_RX (R134). -/
def execLpiReqRx (p st : Nat) (force : Bool) (s : State) : Res :=
  .next (
    let l := s.link p
    if !s.portUp p then s
    else if l.lpsReqAt.isSome then
      if l.lpsGoal = st then (s.modLink p (fun l => { l with lpsLast := 1 })).enterLps p st
      else (s.lpsEnd p 2).emitLpi p 2 st false
    else if l.lps ≠ 0 then s
    else if bitAt (s.cfg 0x300D (p + 1)) 0 || force then (s.emitLpi p 1 st false).enterLps p st
    else s.emitLpi p 2 st false)

/-- LPI_ACK_RX (R134). -/
def execLpiAckRx (p st : Nat) (s : State) : Res :=
  .next (if (s.link p).lpsReqAt.isSome ∧ (s.link p).lpsGoal = st
    then (s.modLink p (fun l => { l with lpsLast := 1 })).enterLps p st else s)

/-- LPI_NAK_RX (R134). -/
def execLpiNakRx (p st : Nat) (s : State) : Res :=
  .next (if (s.link p).lpsReqAt.isSome ∧ (s.link p).lpsGoal = st then s.lpsEnd p 2 else s)

/-- LPI_TIMEOUT (R134): no answer within 10 µs. -/
def execLpiTimeout (p : Nat) (s : State) : Res :=
  .next (
    match (s.link p).lpsReqAt with
    | some t => if t + 10 * us ≤ s.now then s.lpsEnd p 3 else s
    | none => s)

/-- LPS_EXIT_FAIL (R135): no lock within twice the exit time; in stage 8 the lanes have locked. -/
def execLpsExitFail (p : Nat) (s : State) : Res :=
  .next (
    match (s.link p).lpsExitAt with
    | some t => if (s.link p).lps = 5 ∧ (s.link p).stage ≠ 8 ∧ t + 2 * exitTime (s.link p).lpsGoal ≤ s.now then s.portDown p else s
    | none => s)

/-- EXIT_SEQUENCE_RX (R135): a port in a low-power state answers with its own; one that exits is answered. -/
def execExitSequenceRx (p : Nat) (s : State) : Res :=
  .next (
    let l := s.link p
    if 1 ≤ l.lps ∧ l.lps ≤ 3 then (s.lpsExit p).lpsResume p
    else if l.lps = 5 ∧ s.portUp p then s.lpsResume p
    else s)

end Sys2Proof.Machine
end

