-- ==== Sys2Proof/Machine/Lanes.lean ====
section
/-! DEFINITION. The lanes of a fabric port (spec 05, R109 to R118, R136): codewords received and sent, the dealing of the
block stream to lanes, the pattern generator and checker, and the loops of PORT_TEST. -/

namespace Sys2Proof.Machine

/-! ### PORT_TEST (R136) -/

def State.loop (s : State) (p : Nat) : Nat := bf (s.cfg 0x300E (p + 1)) 0 2
def State.patternOf (s : State) (p : Nat) : Nat := bf (s.cfg 0x300E (p + 1)) 4 3

/-- A bit of a pattern on a lane. The square wave repeats every 8 unit intervals, four at the level of the pair 2 and four at
that of the pair 0 (DESIGN CHOICE, log entry 48). -/
def patternBit (kind lane pos : Nat) : Bool :=
  if kind = 4 then pos % 2 == 1 && decide (pos / 2 % 8 < 4) else Config.pattern kind lane pos

/-- Bits of a pattern on a lane from a place of it, the first at bit 0. -/
def patternBits (kind lane : Nat) : Nat → Nat → Nat
  | 0, _ => 0
  | n + 1, pos => b2n (patternBit kind lane pos) + 2 * patternBits kind lane n (pos + 1)

/-- Ones among the lowest bits of a number. -/
def popCount : Nat → Nat → Nat
  | 0, _ => 0
  | n + 1, v => v % 2 + popCount n (v / 2)

/-- The checker compares what a lane delivers with the selected PRBS. Where in the pattern it begins is a free value
(DESIGN CHOICE, log entry 48). -/
def State.checkPattern (s : State) (p k raw : Nat) : State :=
  let kind := s.patternOf p
  if bitAt (s.cfg 0x300E (p + 1)) 7 ∧ 1 ≤ kind ∧ kind ≤ 3 then
    s.modLane p k (fun x => { x with
      pattern := satAdd 64 x.pattern (popCount 5440 (Nat.xor raw (patternBits kind k 5440 x.patAt))), patAt := x.patAt + 5440 })
  else s

/-! ### The receiver (R110 to R112, R115) -/

/-- The port's stream takes a block. IDLE, LPI, FC, TIME, LX and TRAIN blocks are no part of a packet, and their own
commands act on them; the commands of SOP and the ends carry the bytes of the data blocks. A bad block outside a packet
is counted and discarded. -/
def Link.takeBlock (l : Link) (b : Block) : Link :=
  match b with
  | .bad => if l.inPkt then { l with stream := l.stream ++ [b] } else { l with strays := l.strays + 1 }
  | .sop .. | .eopSop .. => { l with stream := l.stream ++ [b], inPkt := true }
  | .eop _ | .stomp => { l with stream := l.stream ++ [b], inPkt := false }
  | _ => l

/-- Once every lane the peer deals to, and that is in lock, has its codeword with one CWSEQ, their blocks join the
port's stream, one of each lane in turn; a lane out of lock gives bad blocks. An ACTIVE value of a marker holds from the
second codeword after (R112). -/
def Link.gather (l : Link) : Link :=
  let lock := if l.stage = 9 then l.rxLock else 0xF
  let need := lanesOf (l.peerActive &&& lock)
  match need.head?.bind (fun k => (l.lanes.getD k {}).codewords.head?) with
  | none => l
  | some c =>
    let of (k : Nat) : Option (Nat × Nat × List Block) := (l.lanes.getD k {}).codewords.find? (fun x => x.1 == c.1)
    if need.all (fun k => (of k).isSome) then
      let blocks := undealt ((lanesOf l.peerActive).map (fun k =>
        if need.contains k then ((of k).map (·.2.2)).getD [] else List.replicate 77 .bad))
      { blocks.foldl Link.takeBlock l with
        peerActive := l.peerNext, peerNext := BitVec.ofNat 4 c.2.1
        lanes := l.lanes.map (fun x => { x with codewords := (x.codewords.dropWhile (fun y => y.1 != c.1)).drop 1 }) }
    else l

/-- A codeword on a lane: polarity put right, errors corrected, counters, the runs of bad and good ones (R130), the
peer's marker, and its blocks. Once the map is known the lane is the one whose LANE it carries (R117); its counters are
the receive lane's (R137). -/
def State.codeword (s : State) (p lane raw : Nat) : State :=
  let l := s.link p
  let k := if l.foundRev then 3 - lane else lane
  let ln := l.lanes.getD k {}
  let d := rsDecode (if l.foundInv.getLsbD lane then swapPairs raw else raw)
  let msg := d.1
  let lost := d.2 == .uncorrectable
  let x := payloadBits msg
  let clear := descramble ln.scr.toNat x
  let m := bf msg 5082 58
  let seen := !lost && bf m 0 24 == markerPattern
  let bad := !seen || decide (8 < badSyncs msg)
  let m := if seen then m else setBf ln.marker.toNat 32 8 (bf ln.marker.toNat 32 8 + 1)
  let place := match d.2 with | .corrected n => min n 15 | .uncorrectable => 16
  let tally (x : Lane) : Lane := { x with fec := bump (bump x.fec place 1) 17 (badSyncs msg) }
  let blocks := if lost then List.replicate 77 .bad else (List.range 77).map (blockAt msg clear)
  let ln' : Lane := { ln with
    badRun := if bad then ln.badRun + 1 else 0, goodRun := if bad then 0 else ln.goodRun + 1
    synced := ln.synced || (!lost && badSyncs msg == 0)
    scr := BitVec.ofNat 58 ((ln.scr.toNat + x * 2 ^ 58) / 2 ^ 4928)
    marker := BitVec.ofNat 58 m
    codewords := ln.codewords ++ [(bf m 32 8, bf m 44 4, blocks)] }
  let s := s.modLink p (fun l =>
    (List.range ln'.codewords.length).foldl (fun l _ => l.gather)
      { l with lanes := l.lanes.set k ln', peerStage := if seen then bf m 40 4 else l.peerStage })
  let s := s.modLane p lane tally
  match d.2 with
  | .corrected n => s.perf (ptOf p) 0x111 (p % 8) none n
  | .uncorrectable => s

/-- What a lane's receiver delivers: to the checker, and from stage 4 on, outside low-power states, as a codeword. -/
def State.received (s : State) (p lane raw : Nat) : State :=
  let s := s.checkPattern p lane raw
  if (s.link p).stage < 4 ∨ (1 ≤ (s.link p).lps ∧ (s.link p).lps ≤ 3) then s else s.codeword p lane raw

/-! ### The transmitter (R109 to R112, R116, R118, R120) -/

/-- Lanes send: on, not silent (R119), and in a low-power state only until what waits has gone (R134). In loop 3 what comes
back from the receiver is sent, and no pattern (DESIGN CHOICE, log entry 48). -/
def State.lanesSend (s : State) (p : Nat) : Bool :=
  let l := s.link p
  l.stage != 0 && l.silentAt.isNone && s.island (ptOf p) && !s.faults.checkstop && s.loop p != 3
    && !(decide (1 ≤ l.lps ∧ l.lps ≤ 3) && l.tx.isEmpty && l.txCtl.isEmpty && l.cw.all (·.isNone))

/-- The pattern that stands in place of codewords: PORT_TEST's, or PRBS31Q in stage 2 for 50 ms from the end of stage 1,
on an exit from DEEP for 1 ms from its start (R116, R136). -/
def State.patternNow (s : State) (p : Nat) : Nat :=
  let l := s.link p
  if s.patternOf p ≠ 0 then s.patternOf p
  else if l.stage = 2 ∧ s.trainsYet p then 2
  else 0

/-- What fills the stream: in stage 7 the four exchange words in turn (R118), else IDLE. -/
def State.filler (s : State) (p i : Nat) : Block :=
  if (s.link p).stage = 7 then .lx (i % 4) (BitVec.ofNat 48 (s.lxWord p (i % 4) (s.link p).lxSame)) else .idle

/-- A codeword leaves a lane: to the peer, or back to the port's own receiver in loops 1 and 2 (R136). -/
def State.sendBits (s : State) (p k bits : Nat) : State :=
  if s.loop p = 1 ∨ s.loop p = 2 then s.received p k bits else s.emit (.codeword p k (levels bits))

/-- One lane sends one codeword: its marker (R111), and its blocks, scrambled and with parity. -/
def State.sendLane (s : State) (p k mark : Nat) (blocks : List Block) : State :=
  let l := s.link p
  let m := message ((l.lanes.getD k {}).txScr.toNat) blocks
    (markerField k p l.cwSeq.toNat l.stage (BitVec.ofNat 4 mark) l.rxLock l.rxUsable)
  (s.modLane p k (fun x => { x with txScr := BitVec.ofNat 58 m.2 })).sendBits p k (rsEncode m.1)

/-- The codeword interval under way ends: each lane of a port has sent its codeword, whose places took the blocks that waited
when they went by (R112). The ACTIVE chosen stands in this marker; where it is new, the next codeword is all IDLE and the
one after is dealt by it. -/
def State.sendCodewords (s : State) (p : Nat) : State :=
  let l := (s.link p).fill s.now 77
  let want := if l.stage = 9 ∨ l.lps = 5 then l.active else 0xF
  let mark := if l.txIdle then l.txMark else want
  let dealTo := lanesOf l.txDeal
  let stream := l.cw.mapIdx (fun i b => b.getD (s.filler p i))
  let s := s.modLink p (fun _ => l)
  let s := (List.range 4).foldl (fun s k =>
      s.sendLane p k mark.toNat (match dealTo.idxOf? k with
        | some j => if l.txIdle then List.replicate 77 .idle else dealt dealTo.length j stream (s.filler p)
        | none => List.replicate 77 .idle)) s
  s.modLink p (fun x => { x with
    cwSeq := x.cwSeq + 1, txMark := mark, txIdle := !l.txIdle && want != l.txMark
    txDeal := if l.txIdle then l.txMark else l.txDeal
    cw := [] })

/-- Each lane of a port sends a pattern for one codeword interval. -/
def State.sendPattern (s : State) (p kind : Nat) : State :=
  (List.range 4).foldl (fun s k => s.sendBits p k (patternBits kind k 5440 (5440 * cwIndex s.now))) s

/-- A codeword interval ends in this nanosecond: every port whose lanes send has sent one codeword on each lane. -/
def State.sendAll (s : State) : State :=
  if cwIndex s.now = cwIndex (s.now + 1) then s
  else s.links.foldl (fun s e =>
    if !s.lanesSend e.1 then s
    else if s.patternNow e.1 = 0 then s.sendCodewords e.1 else s.sendPattern e.1 (s.patternNow e.1)) s

/-! ### Commands -/

/-- CODEWORD_RX (R110): in loop 3 the codeword goes back to the peer, decoded and encoded again, and in loops 1 and 2 the
receiver hears its own port instead (R136). -/
def execCodewordRx (p lane : Nat) (msg : BitVec 5140) (parity : BitVec 300) (s : State) : Res :=
  .next (
    let bits := (parity ++ msg).toNat
    match s.loop p with
    | 0 => s.received p lane bits
    | 3 => (s.checkPattern p lane bits).emit (.codeword p lane (levels (rsEncode (rsDecode bits).1)))
    | _ => s)

end Sys2Proof.Machine
end

