-- ==== Sys2Proof/Machine/Reader.lean ====
section
/-! DEFINITION. The central counter reader (R367): records into one host ring, room, and the reads of CONS_ADDR. -/

namespace Sys2Proof.Machine

/-- CTR_RING and its fields. -/
def State.ring (s : State) : Nat := s.cfg 0xA002 3
def ringOwner (v : Nat) : Nat := bf v 0 8
def ringLog2 (v : Nat) : Nat := bf v 8 5

/-- The reader runs (R367). -/
def State.readerOn (s : State) : Bool :=
  s.cfg 0xA002 1 == 1 && (s.inMode .train || s.inMode .run || s.inMode .hold || s.inMode .test)

/-- Room in slots, by the consumer index last read. -/
def State.ringRoom (s : State) : Nat := 2 ^ ringLog2 s.ring - dist s.ctrs.producer s.ctrs.consumer

/-- Slots of PAD before a record of n slots. -/
def State.ringPad (s : State) (n : Nat) : Nat :=
  let left := 2 ^ ringLog2 s.ring - s.ctrs.producer.toNat % 2 ^ ringLog2 s.ring
  if left < n then left else 0

/-- Write n slots at the producer index, and the index after them. -/
def State.ringWrite (s : State) (n : Nat) (bytes : List Byte) : State :=
  let v := s.ring
  let f := ringOwner v
  let a := bf v 64 64 + 64 * (s.ctrs.producer.toNat % 2 ^ ringLog2 v)
  let s := { s with ctrs := { s.ctrs with
      producer := s.ctrs.producer + BitVec.ofNat 32 n, inRing := s.ctrs.inRing ++ [(bytes.getD 0 0 |>.toNat, bytes.getD 72 0 |>.toNat)] } }
  ((s.queueWrite f a bytes .ring).queueWrite f (bf v 128 64) (natLe 4 s.ctrs.producer.toNat) .ringIndex).flushWrites f

/-- Write a record, after the PAD it may need, unless a fault of the PAD's write has stopped the reader; CTR_READER_ENABLE 0 stops
it after this record (R370). -/
def State.ringRecord (s : State) (n : Nat) (bytes : List Byte) : State :=
  let pad := s.ringPad n
  let t := if pad = 0 then s else s.ringWrite pad (natLe (64 * pad) (pack [(8, 8, pad)]))
  if s.readerOn && !t.readerOn then t else t.ringWrite n bytes

/-- Drop a record; a dropped snapshot is marked in the next, and a dropped sample in its port's next block (R186, R367). -/
def State.ringDrop (s : State) (bytes : List Byte) : State :=
  let s := s.recordLost (bytes.getD 0 0).toNat (bytes.getD 72 0).toNat
  { s with ctrs := { s.ctrs with drops := satAdd 64 s.ctrs.drops 1 } }

/-- Give the reader a record: it writes it, or reads CONS_ADDR once for room. -/
def State.ringPut (s : State) (n : Nat) (bytes : List Byte) : State :=
  if n + s.ringPad n ≤ s.ringRoom then s.ringRecord n bytes
  else
    ({ s with ctrs := { s.ctrs with waitRec := some (n, bytes) } }).hostReadReq (ringOwner s.ring) (bf s.ring 192 64) 4 .consIndex

/-- The 16-byte header of a record. -/
def ringHdr (rtype slots : Nat) (aligned lost : Bool) (ft : Nat) : List Byte :=
  natLe 16 (pack [(0, 8, rtype), (8, 8, slots), (16, 1, b2n aligned), (17, 1, b2n lost), (64, 64, ft)])

/-- The next trace record that waits in a tile's buffer: port tiles first. -/
def State.takeTrace (s : State) : Option (Nat × State) :=
  match (List.range 8).find? (fun n => !(s.pt n).traces.isEmpty), (List.range 4).find? (fun n => !(s.et n).traces.isEmpty) with
  | some n, _ => some ((s.pt n).traces.headD 0, s.modPt n (fun t => { t with traces := t.traces.drop 1 }))
  | none, some n => some ((s.et n).traces.headD 0, s.modEt n (fun t => { t with traces := t.traces.drop 1 }))
  | none, none => none

/-- Take one record: a snapshot, then a queue sample, then a trace (R367). -/
def State.readerStep (s : State) : State :=
  if !s.readerOn || s.ctrs.waitRec.isSome then s
  else
    let pick (k : Nat) : Option (Nat × List Byte) := s.ctrs.offered.find? (fun o => o.1 == k)
    match (pick 1).or (pick 2) with
    | some o =>
      let s := { s with ctrs := { s.ctrs with offered := s.ctrs.offered.erase o } }
      if o.1 = 1 then s.ringPut 15 o.2 else s.ringPut 3 (ringHdr 2 3 false false 0 ++ List.replicate 48 0 ++ o.2 ++ List.replicate 32 0)
    | none =>
      match (if bitAt s.ring 18 then s.takeTrace else none) with
      | some (r, s) => s.ringPut 1 (natLe 64 r)
      | none => s

/-- Take records while the reader can. -/
def State.readerRun : Nat → State → State
  | 0, s => s
  | n + 1, s => State.readerRun n s.readerStep

/-- The reader stops (R367): an access it needed failed. -/
def State.readerStop (s : State) (bytes : List Byte) : State :=
  let owner := ringOwner s.ring
  let s := s.ringDrop bytes
  let s := { s with ctrs := { s.ctrs with waitRec := none, producer := s.ctrs.wrote } }
  (s.setCfg 0xA002 1 0).report { code := 0x0270, cls := deferred, tile := 13, fn := some owner }

/-- The read of CONS_ADDR has ended: check the room once more. -/
def State.consRead (s : State) (res : ReadResult) (fault : Bool) : State :=
  match s.ctrs.waitRec with
  | none => s
  | some (n, bytes) =>
    match (if fault then ReadResult.failed else res) with
    | .ok d =>
      let s := { s with ctrs := { s.ctrs with waitRec := none, consumer := BitVec.ofNat 32 (leNat (d.take 4)) } }
      (if n + s.ringPad n ≤ s.ringRoom then s.ringRecord n bytes else s.ringDrop bytes).readerStep
    | .failed => s.readerStop bytes

/-- Offer a snapshot of every counter (R367). -/
def State.snapshot (s : State) (aligned : Bool) : State :=
  let bytes := ringHdr 1 15 aligned (s.ctrs.lostSnap || s.ctrs.offered.any (fun o => o.1 == 1)) s.ftNs ++ List.replicate 48 0
    ++ (List.range 108).flatMap (fun k => natLe 8 (Tbl.getD s.ctrs.val (k + 1) 0)) ++ List.replicate 32 0
  { s with ctrs := { s.ctrs with
      lostSnap := false, snapAt := s.now, snapFt := s.ftNs, offered := s.ctrs.offered.filter (fun o => o.1 != 1) ++ [(1, bytes)] } }

/-- COUNTER_SNAPSHOT (R367): due at each fabric-time multiple of CTR_READ_PERIOD, or on the reader's own timer. -/
def execCounterSnapshot (s : State) : Res :=
  .next (
    let p := s.cfg 0xA002 2 * us
    let due := if s.ftUsable then atMultiple s.ftNs p s.ctrs.snapFt s.ctrs.snapAt s.now else decide (s.ctrs.snapAt + p ≤ s.now)
    if s.readerOn && bitAt s.ring 16 && due then (s.snapshot s.ftUsable).readerStep else s)

end Sys2Proof.Machine
end

