-- ==== Sys2Proof/Machine/Routers.lean ====
section
/-! DEFINITION. Routing (spec 06), time gates, shapers and queue sampling (spec 07, R177 to R186): path choice,
forwarding, arbitration, delivery, and their commands. -/

namespace Sys2Proof.Machine

/-! ### Ports a packet may take -/

/-- A port that is up and may carry a VC: flat-only ports carry ESC and MGT, management-only ports MGT (R30). With
AUTO_EXIT 1 a port in E-IDLE counts, and one that leaves E-IDLE (R135); another port in a low-power state, or leaving one,
does not (DESIGN CHOICE, log entry 142). -/
def State.portCarries (s : State) (p vc : Nat) : Bool :=
  let l := s.link p
  decide (p < 64) && s.portUp p
    && (l.lps == 0 || l.lps == 4 || ((l.lps == 1 || (l.lps == 5 && l.lpsGoal == 1)) && bitAt (s.cfg 0x300D (p + 1)) 1))
    && (!l.mgmtOnly || vc == 8) && (!l.flatOnly || decide (8 ≤ vc))

/-- The peer has every ACTIVE lane in lock, and no fewer lanes than PORT_MIN_WIDTH (R131). -/
def Link.peerHears (l : Link) : Bool :=
  (l.active &&& l.peerLock) == l.active && decide (l.minW ≤ (lanesOf l.peerLock).length)

/-- Such a port that its peer hears: available for new packets (R131). -/
def State.portReady (s : State) (p vc : Nat) : Bool := s.portCarries p vc && (s.link p).peerHears

/-- Queue depth q of a port as last published, in KiB (R146). -/
def State.qOf (s : State) (p : Nat) : Nat := (s.portq p).q

/-- First hop from a device toward device `d` of its group, or the exit port when it is the device itself (R147). -/
def firstHop (own d port : Nat) : Nat :=
  if d = own then port
  else if d % 8 ≠ own % 8 then rowPort (own % 8) (d % 8)
  else colPort (own / 8) (d / 8)

/-- Local hops from a device to device `d` of its group. -/
def hopsTo (own d : Nat) : Nat := b2n (d % 8 != own % 8) + b2n (d / 8 != own / 8)

/-- Exits toward a group whose first hop is up, of a group entry with VALID 1 (R142). -/
def State.upExits (s : State) (g own grp : Nat) : List (Nat × Nat) :=
  if !bitAt (s.routeGroup g grp) 0 then []
  else (validExits (s.routeGroup g grp)).filter (fun e => s.portCarries (firstHop own e.1 e.2) 0)

/-- Of a choice of exits, those whose port is paused are left out while another remains (R131; DESIGN CHOICE, log entry
141). -/
def State.preferReady (s : State) (own : Nat) (up : List (Nat × Nat)) : List (Nat × Nat) :=
  let ready := up.filter (fun e => s.portReady (firstHop own e.1 e.2) 0)
  if ready = [] then up else ready

/-- E of R147. -/
def State.usableExits (s : State) (g own grp : Nat) : List (Nat × Nat) := s.preferReady own (s.upExits g own grp)

/-- Of two exits drawn at random, the one whose first hop has the smaller q (R145, R147). -/
def State.drawExit (s : State) (own : Nat) (l : List (Nat × Nat)) : (Nat × Nat) × State :=
  let a := l.getD (s.freeVal 16 % l.length) (0, 0)
  let b := l.getD (s.nextFree.freeVal 16 % l.length) (0, 0)
  (if s.qOf (firstHop own b.1 b.2) < s.qOf (firstHop own a.1 a.2) then b else a, s.nextFree.nextFree)

/-- Groups that may serve as intermediate group (R147). -/
def State.midGroups (s : State) (g own dst mine : Nat) : List Nat :=
  (s.dict.vals.filterMap (fun e =>
    let idx := e.1 / 256
    if 0x4100 + 16 * g ≤ idx ∧ idx < 0x4110 + 16 * g then some ((idx - 0x4100 - 16 * g) * 256 + e.1 % 256) else none)).filter
    (fun grp => bitAt (s.routeGroup g grp) 0 && bitAt (s.routeGroup g grp) 1 && grp != dst && grp != mine
      && decide (grp ≤ 3200) && !(s.usableExits g own grp).isEmpty)

/-- A group entry of a port tile waits for its reload (R24). -/
def State.grpLost (s : State) (n gen grp : Nat) : Bool := s.arch.reloadGrp.contains (n * 2 ^ 20 + gen * 2 ^ 12 + grp)

/-- HINT level of a group at a port tile (R146). -/
def State.hintOf (s : State) (n grp : Nat) : Nat := Tbl.getD (s.pt n).hint grp 0

/-- The injecting port tile's path choice for another group (R147): NONMIN, IGROUP and LTGT, or no route. -/
def State.choosePath (s : State) (n own grp : Nat) (k : Packet) : Option Packet × State :=
  let dst := k.dstDev / 64
  let g := s.genNow
  let e := if s.grpLost n g dst then [] else s.usableExits g own dst
  if e = [] then (none, s)
  else
    let (em, s) := s.drawExit own e
    let w := s.cfg 0x4000 4
    let cMin := (s.qOf (firstHop own em.1 em.2) + w * s.hintOf n dst) * (hopsTo own em.1 + 3)
    let mids := (s.midGroups g own dst grp).filter (fun x => !s.grpLost n g x)
    let minimal (s : State) : Option Packet × State :=
      (some { k with nonmin := false, ltgt := em.1 }, s.perf n 0x120 0x3F none 1)
    if mids = [] ∨ s.cfg 0x4000 3 = 1 then minimal s
    else
      let i := mids.getD (s.freeVal 16 % mids.length) 0
      let (ei, s) := (s.nextFree).drawExit own (s.usableExits g own i)
      let cNm := (s.qOf (firstHop own ei.1 ei.2) + w * s.hintOf n i) * (hopsTo own ei.1 + 6) + s.cfg 0x4000 5
      if s.cfg 0x4000 3 = 2 ∨ cNm < cMin then
        (some { k with nonmin := true, igroup := i, ltgt := ei.1 }, s.perf n 0x121 0x3F none 1)
      else minimal s

/-! ### Where a packet goes (R142, R145, R148, R151) -/

/-- A router's decision: deliver here, leave by a port, or drop with a cause of R142. -/
inductive Hop where
  | here
  | out (p : Nat) (k : Packet)
  | drop (cause : Nat)
  deriving DecidableEq, Repr

/-- The escape tree (R151): VALID, DOWN and PORT of a destination. -/
def State.treeLook (s : State) (k : Packet) : Nat × Nat × Nat :=
  let g := b2n k.gen
  if k.dform then
    let e := s.routeFlat g k.dstDev
    (bf e 0 1, bf e 2 1, bf e 3 6)
  else
    match s.coord? with
    | some c =>
      if c / 64 = k.dstDev / 64 then
        let b := bf (s.cfg 0x4002 (g + 1)) (8 * (k.dstDev % 64)) 8
        (bf b 7 1, bf b 6 1, bf b 0 6)
      else
        let e := s.routeGroup g (k.dstDev / 64)
        (bf e 0 1, bf e 2 1, bf e 3 6)
    | none =>
      let e := s.routeGroup g (k.dstDev / 64)
      (bf e 0 1, bf e 2 1, bf e 3 6)

/-- This device is the packet's destination; a flat entry may say so too (R150). -/
def State.arrived (s : State) (k : Packet) : Bool :=
  s.isSelf k.dform k.dstDev || (k.dform && bitAt (s.routeFlat (b2n k.gen) k.dstDev) 0 && bitAt (s.routeFlat (b2n k.gen) k.dstDev) 1)

/-- Another link when 15 have been crossed, or a port that is not up. -/
def State.leave (s : State) (p cause vc : Nat) (k : Packet) : Hop :=
  if k.hops = 15 then .drop 6 else if s.portCarries p vc then .out p k else .drop cause

/-- ESC and MGT (R151). A tree port that is up but may not carry the packet counts as PORT_DOWN (DESIGN CHOICE, log entry
143). -/
def State.treeHop (s : State) (k : Packet) : Hop :=
  let (valid, down, port) := s.treeLook k
  let up := s.cfg 0x4001 (b2n k.gen + 1)
  if valid = 0 then .drop 3
  else if down = 1 then s.leave port 9 (vcOf k) { k with tdown := true }
  else if k.tdown then .drop 5
  else if up = 0xFF then .drop 3
  else s.leave up 9 (vcOf k) k

/-- A global hop by a port of this device (R142, R145). -/
def State.globalHop (s : State) (p : Nat) (k : Packet) : Hop :=
  if k.gv = 2 then .drop 4 else s.leave p 3 0 { k with gv := k.gv + 1 }

/-- A hop toward LTGT, or through an exit of this device with the least q (R145). -/
def State.towardTarget (s : State) (own grp : Nat) (k : Packet) (d port : Nat) : Hop :=
  if d ≠ own then s.leave (firstHop own d port) (if grp = k.dstDev / 64 then 8 else 3) 0 { k with ltgt := d }
  else s.globalHop port k

/-- Exits that may replace LTGT (R148), by where the packet came in: a column port, a row port, or elsewhere. -/
def mayReplace (ingress own d : Nat) : Bool :=
  if 7 ≤ ingress ∧ ingress ≤ 13 then d == own
  else if ingress ≤ 6 then d == own || d % 8 == own % 8
  else true

/-- The exit of a list whose first hop has the least q. -/
def State.leastExit (s : State) (own : Nat) (l : List (Nat × Nat)) : Option (Nat × Nat) :=
  l.foldl (fun b e => match b with
    | none => some e
    | some x => if s.qOf (firstHop own e.1 e.2) < s.qOf (firstHop own x.1 x.2) then some e else some x) none

/-- Coordinate traffic at a device with coordinate `c`, its LTGT set (R145, R148). -/
def State.coordHop (s : State) (c ingress : Nat) (k : Packet) : Hop :=
  let grp := c / 64
  let own := c % 64
  let dst := k.dstDev / 64
  if grp = dst then
    let d := k.dstDev % 64
    s.leave (firstHop own d 0) 8 0 { k with ltgt := d }
  else
    let target := if k.nonmin ∧ k.gv = 0 then k.igroup else dst
    let up := s.upExits (b2n k.gen) own target
    let mine := s.preferReady own (up.filter (fun e => e.1 == own))
    if k.ltgt = own ∧ mine ≠ [] then
      match s.leastExit own mine with
      | some e => s.globalHop e.2 k
      | none => .drop 3
    else if k.ltgt ≠ own ∧ s.portReady (firstHop own k.ltgt 0) 0 then s.towardTarget own grp k k.ltgt 0
    else
      match s.leastExit own (s.preferReady own (up.filter (fun e => mayReplace ingress own e.1))) with
      | some e => s.towardTarget own grp k e.1 e.2
      | none => if k.ltgt ≠ own ∧ s.portCarries (firstHop own k.ltgt 0) 0 then s.towardTarget own grp k k.ltgt 0 else .drop 3

/-- LTGT at the arrival by a global port in a group that is not the destination's (R145): the exit with the smaller
q of two drawn, or none where none remains. -/
def State.retarget (s : State) (c ingress : Nat) (k : Packet) : Option Packet × State :=
  if 14 ≤ ingress ∧ ingress < 64 ∧ c / 64 ≠ k.dstDev / 64 then
    let l := s.usableExits (b2n k.gen) (c % 64) (k.dstDev / 64)
    if l = [] then (none, s)
    else
      let (e, s) := s.drawExit (c % 64) l
      (some { k with ltgt := e.1 }, s)
  else (some k, s)

/-- A packet for another group reads a group entry at a device with coordinate c: on ESC and MGT for the tree (R151), else
where it draws an exit, leaves by one of this device, or must replace LTGT (R145, R148). -/
def State.readsEntry (s : State) (c ingress vc : Nat) (k : Packet) : Bool :=
  decide (8 ≤ vc) || (decide (14 ≤ ingress) && decide (ingress < 64)) || k.ltgt == c % 64
    || !s.portReady (firstHop (c % 64) k.ltgt 0) 0

/-- A route or flat entry the packet needs at a port tile waits for its reload (R24): none for this device's own
identifier and group, nor on the way to LTGT; IGROUP's on the way there, else the destination's. -/
def State.entryLost (s : State) (n ingress vc : Nat) (k : Packet) : Bool :=
  if s.isSelf k.dform k.dstDev then false
  else if k.dform then s.arch.reloadFlat.contains (b2n k.gen * 2 ^ 20 + k.dstDev)
  else
    let reads : Bool := match s.coord? with
      | some c => c / 64 != k.dstDev / 64 && s.readsEntry c ingress vc k
      | none => true
    reads && s.grpLost n (b2n k.gen) (if vc < 6 ∧ k.nonmin ∧ k.gv = 0 then k.igroup else k.dstDev / 64)

/-- The decision for a packet that came by `ingress` (R142), LENGTH and age apart. -/
def State.routeIt (s : State) (ingress vc : Nat) (k : Packet) : Hop × State :=
  if badFormat k vc then (.drop 0, s)
  else if reservedDev k.dform k.dstDev then (.drop 2, s)
  else if ingress < 64 && (s.link ingress).mgmtOnly && vc != 8 then (.drop 3, s)
  else if s.entryLost (if ingress < 64 then ptOf ingress else ingress - 64) ingress vc k then (.drop 3, s)
  else if 8 ≤ vc then (if s.arrived k then .here else s.treeHop k, s)
  else
    match s.coord? with
    | none => (.drop 3, s)
    | some c =>
      if c = k.dstDev then (.here, s)
      else
        match s.retarget c ingress k with
        | (some k, s) => (s.coordHop c ingress k, s)
        | (none, s) => (.drop 3, s)

/-! ### Forwarding -/

/-- Deliver a packet to its tile over the mesh (R153, R18); a response from another group updates HINT (R146). -/
def State.deliverHere (s : State) (n : Nat) (q : QPkt) : State :=
  let k := q.pkt
  let dst := if k.kind = kindMgt then 12 else 8 + etOf k.dstFn
  let other := !k.sform && (match s.coord? with | some c => c / 64 != k.srcDev / 64 | none => true)
  let s := if k.kind == kindRsp && other && !k.echoNm then
      s.modPt n (fun t => { t with hint := Tbl.put t.hint (k.srcDev / 64) ((Tbl.getD t.hint (k.srcDev / 64) 0 + k.echo + 1) / 2) })
    else s
  s.offer n dst (if k.kind = kindRsp ∧ dst ≠ 12 then 1 else 0)
    (.packet { pkt := k, vc := vcOf k, ingress := 64 + n, arr := q.arr })

/-- A routed packet joins its egress port's queues, over the mesh when the port lies in another tile (R429); a global
hop moves it to the next VC. -/
def State.toPort (s : State) (n p : Nat) (k : Packet) (q : QPkt) : State :=
  s.queueAt n p { q with pkt := k, vc := vcOf k }

/-- What is left of a packet whose head may have gone on (R123, R124): a stomped copy where it leaves by a port that had
no packet waiting and is no narrower than its ingress, else nothing. -/
def State.carryGhost (s : State) (n : Nat) (q : QPkt) (h : Hop) : State :=
  match h with
  | .out p k =>
    if (s.portq p).egress = [] ∧ (lanesOf (s.link q.ingress).peerActive).length ≤ (lanesOf (s.link p).active).length
    then s.toPort n p k q else s
  | _ => s

/-- Carry out a decision at port tile n. -/
def State.carryOut (s : State) (n : Nat) (q : QPkt) (h : Hop) : State :=
  if q.ghost then s.carryGhost n q h
  else match h with
  | .here =>
    if q.stomp then (s.dropCount n 1 (q.ingress % 8)).leaves q q.vc else (s.deliverHere n q).leaves q q.vc
  | .out p k =>
    let s := if q.stomp then s.dropCount n 1 (q.ingress % 8) else s
    (s.toPort n p k q).throttleWatch q.tile
  | .drop c => (s.dropCount n c (if q.ingress < 64 then q.ingress % 8 else 0x3F)).leaves q q.vc

/-- Route the packet that waits longest at an ingress port. -/
def State.routeFirst (s : State) (p : Nat) : State :=
  match (s.portq p).ingress.head? with
  | none => s
  | some q =>
    let s := s.modPortq p (fun x => { x with ingress := x.ingress.drop 1 })
    let long := q.badLength
    let (h, s) := s.routeIt p q.vc q.pkt
    s.carryOut (ptOf p) { q with stomp := q.stomp || long } h

/-- A throttled request: REQ0 or ESC (R161). -/
def throttled (k : Packet) : Bool := k.kind == kindReq

/-- The decision for an injected packet (R143, R147, R158): the active generation, and the path for another group. -/
def State.decideInject (s : State) (n : Nat) (k : Packet) : Hop × State :=
  let k := { k with gen := s.genNow == 1 }
  match s.coord? with
  | some c =>
    if k.dform || decide (2 ≤ k.kind) || c / 64 == k.dstDev / 64 || reservedDev false k.dstDev then s.routeIt (64 + n) (vcOf k) k
    else
      match s.choosePath n (c % 64) (c / 64) k with
      | (some k, s) => s.routeIt (64 + n) (vcOf k) k
      | (none, s) => (.drop 3, s)
  | none => s.routeIt (64 + n) (vcOf k) k

/-- Under SOFT a request is accepted only when no transit packet competes for its port (R161). -/
def State.competes (s : State) (h : Hop) : Bool :=
  match h with
  | .out p _ => (s.portq p).egress.any (fun q => decide (q.ingress < 64))
  | _ => false

/-- A port tile accepts the injection of a packet now (R161). -/
def State.takesRequest (s : State) (n : Nat) (k : Packet) : Bool :=
  !throttled k || (match (s.pt n).throttle with
    | 0 => true
    | 1 => !s.competes (s.decideInject n k).1
    | _ => false)

/-- The port tile passes an injected packet: its VC is one the mode carries, or in TEST its destination is this device
(R18, R338). -/
def State.passes (s : State) (k : Packet) : Bool := s.carries (vcOf k) || (s.inMode .test && s.isSelf k.dform k.dstDev)

/-- Inject the first packet that waits at a port tile and may be accepted; a quiesce stops this (R336). -/
def State.injectOne (s : State) (n : Nat) : State :=
  let wait := Tbl.getD s.arch.inbox n []
  match (if s.injectStopped then none else wait.find? (fun q => s.takesRequest n q.pkt)) with
  | none => s
  | some q =>
    let s := { s with arch := { s.arch with inbox := Tbl.put s.arch.inbox n (wait.erase q) } }
    if !s.passes q.pkt then s.modeDrop n
    else
      let (h, s) := s.decideInject n q.pkt
      s.carryOut n { q with ingress := 64 + n, vc := vcOf q.pkt } h

/-! ### Starts under a gate (R179, R180) -/

/-- Blocks of a packet with its SOP and its end (R120). -/
def pktBlocks (k : Packet) : Nat := ceilDiv (max 64 (pktSize k)) 8 + 2

/-- Time from `now` until the last block of a packet that starts now has left (R179): it follows what waits at the
transmitter, in the block places of the next codewords, the marker and parity bits left out. -/
def leaveTime (l : Link) (now : Nat) (k : Packet) : Nat :=
  let l := l.upToNow now
  ceilDiv (l.leavesIn now (l.waiting + pktBlocks k - 1) + 66) 225

/-- No close of a class comes in the `t` ns that begin at a place of the cycle, in which the class is open. -/
def staysOpen (v c pos t : Nat) : Bool := match gClose v c pos with | some d => decide (t ≤ d) | none => true

/-- A packet may start under its class's gate (R179, R180): open, and its last block leaves no later than the next close;
past the switch instant S the pending schedule's state and closes count, and a close of the old one at S does not. -/
def State.gatePasses (s : State) (p : Nat) (q : QPkt) : Bool :=
  match classOf q.vc with
  | none => true
  | some c =>
    let g := s.gate p
    let v := g.sched.toNat
    let t := leaveTime (s.link p) s.now q.pkt
    let until_ (t : Nat) : Bool := s.gatesFree v || (g.openMask.getLsbD c && staysOpen v c (gPos v s.ftNs) t)
    match g.pend with
    | none => until_ t
    | some (w, at_) =>
      if s.ftNs + t ≤ at_ then until_ t
      else until_ (at_ - s.ftNs) && (s.gatesFree w.toNat || (gOpen w.toNat c (gPos w.toNat at_)
        && staysOpen w.toNat c (gPos w.toNat at_) (s.ftNs + t - at_)))

/-! ### Arbitration (R152, R181 to R184) -/

/-- Shaper of a VC: R114's order without MGT. -/
def shaperOf (vc : Nat) : Option Nat := if vc ≤ 7 then some vc else if vc = 9 then some 8 else none

/-- A VC's shaper, refilled: none when it does not apply. -/
def State.shaper (s : State) (p vc : Nat) : Option (Nat × Bucket) :=
  match shaperOf vc with
  | none => none
  | some k =>
    let e := bf (s.cfg 0xD020 (p + 1)) (64 * k) 64
    if bitAt e 0 then some (k, refill e s.now ((s.portq p).shapers.getD k {})) else none

/-- The first packet of each ingress queue and VC (R152): within one, first in, first out. -/
def heads : List (Nat × Nat) → List QPkt → List QPkt
  | _, [] => []
  | seen, q :: r => if seen.contains (q.ingress, q.vc) then heads seen r else q :: heads ((q.ingress, q.vc) :: seen) r

/-- A head that may start now: XON, gate, shaper, and a VC the mode carries. -/
def State.eligibleHead (s : State) (p : Nat) (q : QPkt) : Bool :=
  !(s.link p).xoffPeer.getLsbD q.vc && s.carries q.vc && s.gatePasses p q
    && (match s.shaper p q.vc with | some (_, b) => decide (token ≤ b.level) | none => true)

/-- The VC that comes next in the weighted round robin (R152). -/
def nextVc (q : PortQ) (vcs : List Nat) : Option Nat :=
  if vcs.contains 8 then some 8
  else if vcs.contains 9 ∧ 15 ≤ q.escSkip then some 9
  else if 0 < q.rrLeft ∧ vcs.contains q.rrVc then some q.rrVc
  else ((List.range 10).map (fun i => (q.rrVc + 1 + i) % 10)).find? (fun v => vcs.contains v)

/-- The ingress queue that comes next among those of one VC. -/
def nextIn (last : Nat) (l : List QPkt) : Option QPkt :=
  match l.filter (fun q => last < q.ingress), l with
  | a :: r, _ => some (r.foldl (fun b q => if q.ingress < b.ingress then q else b) a)
  | [], a :: r => some (r.foldl (fun b q => if q.ingress < b.ingress then q else b) a)
  | [], [] => none

/-- The next packet to leave a port. -/
def State.selectPkt (s : State) (p : Nat) : Option (QPkt × List Nat) :=
  let l := (heads [] (s.portq p).egress).filter (s.eligibleHead p)
  let vcs := l.map (·.vc)
  match nextVc (s.portq p) vcs with
  | none => none
  | some v => (nextIn (nth (s.portq p).rrIn v) (l.filter (fun q => q.vc == v))).map (fun q => (q, vcs))

/-- Move the arbiter past a start; one by ESC's guard leaves the round robin where it stands (DEDUCED, log entry 43). -/
def PortQ.served (q : PortQ) (v ingress : Nat) (vcs : List Nat) : PortQ :=
  let q := { q with rrIn := q.rrIn.set v ingress }
  if v = 8 then q
  else if v = 9 ∧ 15 ≤ q.escSkip then { q with escSkip := 0 }
  else
    { q with
      rrLeft := if v = q.rrVc ∧ 0 < q.rrLeft then q.rrLeft - 1 else (if v = 9 then 0 else 3)
      rrVc := v
      escSkip := if v = 9 ∨ !vcs.contains 9 then 0 else q.escSkip + 1 }

/-- The transmitter may start packets (R131, R134). -/
def State.txOn (s : State) (p : Nat) : Bool :=
  let l := s.link p
  s.portUp p && l.lps == 0 && l.active != 0 && l.peerHears && s.loop p != 3

/-- Bytes queued anywhere in the device for a port and VC (R146). -/
def State.vcBytes (s : State) (p v : Nat) : Nat :=
  (((s.queuedFor p).filter (fun q => q.vc == v)).map qBytes).foldl (· + ·) 0

/-- PORT_LINK_DELAY in force, in ns (R156). -/
def State.delayOf (s : State) (p : Nat) : Nat := if (s.portq p).linkDelay = 0 then s.cfg 0x4006 1 else (s.portq p).linkDelay

/-- AGE with this hop's amounts (R156): the packet departs when its first block does, behind what waits at the
transmitter. -/
def State.ageOut (s : State) (p : Nat) (q : QPkt) : Nat :=
  let l := (s.link p).upToNow s.now
  min 0xFFFF (q.pkt.age + ceilDiv (s.now + ceilDiv (l.leavesIn s.now l.waiting) 225 - q.arr) 64 + ceilDiv (s.delayOf p) 64)

/-- Start the next packet of a port, or drop it as AGED (R157): its blocks join the transmitter's stream (R120). -/
def State.startPacket (s : State) (p : Nat) : State :=
  match (if s.txOn p then s.selectPkt p else none) with
  | none => s
  | some (q, vcs) =>
    let n := ptOf p
    let age := s.ageOut p q
    let level := min 15 (s.vcBytes p q.vc / 8192)
    let s := (s.modPortq p (fun x => { x with egress := x.egress.erase q })).noteDelay p q
    let s := s.leaves q (q.inVc (decide (14 ≤ p)))
    let s := if (q.vc = 6 ∨ q.vc = 7) ∧ kCtype q.pkt = 0 then s.collNext (kTree q.pkt) else s
    if 31250 < age then s.dropCount n 7 (p % 8)
    else
      let s := match s.shaper p q.vc with
        | some (k, b) => s.modPortq p (fun x => { x with shapers := x.shapers.set k { b with level := b.level - token } })
        | none => s
      let k := { q.pkt with age := age, hops := q.pkt.hops + 1, chint := max q.pkt.chint level }
      let seq := (s.link p).txSeq
      let s := s.modLink p (fun l => { l.upToNow s.now with
        tx := framed (l.upToNow s.now).tx seq.toNat q.vc (packetBytes k) q.stomp, txSeq := seq + 1, counts := if q.stomp then bump (bump l.counts 0 1) 9 1 else bump l.counts 0 1 })
      (((s.modPortq p (fun x => x.served q.vc q.ingress vcs)).perf n 0x100 (p % 8) none 1).perf n 0x101 (p % 8) none (pktSize k)).emit
        (.packet p seq.toNat q.vc k q.stomp)

/-! ### Delivery (R153, R157) -/

/-- An MGT packet that carries a request: bit RESP of its PDU is 0 (R317, R324). -/
def isRequest (k : Packet) : Bool := !bitAt k.ext 8

/-- A TOP that a command of the endpoint tile takes for a packet of this kind (R201); a packet with another finds no taker
and is discarded on arrival, as a response without a reservation is (R154). -/
def knownTop (k : Packet) : Bool :=
  if k.kind = kindReq then xTop k == topData || xTop k == topResync
  else if k.kind = kindRsp then xTop k == topResp || xTop k == topAck || xTop k == topNak || xTop k == topResyncAck
  else true

/-- Requests the management tile holds: those not yet taken, and the FABRIC queue (R324). -/
def State.mgtHeld (s : State) : Nat := (s.dict.rx.filter isRequest).length + (Tbl.getD s.dict.queues 2 []).length

/-- Hand a packet that has crossed the mesh to its tile; an MGT request beyond the 64 is dropped, and an ESC request that
finds no room; a response has room (R154). -/
def State.deliverTile (s : State) (tile : Nat) : State :=
  match Tbl.getD s.arch.inbox tile [] with
  | [] => s
  | q :: rest =>
    let s := { s with arch := { s.arch with inbox := Tbl.put s.arch.inbox tile rest } }
    let k : Packet := { q.pkt with age := min 0xFFFF (q.pkt.age + ceilDiv (s.now - q.arr) 64) }
    if 31250 < k.age then s.dropCount q.tile 7
    else if tile = 12 then
      if isRequest k && decide (64 ≤ s.mgtHeld) then s.dropCount q.tile 10 else { s with dict := { s.dict with rx := s.dict.rx ++ [k] } }
    else if k.dform && k.kind == kindReq && decide (Config.deliveryRoom < (s.et (tile - 8)).rx.length) then s.dropCount q.tile 10
    else if !knownTop k then s
    else s.modEt (tile - 8) (fun e => { e with rx := e.rx ++ [{ q with pkt := k }] })

/-! ### Queue samples (R185, R186) -/

/-- One queue's record. -/
def State.queueRec (s : State) (p v : Nat) : Nat :=
  let x := s.portq p
  let l := (s.queuedFor p).filter (fun q => q.vc == v)
  let depth := min 0xFFFF l.length
  let age := min 0xFFFF (((l.map (fun q => s.now - q.arr)).foldl max 0) / 32)
  pack [(0, 16, depth), (16, 16, age), (32, 16, min 0xFFFF (max depth (nth x.maxDepth v))), (48, 16, max age (nth x.maxDelay v))]

/-- Sample one port: its block, and the reader's copy when the port is streamed. -/
def State.samplePort (s : State) (aligned : Bool) (p : Nat) : State :=
  let old := s.ctrs.offered.filter (fun o => o.1 == 2 && (o.2.getD 8 0).toNat % 64 == p)
  let lost := (s.portq p).lost || !old.isEmpty
  let block := pack [(0, 64, s.ftNs), (64, 6, p), (70, 1, b2n aligned), (71, 1, b2n lost)]
    + pack ((List.range 10).map (fun v => (128 + 64 * v, 64, s.queueRec p v)))
  let s := s.modPortq p (fun x => { x with
    sample := block, lost := false, maxDelay := List.replicate 10 0
    maxDepth := (List.range 10).map (fun v => ((s.queuedFor p).filter (fun q => q.vc == v)).length) })
  if bitAt (s.cfg 0xD030 2) p && s.readerOn && bitAt s.ring 17 then
    { s with ctrs := { s.ctrs with offered := s.ctrs.offered.filter (fun o => !old.contains o) ++ [(2, natLe 96 block)] } }
  else s

/-! ### Commands -/

/-- PACKET_INJECT (R147). -/
def execPacketInject (pt : Nat) (s : State) : Res := .next (s.injectOne pt)

/-- PACKET_ROUTE (R142). -/
def execPacketRoute (p : Nat) (s : State) : Res := .next (s.routeFirst p)

/-- PORT_EGRESS_START (R152). -/
def execPortEgressStart (p : Nat) (s : State) : Res := .next (s.startPacket p)

/-- PACKET_DELIVER (R153). -/
def execPacketDeliver (tile : Nat) (s : State) : Res := .next (s.deliverTile tile)

/-- QDEPTH_PUBLISH (R146): every 32 ns. -/
def execQdepthPublish (pt : Nat) (s : State) : Res :=
  .next (
    if (s.pt pt).qpubAt + 32 ≤ s.now then
      (List.range 8).foldl (fun s i =>
          let p := 8 * pt + i
          s.modPortq p (fun x => { x with q := min 1023 ((s.vcBytes p 0 + s.vcBytes p 1 + s.vcBytes p 2) / 1024) }))
        (s.modPt pt (fun t => { t with qpubAt := s.now }))
    else s)

/-- Keep the old ROUTE_HINT_DECAY for the intervals that run (R162). -/
def State.decayHold (s : State) (old : Nat) : State :=
  (List.range 8).foldl (fun s n => s.modPt n (fun t => { t with decayOld := some (t.decayOld.getD old) })) s

/-- HINT_DECAY (R146): every ROUTE_HINT_DECAY µs, by the value that the running interval began with (R162). -/
def execHintDecay (pt : Nat) (s : State) : Res :=
  .next (
    if (s.pt pt).decayAt + (s.pt pt).decayOld.getD (s.cfg 0x4000 6) * us ≤ s.now then
      s.modPt pt (fun t => { t with
        decayAt := s.now, decayOld := none, hint := (t.hint.map (fun e => (e.1, e.2 - 1))).filter (fun e => e.2 != 0) })
    else s)

/-- GEN_QUIET_END (R160). -/
def execGenQuietEnd (g : Nat) (s : State) : Res :=
  .next (
    match s.quiet.getD g none with
    | some t => if t ≤ s.now then { s with quiet := s.quiet.set g none } else s
    | none => s)

/-- GATE_EVENT (R179). -/
def execGateEvent (p cls : Nat) (s : State) : Res := .next (s.gateEvent p cls)

/-- GATE_SWITCH (R180): at S the pending schedule comes into force, each class at cycle offset 0. -/
def execGateSwitch (p : Nat) (s : State) : Res :=
  .next (
    match (s.gate p).pend with
    | some (v, at_) =>
      if at_ ≤ s.ftNs then
        (List.range 4).foldl (fun s c => s.gateEvent p c)
          (s.modGate p (fun g => { g with sched := v, pend := none, lastSw := s.ftNs }))
      else s
    | none => s)

/-- QUEUE_SAMPLE (R185): at each fabric-time multiple of QSAMPLE_PERIOD, or on the tile's own timer. -/
def execQueueSample (pt : Nat) (s : State) : Res :=
  .next (
    let d := s.cfg 0xD030 1 * us
    let last := bf (s.portq (8 * pt)).sample 0 64
    let due := if s.ftUsable then atMultiple s.ftNs d last (s.pt pt).sampleAt s.now else decide ((s.pt pt).sampleAt + d ≤ s.now)
    if due then
      ((List.range 8).foldl (fun s i => s.samplePort s.ftUsable (8 * pt + i))
        (s.modPt pt (fun t => { t with sampleAt := s.now }))).readerStep
    else s)

end Sys2Proof.Machine
end

