-- ==== Sys2Proof/Machine/Sharing.lean ====
section
/-! DEFINITION. The semaphore unit (spec 04): grants, inheritance, releases, holder resets, and the commands of R96 to
R102. -/

namespace Sys2Proof.Machine

/-! ### Semaphores (R96 to R104) -/

/-- Internal address of semaphore n (R96). -/
def semAddr (n : Nat) : Nat := 0x2000000 + 64 * n

/-- A holder's identity on the access-control side. -/
def semId : SemMaster → Nat
  | .host f => masterOf f
  | .die m => m

/-- Highest effective priority among holders, and the status word (R98). -/
def Sem.prio (x : Sem) : Nat := (x.holds.map (·.eff)).foldl max 0
def Sem.status (x : Sem) : Nat :=
  pack [(0, 16, x.avail), (16, 1, b2n x.enable), (17, 1, b2n x.abandoned), (18, 2, x.prio), (20, 8, min 255 x.waiters.length)]

/-- A result word (R98). -/
def semResult (granted abandoned refused timeout : Bool) (avail : Nat) : Nat :=
  pack [(0, 1, b2n granted), (1, 1, b2n abandoned), (2, 1, b2n refused), (3, 1, b2n timeout), (16, 16, avail)]

/-- Entries of the hold table in use (R100). -/
def State.holdUse (s : State) : Nat := (s.sems.map (fun e => e.2.holds.length)).foldl (· + ·) 0

/-- Grant one unit to a master, or refuse it because the hold table is full (R100). -/
def State.semGrant (s : State) (n : Nat) (who : SemMaster) (prio : Nat) : State :=
  let x := s.sem n
  if !x.holds.any (fun h => h.who == who) && decide (4096 ≤ s.holdUse) then
    s.emit (.semWord who n (semResult false false true false x.avail))
  else
    let holds := if x.holds.any (fun h => h.who == who)
      then x.holds.map (fun h => if h.who = who then { h with count := h.count + 1, eff := max h.eff prio } else h)
      else x.holds ++ [{ who := who, count := 1, eff := prio }]
    ((s.setSem n { x with avail := x.avail - 1, abandoned := false, holds := holds }).perf 13 0x701 0x3F none 1).emit
      (.semWord who n (semResult true x.abandoned false false (x.avail - 1)))

/-- The waiter to be served next: highest priority, then arrival order (R99). -/
def bestWaiter : List Waiter → Option Waiter
  | [] => none
  | w :: r =>
    match bestWaiter r with
    | some v => if v.prio > w.prio then some v else some w
    | none => some w

/-- Serve waiters while units are available (R99, R104). -/
def State.semServe : Nat → State → Nat → State
  | 0, s, _ => s
  | k + 1, s, n =>
    let x := s.sem n
    if x.avail = 0 then s
    else
      match bestWaiter x.waiters with
      | none => s
      | some w =>
        State.semServe k ((s.setSem n { x with waiters := x.waiters.filter (fun v => v.ticket != w.ticket) }).semGrant n w.who w.prio) n

def State.semServeAll (s : State) (n : Nat) : State := State.semServe (s.sem n).waiters.length s n

/-- Waiters in the unit, and those of one host port or one function (R99). -/
def State.waiters (s : State) : List Waiter := s.sems.flatMap (fun e => e.2.waiters)

def State.waitLimit (s : State) (who : SemMaster) : Bool :=
  decide (1024 ≤ s.waiters.length)
    || (match who with
        | .host f => decide (256 ≤ (s.waiters.filter (fun w => match w.who with | .host g => etOf g == etOf f | .die _ => false)).length)
            || decide (8 ≤ (s.waiters.filter (fun w => w.who == .host f)).length)
        | .die _ => false)

/-- Send one inheritance notice (R103). -/
def State.inherit (s : State) (n prio : Nat) (h : Hold) : State :=
  match h.who with
  | .host f => s.postAsync f { type := evSemInherit, info := pack [(0, 8, n), (8, 2, prio)] }
  | .die _ => s.emit (.notice (if s.fw.onB then 9 else 8) n prio)

/-- Let an acquire wait (R99, R102, R103). -/
def State.semWait (s : State) (n : Nat) (who : SemMaster) (prio : Nat) (bound : Option Nat) : State :=
  let x := s.sem n
  let low := x.holds.filter (fun h => decide (h.eff < prio))
  let s := s.setSem n { x with
    waiters := x.waiters ++ [{ who := who, prio := prio, ticket := s.nextTicket, at_ := s.now, bound := bound }]
    holds := x.holds.map (fun h => if h.eff < prio then { h with eff := prio } else h) }
  low.foldl (fun s h => s.inherit n prio h) { s with nextTicket := s.nextTicket + 1 }

/-- What an on-die master sees of a bus error (R93): a code of the model's own, beside the status codes of R11. -/
abbrev stBusError : Nat := 0x100

/-- Refused by the rules (R93): hosts read zero, a cluster has a bus error, the store tile's work ends with BOUNDS, and the
management port and the time unit lose what they moved. -/
def State.semDenied (s : State) (who : SemMaster) (n addr : Nat) (wr : Bool) (code : Nat) : State :=
  let s := s.acuDeny (semId who) addr 4 wr code
  match who with
  | .host _ => if wr then s else s.emit (.semWord who n 0)
  | .die m =>
    if m = 10 then s.emit (.accessResp (.die m) stBounds [])
    else if m ≤ 9 then s.emit (.accessResp (.die m) stBusError []) else s

/-- The unit answers this master: the management island runs, and a host function is present; a function under
reset, or one before BOOT has ended, reads zero (R61, R331). -/
def State.semOpen (s : State) (who : SemMaster) : Bool :=
  match who with
  | .host f => s.present f && !s.inMode .seat && !s.inMode .boot && !s.faults.checkstop
  | .die _ => !s.inMode .seat

/-- TRY (R96): at priority 0, never waiting. -/
def State.tryAcquire (s : State) (who : SemMaster) (n : Nat) : State :=
  let x := s.sem n
  if !x.enable || who == .die 11 || who == .die 12 then s.emit (.semWord who n (semResult false false true false x.avail))
  else if 0 < x.avail ∧ x.waiters = [] then s.semGrant n who 0
  else s.emit (.semWord who n (semResult false false false false x.avail))

/-- SEM_HOST_WAIT 0 makes a port's ACQUIRE behave as TRY (R105). -/
def State.noWait (s : State) (who : SemMaster) : Bool :=
  match who with
  | .host f => s.cfg 0x2023 (etOf f + 1) == 0
  | .die _ => false

/-- ACQUIRE at a priority (R99, R102). -/
def State.acquire (s : State) (who : SemMaster) (n prio : Nat) : State :=
  let x := s.sem n
  let refuse (s : State) : State := s.emit (.semWord who n (semResult false false true false (s.sem n).avail))
  if s.noWait who then s.tryAcquire who n
  else if !x.enable || who == .die 11 || who == .die 12 then refuse s
  else if 0 < x.avail ∧ x.waiters = [] then s.semGrant n who prio
  else if s.waitLimit who then refuse s
  else
    match who with
    | .host f => s.semWait n who prio (some (s.cfg 0x2023 (etOf f + 1) * us))
    | .die _ => s.semWait n who prio none

/-- RELEASE (R100). A bad release writes ACU_LAST_DENIED whole, as the access it was (DESIGN CHOICE, log entry 135). -/
def State.release (s : State) (who : SemMaster) (n : Nat) : State :=
  let x := s.sem n
  if x.holds.any (fun h => h.who == who) then
    let holds := (x.holds.map (fun h => if h.who = who then { h with count := h.count - 1 } else h)).filter (fun h => h.count != 0)
    (s.setSem n { x with avail := x.avail + 1, holds := holds }).semServeAll n
  else
    { s with acu := { s.acu with
        badReleases := satAdd 32 s.acu.badReleases 1
        lastDenied := deniedWord (semId who) (semAddr n + 0x20) 4 true 0x0350 } }

/-- A holder is reset (R101): its units are freed and ABANDONED set, its waiters go; `told` answers them zero. No unit is
granted yet: every reset of an event precedes its grants (R104). -/
def State.holderFree (s : State) (who : SemMaster) (told : Bool) : State :=
  (s.sems.map (·.1)).foldl (fun s n =>
    let x := s.sem n
    let held := ((x.holds.find? (fun h => h.who == who)).map (·.count)).getD 0
    let mine := x.waiters.filter (fun w => w.who == who)
    let s := if told then mine.foldl (fun s _ => s.emit (.semWord who n 0)) s else s
    s.setSem n { x with
      avail := x.avail + held, abandoned := x.abandoned || decide (0 < held)
      holds := x.holds.filter (fun h => h.who != who), waiters := x.waiters.filter (fun w => w.who != who) }) s

/-- The grants that follow the resets of an event (R104). -/
def State.semServeEach (s : State) : State := (s.sems.map (·.1)).foldl (fun s n => s.semServeAll n) s

/-- A single holder is reset, and what it freed is granted. -/
def State.holderReset (s : State) (who : SemMaster) (told : Bool) : State := (s.holderFree who told).semServeEach

/-- Waiters that an accepted region write no longer allows return REFUSED (R95); they count in no denied counter and write
no ACU_LAST_DENIED (DESIGN CHOICE, log entry 135). -/
def State.semRecheck (s : State) : State :=
  (s.sems.map (·.1)).foldl (fun s n =>
    let x := s.sem n
    let gone := x.waiters.filter (fun w => (s.acuCheck (semId w.who) (semAddr n + 4 * w.prio) 4 false).isSome)
    let s := s.setSem n { x with waiters := x.waiters.filter (fun w => !gone.any (fun v => v.ticket == w.ticket)) }
    gone.foldl (fun s w => s.emit (.semWord w.who n (semResult false false true false x.avail))) s) s

/-- Apply an accepted SEM_CFG write (R105). -/
def State.semConfigure (s : State) (n v : Nat) : State :=
  let x := s.sem n
  let free := x.avail + (x.holds.map (·.count)).foldl (· + ·) 0
  let s := if bitAt v 17 then
      x.waiters.foldl (fun s w => s.emit (.semWord w.who n (semResult false false true false free))) s
    else s
  s.setSem n { x with
    limit := bf v 0 16, enable := bitAt v 16, avail := bf v 0 16, abandoned := x.abandoned || bitAt v 17
    waiters := if bitAt v 17 then [] else x.waiters, holds := if bitAt v 17 then [] else x.holds }

/-! ### Commands -/

/-- SEM_ACQUIRE (R99): a host's priority is its FN_SEM_PRIO (R97). -/
def execSemAcquire (who : SemMaster) (sem prio : Nat) (s : State) : Res :=
  .next (
    let prio := match who with | .host f => s.cfg 0x2024 f | .die _ => prio % 4
    if !s.semOpen who then s.emit (.semWord who sem 0)
    else
      match s.acuCheck (semId who) (semAddr sem + 4 * prio) 4 false with
      | some code => s.semDenied who sem (semAddr sem + 4 * prio) false code
      | none => s.acquire who sem prio)

/-- SEM_TRY (R96): at priority 0, never waiting. -/
def execSemTry (who : SemMaster) (sem : Nat) (s : State) : Res :=
  .next (
    if !s.semOpen who then s.emit (.semWord who sem 0)
    else
      match s.acuCheck (semId who) (semAddr sem + 0x10) 4 false with
      | some code => s.semDenied who sem (semAddr sem + 0x10) false code
      | none => s.tryAcquire who sem)

/-- SEM_RELEASE (R100). -/
def execSemRelease (who : SemMaster) (sem : Nat) (s : State) : Res :=
  .next (
    if !s.semOpen who then s
    else
      match s.acuCheck (semId who) (semAddr sem + 0x20) 4 true with
      | some code => s.semDenied who sem (semAddr sem + 0x20) true code
      | none => s.release who sem)

/-- SEM_STATUS (R98). -/
def execSemStatus (who : SemMaster) (sem : Nat) (s : State) : Res :=
  .next (
    if !s.semOpen who then s.emit (.semWord who sem 0)
    else
      match s.acuCheck (semId who) (semAddr sem + 0x30) 4 false with
      | some code => s.semDenied who sem (semAddr sem + 0x30) false code
      | none => s.emit (.semWord who sem (s.sem sem).status))

/-- SEM_WAIT_TIMEOUT (R102): a host waiter whose bound has passed returns TIMEOUT. -/
def execSemWaitTimeout (sem ticket : Nat) (s : State) : Res :=
  .next (
    let x := s.sem sem
    match x.waiters.find? (fun w => w.ticket == ticket) with
    | some w =>
      (match w.bound with
       | some b =>
         if w.at_ + b ≤ s.now then
           (s.setSem sem { x with waiters := x.waiters.filter (fun v => v.ticket != ticket) }).emit
             (.semWord w.who sem (semResult false false false true x.avail))
         else s
       | none => s)
    | none => s)

end Sys2Proof.Machine
end

