-- ==== Sys2Proof/Machine/Resets.lean ====
section
/-! DEFINITION. Function-level reset (R61, R62), virtual functions (R38), host links (R9, R36, R415), and their
commands. -/

namespace Sys2Proof.Machine

/-! ### The treatment of R61 -/

/-- Functions that exist on a host port by its SR-IOV state (R38): the PF, and VF k for k ≤ NumVFs. -/
def State.exists_ (s : State) (f : Nat) : Bool :=
  (s.hostPort (etOf f)).train == .l0 && decide (f % 64 ≤ s.numVfs (etOf f))

/-- FN_EPOCH advances from 15 back to 1 (R194). -/
def bumpEpoch (e : Nat) : Nat := if 15 ≤ e then 1 else e + 1

/-- Host reads of a function: those on the link are awaited and their data discarded, the others end (R61). -/
def State.wipeReads (s : State) (f : Nat) : State :=
  let mine : List (Nat × HostRead) := s.reads.filter (fun e => e.2.fn == f && e.2.pieces.isSome)
  let s := { s with
    reads := (s.reads.filter (fun (e : Nat × HostRead) => e.2.fn != f || e.2.pieces.isSome)).map (fun (e : Nat × HostRead) =>
      if e.2.fn = f then (e.1, { e.2 with dead := true }) else e)
    walks := s.walks.filter (fun w => w.fn != f) }
  (s.modFn f (fun x => { x with flrReads := mine.map (·.1) })).startWalks 64 (etOf f)

/-- A function's place in its endpoint tile and in the store. -/
def State.wipeTile (s : State) (f : Nat) : State :=
  let keep (i : EngItem) : Bool := i.fn != f
  let s := s.modEt (etOf f) (fun e => { e with
    items := e.items.filter keep, heldItems := e.heldItems.filter keep, ops := e.ops.filter (fun o => o.1 != f)
    moves := e.moves.filter (fun m => m.fn != f), tmoves := e.tmoves.filter (fun m => m.fn != f)
    rndv := e.rndv.filter (fun r => r.fn != f), cache := e.cache.filter (fun l => l.fn != f)
    ptrs := e.ptrs.filter (fun p => p.fn != f), atoms := e.atoms.filter (fun a => a.fn != f)
    targets := e.targets.filter (fun t => t.fn != f), saved := e.saved.filter (fun r => r.fn != f) })
  let s := { s with store := { s.store with reads := s.store.reads.filter (fun r => r.op.fn != f) } }
  (s.saveWatch (etOf f)).landWatch (etOf f)

/-- Revoke every window of a function (R259). -/
def State.wipeWins (s : State) (f : Nat) : State :=
  (s.wins.filter (fun e => e.2.reg && e.2.fn == f)).foldl (fun s e => s.revokeSlot (e.1 / 8192) (e.1 % 8192)) s

/-- A function's requests at the dictionary, unless its MAILBOX page stays served (R337). -/
def State.wipeMailbox (s : State) (f : Nat) : State :=
  let mine (r : Req) : Bool := r.pr == .host f
  let dict := { s.dict with
    queues := s.dict.queues.map (fun (e : Nat × List DictReq) => (e.1, e.2.filter (fun q => !mine q.r)))
    segs := s.dict.segs.filter (fun g => !mine g.r)
    ended := s.dict.ended.filter (fun e => !mine e.1)
    relays := s.dict.relays.filter (fun g => !mine g.r) }
  let acu := { s.acu with syncs := s.acu.syncs.filter (fun y => !mine y.r) }
  ({ s with dict := dict, acu := acu } : State).modFn f (fun x => { x with mbGo := false })

/-- The treatment of R61: everything the function had in the device goes, and FN_EPOCH advances. The units it frees go to
waiters once every reset of the event is done (R104): see semServeEach. -/
def State.wipe (s : State) (f : Nat) (told mailbox : Bool) : State :=
  let s := (s.wipeReads f).modFn f (fun x => { x with
    badDoorbells := 0, asyncDrops := 0, xlateFaults := 0, xlateLast := 0, invals := [], revokes := []
    ctxCmds := [], winCmds := [], writes := [], overBlocks := [], eqDesc := [], msixPend := []
    epoch := bumpEpoch x.epoch, ctrs := List.replicate 8 0 })
  let s := { s with
    ctxs := s.ctxs.filter (fun e => e.1 / 2 ^ 20 != f), eqs := s.eqs.filter (fun e => e.1 / 2 ^ 12 != f)
    mctxs := s.mctxs.filter (fun e => e.1 / 2 ^ 16 != f) }
  let s := (((s.wipeTile f).wipeWins f).setCfg 0x2017 f 0).replayWatch (etOf f)
  let s := (s.holderFree (.host f) told).breakTrees (fun _ v => tLocal v f) 0x0A30 none (some f)
  let s := if mailbox then s.wipeMailbox f else s
  if ringOwner s.ring = f ∧ s.cfg 0xA002 1 = 1 then
    let s := s.ringLost
    ({ s with ctrs := { s.ctrs with waitRec := none, producer := s.ctrs.wrote } }).setCfg 0xA002 1 0
  else s

/-- Start a function-level reset; one already in progress absorbs it (R62). Its configuration space and MSI-X lose what the
host had set (R61). -/
def State.flrOne (s : State) (f : Nat) (told : Bool) : State :=
  if (s.fn f).state ≠ 1 then s
  else (s.wipe f told true).modFn f (fun x => { x with state := 2, bar0 := 0, memOn := false, msix := {} })

/-- Functions of a host port that are present or in reset. -/
def State.fnsOf (s : State) (h : Nat) : List Nat := (s.fns.filter (fun e => etOf e.1 == h && e.2.state != 0)).map (·.1)

/-- A function-level reset; a PF's clears VF Enable and resets every VF of its port (R62). -/
def State.flr (s : State) (f : Nat) : State :=
  if (s.fn f).state ≠ 1 then s
  else if isPf f then
    (((s.fnsOf (etOf f)).foldl (fun s g => s.flrOne g true) s).modHost (etOf f) (fun h => { h with vfEnable := false })).semServeEach
  else (s.flrOne f true).semServeEach

/-! ### Host links -/

/-- A host port leaves L0 (R36): every function of it is reset, no read is answered any more, VF Enable is clear, and what
the host had set on the port is gone. -/
def State.hostDown (s : State) (h : Nat) : State :=
  let fs := s.fnsOf h
  let s := fs.foldl (fun s f => s.flrOne f false) s
  let s := fs.foldl (fun s f => s.modFn f (fun x => { x with flrReads := [] })) s
  let s := ({ s with reads := s.reads.filter (fun e => e.2.hp != h) } : State).semServeEach
  (s.modHost h (fun x => { x with
    train := .detect, rate := 0, width := 0, flit := false, vfEnable := false, downs := satAdd 32 x.downs 1
    mps := 128, mrrs := 512, cfg := {} })).report { code := 0x0250, cls := fatalPort, tile := 8 + h }

/-- The PCIe controllers run (R331): in every mode but SEAT, until a flush sheds them. -/
def State.pcieOn (s : State) (h : Nat) : Bool := s.island (8 + h)

/-- Bus address of a function's BAR0 as the host has assigned it: VF BAR0s follow one another, and a BAR of
32 MiB keeps no address bit below bit 25 (R32). -/
def hostBar (c : HostCfg) (f : Nat) : Nat :=
  (if isPf f then c.bar0 else c.vfBar0 + (f % 64 - 1) * 2 ^ 25) / 2 ^ 25 * 2 ^ 25

/-- A present function has what the host has set for it: its BAR0 and its MSI-X (R32, R41). -/
def State.fnConfigure (s : State) (f : Nat) : State :=
  let c := (s.hostPort (etOf f)).cfg
  s.modFn f (fun x => { x with bar0 := hostBar c f, memOn := true, msix := c.msix.getD (f % 64) {} })

/-- A function comes to exist: one never seen before, or one absent (R38). -/
def State.fnAppear (s : State) (f : Nat) : State :=
  if (s.fn f).state = 0 then (s.modFn f (fun x => { x with state := 1 })).fnConfigure f else s

/-- A link that negotiates (R9): Flit mode at ×4 or more enters L0; another partner sends the port back to Detect. The host
configures the port as it comes up (log entry 133), and its PF is enabled from then on until the link leaves L0 (DESIGN
CHOICE, log entry 134). -/
def State.hostUp (s : State) (h rate width : Nat) (flit reversed : Bool) (cfg : HostCfg) : State :=
  if flit && decide (4 ≤ width) then
    (s.modHost h (fun x => { x with
      train := .l0, rate := rate, width := width, flit := true, reversed := reversed
      mps := cfg.mps, mrrs := cfg.mrrs, cfg := cfg })).fnAppear (64 * h)
  else
    let s := if (s.hostPort h).noFlitRecorded then s else s.report { code := 0x0230, cls := corrected, tile := 8 + h }
    s.modHost h (fun x => { x with train := .detect, noFlitRecorded := true, retryAt := s.now + 100 * ms })

/-- A reset is over (R62): the function exists again if its port and SR-IOV state say so, and the host configures it
again (log entry 133). -/
def State.flrEnd (s : State) (f : Nat) : State :=
  let s := s.modFn f (fun x => { x with state := 0 })
  if s.exists_ f then s.fnAppear f else s

/-- Every VF of a port past its NumVFs ceases to exist (R38). -/
def State.vfsGone (s : State) (h : Nat) : State :=
  let gone := (s.fnsOf h).filter (fun f => decide (s.numVfs h < f % 64))
  if gone = [] then s else (gone.foldl (fun s f => s.flrOne f true) s).semServeEach

/-! ### Commands -/

/-- FUNCTION_LEVEL_RESET (R61). -/
def execFunctionLevelReset (fn : Nat) (s : State) : Res := .next (s.flr fn)

/-- FLR_COMPLETE (R62): once no read of the function is awaited. -/
def execFlrComplete (fn : Nat) (s : State) : Res :=
  .next (if (s.fn fn).state = 2 ∧ (s.fn fn).flrReads = [] then s.flrEnd fn else s)

/-- VF_DISABLE (R38): software clears VF Enable or lowers NumVFs; each VF that ceases to exist is reset. -/
def execVfDisable (hp : Nat) (enable : Bool) (numVfs : Nat) (s : State) : Res :=
  .next ((s.modHost hp (fun x => { x with vfEnable := x.vfEnable && enable, numVfs := min x.numVfs numVfs })).vfsGone hp)

/-- VF_ENABLE (R38): VFs up to NumVFs come to exist, and one past a lowered NumVFs ceases to. -/
def execVfEnable (hp numVfs : Nat) (s : State) : Res :=
  .next (
    if (s.hostPort hp).train = .l0 then
      let n := min 63 numVfs
      (List.range n).foldl (fun s k => s.fnAppear (64 * hp + k + 1))
        ((s.modHost hp (fun x => { x with vfEnable := true, numVfs := n })).vfsGone hp)
    else s)

/-- HOST_LINK_UP (R9). -/
def execHostLinkUp (hp rate : Nat) (lanes : HostLanes) (flit : Bool) (cfg : HostCfg) (s : State) : Res :=
  .next (
    let x := s.hostPort hp
    if s.pcieOn hp && !x.perst && x.train == .training then s.hostUp hp rate lanes.width flit lanes.reversed cfg else s)

/-- HOST_TRAIN_RETRY (R9): every 100 ms. -/
def execHostTrainRetry (hp : Nat) (s : State) : Res :=
  .next (
    let x := s.hostPort hp
    if s.pcieOn hp && !x.perst && x.train == .detect && decide (x.retryAt ≤ s.now) then s.modHost hp (fun x => { x with train := .training }) else s)

/-- HOST_LINK_DOWN (R36). -/
def execHostLinkDown (hp : Nat) (s : State) : Res :=
  .next (if (s.hostPort hp).train = .l0 then s.hostDown hp else s)

/-- PERST_N_ASSERT (R415): a departure from L0, and the port is held out of training. -/
def execPerstNAssert (hp : Nat) (s : State) : Res :=
  .next ((if (s.hostPort hp).train = .l0 then s.hostDown hp else s).modHost hp (fun x => { x with perst := true, train := .detect }))

/-- PERST_N_RELEASE (R415): training starts. -/
def execPerstNRelease (hp : Nat) (s : State) : Res :=
  .next (s.modHost hp (fun x => { x with perst := false, train := if s.pcieOn hp && x.train == .detect then .training else x.train }))

end Sys2Proof.Machine
end

