-- ==== Sys2Proof/Machine/Modes.lean ====
section
/-! DEFINITION. Operating modes (spec 13, R331 to R339): changes, the quiesce, what each change does, and the fault
reaction; their time-driven commands. -/

namespace Sys2Proof.Machine

/-! ### Rows of R335 -/

/-- The allowed changes. -/
def modeAllowed (a b : Mode) : Bool :=
  match a, b with
  | .standby, .train | .standby, .test | .train, .run | .train, .test | .test, .train
  | .run, .hold | .run, .pass | .hold, .pass | .run, .train | .pass, .train
  | .hold, .run | .hold, .train | .pass, .run | .pass, .hold
  | .train, .standby | .run, .standby | .hold, .standby | .pass, .standby | .test, .standby => true
  | _, _ => false

/-- The changes that quiesce the fabric. -/
def quiesces (a b : Mode) : Bool :=
  match a, b with
  | .run, .hold | .run, .train | .pass, .train | .pass, .hold => true
  | .train, .standby | .run, .standby | .hold, .standby | .pass, .standby | .test, .standby => true
  | _, _ => false

/-! ### What a change does at its start -/

/-- Every function is treated as R61 lists, its MAILBOX page staying served (R337, R335). -/
def State.wipeAll (s : State) : State :=
  ((s.fns.filter (fun e => e.2.state == 1)).map (·.1)).foldl (fun s f => (s.wipe f true false).modFn f (fun x => { x with flrReads := [] })) s |>.semServeEach

/-- Ports to IDLE-HELD with FORCE, in place of a request of their own still out; one in E-IDLE or DEEP leaves it first (see
State.holdPort); ports not up are turned off (R134, R335). -/
def State.portsHold (s : State) : State :=
  (List.range 64).foldl (fun s p =>
    if s.portUp p then
      if (s.link p).lps = 0 ∨ (s.link p).lps = 4 then s.lpsRequest p 2 true
      else if (s.link p).lps = 1 ∨ (s.link p).lps = 3 then s.lpsExit p
      else s
    else if (s.link p).stage = 0 then s else s.portOff p) s

/-- Ports leave IDLE-HELD; ports turned off start stage 1 (R335). -/
def State.portsResume (s : State) : State :=
  (List.range 64).foldl (fun s p =>
    if s.portUp p then (if (s.link p).lps = 2 then s.lpsExit p else if (s.link p).lps = 4 then s.lpsEnd p 2 else s) else s) s

/-- Ports that are off start stage 1 where lanes are on. -/
def State.portsStart (s : State) : State :=
  (List.range 64).foldl (fun s p => if (s.link p).stage = 0 then s.portStart p else s) s

/-- Start a change (R334, R335). Leaving RUN breaks the trees (R298). -/
def State.beginChange (s : State) (m : Mode) (cause : Nat) : State :=
  let a := s.mode.mode
  let s := { s with mode := { s.mode with
    target := m, changing := true, cause := cause, changeAt := s.now, quiesced := quiesces a m, drained := false } }
  let s := if a = .run then s.breakTrees (fun _ _ => true) 0x0A80 else s
  let s := if m = .pass ∨ m = .standby then s.wipeAll else s
  if a = .hold ∧ m ≠ .standby then s.portsResume else s

/-! ### The quiesce (R336) -/

/-- A packet of a port tile's buffer, or one accepted for injection at port tile `dst`, that crosses the mesh: its tile, the
VC whose buffer it holds, and the packet. -/
def Cross.heldAt (dst : Nat) (x : Cross) : Option (Nat × Nat × QPkt) :=
  match x with
  | .egress p q => some (q.tile, q.inVc (decide (14 ≤ p)), q)
  | .coll _ q => some (q.tile, q.vc, q)
  | .packet q => if dst < 8 then some (dst, q.vc, q) else none
  | _ => none

/-- A port's queued packets, each with its tile and the VC whose buffer it holds. -/
def PortQ.heldAt (y : PortQ) (p : Nat) : List (Nat × Nat × QPkt) :=
  let tile (q : QPkt) : Nat := if q.tile = 8 then ptOf p else q.tile
  (y.ingress ++ y.coll).map (fun q => (tile q, q.vc, q)) ++ y.egress.map (fun q => (tile q, q.inVc (decide (14 ≤ p)), q))

/-- Every packet that the port tiles' buffers and injection channels hold. -/
def State.heldPkts (s : State) : List (Nat × Nat × QPkt) :=
  s.portqs.flatMap (fun e => e.2.heldAt e.1)
    ++ (s.arch.inbox.filter (fun e => decide (e.1 < 8))).flatMap (fun e => e.2.map (fun q => (e.1, q.vc, q)))
    ++ s.arch.chans.flatMap (fun e => e.2.filterMap (fun f => if f.k + 1 = f.n then f.x.heldAt (e.1 / 8 % 16) else none))

/-- How many of them are a port tile's. -/
def State.heldIn (s : State) (n : Nat) (gone : QPkt → Bool := fun _ => true) : Nat :=
  (s.heldPkts.filter (fun e => e.1 == n && gone e.2.2)).length

/-- Discard the packets of which `gone` holds, count them, and give back what they hold. -/
def State.discard (s : State) (gone : QPkt → Bool) : State :=
  let l := s.heldPkts.filter (fun e => gone e.2.2)
  let keep (qs : List QPkt) : List QPkt := qs.filter (fun q => !gone q)
  let s := (List.range 8).foldl (fun s n => s.modPt n (fun t => { t with modeDrops := satAdd 64 t.modeDrops (s.heldIn n gone) })) s
  let s := { s with
    portqs := s.portqs.map (fun e => (e.1, { e.2 with ingress := keep e.2.ingress, coll := keep e.2.coll, egress := keep e.2.egress }))
    arch := { s.arch with
      inbox := s.arch.inbox.map (fun e => (e.1, if e.1 < 8 then keep e.2 else e.2))
      chans := s.arch.chans.map (fun e => (e.1, e.2.filter (fun f =>
        match f.x.heldAt (e.1 / 8 % 16) with | some h => !gone h.2.2 | none => true))) } }
  l.foldl (fun s e => s.leaves e.2.2 e.2.1) s

/-- Discard every packet that remains. -/
def State.discardAll (s : State) : State := s.discard (fun _ => true)

/-! ### What a change does at its end -/

/-- Islands out of reset in a mode (R331). -/
def modeIslands (m : Mode) : BitVec 15 :=
  match m with
  | .seat => 0
  | .boot | .standby => 0x7F00
  | _ => 0x7FFF

/-- Start the send queues that wait (R335). -/
def State.startQueues (s : State) : State :=
  (s.ctxs.map (·.1)).foldl (fun s k => s.startFetch (k / 2 ^ 20) (k % 2 ^ 20)) s

/-- Flits on their way to tiles that enter reset are discarded and counted (R21). -/
def Arch.lose (x : Arch) (gone : Nat → Bool) : Arch :=
  { x with
    chans := x.chans.filter (fun e => !gone (e.1 / 8 % 16)), behind := x.behind.filter (fun e => !gone (e.1 / 8 % 16))
    inbox := x.inbox.filter (fun e => !gone e.1)
    discards := satAdd 64 x.discards ((x.chans.filter (fun e => gone (e.1 / 8 % 16))).flatMap (·.2)).length }

/-- Hold the port tiles in reset: what they held is gone, no tree stays installed (R302), and what they had offered to other tiles arrives (R15, R21, R335). -/
def State.ptsReset (s : State) : State :=
  let s := (List.range 64).foldl (fun s p => s.portOff p) s
  let keep (n : Nat) : PtTile := { drops := (s.pt n).drops, modeDrops := (s.pt n).modeDrops }
  { s with
    pts := (List.range 8).map (fun n => (n, keep n))
    arch := { s.arch.lose (fun k => decide (k < 8)) with islands := s.arch.islands &&& 0x7F00 }
    trees := s.trees.map (fun (e : Nat × Tree) => (e.1, { e.2 with installed := false, units := 0, ops := [] }))
    quiet := [none, none] }

/-- The actions of a row once the mode is reached (R335); packets queued on a VC that PASS does not carry are dropped (R332). -/
def State.entered (s : State) (a m : Mode) : State :=
  match m with
  | .run => (if a = .hold then (s.reinstallTrees).portsStart else s.reinstallTrees).startQueues
  | .train =>
    let s := if a = .test then
        (List.range 64).foldl (fun s p => ((if s.inService p then s.portLost p else s).setCfg 0x300E (p + 1) 0).portStart p) s
      else s
    s.portsStart
  | .test => s.portsStart.startQueues
  | .pass => (s.discard (fun q => !s.carries q.vc)).portsStart
  | .hold => s
  | .standby => (if a = .test then (List.range 64).foldl (fun s p => s.setCfg 0x300E (p + 1) 0) s else s).ptsReset
  | _ => s

/-- The mode that FAULT_REACTION selects for an area: 0 HOLD, 1 PASS (R339). -/
def State.reaction (s : State) (area : Nat) : Mode := if s.cfg 0x8001 area = 1 then .pass else .hold

/-- Change to the mode a FATAL_DEVICE record selected as it latched; during a change it waits for the change's end (R339). -/
def State.reactTo (s : State) (m : Mode) : State :=
  if s.mode.changing then { s with mode := { s.mode with react := s.mode.react ++ [m] } }
  else if (s.inMode .run || s.inMode .pass) && m != s.mode.mode then s.beginChange m 2
  else s

/-- React to a FATAL_DEVICE record of an area (R339). -/
def State.react (s : State) (area : Nat) : State := s.reactTo (s.reaction area)

/-- The change ends: the mode is the target, and the records latched meanwhile are acted on in their order. -/
def State.endChange (s : State) : State :=
  let a := s.mode.mode
  let m := s.mode.target
  let due := s.mode.react
  let s := { s with
    mode := { s.mode with mode := m, changing := false, quiesced := false, drained := false, react := [] }
    arch := { s.arch with islands := s.arch.islands ||| modeIslands m } }
  let s := s.entered a m
  if m = .run ∨ m = .pass then due.foldl State.reactTo s else s

/-- A tile in reset begins to run (R21): its objects are loaded from the management tile's copies. -/
def State.releaseTile (s : State) (k : Nat) : State :=
  { s with arch := { s.arch with islands := s.arch.islands ||| (1#15 <<< k) } }

/-- No port still waits to enter IDLE-HELD for a change to HOLD, or to leave it for one from HOLD (R335). -/
def State.portsSettled (s : State) : Bool :=
  (List.range 64).all (fun p =>
    !(s.mode.target == .hold && ((s.link p).lps == 4 || (s.link p).lps == 5)) && !(s.mode.mode == .hold && (s.link p).lps == 5))

/-! ### Commands -/

/-- The quiesce's 100 µs are over: what remains is discarded, and on the way to HOLD the ports go to IDLE-HELD (R335). -/
def State.drainOver (s : State) : State :=
  let s := { s.discardAll with mode := { s.mode with drained := true } }
  if s.mode.target = .hold then s.portsHold else s

/-- QUIESCE_DRAIN_END (R336): 100 µs after the quiesce began. -/
def execQuiesceDrainEnd (s : State) : Res :=
  .next (
    if s.sup.flushAt.isNone ∧ s.mode.quiesced ∧ !s.mode.drained ∧ s.mode.changeAt + 100 * us ≤ s.now then s.drainOver else s)

/-- MODE_CHANGE_COMPLETE (R335): every action of the row has finished. During a power-fail flush the tiles that a change would
start stay in reset, and no change ends (R349). -/
def execModeChangeComplete (s : State) : Res :=
  .next (if s.sup.flushAt.isNone ∧ s.mode.changing ∧ (!s.mode.quiesced ∨ s.mode.drained) ∧ s.portsSettled then s.endChange else s)

end Sys2Proof.Machine
end

