-- ==== Sys2Proof/Machine/Firmware.lean ====
section
/-! DEFINITION. Firmware images, slots, clusters, measurements and keys (spec 16, R387 to R407): verification, upload,
update, handover, confirmation, fallback, revocation and quotes, as operations the dictionary and the commands share. -/

namespace Sys2Proof.Machine

def State.modFw (s : State) (g : Firmware → Firmware) : State := { s with fw := g s.fw }

/-! ### Slots (R389) -/

/-- A slot by number: 0 S0, 1 S1, 2 SREC. -/
def Firmware.slot (x : Firmware) (k : Nat) : Slot := if k = 0 then x.s0 else if k = 1 then x.s1 else x.srec
def State.modSlot (s : State) (k : Nat) (g : Slot → Slot) : State :=
  s.modFw (fun x => if k = 0 then { x with s0 := g x.s0 } else if k = 1 then { x with s1 := g x.s1 } else { x with srec := g x.srec })

/-- Header of an image as one number, and its fields (R393). -/
def Slot.hdr (x : Slot) : Nat := leNat (x.image.take 4096)
def iVersion (h : Nat) : Nat := bf h 96 32
def iArb (h : Nat) : Nat := bf h 128 8
def iKey (h : Nat) : Nat := bf h 160 2
def iBound (h : Nat) : Bool := bitAt h 168
def iCfg (h : Nat) : Nat := bf h 176 16
def iBodyLen (h : Nat) : Nat := bf h 320 32
def iSigLen (h : Nat) : Nat := bf h 352 32
def iEntry (h : Nat) : Nat := bf h 384 32
def imageLen (h : Nat) : Nat := 4096 + iBodyLen h + 16608

/-! ### Verification (R394) -/

/-- Checks 1 to 6, which need only the header: the code of the first that fails, 0 when none does. -/
def Firmware.headerCheck (x : Firmware) (header : List Byte) : Nat :=
  let h := leNat header
  if bf h 0 64 ≠ 0x31474D4957465A4F ∨ bf h 64 16 ≠ 1 ∨ bf h 136 24 ≠ 0 ∨ bf h 162 6 ≠ 0 ∨ bf h 169 7 ≠ 0 ∨ bf h 416 96 ≠ 0
      ∨ bf h 4352 28416 ≠ 0 then 1
  else if bf h 80 16 ≠ 0x6400 then 2
  else if bf h 192 128 ≠ (if iBound h then Config.unitSerial.toNat else 0) then 3
  else if iArb h < x.arb ∨ 128 < iArb h then 4
  else if x.revoked.getLsbD (iKey h) ∨ Config.sha384 ((header.drop 112).take 432) ≠ Config.keyHash (iKey h) then 5
  else if iBodyLen h < 4096 ∨ 2097152 < iBodyLen h ∨ iBodyLen h % 4096 ≠ 0 ∨ iSigLen h ≠ 16608 ∨ iBodyLen h ≤ iEntry h then 6
  else 0

/-- Every check of R394 on a whole image. -/
def Firmware.verify (x : Firmware) (s : Slot) : Nat :=
  let header := s.image.take 4096
  let h := leNat header
  let c := x.headerCheck header
  let sig := s.image.drop (4096 + iBodyLen h)
  if s.unread then 10
  else if c ≠ 0 then c
  else if s.image.length ≠ imageLen h then 6
  else if !Config.rsaVerify (bf h 896 3072) header (sig.take 384) then 7
  else if !Config.slhVerify (bf h 3968 384) header (sig.drop 384) then 8
  else if (Config.sha384 ((s.image.drop 4096).take (iBodyLen h))).toNat ≠ bf h 512 384 then 9
  else 0

/-! ### Measurements (R406) -/

/-- Extend a register with data. -/
def State.extend (s : State) (k : Nat) (data : List Byte) : State :=
  s.modFw (fun x => { x with meas := x.meas.set k (Config.sha384 (natLe 48 (x.meas.getD k 0).toNat ++ data)) })

/-- Set a register. -/
def State.setMeas (s : State) (k : Nat) (v : BitVec 384) : State := s.modFw (fun x => { x with meas := x.meas.set k v })

/-- A fuse burn or a revocation extends M3 with data the spec does not name. -/
def State.extendFuse (s : State) : State :=
  (s.extend 3 [BitVec.ofNat 8 s.free, BitVec.ofNat 8 (s.freeVal 8)]).nextFree

/-- Record that M4 is extended for an applied journal record or an accepted write: index, sub, value. -/
def State.extendM4 (s : State) (idx sub : Nat) (value : List Byte) : State := s.extend 4 (natLe 2 idx ++ natLe 1 sub ++ value)

/-! ### Faults of firmware (R409) -/

def State.fwFault (s : State) (code cls : Nat) : State :=
  s.report { code := code, cls := cls, tile := 13, unit := b2n s.fw.onB }

/-! ### Upload (R395) -/

/-- The slot an upload goes to: the one of S0 and S1 that is not CONFIRMED, S0 before the first update. -/
def Firmware.target (x : Firmware) : Nat := if x.s0.st = .confirmed then 1 else 0

/-- Refusals of a FW_UPLOAD_CTRL value for the state of the upload. -/
def Firmware.ctrlConflict (x : Firmware) (v : Nat) : Bool :=
  if v = 1 then x.upSlot.isSome || x.phase == 3 || x.phase == 4 || x.phase == 5
  else if v = 2 then
    (match x.upSlot with
     | some k => decide ((x.slot k).image.length < imageLen (x.slot k).hdr) || decide ((x.slot k).image.length < 4096)
     | none => true)
  else if v = 3 then x.upSlot.isNone
  else false

/-- OPEN. -/
def State.uploadOpen (s : State) : State :=
  let k := s.fw.target
  (s.modSlot k (fun _ => {})).modFw (fun x => { x with upSlot := some k, upOff := 0, phase := 1 })

/-- Close the upload with a result; the slot is left EMPTY. -/
def State.uploadFail (s : State) (k result : Nat) : State :=
  (s.modSlot k (fun _ => { result := result })).modFw (fun x => { x with upSlot := none, phase := 0, result := result })

/-- ABORT. -/
def State.uploadAbort (s : State) : State :=
  match s.fw.upSlot with
  | some k => (s.modSlot k (fun _ => {})).modFw (fun x => { x with upSlot := none, phase := 0 })
  | none => s

/-- COMMIT: the result code, and the slot set VALID or left EMPTY. -/
def State.uploadCommit (s : State) : State × Nat :=
  match s.fw.upSlot with
  | none => (s, 0)
  | some k =>
    let s := s.modSlot k (fun x => { x with image := x.image.take (imageLen x.hdr) })
    let r := s.fw.verify (s.fw.slot k)
    if r = 0 then
      ((s.modSlot k (fun x => { x with st := .valid, result := 0 })).modFw (fun x => { x with upSlot := none, phase := 2, result := 0 }), 0)
    else (s.uploadFail k r, r)

/-- A chunk has no place: no upload is open, or it lies past the length the header gives. -/
def Firmware.dataConflict (x : Firmware) : Bool :=
  match x.upSlot with
  | none => true
  | some k => decide (4096 ≤ x.upOff) && decide (imageLen (x.slot k).hdr ≤ x.upOff)

/-- A chunk of 65,536 B; the one that completes the header runs checks 1 to 6. Answers the failing code, or 0. -/
def State.uploadData (s : State) (chunk : List Byte) : State × Nat :=
  match s.fw.upSlot with
  | none => (s, 0)
  | some k =>
    let s := s.modSlot k (fun x => { x with image := x.image ++ chunk })
    let first := s.fw.upOff == 0
    let s := s.modFw (fun x => { x with upOff := x.upOff + 65536 })
    let r := if first then s.fw.headerCheck ((s.fw.slot k).image.take 4096) else 0
    if r = 0 then (s, 0) else (s.uploadFail k r, r)

/-! ### Update (R396 to R401) -/

/-- The journal with the records that staging still holds, of the old or the new format. -/
def State.journalNow (s : State) (fresh : Bool) : Tbl Nat :=
  s.store.staging.foldl (fun t i => match i with
      | .journal k v => if fresh then (if newFormat ≤ k then Tbl.put t (k - newFormat) v else t) else (if k < newFormat then Tbl.put t k v else t)
      | _ => t) (if fresh then s.dict.journal2 else s.dict.journal)

/-- CFG_FORMAT of the running image, and of the one an update prepares. -/
def Firmware.runCfg (x : Firmware) : Nat := iCfg (x.slot x.running).hdr
def Firmware.newCfg (x : Firmware) : Nat := iCfg (x.slot x.newSlot).hdr

/-- The two sets of records of R397 are kept: an update prepares or is on trial, and the formats differ. -/
def Firmware.twoFormats (x : Firmware) : Bool :=
  (x.phase == 3 || x.phase == 4 || x.phase == 5) && iCfg (x.slot x.newSlot).hdr != iCfg (x.slot x.oldSlot).hdr

/-- New-format records are discarded. -/
def State.dropNew (s : State) : State :=
  { s with
    dict := { s.dict with journal2 := [] }
    store := { s.store with staging := s.store.staging.filter (fun i => match i with | .journal k _ => decide (k < newFormat) | _ => true) } }

/-- New-format records become the journal, old-format ones are obsolete. -/
def State.keepNew (s : State) : State :=
  { s with
    dict := { s.dict with journal := s.dict.journal2, journal2 := [] }
    store := { s.store with staging := s.store.staging.filterMap (fun i => match i with
      | .journal k v => if newFormat ≤ k then some (.journal (k - newFormat) v) else none
      | i => some i) } }

/-- Measurement register of the cluster that does not hold control. -/
def Firmware.otherMeas (x : Firmware) : Nat := if x.onB then 1 else 2

/-- An update is abandoned before handover (R396). -/
def State.abandon (s : State) : State :=
  let s := (s.setMeas s.fw.otherMeas 0).dropNew
  (s.modFw (fun x => { x with other := .idle, phase := 0 })).fwFault 0x0C40 corrected

/-- An accepted FW_ACTIVATE: the idle cluster's boot ROM verifies the slot again and loads it. -/
def State.activate (s : State) (k : Nat) : State :=
  let s := s.modFw (fun x => { x with other := .loading, phase := 3, newSlot := k, oldSlot := x.running, loadAt := s.now, selftest := false })
  let r := s.fw.verify (s.fw.slot k)
  if r = 0 then s.setMeas s.fw.otherMeas (Config.sha384 ((s.fw.slot k).image.take 4096))
  else (((s.modSlot k (fun x => { x with result := r })).modFw (fun x => { x with result := r })).fwFault (0x0C10 + r) deferred).abandon

/-- The new image reports READY: with another format it has converted every record (R397). -/
def State.fwIsReady (s : State) : State :=
  let s := if s.fw.twoFormats then { s with dict := { s.dict with journal2 := s.journalNow false } } else s
  s.modFw (fun x => { x with other := .ready, phase := 4 })

/-- A semaphore's holds once holder `old` is holder `new`: one entry per holder (R100). -/
def mergeHolds (old new : SemMaster) (l : List Hold) : List Hold :=
  match l.find? (fun h => h.who == old) with
  | none => l
  | some h =>
    if l.any (fun g => g.who == new) then
      (l.filter (fun g => g.who != old)).map (fun g =>
        if g.who = new then { g with count := g.count + h.count, eff := max g.eff h.eff } else g)
    else l.map (fun g => if g.who = old then { g with who := new } else g)

/-- Move control to the other cluster: every hold and waiter of the old identity takes the new one (R398, step 3). -/
def State.moveControl (s : State) : State :=
  let old := if s.fw.onB then 9 else 8
  let new := if s.fw.onB then 8 else 9
  let ren (m : SemMaster) : SemMaster := if m = .die old then .die new else m
  ({ s with sems := s.sems.map (fun (e : Nat × Sem) => (e.1, { e.2 with
      holds := mergeHolds (.die old) (.die new) e.2.holds, waiters := e.2.waiters.map (fun (w : Waiter) => { w with who := ren w.who }) })) }).modFw
    (fun x => { x with onB := !x.onB })

/-- FW_VERSION follows the running image. -/
def State.runSlot (s : State) (k : Nat) : State :=
  let s := s.modFw (fun x => { x with running := k })
  { s with dict := { s.dict with fwVersion := iVersion (s.fw.slot k).hdr } }

/-- The handover to a READY image: its trial begins (R398, R399). -/
def State.handOver (s : State) : State :=
  let s := (s.moveControl.runSlot s.fw.newSlot).modSlot s.fw.newSlot (fun x => { x with st := .trial })
  s.modFw (fun x => { x with other := .warm, phase := 5, trialAt := some s.now })

/-- Reset the cluster that does not hold control (R400, R401): its holds are freed, its measurement cleared. -/
def State.resetOther (s : State) : State :=
  let m := if s.fw.onB then 8 else 9
  ((s.holderReset (.die m) false).setMeas s.fw.otherMeas 0).modFw (fun x => { x with other := .idle })

/-- Fall back to the old image (R401); after trigger 3 the new cluster cannot hand its protocol state back. -/
def State.fallBackNow (s : State) (sub : Nat) : State :=
  let s := (s.moveControl.runSlot s.fw.oldSlot).modSlot s.fw.newSlot (fun x => { x with st := .valid })
  let s := if sub = 3 then { s with dict := { s.dict with segs := [], ended := [], kept := [], relays := [] } } else s
  let s := (s.resetOther.dropNew).modFw (fun x => { x with phase := 0, trialAt := none, selftest := false, fallDue := none })
  s.fwFault (0x0C50 + sub) deferred

/-- A trigger of R401 during a trial: at once, or when a mode change in progress ends (R398). -/
def State.fallBack (s : State) (sub : Nat) : State :=
  if s.fw.phase ≠ 5 then s
  else if s.mode.changing then s.modFw (fun x => { x with fallDue := some (x.fallDue.getD sub) })
  else s.fallBackNow sub

/-- The trial's 600 s have passed. -/
def State.trialOver (s : State) : Bool :=
  match s.fw.trialAt with
  | some t => decide (t + 600 * sec ≤ s.now)
  | none => false

/-- Rewrite SREC from the CONFIRMED slot when it fails verification, or its ARB is below the fuse counter (R389). -/
def State.refreshSrec (s : State) : State × Bool :=
  let k := if s.fw.s0.st = .confirmed then some 0 else if s.fw.s1.st = .confirmed then some 1 else none
  match k with
  | some k =>
    if s.fw.verify s.fw.srec ≠ 0 ∨ iArb s.fw.srec.hdr < s.fw.arb
    then (s.modSlot 2 (fun x => { x with image := (s.fw.slot k).image, unread := false }), true)
    else (s, false)
  | none => (s, false)

/-- Burn fuse bits up to an image's ARB (R400). -/
def State.burnFuses (s : State) (arb : Nat) : State :=
  (List.range (arb - s.fw.arb)).foldl (fun s _ => (s.modFw (fun x => { x with arb := x.arb + 1 })).extendFuse) s

/-- Confirmation (R400). -/
def State.confirm (s : State) : State :=
  let two := s.fw.twoFormats
  let s := (s.modSlot s.fw.oldSlot (fun x => { x with st := .valid })).modSlot s.fw.newSlot (fun x => { x with st := .confirmed })
  let s := (s.burnFuses (iArb (s.fw.slot s.fw.newSlot).hdr)).refreshSrec.1
  let s := if two then s.keepNew else s
  s.resetOther.modFw (fun x => { x with phase := 0, trialAt := none, fallDue := none })

/-! ### Keys (R403) -/

/-- The key slot signs the CONFIRMED image or SREC's. -/
def Firmware.keyUsed (x : Firmware) (k : Nat) : Bool :=
  [x.s0, x.s1, x.srec].any (fun t => t.st == .confirmed && iKey t.hdr == k) || iKey x.srec.hdr == k

/-- Burn a revocation bit. -/
def State.revokeKey (s : State) (k : Nat) : State :=
  (s.modFw (fun x => { x with revoked := x.revoked ||| (1#4 <<< k) })).extendFuse

/-! ### Words of the firmware objects (R408) -/

/-- States as FW_STATE and FW_SLOTS code them. -/
def ClusterSt.code : ClusterSt → Nat
  | .idle => 0 | .loading => 1 | .ready => 2 | .warm => 3
def SlotSt.code : SlotSt → Nat
  | .empty => 0 | .valid => 1 | .confirmed => 2 | .trial => 3

/-- FW_STATE. -/
def Firmware.word (x : Firmware) : Nat :=
  pack [(0, 1, b2n x.onB), (1, 2, x.other.code), (4, 4, x.phase), (8, 2, x.running), (10, 4, x.result), (14, 1, b2n x.selftest)]

/-- 16 bytes of FW_SLOTS. -/
def Slot.word (x : Slot) : Nat :=
  if x.st = .empty then pack [(8, 4, x.result)]
  else
    let h := x.hdr
    pack [(0, 2, x.st.code), (8, 4, x.result), (16, 16, iCfg h), (32, 32, iVersion h), (64, 8, iArb h), (72, 2, iKey h), (74, 1, b2n (iBound h))]

/-- FW_TRIAL_LEFT in ms. -/
def State.trialLeft (s : State) : Nat :=
  match s.fw.trialAt with
  | some t => (t + 600 * sec - s.now) / ms
  | none => 0

/-! ### Attestation (R407) -/

/-- ASCII bytes of a string's characters. -/
def ascii (l : List Char) : List Byte := l.map (fun c => BitVec.ofNat 8 c.toNat)

/-- Bytes 0 to 511 of a quote. -/
def State.quoteBody (s : State) (sub : Nat) : List Byte :=
  ascii ['O', 'Z', 'Q', 'U', 'O', 'T', 'E', '1'] ++ natLe 16 Config.unitSerial.toNat ++ natLe 32 (Tbl.getD s.fw.nonce sub 0)
    ++ natLe 10 s.time.ft.toNat ++ natLe 1 s.time.st ++ natLe 1 sub ++ natLe 4 s.dict.fwVersion ++ natLe 1 (b2n s.fw.onB)
    ++ natLe 1 s.fw.phase ++ natLe 1 s.fw.arb ++ natLe 1 s.fw.revoked.toNat ++ natLe 4 s.modeWord
    ++ (List.range 5).flatMap (fun k => natLe 48 (s.fw.meas.getD k 0).toNat) ++ List.replicate 192 0

/-- The quote of 36,560 bytes as one number. -/
def State.quote (s : State) (sub : Nat) : Nat :=
  let b := s.quoteBody sub
  leNat b + Config.rsaSign b % 2 ^ 3072 * 2 ^ 4096 + Config.slhSign b % 2 ^ 285312 * 2 ^ 7168

/-- Bytes 0 to 511 of the unit certificate (R405). -/
def certBody : List Byte :=
  ascii ['O', 'Z', 'U', 'C', 'E', 'R', 'T', '1'] ++ natLe 16 Config.unitSerial.toNat ++ natLe 2 0x6400
    ++ natLe 1 (Config.certKey % 4) ++ List.replicate 5 0 ++ natLe 384 Config.unitModulus ++ natLe 48 Config.unitSlhKey
    ++ List.replicate 48 0

/-- The unit certificate of 17,120 bytes as one number. -/
def unitCert : Nat :=
  leNat certBody + Config.vendorRsaSign (Config.certKey % 4) certBody % 2 ^ 3072 * 2 ^ 4096
    + Config.vendorSlhSign (Config.certKey % 4) certBody % 2 ^ 129792 * 2 ^ 7168

/-! ### Commands -/

/-- FW_LOADING_TIMEOUT (R396): LOADING has lasted 60 s. -/
def execFwLoadingTimeout (s : State) : Res :=
  .next (if s.fw.phase = 3 ∧ s.fw.loadAt + 60 * sec ≤ s.now then s.abandon else s)

/-- FW_READY (R398). -/
def execFwReady (s : State) : Res := .next (if s.fw.phase = 3 then s.fwIsReady else s)

/-- HANDOVER (R398): never inside a mode change; a fallback that waits comes first. -/
def execHandover (s : State) : Res :=
  .next (
    if s.mode.changing then s
    else match s.fw.fallDue with
      | some k => s.fallBackNow k
      | none => if s.fw.phase = 4 then s.handOver else s)

/-- FW_SELFTEST_RESULT (R399, R401). -/
def execFwSelftestResult (passed : Bool) (s : State) : Res :=
  .next (if s.fw.phase ≠ 5 then s else if passed then s.modFw (fun x => { x with selftest := true }) else s.fallBack 2)

/-- FW_TRIAL_EXPIRY (R401). -/
def execFwTrialExpiry (s : State) : Res := .next (if s.trialOver then s.fallBack 1 else s)

/-- FW_WATCHDOG_TIMEOUT (R401): 1 s without the new cluster's answer. -/
def execFwWatchdogTimeout (s : State) : Res := .next (s.fallBack 3)

/-- ATTEST_QUOTE_DONE (R407). -/
def execAttestQuoteDone (sub : Nat) (s : State) : Res :=
  .next (if s.fw.signing.contains sub
    then s.modFw (fun x => { x with signing := x.signing.filter (· != sub), quotes := Tbl.put x.quotes sub (s.quote sub) }) else s)

end Sys2Proof.Machine
end

