-- ==== Sys2Proof/Machine/Faults.lean ====
section
/-! DEFINITION. The fault collector (spec 14, R355 to R363): records, latching, escalation, events, checkstop, and
FAULT_REPORT. -/

namespace Sys2Proof.Machine

/-! ### Records (R357) -/

/-- The record the collector makes of a fault it handles now. -/
def State.makeRec (s : State) (f : FaultReport) (esc : Bool) : FaultRec :=
  { ft := if s.island 14 then s.ftNs else 0
    code := f.code, cls := f.cls, esc := esc, tile := f.tile, unit := f.unit, fn := f.fn, ctx := f.ctx
    mode := s.mode.mode.code, info := f.info, seq := s.faults.seq }

/-- The 32 bytes of a record. -/
def FaultRec.word (r : FaultRec) : Nat :=
  pack [(0, 64, r.ft), (64, 16, r.code), (80, 3, r.cls), (83, 1, b2n r.esc), (88, 4, r.tile), (96, 8, r.unit),
    (104, 8, r.fn.getD 0), (112, 20, r.ctx.getD 0), (132, 1, b2n r.fn.isSome), (133, 1, b2n r.ctx.isSome), (136, 4, r.mode),
    (144, 32, r.info), (192, 64, r.seq)]

def State.classRec (s : State) (c : Nat) : ClassRec := s.faults.classes.getD c {}
def State.modClass (s : State) (c : Nat) (g : ClassRec → ClassRec) : State :=
  { s with faults := { s.faults with classes := s.faults.classes.set c (g (s.classRec c)) } }

/-! ### Checkstop (R363) -/

/-- Firmware writes a class record to the flash fault log, while the store takes log records (R363, R382). -/
def State.logClassRec (s : State) (r : FaultRec) : State :=
  if 2 ≤ s.store.st ∨ 8388608 < s.staged + 32 then
    { s with faults := { s.faults with logLost := satAdd 32 s.faults.logLost 1 } }
  else (s.stage (.log r)).storeCount 2 32

/-- The clocks of the port tiles, the endpoint tiles and the time unit stop: lanes off, host links leave L0, a mode
change in progress is abandoned; firmware writes the class records to the flash fault log. A host port that leaves L0 so gets no
treatment of R36, since R363 keeps the device frozen: no function is reset, no 0x0250 is recorded and HOST_LINK_DOWNS stays
(DESIGN CHOICE, log entry 107). -/
def State.checkstop (s : State) : State :=
  let s := (s.faults.classes.filterMap (·.record)).foldl State.logClassRec s
  { s with
    links := s.links.map (fun e => (e.1, { e.2 with stage := 0, rx := none }))
    hosts := s.hosts.map (fun e => (e.1, { e.2 with train := .detect, rate := 0, width := 0, flit := false }))
    mode := { s.mode with changing := false, target := s.mode.mode, quiesced := false, react := [] }
    faults := { s.faults with
      checkstop := true, stopSeq := some (((s.classRec fatalDevice).record.map (·.seq)).getD 0) } }

/-! ### Handling a fault (R358 to R361) -/

/-- The escalated report of a fault that met a LATCHED record (R359). -/
def escalated (f : FaultReport) : FaultReport :=
  { f with code := 0x0910, cls := f.cls + 1, info := pack [(0, 16, f.code), (16, 3, f.cls)] }

/-- FAULT events of a record (R362). -/
def State.faultEvents (s : State) (r : FaultRec) : State :=
  if s.faults.checkstop then s
  else
    ((s.fns.filter (fun e => e.2.state == 1 && (r.fn == some e.1 || bitAt (s.cfg 0x9011 e.1) r.cls))).map (·.1)).foldl
      (fun s f => s.postAsync f { type := evFault, info := pack [(0, 8, r.cls), (8, 16, r.code)] }) s

/-- Step 3 of R358: the record goes to the fault queue of 4,096 and to the recent log, or is lost from the log. -/
def State.logRec (s : State) (r : FaultRec) : State :=
  let recent := (r :: s.faults.recent).take 64
  if s.faults.queue.length < 4096 then
    { s with faults := { s.faults with queue := s.faults.queue ++ [r], recent := recent } }
  else { s with faults := { s.faults with logLost := satAdd 32 s.faults.logLost 1 } }

/-- Handle one fault: count, latch or overflow, log, auto-acknowledge, tell functions (not of the fault that causes a
checkstop, R362), react; a FATAL_DEVICE record that names the new cluster during a trial falls back first (R401). -/
def State.handleOne (s : State) (f : FaultReport) (esc : Bool) : State :=
  let r := s.makeRec f esc
  let c := f.cls
  let old := s.classRec c
  let room := decide (s.faults.queue.length < 4096)
  let latches := old.st == .empty
  let stops := old.st == .latched && c == fatalDevice
  let s := { s with faults := { s.faults with seq := s.faults.seq + 1 } }
  let s := s.modClass c (fun x => { x with
    count := satAdd 32 x.count 1, overflow := x.overflow || !latches
    record := if latches then some r else x.record
    st := if latches then (if room && bitAt (s.cfg 0x9001 4) c then .acked else .latched) else x.st })
  let s := (s.logRec r).perf 13 0x703 0x3F none 1
  let s := if stops then s else s.faultEvents r
  let s := if c == fatalDevice && f.tile == 13 && f.unit == b2n s.fw.onB then s.fallBack 3 else s
  if latches && c == fatalDevice then s.react (f.code / 256) else s

/-- During a checkstop only the count and the log are kept (R363). -/
def State.tallyOnly (s : State) (f : FaultReport) (esc : Bool) : State :=
  let s' := { s with faults := { s.faults with seq := s.faults.seq + 1 } }
  (s'.modClass f.cls (fun x => { x with count := satAdd 32 x.count 1 })).logRec (s.makeRec f esc)

/-- Collect one fault, direct or escalated: the state after it, and the escalated report that it raises (R359). -/
def State.collect (s : State) (f : FaultReport) (esc : Bool) : State × List FaultReport :=
  if s.faults.checkstop then (s.tallyOnly f esc, [])
  else if (s.classRec f.cls).st != .latched then (s.handleOne f esc, [])
  else if f.cls = fatalDevice then ((s.handleOne f esc).checkstop, [])
  else (s.handleOne f esc, [escalated f])

/-- Collect faults one after another: the state after them, and the escalated reports they raise. -/
def State.collectAll (s : State) (esc : Bool) : List FaultReport → State × List FaultReport
  | [] => (s, [])
  | f :: r =>
    let x := s.collect f esc
    let y := x.1.collectAll esc r
    (y.1, x.2 ++ y.2)

/-- Put a fault behind those of its class that come before it in TILE order and then by UNIT (R361). -/
def insertFault (f : FaultReport) : List FaultReport → List FaultReport
  | [] => [f]
  | g :: r => if 256 * f.tile + f.unit ≤ 256 * g.tile + g.unit then f :: g :: r else g :: insertFault f r

/-- The faults of one class in the order of R361. -/
def classFaults (c : Nat) (l : List FaultReport) : List FaultReport := (l.filter (fun f => f.cls == c)).foldr insertFault []

/-- Collect one class of a cycle (R361): its direct faults, then the records escalated into it. -/
def State.collectClass (s : State) (c : Nat) (direct raised : List FaultReport) : State × List FaultReport :=
  let x := s.collectAll false (classFaults c direct)
  let y := x.1.collectAll true raised
  (y.1, x.2 ++ y.2)

/-- Collect the faults of one cycle, from class `c` up, `n` classes (R361). -/
def State.collectFrom : Nat → Nat → State → List FaultReport → List FaultReport → State
  | 0, _, s, _, _ => s
  | n + 1, c, s, direct, raised =>
    let x := s.collectClass c direct raised
    State.collectFrom n (c + 1) x.1 direct x.2

/-- One cycle of the collector (R361): every fault that has reached it. -/
def State.collectCycle (s : State) (ext : List FaultReport) : State :=
  State.collectFrom 5 0 { s with faults := { s.faults with coming := [] } } (s.faults.coming ++ ext) []

/-- The class that each chapter's table gives its fault codes, from the first code of a row to its last (R355). A code of an
escalated record, or one that no table gives a record, has none. -/
def faultRows : List (Nat × Nat × Nat) :=
  [(0x0110, 0x0110, corrected), (0x0120, 0x0120, deferred), (0x0130, 0x0130, deferred),
   (0x0210, 0x0210, corrected), (0x0220, 0x0220, deferred), (0x0221, 0x0221, fatalDevice), (0x0230, 0x0230, corrected),
   (0x0240, 0x0240, deferred), (0x0250, 0x0250, fatalPort), (0x0260, 0x0260, corrected), (0x0270, 0x0270, deferred)]
  ++ [(0x0310, 0x0310, deferred), (0x0320, 0x0320, deferred), (0x0330, 0x0330, deferred), (0x0340, 0x0340, deferred),
   (0x0412, 0x0418, deferred), (0x0420, 0x0420, fatalPort), (0x0430, 0x0430, deferred), (0x0440, 0x0440, deferred),
   (0x0450, 0x0450, deferred), (0x0460, 0x0460, fatalPort), (0x0470, 0x0470, corrected)]
  ++ [(0x0510, 0x0510, deferred), (0x0520, 0x0520, deferred), (0x0530, 0x0530, corrected), (0x0540, 0x0540, corrected),
   (0x0550, 0x0550, corrected), (0x0610, 0x0610, corrected), (0x0620, 0x0620, corrected), (0x0630, 0x0630, corrected)]
  ++ [(0x0710, 0x0710, deferred), (0x0720, 0x0720, deferred), (0x0730, 0x0730, deferred), (0x0740, 0x0740, deferred),
   (0x0750, 0x0750, deferred), (0x0761, 0x0762, deferred)]
  ++ [(0x0810, 0x0810, deferred), (0x0820, 0x0820, deferred), (0x0830, 0x0830, deferred), (0x0840, 0x0840, deferred),
   (0x0850, 0x0850, deferred), (0x0860, 0x0860, corrected), (0x0870, 0x0870, corrected), (0x0880, 0x0880, deferred),
   (0x0890, 0x0890, deferred), (0x0920, 0x0920, deferred)]
  ++ [(0x0A10, 0x0A10, deferred), (0x0A20, 0x0A20, deferred), (0x0A30, 0x0A30, corrected), (0x0A40, 0x0A40, deferred),
   (0x0A50, 0x0A50, deferred), (0x0B10, 0x0B10, deferred), (0x0B20, 0x0B20, corrected), (0x0B30, 0x0B31, deferred),
   (0x0B40, 0x0B40, corrected), (0x0B41, 0x0B41, deferred), (0x0B50, 0x0B50, corrected), (0x0B60, 0x0B60, fatalDevice)]
  ++ [(0x0C11, 0x0C1A, deferred), (0x0C20, 0x0C20, deferred), (0x0C30, 0x0C30, deferred), (0x0C40, 0x0C40, corrected),
   (0x0C51, 0x0C55, deferred), (0x0C60, 0x0C60, corrected), (0x0D10, 0x0D10, deferred), (0x0D20, 0x0D20, corrected),
   (0x0D30, 0x0D30, deferred), (0x0D40, 0x0D40, corrected), (0x0D50, 0x0D50, deferred)]

/-- The class of a fault code. -/
def faultClass (code : Nat) : Option Nat :=
  (faultRows.find? (fun e => decide (e.1 ≤ code ∧ code ≤ e.2.1))).map (fun e => e.2.2)

end Sys2Proof.Machine
end

