-- ==== Sys2Proof/Machine/Power.lean ====
section
/-! DEFINITION. The input supervisor (spec 13, R340 to R352; 17, R421): seating, the ramp, trips and the latch, the
power-fail flush, RESET_N, temperature, and their commands. -/

namespace Sys2Proof.Machine

def State.modSup (s : State) (g : Supervisor → Supervisor) : State := { s with sup := g s.sup }

/-! ### Loss of volatile state -/

/-- Every island is reset: what flash, fuses, straps and the supervisor hold stays, and what the sender still has
waiting; `staged` keeps the staging buffer. -/
def State.islandsOff (s : State) (staged : Bool) : State :=
  { State.reset with
    pending := s.pending, now := s.now, etNow := s.etNow, free := s.free, nextTag := s.nextTag, nextTicket := s.nextTicket
    hosts := s.hosts.map (fun e => (e.1, { perst := e.2.perst, noFlitRecorded := staged && e.2.noFlitRecorded : HostPort }))
    dict := { journal := s.dict.journal, journal2 := s.dict.journal2, straps := s.dict.straps, mgmtLink := s.dict.mgmtLink, mdix := s.dict.mdix }
    sup := s.sup
    faults := { stopSeq := s.faults.stopSeq }
    store := { s.store with
      staging := if staged then s.store.staging else [], reads := [], counts := List.replicate 16 0
      replayed := false, discarded := false, scrubbing := false, scrubbed := [], scrubBehind := false }
    fw := { s.fw with
      onB := false, other := .idle, phase := 0, selftest := false, upSlot := none, upOff := 0, trialAt := none, fallDue := none
      meas := List.replicate 5 0, nonce := [], quotes := [], signing := [] }
    out := s.out }

/-- BOOT begins (R333, R390): MT, ST, the time unit and the endpoint tiles' PCIe controllers run. -/
def State.enterBoot (s : State) : State :=
  { s with
    mode := { mode := .boot, target := .boot, cause := 0 }
    arch := { s.arch with islands := modeIslands .boot }
    dict := { s.dict with smbAddr := s.dict.straps }
    hosts := (List.range 4).map (fun h => (h, { s.hostPort h with train := if (s.hostPort h).perst then .detect else .training })) }

/-! ### The switch -/

/-- The conditions of R341: the ramp starts. -/
def State.tryRamp (s : State) : State :=
  let x := s.sup
  if x.powered && x.debounced && !x.latched && !x.seatA && !x.seatB && decide (40000 ≤ x.mv) && decide (x.mv ≤ 60000)
      && !x.switch && x.flushAt.isNone then
    (s.modSup (fun x => { x with switch := true, ramping := true })).pwrCount 1
  else s

/-- PWR_WARN_N falls (R348): an event to queue 0 of every present function, unless a checkstop has stopped the tiles. -/
def State.warn (s : State) : State :=
  if s.sup.pwrWarn then s
  else
    let mv := s.sup.mv % 2 ^ 32
    let s := (s.modSup (fun x => { x with pwrWarn := true, okAt := none })).pwrCount 5
    if s.faults.checkstop then s else
    ((s.fns.filter (fun e => e.2.state == 1)).map (·.1)).foldl (fun s f => s.postAsync f { type := evPwrWarn, info := mv }) s

/-- Loads are shed within 20 µs (R349): host links out of L0 (R36), locks of fabric time gone with their ports (R169), port
and endpoint tiles in reset. -/
def State.shed (s : State) : State :=
  let s := (List.range 4).foldl (fun s h => if (s.hostPort h).train = .l0 then s.hostDown h else s) s
  let s := (List.range 64).foldl (fun s p => s.timeUnlock p) s
  { s with
    arch := { s.arch.lose (fun k => decide (k < 12)) with islands := s.arch.islands &&& 0x7000 }
    links := s.links.map (fun e => (e.1, { e.2 with stage := 0, rx := none }))
    hosts := s.hosts.map (fun e => (e.1, { e.2 with train := .detect, rate := 0, width := 0 })) }

/-- The switch opens in SEAT: no flush runs, and the rails go with the bus (R348, R349). -/
def State.seatOff (s : State) : State :=
  let s := if s.sup.rampDone then s.warn else s
  (s.modSup (fun x => { x with
    switch := false, ramping := false, warnHeld := x.warnHeld || x.rampDone, rampDone := false, converters := false
    convAt := [], powerGood := false, rails := 0 })).islandsOff false

/-- The power-fail flush starts (R349), in any mode but SEAT; one running goes on. An image that no BOOT has
replayed stays in the flush area: staging is empty then. -/
def State.startFlush (s : State) : State :=
  if s.sup.flushAt.isSome then s
  else if s.inMode .seat then s.seatOff
  else
    let s := (s.warn.modSup (fun x => { x with
      switch := false, ramping := false, warnHeld := true, rampDone := false, flushAt := some s.now, flushOk := false
      bootFaults := x.bootFaults ++ [0x0880] })).pwrCount 6
    ({ s with store := { s.store with flush := some (s.store.flush.getD (s.store.staging, false)) } }).shed

/-- Code of a latch cause (R354), by its bit. -/
def tripCode (k : Nat) : Nat := [0x0820, 0x0830, 0x0810, 0x0840, 0x0850].getD k 0

/-- A seat pin has been high for 10 ms (R346). -/
def State.highLong (s : State) (t : Option Nat) : Bool :=
  match t with
  | some a => decide (a + 10 * ms ≤ s.now)
  | none => false

/-- A high seat pin for 10 ms has cleared the latch (R346). -/
def State.seatClears (s : State) : State :=
  if s.highLong s.sup.seatHighA || s.highLong s.sup.seatHighB then s.modSup (fun x => { x with latched := false }) else s

/-- Open the switch and set the latch (R345): each cause is recorded once, FIRST keeps the first, of causes found in one 1 µs
cycle (R340) the first in table order. -/
def State.trip (s : State) (k : Nat) : State :=
  if !s.sup.powered then s
  else
    (s.seatClears.modSup (fun x => { x with
      causes := if x.latched then x.causes ||| (1#5 <<< k) else 1#5 <<< k
      first := if x.latched then (if x.latchAt / us = s.now / us then min x.first (k + 1) else x.first) else k + 1
      latchAt := if x.latched then x.latchAt else s.now, latched := true
      latches := if x.latched then x.latches else satAdd 16 x.latches 1
      timerAt := none
      bootFaults := if x.latched && x.causes.getLsbD k then x.bootFaults else x.bootFaults ++ [tripCode k]
      debounced := false })).startFlush

/-- The flush area once a flush has ended: what staging held, with its closing record, or the image that waits. -/
def Store.flushed (x : Store) : Option (List StageItem × Bool) :=
  match x.flush with
  | some (i, b) => if x.staging = [] ∧ i ≠ [] then some (i, b) else some (x.staging, true)
  | none => some (x.staging, true)

/-- A pin has been high for two samples of the supervisor, 1 µs apart (R422). -/
def State.highTwice (s : State) (t : Option Nat) : Bool :=
  match t with
  | some a => decide (a + us ≤ s.now)
  | none => false

/-- A seat pin's second high sample opens a closed switch, and the flush starts (R349, R422). -/
def State.seatTrip (s : State) : State :=
  if s.sup.switch && (s.highTwice s.sup.seatHighA || s.highTwice s.sup.seatHighB) then s.startFlush else s

/-- Converters off: every island loses power, and the device is in SEAT. -/
def State.railsOff (s : State) : State :=
  (s.modSup (fun x => { x with
    converters := false, convAt := [], powerGood := false, rails := 0, rampDone := false, flushAt := none, timerAt := none
    debounced := false, seatLowAt := if x.seatA || x.seatB then none else some s.now })).islandsOff false

/-! ### Commands -/

/-- SUPERVISOR_POWER_ON (R340): the input has risen above 20 V. -/
def execSupervisorPowerOn (s : State) : Res :=
  .next (
    if s.sup.powered then s
    else s.modSup (fun x => { seatA := x.seatA, seatB := x.seatB, resetAt := x.resetAt, bootFaults := x.bootFaults, powered := true
                              flushAt := x.flushAt, converters := x.converters, convAt := x.convAt, rails := x.rails, warnHeld := x.warnHeld
                              seatLowAt := if x.seatA || x.seatB then none else some s.now }))

/-- SUPERVISOR_POWER_LOSS (R340): below 20 V the supervisor loses all its state, and the device its power. A flush that runs goes
on with the bus's energy (R350) until FLUSH_COMPLETE; where the supervisor has no power already, the bus too is gone, and the
flush stays incomplete (DESIGN CHOICE, log entry 161). The flush mark in flash still tells of each power-fail (R351). -/
def execSupervisorPowerLoss (s : State) : Res :=
  .next (
    let fresh (x : Supervisor) : Supervisor := {
      seatA := x.seatA, seatB := x.seatB, resetAt := x.resetAt, bootFaults := x.bootFaults.filter (fun c => c == 0x0880) }
    if s.sup.powered && s.sup.flushAt.isSome then
      s.modSup (fun x => { fresh x with flushAt := x.flushAt, converters := x.converters, convAt := x.convAt, rails := x.rails, warnHeld := true })
    else (s.modSup fresh).islandsOff false)

/-- SEAT_PIN_CHANGE (R341, R422): a sample finds a pin changed; a high one restarts the debounce, and the second high sample
opens the switch (State.seatTrip). -/
def execSeatPinChange (pin : Nat) (level : Bool) (s : State) : Res :=
  .next (
    if level then
      s.modSup (fun x => if pin = 0 then { x with
          seatA := true, seatHighA := some (x.seatHighA.getD s.now), debounced := false, seatLowAt := none }
        else { x with seatB := true, seatHighB := some (x.seatHighB.getD s.now), debounced := false, seatLowAt := none })
    else
      let s := s.seatClears.modSup (fun x => if pin = 0 then { x with seatA := false, seatHighA := none } else { x with seatB := false, seatHighB := none })
      if s.sup.seatA || s.sup.seatB then s else s.modSup (fun x => { x with seatLowAt := some (x.seatLowAt.getD s.now) }))

/-- SEAT_DEBOUNCE_END (R341): both pins low for 100 ms without a break. -/
def execSeatDebounceEnd (s : State) : Res :=
  .next (
    match s.sup.seatLowAt with
    | some t =>
      if s.sup.powered ∧ !s.sup.debounced ∧ t + 100 * ms ≤ s.now then
        ((s.modSup (fun x => { x with debounced := true })).pwrCount 0).tryRamp
      else s
    | none => s)

/-- When the three converters start (R343): the first at once, each other within 1 ms of the one before. -/
def State.starts (s : State) : List Nat :=
  let d := s.nextFree.freeVal 40
  let a := s.now + d % 2 ^ 20 % (ms + 1)
  [s.now, a, a + d / 2 ^ 20 % (ms + 1)]

/-- Readings of the rails within ±3 % of 0.9 V, 1.2 V and 1.8 V in mV (R343, R353), from a free value. -/
def railsGood (w : Nat) : Nat :=
  pack [(0, 16, 873 + w % 2 ^ 16 % 55), (16, 16, 1164 + w / 2 ^ 16 % 2 ^ 16 % 73), (32, 16, 1746 + w / 2 ^ 32 % 109)]

/-- RAMP_COMPLETE (R342, R343): the converters start in their order. -/
def execRampComplete (s : State) : Res :=
  .next (if s.sup.ramping
    then (s.modSup (fun x => { x with
      ramping := false, rampDone := true, converters := true, convAt := s.starts, rails := s.freeVal 48 })).nextFree.nextFree
    else s)

/-- POWER_GOOD_ASSERT (R343): every rail lies in its window. Not before all three converters have started, nor while the fault
timer runs; BOOT begins unless RESET_N is low. -/
def execPowerGoodAssert (s : State) : Res :=
  .next (
    if s.sup.rampDone && s.sup.converters && s.sup.convAt.all (fun t => decide (t ≤ s.now)) && s.sup.timerAt.isNone && !s.sup.powerGood then
      let s := (s.modSup (fun x => { x with powerGood := true, warnHeld := false, pwrWarn := x.sag, rails := railsGood (s.freeVal 48) })).nextFree
      if s.sup.resetAt.isSome then s else s.enterBoot
    else s)

/-- FAULT_TIMER_START (R344): the first limiting cycle. -/
def execFaultTimerStart (s : State) : Res :=
  .next (if s.sup.switch ∧ s.sup.timerAt = none
    then (s.modSup (fun x => { x with timerAt := some s.now, timerLimit := x.faultTimer * ms })).pwrCount 2 else s)

/-- FAULT_TIMER_END (R344): 100 µs without a limiting cycle; one CURRENT_LIMIT event. -/
def execFaultTimerEnd (s : State) : Res :=
  .next (
    if s.sup.timerAt = none then s
    else
      let s := s.modSup (fun x => { x with timerAt := none })
      if s.inMode .seat || s.inMode .boot then s.modSup (fun x => { x with bootFaults := x.bootFaults ++ [0x0870] })
      else s.report { code := 0x0870, cls := corrected, tile := 15 })

/-- BREAKER (R344, R345): the count of limiting cycles, which the switch keeps, has reached the value the timer started with, for
which at least that time has passed (DESIGN CHOICE, log entry 103). -/
def execBreaker (s : State) : Res :=
  .next (match s.sup.timerAt with
    | some t => if t + s.sup.timerLimit ≤ s.now then (s.pwrCount 3).trip 2 else s
    | none => s)

/-- FAST_TRIP (R345). -/
def execFastTrip (s : State) : Res := .next (if s.sup.powered then (s.pwrCount 4).trip 0 else s)

/-- OVERVOLTAGE (R345). -/
def execOvervoltage (s : State) : Res := .next (s.trip 1)

/-- RAIL_FAULT (R345): after POWER_GOOD. -/
def execRailFault (s : State) : Res := .next (if s.sup.powerGood then s.trip 3 else s)

/-- THERMAL_TRIP (R352): the comparator of any island. -/
def execThermalTrip (island : Nat) (s : State) : Res := .next (if island < 15 then s.trip 4 else s)

/-- RESET_N_ASSERT (R421): while the latch is clear every island is held in reset; during a flush only after it. -/
def execResetNAssert (s : State) : Res :=
  .next (
    let s := s.modSup (fun x => { x with resetAt := some (x.resetAt.getD s.now) })
    if s.sup.latched || s.sup.flushAt.isSome then s else s.islandsOff true)

/-- RESET_N_RELEASE (R346, R421): under 1 µs nothing; from 10 ms the latch clears and the ramp may start; with
POWER_GOOD high the device enters BOOT. -/
def execResetNRelease (s : State) : Res :=
  .next (
    match s.sup.resetAt with
    | none => s
    | some t =>
      let long := decide (t + 10 * ms ≤ s.now)
      let was := s.sup.latched
      let s := s.modSup (fun x => { x with
        resetAt := none, latched := x.latched && !long
        debounced := x.debounced || (x.latched && long && !x.seatA && !x.seatB) })
      if was then (if long then s.tryRamp else s)
      else if s.sup.powerGood && s.sup.flushAt.isNone then s.enterBoot else s)

/-- INPUT_SAMPLE (R347, R348): every 10 µs. -/
def execInputSample (mv ma : Nat) (s : State) : Res :=
  .next (
    if !s.sup.powered then s
    else
      let s := s.modSup (fun x => { x with
        sag := decide (mv < 42000) || x.sag, mv := mv % 2 ^ 32, ma := ma % 2 ^ 32, mw := mv * ma / 1000 % 2 ^ 32, energy := x.energy + mv * ma
        okAt := if mv < 43000 then none else some (x.okAt.getD s.now) })
      let s := if mv < 42000 then s.warn else s
      let s := match s.sup.okAt with
        | some t => if t + ms ≤ s.now then s.modSup (fun x => { x with sag := false, pwrWarn := x.warnHeld }) else s
        | none => s
      s.tryRamp)

/-- INPUT_UNDERVOLTAGE (R349): the comparator has seen the input below 38.0 V. -/
def execInputUndervoltage (s : State) : Res := .next (if s.inMode .seat then s else s.startFlush)

/-- FLUSH_COMPLETE (R349): the image and its closing record are written; the rails turn off. -/
def execFlushComplete (s : State) : Res :=
  .next (
    match s.sup.flushAt with
    | some _ =>
      let s := { s with store := { s.store with flush := s.store.flushed } }
      (s.modSup (fun x => { x with flushOk := true })).railsOff
    | none => s)

/-- TEMP_READ (R352): every 1 ms. -/
def execTempRead (temps : List Int) (s : State) : Res :=
  .next (
    let lim : Int := (s.cfg 0x8020 2 : Nat) * 1000
    let s := s.modSup (fun x => { x with temps := temps })
    if temps.any (fun t => lim ≤ t) then
      let again := s.sup.warnRec
      let s := s.modSup (fun x => { x with warnRec := true, coolAt := none })
      if again then s else s.report { code := 0x0860, cls := corrected, tile := 15 }
    else if temps.all (fun t => t ≤ lim - 5000) then
      match s.sup.coolAt with
      | some t => if t + sec ≤ s.now then s.modSup (fun x => { x with warnRec := false }) else s
      | none => s.modSup (fun x => { x with coolAt := some s.now })
    else s.modSup (fun x => { x with coolAt := none }))

end Sys2Proof.Machine
end

