-- ==== Sys2Proof/Machine/Reads.lean ====
section
/-! DEFINITION. How host reads end, by what each was for (R35), table walks (R67, R68, R72 to R75), and invalidations
(R82 to R85), with their commands. -/

namespace Sys2Proof.Machine

/-! ### Work entries (R48, R54, R195) -/

/-- Entries a fetch has brought, in index order. -/
def fetchedEntries (first : U32) (n : Nat) (data : List Byte) : List Entry :=
  (List.range n).map (fun i =>
    ({ idx := first + BitVec.ofNat 32 i, words := BitVec.ofNat 512 (leNat ((data.drop (64 * i)).take 64)) } : Entry))

/-- What an entry's own words or a closing context make of it as it arrives. -/
def Entry.arrive (e : Entry) (closing : Bool) : Entry :=
  if closing then e.finish stLost else if badEntry e.words.toNat then e.finish stMalformed else e

/-- An entry read has ended: failed entries are MALFORMED and the queue continues (R35). -/
def State.fetchDone (s : State) (f c : Nat) (first : U32) (n : Nat) (r : HostRead) (res : ReadResult) : State :=
  let y := s.ctx f c
  if y.c.state = 0 then s
  else
    let es := match res with
      | .ok data => (fetchedEntries first n data).map (fun e => e.arrive (y.c.state == 2))
      | .failed => (fetchedEntries first n []).map (fun e => e.finish (if y.c.state = 2 then stLost else stMalformed))
    let s := match res with
      | .ok _ => s
      | .failed => if r.fault.isSome then s else s.fnFault 0x0240 deferred f (some c)
    (s.modCtx f c (fun y => { y with
      c := { y.c with fetch := y.c.fetch + BitVec.ofNat 32 n }
      w := { y.w with entries := y.w.entries ++ es, fetching := false } })).startFetch f c

/-! ### Payloads, rereads, pulls, overflow blocks -/

/-- A DEFERRED record for a read that failed on the link; a translation fault raises none of its own (R35, R76). -/
def State.readRecord (s : State) (f c : Nat) (r : HostRead) : State :=
  if r.fault.isSome then s else s.fnFault 0x0240 deferred f (some c)

/-- The payload of a packet's first transmission is here, or its read failed (R35, R204). -/
def State.payloadRead (s : State) (f c : Nat) (idx : U32) (off : Nat) (r : HostRead) (res : ReadResult) : State :=
  match s.entry? f c idx with
  | none => s
  | some e =>
    if (s.ctx f c).w.cur.any (fun t => t.idx == idx && t.off == off) then
      match res with
      | .ok data => s.modW f c (fun w => { w with cur := w.cur.map (fun t => { t with data := some (data.take t.len) }) })
      | .failed => (s.readRecord f c r).entryXlate f c e
    else s

/-- A retransmission's reread has ended (R206). -/
def State.rereadDone (s : State) (f c : Nat) (psn : U32) (r : HostRead) (res : ReadResult) : State :=
  match (s.ctx f c).w.replay.find? (fun q => q.psn = psn) with
  | none => s.resends f c
  | some q =>
    match res with
    | .ok data => s.resendReady f c psn (data.take (((s.rereadAt f c q).map (·.2)).getD q.len))
    | .failed => (s.readRecord f c r).endContext f c (some q.idx) stXlate

/-- The read for a PULL has ended (R230). -/
def State.pullRead (s : State) (f c msn psn off len : Nat) (r : HostRead) (res : ReadResult) : State :=
  match res with
  | .ok data => s.pullResp f c (BitVec.ofNat 32 psn) msn off len stOk (data.take len)
  | .failed =>
    let s := (s.readRecord f c r).pullResp f c (BitVec.ofNat 32 psn) msn off len stXlate []
    match s.rndv? f c msn with
    | some v => s.modEntry f c v.idx (fun e => e.fail stXlate)
    | none => s

/-- A block of the overflow region has been read back: its bytes go to the receive buffer, the block is free (R241). -/
def State.overflowRead (s : State) (f c msn off blk : Nat) (r : HostRead) (res : ReadResult) : State :=
  let s := s.modFn f (fun x => { x with overBlocks := x.overBlocks.filter (· != blk) })
  match s.msg? f c msn with
  | none => s
  | some m =>
    let s := s.modMsg f c msn (fun m => { m with reading := m.reading - 1 })
    match res, m.recv with
    | .ok data, some v =>
      let n := min (min data.length (min 4096 (m.mlen - off))) (v.len - off)
      let s := if m.status = 0 ∧ n ≠ 0 then
          ((s.traceWrite f v m.written).modMsg f c msn (fun m => { m with written := m.written + n })).put f (v.addr + off) (data.take n) (.recvBuf v.ctx v.idx) (some { ctx := c, msn := msn })
        else s
      s.tryEnd f c msn
    | .failed, _ =>
      ((s.readRecord f c r).modMsg f c msn (fun m => { m with status := if m.status = 0 then stXlate else m.status })).tryEnd f c msn
    | _, _ => s

/-! ### Spilled contexts (R198, R199) -/

/-- The matching state a spill record carries (R225). -/
def matchOfRecord (old : CtxMatch) (data : List Byte) : CtxMatch :=
  { old with
    txMsn := BitVec.ofNat 32 (leNat ((data.drop 128).take 4)), rxMsn := BitVec.ofNat 32 (leNat ((data.drop 132).take 4)),
    inorder := bitAt (leNat ((data.drop 136).take 1)) 0, rnrRounds := leNat ((data.drop 137).take 1) }

/-- A context is lost for a fault of its spill record. -/
def State.fillLost (s : State) (f c : Nat) (code : Option Nat) : State :=
  let s := match code with
    | some k => s.fnFault k deferred f (some c)
    | none => s
  ((s.modCtx f c (fun y => { y with filling := false })).loseContext f c).startFetch f c

/-- The record a fill installs: what the tile itself moved while the context was away stands — its state, doorbell, head
and fetch indices, and the credit of slots it freed. -/
def ctxFilled (old : Ctx) (v : Nat) : Ctx :=
  { ctxOfRecord old v with
    state := old.state, sqDb := old.sqDb, head := old.head, fetch := old.fetch, rxLimit := old.rxLimit }

/-- A spill record has been read: it is checked and installed in a slot; with no slot to be had the work waits. -/
def State.fillDone (s : State) (f c : Nat) (r : HostRead) (res : ReadResult) : State :=
  if (s.ctx f c).c.state = 0 ∨ (s.ctx f c).resident then s
  else
    match res with
    | .failed => s.fillLost f c (if r.fault.isSome then none else some 0x0510)
    | .ok data =>
      if leNat ((data.drop 248).take 4) ≠ spillCheck f c (data.take 248) then s.fillLost f c (some 0x0520)
      else
        match s.makeRoom f with
        | none => s.modCtx f c (fun y => { y with filling := false })
        | some s =>
          ((s.modCtx f c (fun y => { y with
            c := ctxFilled y.c (leNat (data.take 64)), m := matchOfRecord y.m data, resident := true, refd := true,
            filling := false })).advanceHead f c).startFetch f c

/-! ### Walks (R67, R68, R72 to R75) -/

/-- The address a waiting read needs of a page. -/
def HostRead.inPage (r : HostRead) (page : Nat) : Nat :=
  (((pagePieces r.addr r.len).find? (fun p => p.1 / 4096 == page)).map (·.1)).getD r.addr

/-- The first waiting write of a function and the address it is for. -/
def State.headWrite (s : State) (f : Nat) : Option (HeldWrite × Nat) :=
  match (s.fn f).writes.head? with
  | none => none
  | some h =>
    match h.use, h.ev with
    | .bus, _ | .landing _ _, _ => none
    | .event q, some _ =>
      (s.eq? f q).map (fun e => (h, e.base + 32 * (e.producer.toNat % 2 ^ e.log2)))
    | _, _ => some (h, h.addr)

/-- A read that still waits for its translation. -/
def State.waitingRead (s : State) (tag : Nat) : Option HostRead :=
  match Tbl.get? s.reads tag with
  | some r => if r.pieces.isNone && r.fault.isNone && !r.dead then some r else none
  | none => none

/-- Contexts whose next READ or atomic waits for its landing in a page: their entries meet the fault that the walk's result
gives a write there, whatever access began the walk (R72, R269). -/
def State.landingGets (s : State) (f page : Nat) (res : Nat → AccKind → XRes) : State :=
  ((s.ctxs.filter (fun e => e.1 / 2 ^ 20 == f)).map (fun e => e.1 % 2 ^ 20)).foldl (fun s c =>
    match s.nextTx f c with
    | none => s
    | some e =>
      let op := wOpcode e.words.toNat
      if (op == opRead || isAtomic op) && s.mayStart f c true then
        match s.lookupAll f .write e.landing with
        | (_, some (a, .miss)) =>
          match (if a / 4096 = page then res a .write else .miss) with
          | .fault code level => s.requestFault f c e a code level
          | _ => s
        | _ => s
      else s) s

/-- A waiting read meets a walk's result for its page. -/
def State.readGets (s : State) (page : Nat) (res : Nat → AccKind → XRes) (tag : Nat) : State :=
  match s.waitingRead tag with
  | none => s
  | some r =>
    match res (r.inPage page) r.kind with
    | .fault code level => s.readFault tag r (r.inPage page) code level
    | _ => s.tryRead tag

/-- The function's first waiting write meets a walk's result for its page. -/
def State.writeGets (s : State) (f page : Nat) (res : Nat → AccKind → XRes) : State :=
  match s.headWrite f with
  | some (h, a) =>
    if a / 4096 = page then
      match res a .write with
      | .fault code level => ((s.popWrite f).writeFault f h code level a).written f h
      | _ => s
    else s
  | none => s

/-- What a finished walk gives the accesses that wait for its page: `res` says what an address and an access kind
get. A read that fails to find its page cached walks again; the function's writes go on. -/
def State.walkGives (s : State) (w : Walk) (res : Nat → AccKind → XRes) : State :=
  let s := w.waits.foldl (fun s tag => s.readGets (w.va / 4096) res tag) s
  let s := s.writeGets w.fn (w.va / 4096) res
  let s := if w.kind == .write || w.excl == s.excl (etOf w.fn) then s.landingGets w.fn (w.va / 4096) res else s
  ((s.flushWrites w.fn).releaseBlocks w.fn).endFailed w.fn

/-- A walk is over: pending invalidations that waited for it note it, and its result reaches what waited. A result
that an invalidation overlaps is dropped (R84), and what waited walks again. -/
def State.endWalk (s : State) (w : Walk) (res : Nat → AccKind → XRes) : State :=
  let s := s.modFn w.fn (fun x => { x with
    invals := x.invals.map (fun v => { v with walks := v.walks.filter (· != w.id) }) })
  (s.walkGives w (if w.stale then fun _ _ => .miss else res)).nextWalk (etOf w.fn)

/-- The 4 KiB page of a leaf that holds an address. -/
def Leaf.page (l : Leaf) (va : Nat) : Leaf :=
  { l with base := va / 4096 * 4096, log2 := 12, out := l.out + va % 2 ^ l.log2 / 4096 * 4096, whole := l.log2 }

/-- The page a faulted walk found serves the accesses merged into it while its result is handed out, and is not cached
(R72, R78). -/
def State.holdLeaf (s : State) (l : Leaf) : State := s.modEt (etOf l.fn) (fun e => { e with cache := l :: e.cache })
def State.freeLeaf (s : State) (l : Leaf) : State := s.modEt (etOf l.fn) (fun e => { e with cache := e.cache.erase l })

/-- One entry of a walk has been read (R67, R68). A result that an invalidation since its beginning overlaps is dropped
(R84). -/
def State.walkEntry (s : State) (w : Walk) (e : Nat) : State :=
  let fault (code : Nat) : State := s.endWalk w (fun _ _ => .fault code w.level)
  if !pteValid e then fault xNotValid
  else if w.level = 4 ∧ pteLeaf e then fault xFormat
  else if w.level = 1 ∨ pteLeaf e then
    let l := leafOf w.fn w.va w.level e
    if l.out % 2 ^ l.log2 ≠ 0 then fault xFormat
    else if w.stale || w.since.any (fun v => l.overlaps v.1 v.2) then s.endWalk { w with stale := true } (fun _ _ => .miss)
    else
      let res (s : State) (a : Nat) (k : AccKind) : XRes := s.leafBy w.excl w.fn a w.level k l
      match res s w.va w.kind with
      | .ok _ => (s.cacheLeaf l).endWalk w (res (s.cacheLeaf l))
      | _ => ((s.holdLeaf (l.page w.va)).endWalk w (res s)).freeLeaf (l.page w.va)
  else if s.forbiddenBy w.excl (etOf w.fn) (pteAddr e) then s.endWalk w (fun _ _ => .fault xWalkRegion (w.level - 1))
  else
    let p : WalkPtr := { fn := w.fn, base := w.va, level := w.level - 1, table := pteAddr e }
    let stale := w.stale || w.since.any (fun v => p.overlaps v.1 v.2)
    (if stale then s else s.cachePtr p).issueTable { w with level := w.level - 1, table := pteAddr e, tag := none, stale := stale }

/-- A table read has ended (R72, R73). -/
def State.tableRead (s : State) (tag : Nat) (res : ReadResult) : State :=
  match s.walks.find? (fun w => w.tag == some tag) with
  | none => s
  | some w =>
    let s := { s with walks := s.walks.erase w }
    match res with
    | .ok data => s.walkEntry w (leNat (data.take 8))
    | .failed => s.endWalk w (fun _ _ => .fault xWalkBus w.level)

/-! ### The end of a read (R35) -/

/-- An on-behalf read has ended: the master gets the bytes, or an error, with which the work it served finishes (R75). -/
def State.behalfRead (s : State) (f m : Nat) (r : HostRead) (res : ReadResult) : State :=
  match res with
  | .ok data => s.emit (.accessResp (.die m) stOk (data.take r.len))
  | .failed => (if r.fault.isSome then s else s.fnFault 0x0240 deferred f).emit (.accessResp (.die m) stXlate [])

/-- What a read's end does, by what it was for. -/
def State.readUse (s : State) (tag : Nat) (r : HostRead) (res : ReadResult) : State :=
  let f := r.fn
  match r.use with
  | .entries c first n => s.fetchDone f c first n r res
  | .payload c idx off => s.payloadRead f c idx off r res
  | .reread c psn => s.rereadDone f c psn r res
  | .pull c msn psn off len => (s.pullRead f c msn psn off len r res).ackIfDue f c
  | .target c psn => (s.targetRead f c psn r res).ackIfDue f c
  | .operand c idx => s.operandRead f c idx r res
  | .spill c => s.fillDone f c r res
  | .overflow c msn off blk => s.overflowRead f c msn off blk r res
  | .consIndex => s.consRead res r.fault.isSome
  | .table => s.tableRead tag res
  | .behalf m => s.behalfRead f m r res

/-- Walks and translated reads of a port that wait for one of its 8,192 requests, or for an atomic's word. -/
def State.retryReads (s : State) (hp : Nat) : State :=
  ((s.reads.filter (fun e => e.2.hp == hp && e.2.pieces.isNone && e.2.fault.isNone && !e.2.dead
      && !s.walks.any (fun w => w.waits.contains e.1))).map (·.1)).foldl (fun s tag => s.tryRead tag) (s.startWalks 64 hp)

/-- A host read has ended (R35): one not on the link has nothing to end; a reset function's data is discarded (R61). -/
def State.readEnded (s : State) (tag : Nat) (res : ReadResult) : State :=
  match Tbl.get? s.reads tag with
  | none => s
  | some r =>
    if r.pieces.isNone && r.fault.isNone && !r.dead then s
    else
      let s := ({ s with reads := Tbl.del s.reads tag } : State).modFn r.fn (fun x => { x with
        flrReads := x.flrReads.filter (· != tag)
        invals := x.invals.map (fun v => { v with reads := v.reads.filter (· != tag) })
        revokes := x.revokes.map (fun v => { v with reads := v.reads.filter (· != tag) }) })
      if r.dead then s.retryReads r.hp
      else (s.readUse tag r (match r.fault, r.hit with
        | some _, _ => .failed
        | none, some v => .ok (natLe 8 v)
        | none, none => res)).retryReads r.hp

/-- The first read that ends without a read on the link: a translation fault ended it (R75), or the cache holds its word
(R265). -/
def State.faultedRead (s : State) : Option Nat :=
  (s.reads.find? (fun e => e.2.fault.isSome || (e.2.hit.isSome && !e.2.dead))).map (·.1)

/-- A read of a given kind of use is outstanding under a tag. -/
def State.readIs (s : State) (tag : Nat) (is_ : ReadFor → Bool) : Bool :=
  (Tbl.get? s.reads tag).any (fun r => is_ r.use)

/-! ### Invalidations (R82 to R85) -/

/-- First and last address of a request's range, extended to whole pages. -/
def invLo (v : Nat) : Nat := if bitAt v 0 then 0 else bf v 12 36 * 2 ^ 12
def invHi (v : Nat) : Nat :=
  if bitAt v 0 then 2 ^ 64 else ((bf v 12 36 * 2 ^ 12 + bf v 64 64 + 4095) / 4096) * 4096 - 1

/-- Accept an invalidation request: entries and atomic words that overlap go, results held for landings are voided
(R269) where an entry that overlaps translated them, and what must finish before TOKEN is noted (R84). -/
def State.startInval (s : State) (f v : Nat) : State :=
  let lo := invLo v
  let hi := invHi v
  let meets (a n : Nat) : Bool := decide (a ≤ hi) && decide (lo < a + max 1 n)
  let old := ((s.et (etOf f)).cache.filter (fun l => l.fn == f && l.overlaps lo hi)).map Leaf.span
  let through (a n : Nat) : Bool := meets a n || old.any (fun v => decide (a ≤ v.2) && decide (v.1 < a + max 1 n))
  let reads := (s.reads.filter (fun e => e.2.fn == f && e.2.use != .table && e.2.pieces.isSome
    && (meets e.2.addr e.2.len || e.2.spans.any (fun v => decide (v.1 ≤ hi) && decide (lo ≤ v.2))))).map (·.1)
  let walks := (s.walks.filter (fun w => w.fn == f)).map (·.id)
  let s := (s.invalidate f lo hi).modFn f (fun x => { x with
    invLast := BitVec.ofNat 256 v
    invals := x.invals ++ [{ all := bitAt v 0, lo := lo, hi := hi, compl := bf v 128 64, token := bf v 192 32, at_ := s.now,
                             reads := reads, walks := walks }] })
  let s := s.modEt (etOf f) (fun e => { e with atoms := e.atoms.filter (fun a =>
      !(a.fn == f && (through a.va 8 || a.spans.any (fun v => decide (v.1 ≤ hi) && decide (lo ≤ v.2))))) })
  let s := s.uncache (fun r => r.fn == f && (meets r.addr 8 || r.spans.any (fun v => decide (v.1 ≤ hi) && decide (lo ≤ v.2))))
  { s with ctxs := s.ctxs.map (fun (e : Nat × CtxAll) =>
      if e.1 / 2 ^ 20 = f then
        (e.1, { e.2 with w := { e.2.w with replay := e.2.w.replay.map (fun r =>
          match e.2.w.entries.find? (fun x => x.idx = r.idx) with
          | some x => if r.resp && (r.opc == opRead || isAtomic r.opc)
                && (through (wLocal x.words.toNat + r.off) r.len || r.spans.any (fun v => decide (v.1 ≤ hi) && decide (lo ≤ v.2)))
              then { r with voided := true } else r
          | none => r) } })
      else e) }

/-- What waits on a fault is tried again (R75): entry fetches, head writes and events of the function. -/
def State.retryFaulted (s : State) (f : Nat) : State :=
  let cs := (s.ctxs.filter (fun e => e.1 / 2 ^ 20 == f)).map (fun e => e.1 % 2 ^ 20)
  let s := cs.foldl (fun s c => if (s.ctx f c).w.fetchWait then s.startFetch f c else s) s
  let s := cs.foldl (fun s c =>
    if (s.ctx f c).w.headWait && !s.writePending f (.head c)
      then s.atHome f c (fun s => (s.queueHead f c).flushWrites f) else s) s
  ((s.eqs.filter (fun e => e.1 / 2 ^ 12 == f && e.2.faulted)).map (fun e => e.1 % 2 ^ 12)).foldl (fun s q => s.retryEvents f q) s

/-! ### Commands -/

/-- HOST_READ_COMPLETE (R35). -/
def execHostReadComplete (tag : Nat) (res : ReadResult) (s : State) : Res := .next (s.readEnded tag res)

/-- ENTRY_FETCH_DONE (R48, R54). -/
def execEntryFetchDone (tag : Nat) (res : ReadResult) (s : State) : Res :=
  .next (if s.readIs tag (fun u => match u with | .entries _ _ _ => true | _ => false) then s.readEnded tag res else s)

/-- WALK_STEP (R72). -/
def execWalkStep (tag : Nat) (res : ReadResult) (s : State) : Res :=
  .next (if s.readIs tag (fun u => u == .table) then s.readEnded tag res else s)

/-- CONTEXT_FILL (R198, R199). -/
def execContextFill (tag : Nat) (res : ReadResult) (s : State) : Res :=
  .next (if s.readIs tag (fun u => match u with | .spill _ => true | _ => false) then s.readEnded tag res else s)

/-- OVERFLOW_READ_DONE (R241). -/
def execOverflowReadDone (tag : Nat) (res : ReadResult) (s : State) : Res :=
  .next (if s.readIs tag (fun u => match u with | .overflow _ _ _ _ => true | _ => false) then s.readEnded tag res else s)

/-- TARGET_READ_DONE (R262, R264). -/
def execTargetReadDone (tag : Nat) (res : ReadResult) (s : State) : Res :=
  .next (if s.readIs tag (fun u => match u with | .target _ _ => true | _ => false) then s.readEnded tag res else s)

/-- COLL_OPERAND_READY (R289). -/
def execCollOperandReady (tag : Nat) (res : ReadResult) (s : State) : Res :=
  .next (if s.readIs tag (fun u => match u with | .operand _ _ => true | _ => false) then s.readEnded tag res else s)

/-- INVALIDATION_COMPLETE (R84, R85): TOKEN is written for the oldest request once all it waits for has finished. -/
def execInvalidationComplete (fn : Nat) (s : State) : Res :=
  .next (
    match (s.fn fn).invals with
    | [] => s
    | v :: rest =>
      if v.reads.isEmpty && v.walks.isEmpty then
        (((s.modFn fn (fun x => { x with invals := rest })).queueWrite fn v.compl (natLe 4 v.token) .bus).flushWrites fn).retryFaulted fn
      else s)

end Sys2Proof.Machine
end

