-- ==== Sys2Proof/Machine/Clock.lean ====
section
/-! DEFINITION. What passes with time when no command waits: one nanosecond (DESIGN CHOICE, log entry 1). Fabric time
and the endpoint timers advance, the cycle counters count, firmware moves one fault record to staging, the central
reader takes one record, one read whose translation failed ends, and a seat pin that stays high opens the switch. -/

namespace Sys2Proof.Machine

/-- Clock cycles of a tile in the nanosecond that begins at `now` (R13), in R364's tile numbering. -/
def cycles (t now : Nat) : Nat :=
  let khz := if t < 8 then 1250 else if t < 12 then 1000 else if t = 13 then 1200 else 800
  (now + 1) * khz / 1000 - now * khz / 1000

/-- A unit of a port tile shows a condition: the named port, or any of the tile's. -/
def anyPort (t unit : Nat) (f : Nat → Bool) : Bool :=
  if unit = 0x3F then (List.range 8).any (fun i => f (8 * t + i)) else f (8 * t + unit)

/-- The clock of a tile of R364 runs: its island is out of reset, and no checkstop holds it (R27, R363). -/
def State.tileClock (s : State) (t : Nat) : Bool :=
  if t < 12 then s.island t && !s.faults.checkstop else s.island (25 - t)

/-- Cycles that a counter with this configuration word counts in one nanosecond (R368). -/
def State.cycleCount (s : State) (t cfg : Nat) : Nat :=
  let ev := bf cfg 0 12
  let unit := bf cfg 16 6
  let on : Bool := match ev with
    | 0x000 => true
    | 0x110 => anyPort t unit (fun p => (s.link p).xoffSent != 0)
    | 0x140 => anyPort t unit (fun p => (s.gate p).openMask != 0xF && !s.gatesFree (s.gate p).sched.toNat)
    | 0x160 => (s.pt t).throttle == 2
    | 0x702 => s.sems.any (fun e => !e.2.waiters.isEmpty)
    | _ => false
  if bitAt cfg 12 && on && s.tileClock t then cycles t s.now else 0

/-- The cycle counters of one nanosecond. -/
def State.countCycles (s : State) : State :=
  { s with ctrs := { s.ctrs with
      val := s.ctrs.cfg.foldl (fun val e =>
        match s.cycleCount ((e.1 - 1) / 8) e.2 with
        | 0 => val
        | n => Tbl.put val e.1 (ctrAdd s.ctrWraps (Tbl.getD val e.1 0) n)) s.ctrs.val } }

/-- What the servo slews in one nanosecond, in 2^-16 ns: at most 200 ppm (R170). -/
def TimeUnit.slewNow (t : TimeUnit) : Int := max (-13) (min 13 t.slew)

/-- Each island's own counter, once a beacon has set it, runs with the time unit's between beacons (R19). -/
def State.islandsRun (s : State) (d : Int) : State :=
  let ft : Tbl Nat := s.arch.islandFt.map (fun e => if s.island e.1 then (e.1, unsigned 80 ((e.2 : Int) + d)) else e)
  { s with arch := { s.arch with islandFt := ft } }

/-- What fabric time gains over the own oscillator in one nanosecond, in 2^-16 ns: the servo's frequency and the slew,
together at most 200 ppm. -/
def TimeUnit.gain (t : TimeUnit) : Int := max (-13) (min 13 ((t.frac + t.freq) / 65536 + t.slewNow))

/-- Fabric time in one nanosecond: the own oscillator, the frequency HOLDOVER keeps, and the slew (R163, R170). -/
def TimeUnit.run (t : TimeUnit) : TimeUnit :=
  { t with
    ft := BitVec.ofNat 80 (unsigned 80 ((t.ft.toNat : Int) + 65536 + t.gain))
    frac := (t.frac + t.freq) % 65536, slew := t.slew - (t.gain - (t.frac + t.freq) / 65536) }

/-- One nanosecond passes. The endpoint tiles' timers stand still in HOLD (R336), and in a checkstop with the other
clocks (R363). -/
def tick (s : State) : State :=
  let live := !s.faults.checkstop
  let s := s.sendAll.countCycles
  let s := if live then s.islandsRun (65536 + s.time.gain) else s
  let s := { s with
    now := s.now + 1
    etNow := if s.inMode .hold || !live then s.etNow else s.etNow + 1
    time := if s.island 14 && live then s.time.run else s.time }
  let s := (if s.island 12 then State.logDrain 1 s else s).readerStep.land
  (match s.faultedRead with
  | some tag => s.readEnded tag .failed
  | none => s).seatTrip

end Sys2Proof.Machine
end

