-- ==== Sys2Proof/Machine/Values.lean ====
section
/-! DEFINITION. What a read of each dictionary object returns (R308, R310): the stored value of a writable object, the
status layouts of R27, R37, R40, R86, R95, R105, R137, R162, R187, R220, R252, R276, R301, R329, R353, R370, R385 and
R408, and integrator objects (R316). -/

namespace Sys2Proof.Machine

/-! ### Pieces -/

/-- Eight-byte counters side by side. -/
def words64 (l : List Nat) : Nat := pack ((List.range l.length).map (fun k => (64 * k, 64, nth l k)))

/-- Sum of a list of numbers. -/
def total (l : List Nat) : Nat := l.foldl (· + ·) 0

/-- ISLAND_STATE (R21, R363): an island whose clock a checkstop has stopped reads 0. -/
def State.islandWord (s : State) : Nat :=
  if s.faults.checkstop then (s.arch.islands &&& 0x3000).toNat else s.arch.islands.toNat

/-- HOST_LINK_STATE (R37). -/
def HostPort.word (h : HostPort) : Nat :=
  if h.train = .l0 then pack [(0, 4, h.rate), (8, 5, h.width), (16, 1, b2n h.flit), (17, 1, b2n h.reversed)] else 0

/-- PORT_STATE (R137). -/
def State.portWord (s : State) (p : Nat) : Nat :=
  let l := s.link p
  pack [(0, 4, l.stage), (4, 4, l.active.toNat), (8, 4, l.rxLock.toNat), (12, 4, l.inverted.toNat), (16, 1, b2n l.reversed),
    (17, 1, b2n l.flatOnly), (18, 1, b2n (s.tport p).locked), (19, 3, l.lps), (22, 2, l.lpsLast),
    (24, 1, b2n (l.stage == 9 && l.active &&& ~~~l.peerLock != 0)), (25, 1, b2n l.mgmtOnly)]

/-- ROUTE_GEN_QUIET (R160): µs left, rounded up. -/
def State.quietLeft (s : State) (g : Nat) : Nat :=
  match s.quiet.getD g none with
  | some t => ceilDiv (t - s.now) us
  | none => 0

/-- FT_PORT_STATE (R187). -/
def TimePort.word (t : TimePort) : Nat :=
  pack [(0, 1, b2n t.locked), (1, 4, t.peerState), (5, 4, t.peerSteps), (32, 32, t.badSets)]

/-- GATE_STATUS (R187): the open mask, and whether UNLOCKED_OPEN holds every class open. -/
def State.gateWord (s : State) (p : Nat) : Nat :=
  let g := s.gate p
  let v := g.sched.toNat
  let unlocked := gEnable v && gUnlockedOpen v && !s.ftUsable
  pack [(0, 64, g.lastSw), (64, 1, b2n g.pend.isSome), (65, 4, if s.gatesFree v then 0xF else g.openMask.toNat), (69, 1, b2n unlocked)]

/-- FN_MATCH_USE (R252): match store entries, landing slots and overflow blocks a function holds. -/
def State.matchWord (s : State) (f : Nat) : Nat :=
  pack [(0, 32, s.matchUse f), (32, 16, s.landHeld f), (48, 16, (s.fn f).overBlocks.length)]

/-- PWR_RAILS (R353): a rail whose converter has not started reads 0. -/
def Supervisor.railWord (x : Supervisor) (now : Nat) : Nat :=
  let rail (k w : Nat) : Nat := if x.convAt.getD k (now + 1) ≤ now then w else 0
  pack [(0, 16, rail 2 (bf x.rails 0 16)), (16, 16, rail 1 (bf x.rails 16 16)), (32, 16, rail 0 (bf x.rails 32 16))]

/-- PWR_LATCH (R353). -/
def Supervisor.latchWord (x : Supervisor) : Nat :=
  pack [(0, 5, x.causes.toNat), (8, 3, x.first), (11, 1, b2n x.flushOk), (16, 16, x.latches)]

/-- FAULT_CLASS_REC of class c (R370): its record reads 0 while EMPTY. -/
def State.classWord (s : State) (c : Nat) : Nat :=
  let x := s.classRec c
  pack [(0, 2, x.st.code), (2, 1, b2n x.overflow), (3, 1, b2n (bitAt (s.cfg 0x9001 3) c)), (32, 32, x.count)]
    + (if x.st = .empty then 0 else ((x.record.map FaultRec.word).getD 0) * 2 ^ 128)

/-- STORE_STATE (R385). -/
def Store.word (x : Store) : Nat :=
  pack [(0, 2, x.st), (2, 1, b2n x.replayed), (3, 1, b2n x.discarded), (4, 1, b2n x.scrubbing)]

/-- STORE_WEAR (R383, R385); with nothing accepted yet, WRITE_AMP reads 0. -/
def Store.wearWord (x : Store) : Nat :=
  words64 [x.avgPe, x.maxPe, x.minPe, x.percent, x.usable, factoryBad, x.grown.length,
    if x.accepted = 0 then 0 else 1000 * x.programmed / x.accepted]

/-- A record of the log window (R384): from the fault queue, from staging or from flash; 32 zero bytes when none. -/
def State.logRecord (s : State) (seq : Nat) : List Byte :=
  let staged := s.store.staging.filterMap (fun i => match i with | .log r => some r | _ => none)
  match (s.store.log ++ staged ++ s.faults.queue).find? (fun r => r.seq == seq) with
  | some r => natLe 32 r.word
  | none => List.replicate 32 0

/-- STORE_LOG_WINDOW: 2,048 records from the cursor upward. -/
def State.logWindow (s : State) : List Byte :=
  (List.range 2048).flatMap (fun k => s.logRecord (s.cfg 0xB000 7 + k))

/-- FN_STORE_STATE (R376, R380): LOSS, and whether any page is unreadable. -/
def State.storeFnWord (s : State) (f : Nat) : Nat :=
  s.cfg 0xB012 f % 2 + 2 * b2n (s.store.pages.any (fun e => e.1 / 2 ^ 28 == f && s.pageUnreadable f (e.1 % 2 ^ 28)))

/-- An object's accepted value, or an integrator object's, whose default its definition gives (R316). -/
def State.userValue (s : State) (idx sub : Nat) (u : UserObj) : Nat :=
  (Tbl.get? s.dict.vals (okey idx sub)).getD u.dflt

/-- ORDERING_CODE (R1). -/
def orderingCode : List Byte :=
  ascii (['F', 'N', '-', 'O', 'Z', '6', '4', '0', '0', '-', 'M'] ++ (if Config.factoryBound then ['B'] else []))

/-! ### Areas -/

/-- Values of area 0x1000 that are not accepted values. -/
def State.value1 (s : State) (idx sub : Nat) : Nat :=
  match idx, sub with
  | 0x1000, 1 => Config.vendorId.toNat
  | 0x1000, 5 => Config.unitSerial.toNat
  | 0x1000, 7 => s.dict.fwVersion
  | 0x1010, 1 => Config.mgmtMac.toNat
  | 0x1010, 9 => pack [(0, 1, b2n s.dict.mgmtLink), (1, 1, b2n s.dict.mdix)]
  | 0x1033, 1 => words64 s.dict.counts
  | _, _ => s.cfg idx sub

/-- Values of area 0x2000; `f` is the function whose MAILBOX page asks, for function-local objects. -/
def State.value2 (s : State) (f idx sub : Nat) : Nat :=
  if 0x2110 ≤ idx then Tbl.getD (s.fn f).eqDesc ((idx - 0x2110) * 256 + sub) 0
  else
    match idx with
    | 0x2000 => if sub = 3 then s.islandWord else if sub = 4 then s.arch.discards else s.cfg idx sub
    | 0x2010 => if sub ≤ 4 then (s.hostPort (sub - 1)).word else (s.hostPort (sub - 5)).downs
    | 0x2014 => (s.fn sub).badDoorbells
    | 0x2015 => (s.fn sub).state
    | 0x2016 => (s.fn sub).asyncDrops
    | 0x201A => (s.fn f).invLast.toNat
    | 0x201B => (s.fn sub).xlateFaults
    | 0x201C => (s.fn sub).xlateLast
    | 0x2020 =>
      if sub ≤ 64 then ((s.acu.regions[sub - 1]?).map Region.word).getD 0
      else if sub ≤ 66 then s.acu.epoch.toNat
      else if sub = 67 then s.acu.denied else s.acu.lastDenied
    | 0x2022 => (s.sem sub).status
    | 0x2026 => s.acu.badReleases
    | _ => s.cfg idx sub

/-- Values of area 0x3000: lanes are numbered 4 × port + lane. -/
def State.value3 (s : State) (idx sub : Nat) : Nat :=
  match idx with
  | 0x3000 => s.portWord (sub - 1)
  | 0x3001 => (s.link (sub - 1)).peer
  | 0x300F => ((s.link (sub / 4)).lanes.getD (sub % 4) {}).pattern
  | 0x3010 => words64 ((s.link (sub / 4)).lanes.getD (sub % 4) {}).fec
  | 0x3011 => words64 (s.link (sub - 1)).counts
  | _ => s.cfg idx sub

/-- Values of area 0x4000. -/
def State.value4 (s : State) (idx sub : Nat) : Nat :=
  match idx with
  | 0x4000 => if 7 ≤ sub then s.quietLeft (sub - 7) else s.cfg idx sub
  | 0x4004 => words64 (s.pt (sub - 1)).drops
  | 0x4005 => (s.portq (sub - 1)).linkDelay
  | _ => s.cfg idx sub

/-- Values of area 0x5000. -/
def State.value5 (s : State) (f idx sub : Nat) : Nat :=
  match idx with
  | 0x5011 => (s.fn sub).epoch
  | 0x5013 => (s.fn f).ctxCmdLast.toNat
  | 0x5020 => words64 (s.et (sub - 1)).tCounts
  | 0x5021 => s.replayUse (sub - 1)
  | 0x5030 => (s.fn f).winCmdLast.toNat
  | 0x5032 => s.winUse sub
  | 0x5035 => words64 (s.et (sub - 1)).rCounts
  | 0x5036 => (s.et (sub - 1)).saved.length
  | _ => s.cfg idx sub

/-- Values of area 0x6000. -/
def State.value6 (s : State) (idx sub : Nat) : Nat :=
  match idx with
  | 0x6015 => s.matchWord sub
  | 0x6020 => words64 (s.et (sub - 1)).mCounts
  | 0x6021 => s.landFree (sub - 1)
  | 0x6022 => (s.et (sub - 1)).rndv.length
  | _ => s.cfg idx sub

/-- Values of area 0x7000. -/
def State.value7 (s : State) (idx sub : Nat) : Nat :=
  match idx with
  | 0x7001 => s.collFree (sub - 1)
  | 0x7002 => words64 s.collCounts
  | 0x7000 => s.cfg idx sub
  | _ => s.treeWord ((idx - 0x7100) * 256 + sub)

/-- Values of area 0x8000. -/
def State.value8 (s : State) (idx sub : Nat) : Nat :=
  match idx with
  | 0x8000 => if sub = 2 then s.modeWord else s.cfg idx sub
  | 0x8002 => (s.pt (sub - 1)).modeDrops
  | 0x8010 =>
    (match sub with
     | 1 => pack [(0, 32, s.sup.mv), (32, 32, s.sup.ma), (64, 32, s.sup.mw)]
     | 2 => s.sup.energy / 100000 % 2 ^ 64
     | 4 => s.sup.latchWord
     | 5 => s.sup.railWord s.now
     | 6 => words64 s.sup.events
     | _ => s.cfg idx sub)
  | 0x8020 => if sub = 1 then unsigned 32 (s.sup.temps.foldl max (s.sup.temps.headD 0)) else s.cfg idx sub
  | 0x8021 => unsigned 32 (s.sup.temps.getD (sub - 1) 0)
  | _ => s.cfg idx sub

/-- Values of area 0x9000. -/
def State.value9 (s : State) (idx sub : Nat) : Nat :=
  match idx with
  | 0x9000 => s.classWord (sub - 1)
  | 0x9001 =>
    if sub = 5 then s.faultSummary
    else if sub = 6 then pack [(0, 13, s.faults.queue.length), (32, 32, s.faults.logLost)]
    else if sub = 7 then s.faults.seq else s.cfg idx sub
  | 0x9010 => ((s.faults.recent[sub - 1]?).map FaultRec.word).getD 0
  | _ => s.cfg idx sub

/-- Values of area 0xA000. -/
def State.valueA (s : State) (idx sub : Nat) : Nat :=
  match idx with
  | 0xA000 => Tbl.getD s.ctrs.cfg sub 0x3F0000
  | 0xA001 => Tbl.getD s.ctrs.val sub 0
  | 0xA002 => if sub = 4 then pack [(0, 32, s.ctrs.producer.toNat), (32, 32, s.ctrs.consumer.toNat), (64, 64, s.ctrs.drops)] else s.cfg idx sub
  | _ => if sub = 2 then s.ctrs.sampleDrops else s.cfg idx sub

/-- Values of area 0xB000 but the log window. -/
def State.valueB (s : State) (idx sub : Nat) : Nat :=
  match idx with
  | 0xB000 =>
    (match sub with
     | 1 => s.store.word
     | 2 => s.store.wearWord
     | 3 => pack [(0, 32, poolPages), (32, 32, s.freePool), (64, 32, total ((List.range 256).map s.guarPages))]
     | 4 => s.staged
     | 9 => words64 s.store.counts
     | _ => s.cfg idx sub)
  | 0xB011 => s.usedPages sub
  | 0xB012 => s.storeFnWord sub
  | _ => s.cfg idx sub

/-- Values of area 0xC000. -/
def State.valueC (s : State) (idx sub : Nat) : Nat :=
  match idx, sub with
  | 0xC000, 1 => s.fw.word
  | 0xC000, 2 => s.fw.s0.word + s.fw.s1.word * 2 ^ 128 + s.fw.srec.word * 2 ^ 256
  | 0xC001, 3 => if s.fw.upSlot.isSome then s.fw.upOff else 0
  | 0xC001, 2 => 0
  | 0xC002, 3 => 0
  | 0xC002, 4 => s.trialLeft
  | 0xC010, 1 => s.fw.arb
  | 0xC010, 2 => s.fw.revoked.toNat
  | 0xC020, _ => unitCert
  | 0xC021, k => Tbl.getD s.fw.nonce k 0
  | 0xC022, k => Tbl.getD s.fw.quotes k 0
  | 0xC023, k => (s.fw.meas.getD (k - 1) 0).toNat
  | _, _ => s.cfg idx sub

/-- Values of area 0xD000. -/
def State.valueD (s : State) (idx sub : Nat) : Nat :=
  match idx with
  | 0xD000 =>
    (match sub with
     | 1 => pack [(0, 80, s.time.ft.toNat), (80, 4, s.time.st)]
     | 3 => s.ftState
     | 4 => s.time.rootId
     | 5 => unsigned 32 s.time.offset
     | _ => s.cfg idx sub)
  | 0xD002 => (s.tport (sub - 1)).word
  | 0xD011 => s.gateWord (sub - 1)
  | 0xD022 => words64 (s.portq (sub - 1)).policed
  | 0xD031 => (s.portq (sub - 1)).sample
  | _ => s.cfg idx sub

/-- An object's value as a number, read through function `f`'s page where it is function-local. -/
def State.value (s : State) (f idx sub : Nat) : Nat :=
  match idx / 0x1000 with
  | 1 => s.value1 idx sub
  | 2 => s.value2 f idx sub
  | 3 => s.value3 idx sub
  | 4 => s.value4 idx sub
  | 5 => s.value5 f idx sub
  | 6 => s.value6 idx sub
  | 7 => s.value7 idx sub
  | 8 => s.value8 idx sub
  | 9 => s.value9 idx sub
  | 10 => s.valueA idx sub
  | 11 => s.valueB idx sub
  | 12 => s.valueC idx sub
  | _ => s.valueD idx sub

/-- An integrator object (R316). -/
def State.user? (s : State) (idx sub : Nat) : Option UserObj :=
  if 0xE000 ≤ idx then Tbl.get? s.dict.users (okey idx sub) else none

/-- Bytes of a value of this object (R305): a STR has the length it was written with, kept above its 255 bytes. -/
def UserObj.size (u : UserObj) (v : Nat) : Nat :=
  if u.type = 9 then v / 2 ^ 2048 else u.len

/-- The bytes a read returns. -/
def State.valueBytes (s : State) (f idx sub : Nat) : List Byte :=
  match s.user? idx sub with
  | some u => let v := s.userValue idx sub u; natLe (u.size v) (v % 2 ^ (8 * u.size v))
  | none =>
    if idx = 0x1000 ∧ sub = 3 then orderingCode
    else if idx = 0x1000 ∧ sub = 4 then ascii ['B', '1']
    else if idx = 0xB000 ∧ sub = 8 then s.logWindow
    else natLe (((objAt idx sub).map (·.len)).getD 0) (s.value f idx sub)

end Sys2Proof.Machine
end

