-- ==== Sys2Proof/Machine/Bar.lean ====
section
/-! DEFINITION. What a host reads of a function: its configuration identity (R32) and the windows of its BAR0 (R41 to R44,
R61, R366), and where a write to BAR0 goes. -/

namespace Sys2Proof.Machine

/-! ### Configuration identity (R32) -/

/-- Device ID of a physical and of a virtual function. -/
def deviceId (f : Nat) : Nat := if isPf f then 0x6400 else 0x6401

/-- Class code: network controller, other. -/
abbrev classCode : Nat := 0x028000

/-- MSI-X vectors of a function. -/
def vectors (f : Nat) : Nat := if isPf f then 64 else 16

/-- A 64-bit, non-prefetchable memory BAR as its two words read: the type bits are 0x4 (PRESUMED of the base specification,
log entry 133). -/
def barWords (a : Nat) : Nat × Nat := (bf a 25 7 * 2 ^ 25 + 4, bf a 32 32)

/-- The identity words of a function's configuration space: word 0 holds Vendor ID and Device ID, word 2 the class code
in [31:8] (the revision in [7:0] is not given), words 4 and 5 BAR0, and words 6 to 9 read 0: there is no other BAR. A VF's
own BAR words read 0, its BAR0 being assigned through the VF BAR0 of its PF. -/
def State.configWord (s : State) (f k : Nat) : Option Nat :=
  let bar := if isPf f then barWords (s.fn f).bar0 else (0, 0)
  if k = 0 then some (pack [(0, 16, Config.vendorId.toNat), (16, 16, deviceId f)])
  else if k = 2 then some (classCode * 256)
  else if k = 4 then some bar.1
  else if k = 5 then some bar.2
  else if 6 ≤ k ∧ k ≤ 9 then some 0
  else none

/-- The two words of the VF BAR0 in the SR-IOV capability of a host port's PF (R32). -/
def State.vfBarWords (s : State) (h : Nat) : Nat × Nat := barWords (s.hostPort h).cfg.vfBar0

/-- TotalVFs, First VF Offset and VF Stride of a port's SR-IOV capability. -/
abbrev totalVfs : Nat := 63
abbrev firstVf : Nat := 1
abbrev vfStride : Nat := 1

/-! ### What the windows read as -/

/-- A send-queue doorbell slot (R43). -/
def State.sqSlot (s : State) (f c : Nat) : Nat :=
  let x := (s.ctx f c).c
  if x.state = 0 then 0 else pack [(0, 32, x.sqDb.toNat), (32, 32, x.head.toNat)]

/-- An event-queue doorbell slot (R44). -/
def State.eqSlot (s : State) (f q : Nat) : Nat :=
  match s.eq? f q with
  | some e => pack [(0, 32, e.consumer.toNat), (32, 1, b2n e.armed), (64, 32, e.producer.toNat)]
  | none => 0

/-- MBX_CTRL (R42). -/
def Fn.mbxCtrl (x : Fn) : Nat := pack [(0, 1, b2n x.mbGo), (1, 11, x.mbLen)]

/-- A byte of the MAILBOX page (R42): the request buffer, MBX_CTRL over its last word, the response buffer. -/
def Fn.mailboxByte (x : Fn) (o : Nat) : Byte :=
  if o < 0x7FC then x.mbReq.getD o 0
  else if o < 0x800 then (natLe 4 x.mbxCtrl).getD (o - 0x7FC) 0
  else x.mbResp.getD (o - 0x800) 0

/-- An 8-byte field of the COUNTER user page (R366). -/
def State.counterField (s : State) (f k : Nat) : Nat :=
  if !bitAt (s.cfg 0x1021 f) 0 then 0
  else if k < 8 then
    let sub := 8 * (8 + etOf f) + k + 1
    let w := Tbl.getD s.ctrs.cfg sub 0x3F0000
    if bitAt w 22 && bf w 24 8 == f then Tbl.getD s.ctrs.val sub 0 else 0
  else if k < 16 then nth (s.fn f).ctrs (k - 8)
  else if k = 16 then s.ftNs % 2 ^ 64
  else 0

/-- A byte of the COUNTER user page; it reads 0 while the function is in reset (R61). -/
def State.counterByte (s : State) (f o : Nat) : Byte :=
  if s.present f then (natLe 8 (s.counterField f (o / 8))).getD (o % 8) 0 else 0

/-- An entry of the MSI-X table as 16 bytes: address, data and mask (R41). -/
def msixBytes (e : MsixEntry) : List Byte := natLe 16 (pack [(0, 64, e.addr), (64, 32, e.data), (96, 1, b2n e.masked)])

/-- The entry that 16 bytes spell. -/
def msixOf (b : List Byte) : MsixEntry :=
  let w := leNat b
  { addr := bf w 0 64, data := bf w 64 32, masked := bitAt w 96 }

/-- A byte of the MSI-X table (R41). -/
def Fn.msixByte (x : Fn) (f o : Nat) : Byte :=
  if o / 16 < vectors f then (msixBytes (x.msix.table.getD (o / 16) {})).getD (o % 16) 0 else 0

/-- A byte of the MSI-X pending bit array. -/
def Fn.pendingByte (x : Fn) (o : Nat) : Byte :=
  (natLe 8 ((x.msixPend.map (fun v => 2 ^ v)).foldl (· + ·) 0)).getD o 0

/-- A byte of a function's BAR0 (R41). Reserved offsets read 0, and so do the doorbell and MAILBOX pages of a function in
reset (R61). A read of the SEMAPHORE window is an operation of its own: SEM_ACQUIRE, SEM_TRY or SEM_STATUS. -/
def State.barByte (s : State) (f o : Nat) : Byte :=
  if o < 0x1000000 then (if s.present f then (natLe 16 (s.sqSlot f (o / 16))).getD (o % 16) 0 else 0)
  else if o < 0x1010000 then (if s.present f then (natLe 16 (s.eqSlot f ((o - 0x1000000) / 16))).getD (o % 16) 0 else 0)
  else if o < 0x1011000 then (if s.present f then (s.fn f).mailboxByte (o - 0x1010000) else 0)
  else if o < 0x1012000 then 0
  else if o < 0x1013000 then s.counterByte f (o - 0x1012000)
  else if o < 0x1014000 then (s.fn f).msixByte f (o - 0x1013000)
  else if o < 0x1015000 then (s.fn f).pendingByte (o - 0x1014000)
  else 0

/-- What a read of BAR0 gives. -/
def State.barRead (s : State) (f o len : Nat) : List Byte := (List.range len).map (fun i => s.barByte f (o + i))

/-! ### Where a write goes -/

/-- The window an offset of BAR0 lies in (R41). -/
inductive BarWindow where
  | sqSlot (ctx off : Nat)
  | eqSlot (q off : Nat)
  | mailbox (off : Nat)
  | semaphore (sem off : Nat)
  | counter (off : Nat)
  | msixTable (off : Nat)
  | msixPending (off : Nat)
  | reserved
  deriving DecidableEq, Repr

/-- The window and the place in it. -/
def barWindow (o : Nat) : BarWindow :=
  if o < 0x1000000 then .sqSlot (o / 16) (o % 16)
  else if o < 0x1010000 then .eqSlot ((o - 0x1000000) / 16) (o % 16)
  else if o < 0x1011000 then .mailbox (o - 0x1010000)
  else if o < 0x1012000 then .semaphore ((o - 0x1011000) / 16) (o % 16)
  else if o < 0x1013000 then .counter (o - 0x1012000)
  else if o < 0x1014000 then .msixTable (o - 0x1013000)
  else if o < 0x1015000 then .msixPending (o - 0x1014000)
  else .reserved

/-- The command that a host's write of BAR0 is (R41 to R44, R97): a doorbell, or a RELEASE. Writes to the COUNTER page, to
the pending bits and to reserved offsets are discarded; the MAILBOX and the MSI-X table have no command of this kind, and
what a store to the MSI-X table does is State.msixStore (log entry 133). -/
def barWrite (f o size : Nat) (val : BitVec 64) : Option Instr :=
  match barWindow o with
  | .sqSlot c off => some (.sqDoorbell f c off size val)
  | .eqSlot q off => some (.eqDoorbell f q off size val)
  | .semaphore n off => if off = 8 ∧ size = 4 then some (.semRelease (.host f) n) else none
  | _ => none

/-- Send the pending messages that nothing masks any more (R59, PRESUMED of the base specification, log entry 133). -/
def State.msixRelease (s : State) (f : Nat) : State :=
  (s.fn f).msixPend.foldl (fun s v => (s.modFn f (fun x => { x with msixPend := x.msixPend.filter (· != v) })).msixSend f v) s

/-- A host's store of bytes to the MSI-X table (R41): the entries take the bytes, and a vector unmasked so sends its pending
message (R59). -/
def State.msixStore (s : State) (f o : Nat) (data : List Byte) : State :=
  let x := s.fn f
  let entry := fun i =>
    let old := msixBytes (x.msix.table.getD i {})
    msixOf ((List.range 16).map (fun j =>
      if o ≤ 16 * i + j ∧ 16 * i + j < o + data.length then data.getD (16 * i + j - o) 0 else old.getD j 0))
  (s.modFn f (fun x => { x with msix := { x.msix with table := (List.range (vectors f)).map entry } })).msixRelease f

end Sys2Proof.Machine
end

