-- ==== Sys2Proof/Machine/Checks.lean ====
section
/-! DEFINITION. The checks of a dictionary request (spec 12, R304 to R316, R327) in the order of the abort table, with
each object's own refusals from its chapter. -/

namespace Sys2Proof.Machine

/-- The first abort of a list whose condition holds: the order of R327. -/
def firstAbort : List (Bool × Abort) → Option Abort
  | [] => none
  | (b, a) :: r => if b then some a else firstAbort r

/-! ### Objects (R304, R316) -/

/-- The object an index and sub-index name, an integrator's included. -/
def State.obj? (s : State) (idx sub : Nat) : Option Obj :=
  match s.user? idx sub with
  | some u => some { idx := idx, lo := sub, hi := sub, ty := u.type, acc := .live, len := u.len, dflt := u.dflt, persist := true }
  | none => objAt idx sub

/-- Some sub-index of the index is assigned. -/
def State.idxAssigned (s : State) (idx : Nat) : Bool :=
  if 0xE000 ≤ idx then s.dict.users.any (fun e => e.1 / 256 == idx) else idxKnown idx

/-! ### Rights and scope (R311 to R314) -/

/-- The function a request speaks for. -/
def reqFn (r : Req) : Option Nat := match r.pr with | .host f => some f | _ => none

/-- Bit of an area in DICT_RIGHTS (R313). -/
def areaBit (idx : Nat) : Nat := if 0xE000 ≤ idx then 14 else idx / 0x1000

/-- DICT_RIGHTS mask of a principal; none for firmware, which is not checked. -/
def State.rightsMask (s : State) (r : Req) : Option Nat :=
  match r.pr with
  | .fw => none
  | .mgmt => some (s.cfg 0x1020 1)
  | .fabric => some (s.cfg 0x1020 2)
  | .host f => some (s.cfg 0x1020 ((if isPf f then 3 else 7) + etOf f))
  | .smb => some 0

/-- Objects whose writes only MGMT, FABRIC and firmware may make (R313). -/
def closedToHosts (idx : Nat) : Bool := idx == 0x1010 || idx == 0x1020 || idx == 0x1021

/-- The area right of R313; a scoped object needs none (R312), and ATTEST_REQ only the read right (R407). -/
def State.hasRight (s : State) (r : Req) (o : Obj) (idx : Nat) (wr : Bool) : Bool :=
  if wr && closedToHosts idx && (reqFn r).isSome then false
  else if o.scope ≠ .none then true
  else
    match s.rightsMask r with
    | none => true
    | some m => bitAt m (areaBit idx + (if wr && idx != 0xC021 then 16 else 0))

/-- Objects of its port's functions that a PF writes: the quotas of R39, FN_SEM_PRIO and FN_STORE_ALLOT. No VF
writes them (R39, R105, R377). -/
def pfOnly (idx : Nat) : Bool := [0x2012, 0x2013, 0x6011, 0x6012, 0x5031, 0x5014, 0x2024, 0xB010].contains idx

/-- The sub-index of ATTEST_REQ a principal may write (R407). -/
def attestSub (r : Req) : Option Nat :=
  match r.pr with
  | .mgmt => some 1
  | .fabric => some 2
  | .host f => if isPf f then some (3 + etOf f) else none
  | _ => none

/-- Scope (R312). -/
def inScope (r : Req) (o : Obj) (idx sub : Nat) (wr : Bool) : Bool :=
  match o.scope, r.pr with
  | .none, _ => !(wr && idx == 0xC021) || attestSub r == some sub
  | .own, .host f => decide (0x2110 ≤ idx ∧ idx ≤ 0x211F) || sub == f
  | .own, _ => false
  | .fn, .host f =>
    if isPf f then etOf sub == etOf f && (!wr || sub == f || pfOnly idx)
    else sub == f && !(wr && pfOnly idx)
  | .port off, .host f => isPf f && !wr && sub == etOf f + off
  | .ranges, .host f => isPf f && !wr && (sub - 1) / 8 == etOf f
  | _, _ => true

/-- Objects that the power authority governs (R106, R402). -/
def needsAuthority (idx sub : Nat) : Bool :=
  (idx == 0x8000 && sub == 1) || idx == 0x8001 || (idx == 0xC002 && decide (1 ≤ sub) && decide (sub ≤ 3)) || (idx == 0xC010 && sub == 3)

/-- A MAILBOX page's function lacks semaphore 0 (R106). -/
def State.noAuthority (s : State) (r : Req) (idx sub : Nat) : Bool :=
  match r.pr with
  | .host f => needsAuthority idx sub && s.cfg 0x2025 1 == 1 && !(s.sem 0).holds.any (fun h => h.who == .host f)
  | _ => false

/-! ### Owning tiles (R21) -/

/-- Island that holds a writable object, where it is no port tile: those are held by the management tile (R21). -/
def tileOf (f idx sub : Nat) : Option Nat :=
  match idx / 0x1000 with
  | 2 => if (objAt idx sub).any (fun o => o.scope == .fn) then (if idx = 0x2024 then none else some (8 + etOf sub))
         else if idx = 0x2019 then some (8 + (sub - 1) / 8) else if 0x2110 ≤ idx ∨ idx = 0x201A then some (8 + etOf f) else none
  | 5 => if idx = 0x5000 ∨ idx = 0x5033 then none else if idx = 0x5034 then some (7 + sub)
         else if idx = 0x5013 ∨ idx = 0x5030 then some (8 + etOf f) else some (8 + etOf sub)
  | 6 => if idx = 0x6000 then none else some (8 + etOf sub)
  | 10 => if idx = 0xA000 ∨ idx = 0xA001 then
            (if sub ≤ 64 then none else if sub ≤ 96 then some (8 + (sub - 65) / 8) else some (if sub ≤ 104 then 13 else 12))
          else none
  | 11 => some 13
  | 13 => if idx = 0xD000 then some 14 else none
  | _ => none

/-- The owning tile is in reset. -/
def State.unavailable (s : State) (f idx sub : Nat) : Bool :=
  match tileOf f idx sub with
  | some k => !s.island k
  | none => false

/-! ### Mode (R331, R337, R363) -/

/-- A write not taken in the present mode. -/
def State.wrongMode (s : State) (idx sub v : Nat) : Bool :=
  let shut := s.inMode .standby || s.inMode .pass || s.wiping
  s.faults.checkstop
    || (decide (0x2110 ≤ idx ∧ idx ≤ 0x211F) && bitAt v 0 && shut)
    || (idx == 0x5013 && ccOp v == 0 && shut)
    || (idx == 0x5030 && wcOp v == 0 && shut)
    || (idx == 0x300E && !s.inMode .test)
    || (idx == 0xD000 && sub == 9 && s.time.st != 5)

/-! ### Running blocks (R307) -/

/-- A generation of the route tables runs (R160). -/
def State.genRuns (s : State) (g : Nat) : Bool :=
  s.arch.islands &&& 0xFF != 0
    && (s.genNow == g || (match s.quiet.getD g none with | some t => decide (s.now < t) | none => false))

/-- Generation a route object belongs to (R162). -/
def genOf (idx sub : Nat) : Option Nat :=
  if idx = 0x4001 ∨ idx = 0x4002 then some (sub - 1)
  else if 0x4100 ≤ idx ∧ idx ≤ 0x411F then some ((idx - 0x4100) / 16)
  else if 0x4200 ≤ idx ∧ idx ≤ 0x49FF then some ((idx - 0x4200) / 0x400)
  else none

/-- An open event queue, context or window of a function (R86). -/
def State.fnInUse (s : State) (f : Nat) : Bool := s.anyCtx f || decide (0 < s.eqsOf f) || decide (0 < s.winUse f)

/-- Tree number of a COLL_TREE index and sub-index. -/
def treeNo (idx sub : Nat) : Nat := (idx - 0x7100) * 256 + sub

/-- True for COLL_TREE. -/
def isTreeIdx (idx : Nat) : Bool := decide (0x7100 ≤ idx ∧ idx ≤ 0x710F)

/-- The owning block of an object runs. -/
def State.blockRuns (s : State) (idx sub v : Nat) : Bool :=
  let byMode := s.inMode .run || s.inMode .hold || s.inMode .pass
  (match genOf idx sub with | some g => s.genRuns g | none => false)
    || (isTreeIdx idx && !(s.tree (treeNo idx sub)).ops.isEmpty)
    || (match idx with
        | 0x2000 => decide (sub ≤ 2) && byMode
        | 0xD000 => sub == 2 && byMode
        | 0x2017 => s.fnInUse sub
        | 0x5012 | 0x6013 => s.anyCtx sub
        | 0x3008 | 0x3009 => decide (7 ≤ (s.link (sub - 1)).stage)
        | 0x2021 => !bitAt v 17 && (!(s.sem sub).holds.isEmpty || !(s.sem sub).waiters.isEmpty)
        | 0x1031 => !s.inMode .standby || s.mode.changing
        | 0xA002 => sub == 3 && s.cfg 0xA002 1 == 1
        | 0xB010 => s.wins.any (fun e => e.2.reg && e.2.store && e.2.fn == sub)
        | _ => false)

/-! ### Queues and limits -/

/-- Commands of a function accepted and not finished (R191, R255). -/
def State.ctxCmdsOut (s : State) (f : Nat) : Nat :=
  (s.fn f).ctxCmds.length + (s.ctxs.filter (fun e => e.1 / 2 ^ 20 == f && e.2.w.closeTok.isSome)).length
def State.winCmdsOut (s : State) (f : Nat) : Nat := (s.fn f).winCmds.length + (s.fn f).revokes.length

/-- A busy block. -/
def State.blockBusy (s : State) (f idx sub : Nat) : Bool :=
  match idx with
  | 0x8000 => sub == 1 && s.mode.changing
  | 0x201A => decide (16 ≤ (s.fn f).invals.length)
  | 0x5013 => decide (64 ≤ s.ctxCmdsOut f)
  | 0x5030 => decide (64 ≤ s.winCmdsOut f)
  | 0xC021 => s.fw.signing.contains sub
  | _ => false

/-- An event queue that an open context or a registered window of the function names (R55, R259); RQ_EQ 0 names none
(R190). -/
def State.eqNamed (s : State) (f q : Nat) : Bool :=
  s.ctxs.any (fun e => e.1 / 2 ^ 20 == f && e.2.c.state != 0 && (e.2.c.sqEq == q || (e.2.c.rqEq == q && e.2.c.rqEq != 0)))
    || s.wins.any (fun e => e.2.reg && e.2.fn == f && (e.2.nt || q != 0) && e.2.notifyEq == q)

/-- A class record that a FAULT_ACK or FAULT_CLEAR value names (R360). -/
def State.recordNamed (s : State) (v : Nat) : Bool :=
  let x := s.classRec (bf v 0 3)
  x.st != .empty && (match x.record with | some r => r.seq % 2 ^ 56 == bf v 8 56 | none => false)

/-- The mode a code names. -/
def modeOf (k : Nat) : Option Mode :=
  [Mode.seat, .boot, .standby, .train, .run, .hold, .pass, .test][k]?

/-- The target's state forbids the change. -/
def State.stateClash (s : State) (f idx sub v : Nat) : Bool :=
  if 0x2110 ≤ idx ∧ idx ≤ 0x211F then
    let q := (idx - 0x2110) * 256 + sub
    if bitAt v 0 then (s.eq? f q).isSome else (s.eq? f q).isSome && s.eqNamed f q
  else if isTreeIdx idx then bitAt v 0 && bitAt (s.cfg idx sub) 0
  else
    match idx with
    | 0x300C => decide (1 ≤ v ∧ v ≤ 3) && (!s.portUp (sub - 1) || (s.link (sub - 1)).lps != 0)
    | 0x8000 =>
      (match modeOf v with
       | some m => decide (2 ≤ v) && m != s.mode.mode && !modeAllowed s.mode.mode m
       | none => false)
    | 0x9001 => decide (sub ≤ 2) && decide (bf v 0 3 ≤ 4) && !s.recordNamed v
    | 0x1030 => bitAt v 28 && (s.obj? (bf v 0 16) (bf v 16 8)).isSome
    | 0xB010 => !bitAt v 32 &&
        s.store.pages.any (fun e => e.1 / 2 ^ 28 == sub && decide (bf v 0 16 * 262144 < e.1 % 2 ^ 28 + 1))
    | 0xB013 => decide (0 < bf v 64 64) && s.storeWinOver sub (bf v 0 64) (bf v 0 64 + bf v 64 64)
    | 0xC001 => if sub = 1 then s.fw.ctrlConflict v || (v == 1 && s.store.st == 3) else s.fw.dataConflict
    | 0xC002 =>
      (match sub with
       | 1 => decide (v ≤ 1) && ((s.fw.slot v).st != .valid || s.fw.phase == 1 || s.fw.phase == 3 || s.fw.phase == 4 || s.fw.phase == 5)
       | 2 => s.fw.phase != 5 || !s.fw.selftest
       | _ => v == 1 && s.fw.phase != 5)
    | 0xC010 => decide (v ≤ 3) && (s.fw.phase == 5 || s.fw.keyUsed v)
    | _ => false

/-- Total length of the integrator objects (R316). -/
def Dict.userBytes (d : Dict) : Nat := total (d.users.map (fun e => e.2.len))

/-- Size of a scalar type (R305). -/
def typeSize (t : Nat) : Nat := [1, 1, 2, 4, 8, 2, 4, 8, 4].getD t 0

/-- Length an integrator's descriptor gives its object. -/
def userLen (v : Nat) : Nat := if bf v 24 4 ≤ 8 then typeSize (bf v 24 4) else bf v 32 32

/-- A quota or a table is full. -/
def State.noRoom (s : State) (f idx v : Nat) : Bool :=
  if 0x2110 ≤ idx ∧ idx ≤ 0x211F then
    bitAt v 0 && (decide (s.eqQuota f ≤ s.eqsOf f)
      || decide (16384 ≤ (s.eqs.filter (fun e => etOf (e.1 / 2 ^ 12) == etOf f)).length))
  else idx == 0x1030 && bitAt v 28 && (decide (4096 ≤ s.dict.users.length) || decide (1048576 < s.dict.userBytes + userLen v))

/-! ### Values -/

/-- Objects whose value is one unsigned range. -/
def rangeOf (idx sub : Nat) : Option (Nat × Nat) :=
  match idx, sub with
  | 0x1010, 3 => some (0, 32)
  | 0x1010, 6 => some (0, 128)
  | 0x1031, _ => some (0x5A5A, 0x5A5A)
  | 0x1032, _ => some (100, 1000000)
  | 0x2000, 5 => some (100, 60000)
  | 0x2023, _ => some (0, 10000)
  | 0x2024, _ => some (0, 3)
  | 0x3004, _ => some (10, 1000000)
  | 0x3005, _ => some (1, 1000000)
  | 0x3006, _ => some (0, 1000000)
  | 0x3007, _ => some (1, 255)
  | 0x3009, _ => some (8, 512)
  | 0x300A, _ => some (10, 1000000)
  | 0x300C, _ => some (0, 3)
  | 0x4000, 1 => some (0, 1)
  | 0x4000, 3 => some (0, 2)
  | 0x4000, 4 => some (0, 64)
  | 0x4000, 6 => some (1, 1000000)
  | 0x4006, _ => some (100, 10000)
  | 0x5000, 1 => some (1, 64)
  | 0x5000, 2 => some (100, 1000000)
  | 0x5000, 3 => some (1, 100000)
  | 0x5000, 4 => some (0, 7)
  | 0x5000, 5 => some (10, 10000)
  | 0x5000, 7 => some (500, 100000)
  | 0x5000, 8 => some (0, 4000)
  | 0x5000, 11 => some (1, 4000)
  | 0x5000, 12 => some (1, 4000)
  | 0x5010, _ => some (1, 4095)
  | 0x5014, _ => some (64, 65536)
  | 0x5033, _ => some (2000, 1000000)
  | 0x6000, 1 => some (1, 100000)
  | 0x6000, 3 => some (0, 16384)
  | 0x6010, _ => some (0, 65536)
  | 0x6012, _ => some (0, 32768)
  | 0x7000, _ => some (100, 100000)
  | 0x8000, _ => some (2, 7)
  | 0x8001, _ => some (0, 1)
  | 0x8010, 3 => some (1, 50)
  | 0x8020, 2 => some (70, 105)
  | 0xA001, _ => some (0, 0)
  | 0xA002, 2 => some (10, 1000000)
  | 0xB000, 5 => some (24, 2160)
  | 0xB000, 6 => some (20, 90)
  | 0xB012, _ => some (0, 0)
  | 0xC001, 1 => some (1, 3)
  | 0xC002, 1 => some (0, 1)
  | 0xC010, _ => some (0, 3)
  | 0xD000, 2 => some (0, 1)
  | 0xD000, 6 => some (250, 100000)
  | 0xD000, 7 => some (10, 1000000)
  | 0xD000, 8 => some (0, 86400000)
  | 0xD000, 10 => some (0, 1000000)
  | 0xD030, 1 => some (1, 1000)
  | _, _ => none

/-- Absolute value of a signed byte of a word. -/
def tapAbs (v k : Nat) : Nat := (signed 8 (bf v (8 * k) 8)).natAbs

/-- The taps of LANE_TX_EQ: |PRE2| + |PRE1| + MAIN + |POST1| ≤ 64 (R137). -/
def badTaps (v : Nat) : Bool :=
  decide (64 < ((tapAbs v 0 + tapAbs v 1 + tapAbs v 3 : Nat) : Int) + signed 8 (bf v 16 8))

/-- A token bucket's BURST and RATE lie in their ranges (R181). -/
def bucketOk (e : Nat) : Bool :=
  decide (1 ≤ bf e 16 16) && decide (1 ≤ bf e 32 32) && decide (bf e 32 32 ≤ 1250000)

/-- Entries of a class of a gate schedule as valid ones, and whether valid ones come first (R178). -/
def gateFirst (v c : Nat) : Bool :=
  let on := (List.range 16).map (fun k => bitAt v (128 + 32 * (16 * c + k) + 31))
  !((List.range 15).any (fun k => !(on.getD k false) && on.getD (k + 1) false))

/-- Offsets rise strictly. -/
def rises : List (Nat × Bool) → Bool
  | a :: b :: r => decide (a.1 < b.1) && rises (b :: r)
  | _ => true

/-- Longest stretch of open time in a class's cycle, the wrap included: a run of OPEN entries from one start. -/
def openFrom (period : Nat) : Nat → List (Nat × Bool) → Nat → Nat
  | 0, _, _ => 0
  | n + 1, l, k =>
    let e := l.getD (k % l.length) (0, false)
    if !e.2 then 0
    else
      let next := (l.getD ((k + 1) % l.length) (0, false)).1
      (if (k + 1) % l.length = 0 then next + period - e.1 else next - e.1) + openFrom period n l (k + 1)

/-- A class with valid entries is open for at least 200 ns somewhere in a cycle (R178). -/
def hasWindow (period : Nat) (l : List (Nat × Bool)) : Bool :=
  l.isEmpty || (List.range l.length).any (fun k => decide (200 ≤ openFrom period l.length l k))

/-- A gate schedule R178 refuses. -/
def badSched (v : Nat) : Bool :=
  decide (gPeriod v < 1000) || decide (1000000 < gPeriod v)
    || (List.range 4).any (fun c =>
        let l := gEntries v c
        !gateFirst v c || !rises l || l.any (fun e => decide (gPeriod v ≤ e.1)) || !hasWindow (gPeriod v) l)

/-- True where an event number is defined for counter tile t (R368). -/
def eventDefined (t ev : Nat) : Bool :=
  decide (ev ≤ 3)
    || (if t ≤ 7 then [0x100, 0x101, 0x102, 0x103, 0x110, 0x111, 0x120, 0x121, 0x130, 0x140, 0x150, 0x160].contains ev
        else if t ≤ 11 then [0x400, 0x401, 0x410, 0x411, 0x412, 0x420, 0x430, 0x431, 0x432, 0x440, 0x450, 0x451, 0x460, 0x461, 0x470].contains ev
        else if t = 12 then decide (0x800 ≤ ev ∧ ev ≤ 0x802) else decide (0x700 ≤ ev ∧ ev ≤ 0x703))

/-- A CTR_CFG value R364 refuses for counter tile t. -/
def badCtr (t v : Nat) : Bool :=
  let u := bf v 16 6
  !eventDefined t (bf v 0 12) || !(u == 0x3F || decide (u ≤ 3) || (decide (t ≤ 7) && decide (u ≤ 7)))
    || (bitAt v 22 && (decide (t < 8 ∨ 11 < t) || etOf (bf v 24 8) != t - 8))

/-- An integrator descriptor R316 refuses. -/
def badUser (v : Nat) : Bool :=
  let t := bf v 24 4
  let len := bf v 32 32
  decide (bf v 0 16 < 0xE000)
    || (bitAt v 28 && (decide (10 < t) || (t == 10 && (decide (len < 1) || decide (4096 < len))) || (t == 9 && decide (255 < len))
        || (decide (9 ≤ t) && bf v 64 64 != 0) || (t == 0 && decide (1 < bf v 64 8))))

/-- A value outside its range (R305 and the objects' own bounds). -/
def badValue (f idx sub v : Nat) : Bool :=
  (match rangeOf idx sub with | some (lo, hi) => decide (v < lo) || decide (hi < v) | none => false)
    || (if 0x2110 ≤ idx ∧ idx ≤ 0x211F then
          bitAt v 0 && (decide (bf v 1 5 < 4) || decide (20 < bf v 1 5) || bf v 64 12 != 0
            || (bf v 16 16 != 0xFFFF && decide ((if isPf f then 64 else 16) ≤ bf v 16 16)))
        else if 0x4100 ≤ idx ∧ idx ≤ 0x411F then
          decide (3200 < (idx - 0x4100) % 16 * 256 + sub)
            || (List.range 31).any (fun k => bitAt (exitWord v (k + 1)) 12 && decide (bf (exitWord v (k + 1)) 0 6 < 14))
        else
          match idx with
          | 0x2000 => if sub = 1 then decide (3200 < v / 64 ∧ v / 64 < 4095) else if sub = 2 then decide (262143 < v ∧ v < 0xFFFFF) else false
          | 0x2012 => decide (262144 < v) && v != 0xFFFFFFFF
          | 0x2013 => decide (4096 < v) && v != 0xFFFF
          | 0x6011 => decide (131072 < v) && v != 0xFFFFFFFF
          | 0x5031 => decide (8192 < v) && v != 0xFFFF
          | 0x2019 => bitAt v 0 && (decide (bf v 6 6 < 12) || decide (51 < bf v 6 6) || bf v 12 40 * 2 ^ 12 % 2 ^ bf v 6 6 != 0)
          | 0x201A => (!bitAt v 0 && (bf v 64 64 == 0 || decide (2 ^ 48 < bf v 64 64))) || bf v 128 64 % 4 != 0
          | 0x2021 => sub == 0 && (bf v 0 16 != 1 || !bitAt v 16)
          | 0x3003 => !(v == 1 || v == 2 || v == 4)
          | 0x3008 => decide (1536 < total ((List.range 10).map (fun k => bf v (16 * k) 16)))
          | 0x300B => badTaps v
          | 0x300E => decide (4 < bf v 4 3)
          | 0x4001 => decide (63 < v) && v != 0xFF
          | 0x4003 => !(decide (bf v 0 8 < bf v 8 8) && decide (bf v 8 8 < bf v 16 8) && decide (bf v 16 8 ≤ 100))
          | 0x5012 => decide (20 < bf v 1 5) || bf v 12 45 * 2 ^ 12 % 2 ^ (bf v 1 5 + 8) != 0
          | 0x6013 => decide (16 < bf v 1 5)
          | 0x5013 => ccOp v == 3 || ccCompl v % 16 != 0
          | 0x5030 => wcOp v == 3 || wcCompl v % 16 != 0
          | 0x6000 => sub == 4 && (decide (bf v 8 8 < 1) || decide (100 < bf v 8 8) || decide (bf v 16 16 < 10) || decide (10000 < bf v 16 16))
          | 0x9001 => decide (sub ≤ 2) && decide (4 < bf v 0 3)
          | 0xA000 => badCtr ((sub - 1) / 8) v
          | 0xA002 => sub == 3 && (decide (ringLog2 v < 6) || decide (20 < ringLog2 v) || bf v 64 12 != 0 || bf v 128 2 != 0 || bf v 192 2 != 0)
          | 0xB010 => decide (768 < bf v 0 16) || decide (bf v 0 16 < bf v 16 16)
          | 0xB013 => bf v 0 12 != 0 || bf v 64 12 != 0
          | 0xD000 => sub == 12 && (decide (signed 32 v < -500000000) || decide (500000000 < signed 32 v))
          | 0xD001 => decide (signed 16 v < -30000) || decide (30000 < signed 16 v)
          | 0xD010 => badSched v
          | 0xD020 => !((List.range 9).all (fun k => bucketOk (bf v (64 * k) 64)))
          | 0xD021 => !((List.range 7).all (fun k => bucketOk (bf v (64 * k) 64)))
          | 0x1030 => badUser v
          | _ => false)

/-- A range that depends on another value of the object's owner: a trim lies within its function's SIZE (R379). -/
def State.badRange (s : State) (idx sub v : Nat) : Bool :=
  idx == 0xB013 && decide (4096 * s.allotPages sub < bf v 0 64 + bf v 64 64)

/-- Spill records of every enabled region, with a function's new word (R200). -/
def State.spillSum (s : State) (f v : Nat) : Nat :=
  total ((List.range 256).map (fun g => let w := if g = f then v else s.cfg 0x5012 g
    if bitAt w 0 then 2 ^ bf w 1 5 else 0))

/-- Physical space claimed once an allotment write applies (R377), in pages. -/
def State.claimAfter (s : State) (f v : Nat) : Nat :=
  let used := if bitAt v 32 then 0 else s.usedPages f
  s.claimed - max (s.usedPages f) (s.guarPages f) + max used (bf v 16 16 * 262144)

/-- A value that clashes with other configuration. -/
def State.valueClash (s : State) (idx sub v : Nat) : Bool :=
  if isTreeIdx idx then bitAt v 0 && !s.treeOk (treeNo idx sub) v
  else if 0x4100 ≤ idx ∧ idx ≤ 0x411F then bitAt v 0 && bitAt v 2 && !s.portUp (bf v 3 6)
  else
    match idx with
    | 0x2020 => s.regionClash (sub - 1) (regionOf v)
    | 0x3005 => decide (s.cfg 0x3004 1 < v)
    | 0x3008 => (List.range 10).any (fun k => decide (bf v (16 * k) 16 < s.cfg 0x3009 sub + 24))
    | 0x3009 => (List.range 10).any (fun k => decide (bf (s.cfg 0x3008 sub) (16 * k) 16 < v + 24))
    | 0x5012 => decide (16777216 < s.spillSum sub v)
    | 0xB010 => decide (poolPages < s.claimAfter sub v)
    | 0xC002 =>
      if sub = 1 then decide (iCfg (s.fw.slot v).hdr < s.fw.runCfg) && !(s.journalNow false).isEmpty
      else sub == 2 && v != s.dict.fwVersion
    | _ => false

/-! ### The whole order (R327) -/

/-- Object, sub-index, right and scope: the checks a read ends with. -/
def State.reach (s : State) (r : Req) (idx sub : Nat) (wr : Bool) : Option Abort :=
  match s.obj? idx sub with
  | none => some (if s.idxAssigned idx then .noSub else .noObject)
  | some o => firstAbort [(!s.hasRight r o idx wr, .noRight), (!inScope r o idx sub wr, .outOfScope)]

/-- Writable at all. -/
def Acc.writable : Acc → Bool
  | .const | .ro => false
  | _ => true

/-- A write of `len` bytes has the object's length (R305). -/
def Obj.lenOk (o : Obj) (len : Nat) : Bool := if o.ty = 9 then decide (len ≤ o.len) else len == o.len

/-- The checks of a first segment (R319), in order, before any that looks at the value: object to LENGTH. -/
def State.openCheck (s : State) (r : Req) (idx sub len : Nat) : Option Abort :=
  match s.reach r idx sub true, s.obj? idx sub with
  | some a, _ => some a
  | none, none => some .noSub
  | none, some o =>
    firstAbort [(s.noAuthority r idx sub, .notAuthority), (!o.acc.writable, .readOnly), (!o.lenOk len, .length)]

/-- The checks on mode, state and value (R327): UNAVAILABLE to CONFLICT_VALUE. -/
def State.valueCheck (s : State) (r : Req) (idx sub v : Nat) : Option Abort :=
  let f := (reqFn r).getD 0
  let bool := (s.obj? idx sub).any (fun o => o.ty == 0) && decide (1 < v)
  firstAbort [(s.unavailable f idx sub, .unavailable), (s.wrongMode idx sub v, .wrongMode), (s.blockRuns idx sub v, .blockRunning),
    (s.blockBusy f idx sub, .busy), (s.stateClash f idx sub v, .conflictState), (s.noRoom f idx v, .noCapacity),
    (bool || badValue f idx sub v || s.badRange idx sub v, .valueRange), (s.valueClash idx sub v, .conflictValue)]

/-- Every check of a write but PERSIST_FAIL. -/
def State.writeCheck (s : State) (r : Req) (idx sub len v : Nat) : Option Abort :=
  (s.openCheck r idx sub len).or (s.valueCheck r idx sub v)

/-- A value with its reserved bits read as 0 (R3). -/
def Obj.clean (o : Obj) (v : Nat) : Nat :=
  match o.mask with
  | some m => Nat.land v m
  | none => v

end Sys2Proof.Machine
end

