-- ==== Sys2Proof/Machine/Effects.lean ====
section
/-! DEFINITION. What an accepted dictionary write does (R308 to R316) beside becoming its object's value: the effect each
object's chapter gives it, and the journal (R315, R397). -/

namespace Sys2Proof.Machine

/-! ### The journal (R315, R397) -/

/-- The value an object keeps: SEM_CFG's FORCE and FN_STORE_ALLOT's ERASE read 0 (R105, R377). -/
def keptValue (idx v : Nat) : Nat := if idx = 0x2021 then v % 2 ^ 17 else if idx = 0xB010 then v % 2 ^ 32 else v

/-- Key of an integrator's definition in the journal. -/
def userKey (key : Nat) : Nat := 2 ^ 24 + key

/-- Object key and default an integrator descriptor gives (R316). -/
def descKey (v : Nat) : Nat := okey (bf v 0 16) (bf v 16 8)
def descDefault (v : Nat) : Nat := if bf v 24 4 ≤ 8 then bf v 64 64 % 2 ^ (8 * typeSize (bf v 24 4)) else 0

/-- The records an accepted write of a persisted object puts into the journal. -/
def journalRecs (idx sub v : Nat) : List (Nat × Nat) :=
  (okey idx sub, keptValue idx v)
    :: (if idx = 0x1030 then [(userKey (descKey v), if bitAt v 28 then v else 0), (descKey v, descDefault v)] else [])

/-- Both formats' records while an update keeps two sets (R397). -/
def State.allRecs (s : State) (idx sub v : Nat) : List (Nat × Nat) :=
  let l := journalRecs idx sub v
  if s.fw.twoFormats then l ++ l.map (fun e => (newFormat + e.1, e.2)) else l

/-- The journal takes these records: the store takes system data and staging has room (R315, R373, R382). -/
def State.journalTakes (s : State) (l : List (Nat × Nat)) : Bool :=
  decide (s.store.st < 2) && decide (s.staged + 16 * l.length ≤ 8388608)

/-- Put records into the journal. -/
def State.journalWrite (s : State) (l : List (Nat × Nat)) : State :=
  (l.foldl (fun s e => (s.stage (.journal e.1 e.2)).storeCount 1 16) s).dictCount 7

/-! ### Single effects -/

/-- EQ_DESC (R55): create, or destroy; a destroy of a queue that does not exist changes nothing. -/
def State.writeEq (s : State) (f q v : Nat) : State :=
  let desc (s : State) : State := s.modFn f (fun x => { x with eqDesc := Tbl.put x.eqDesc q v })
  if bitAt v 0 then
    let e : EventQ := { log2 := bf v 1 5, vector := bf v 16 16, base := bf v 64 64, modCount := bf v 128 16, modTime := bf v 144 16 }
    desc { s with eqs := Tbl.put s.eqs (qkey f q) e }
  else if (s.eq? f q).isSome then desc { s with eqs := Tbl.del s.eqs (qkey f q) }
  else s

/-- ACU_REGION (R91, R95): the region, the epoch, and waiting acquires checked again. -/
def State.writeRegion (s : State) (k v : Nat) : State :=
  ({ s with acu := { s.acu with regions := s.acu.regions.set k (regionOf v), epoch := s.acu.epoch + 1 } }).semRecheck

/-- PORT_ENABLE (R137). -/
def State.writeEnable (s : State) (p v : Nat) : State :=
  if v = 1 then (if (s.link p).stage = 0 then s.portStart p else s) else if (s.link p).stage = 0 then s else s.portOff p

/-- PORT_LPS_REQ (R134, R135): 0 leaves a low-power state or ends this side's request. -/
def State.writeLps (s : State) (p st : Nat) : State :=
  let l := s.link p
  if st ≠ 0 then s.lpsRequest p st false
  else if 1 ≤ l.lps ∧ l.lps ≤ 3 then s.lpsExit p
  else if l.lps = 4 then s.lpsEnd p l.lpsLast
  else s

/-- PORT_TEST (R136, R137): turning the checker on clears the lanes' error counts. -/
def State.writeTest (s : State) (p old v : Nat) : State :=
  if bitAt v 7 && !bitAt old 7 then
    (s.modLink p (fun l => { l with lanes := l.lanes.map (fun (x : Lane) => { x with pattern := 0, patAt := s.freeVal 32 }) })).nextFree
  else s

/-- ROUTE_GEN_ACTIVE (R159, R160): the generation left stays quiet for PKT_LIFETIME. -/
def State.writeGen (s : State) (old v : Nat) : State :=
  if old = v then s
  else
    let quiet := if s.arch.islands &&& 0xFF = 0 then none else some (s.now + 2 * ms)
    { s with quiet := (s.quiet.set old quiet).set v none }

/-- COLL_TREE (R280). -/
def State.writeTree (s : State) (t v : Nat) : State :=
  if bitAt v 0 then s.installTree t v else s.uninstallTree t

/-- ATOMIC_CACHE (R265, R276). -/
def State.writeAtomicCache (s : State) (n v : Nat) : State :=
  if v = 0 then (s.modEt n (fun e => { e with atoms := [] })).uncache (fun r => r.hp == n) else s

/-- MODE_REQ (R334). -/
def State.writeMode (s : State) (v : Nat) : State :=
  match modeOf v with
  | some m => if m = s.mode.mode then s else s.beginChange m 1
  | none => s

/-- FAULT_ACK and FAULT_CLEAR (R360). -/
def State.writeAck (s : State) (v : Nat) : State :=
  s.modClass (bf v 0 3) (fun x => if x.st = .latched then { x with st := .acked } else x)
def State.writeClear (s : State) (v : Nat) : State := s.modClass (bf v 0 3) (fun _ => {})

/-- CTR_CFG and CTR_VALUE (R364, R365). -/
def State.writeCtrCfg (s : State) (sub v : Nat) : State :=
  { s with ctrs := { s.ctrs with cfg := Tbl.put s.ctrs.cfg sub v, val := Tbl.del s.ctrs.val sub } }
def State.writeCtrValue (s : State) (sub : Nat) : State :=
  { s with ctrs := { s.ctrs with val := Tbl.del s.ctrs.val sub } }

/-- CTR_READER_ENABLE (R367): it resumes from the producer index last written; an absent owner clears it. -/
def State.writeReader (s : State) (old v : Nat) : State :=
  if v = 1 ∧ !s.present (ringOwner s.ring) then s.setCfg 0xA002 1 0
  else if v = 1 ∧ old = 0 then
    ({ s with ctrs := { s.ctrs with producer := s.ctrs.wrote, waitRec := none, snapAt := s.now, snapFt := s.ftNs } }).readerStep
  else s

/-- A bucket under a new entry (R181): full when it is enabled, never above BURST. -/
def bucketUnder (now old new : Nat) (b : Bucket) : Bucket :=
  if !bitAt old 0 then { level := bf new 16 16 * token, at_ := now }
  else { refill old now b with level := min (refill old now b).level (bf new 16 16 * token) }

/-- SHAPER and POLICER (R181). -/
def State.writeBuckets (s : State) (shape : Bool) (p old v : Nat) : State :=
  let go (l : List Bucket) : List Bucket :=
    (List.range l.length).map (fun k => bucketUnder s.now (bf old (64 * k) 64) (bf v (64 * k) 64) (l.getD k {}))
  s.modPortq p (fun q => if shape then { q with shapers := go q.shapers } else { q with policers := go q.policers })

/-- GATE_SCHED (R180): pending until its switch instant. -/
def State.writeSched (s : State) (p v : Nat) : State :=
  s.modGate p (fun g => { g with pend := some (BitVec.ofNat 2176 v, s.switchAt v) })

/-- FT_SET (R164). -/
def State.writeFt (s : State) (v : Nat) : State := s.ftStep ((v * ns16 : Nat) - (s.time.ft.toNat : Int))

/-- FN_STORE_ALLOT with ERASE (R377), and FN_STORE_TRIM (R379). -/
def State.writeAllot (s : State) (f v : Nat) : State := if bitAt v 32 then s.freePages f 0 (2 ^ 28) else s
def State.writeTrim (s : State) (f v : Nat) : State := s.freePages f (bf v 0 64 / 4096) ((bf v 0 64 + bf v 64 64) / 4096)

/-- DICT_USER_DEFINE (R316): a definition, or with ENABLE 0 a deletion. -/
def State.writeUser (s : State) (v : Nat) : State :=
  let k := descKey v
  let users := if bitAt v 28 then Tbl.put s.dict.users k { type := bf v 24 4, len := userLen v, dflt := descDefault v } else Tbl.del s.dict.users k
  { s with dict := { s.dict with users := users, vals := Tbl.del s.dict.vals k } }

/-- DICT_FACTORY (R329, R377): the journal goes, and the data of every allotment. -/
def State.writeFactory (s : State) : State :=
  { s with
    dict := { s.dict with journal := [], journal2 := [] }
    store := { s.store with
      pages := []
      staging := s.store.staging.filter (fun i => match i with | .log _ => true | _ => false) } }

/-- ATTEST_REQ (R407): the quote at this sub reads zero until it is signed. -/
def State.writeAttest (s : State) (sub v : Nat) : State :=
  s.modFw (fun x => { x with nonce := Tbl.put x.nonce sub v, quotes := Tbl.del x.quotes sub, signing := x.signing ++ [sub] })

/-- FW_UPLOAD_CTRL (R395): the failing code of a COMMIT, or 0. -/
def State.writeUpload (s : State) (v : Nat) : State × Nat :=
  if v = 1 then (s.uploadOpen, 0) else if v = 2 then s.uploadCommit else (s.uploadAbort, 0)

/-! ### The effect of a write -/

/-- Objects whose accepted writes extend M4 (R406). -/
def measured (idx : Nat) : Bool := [0x1020, 0x1021, 0x2020, 0x2025, 0x8001].contains idx

/-- What follows, beside the new value, from a write to an object of areas 1 to 7. -/
def State.effectLow (s : State) (f idx sub old v : Nat) : State :=
  if 0x2110 ≤ idx ∧ idx ≤ 0x211F then s.writeEq f ((idx - 0x2110) * 256 + sub) v
  else if isTreeIdx idx then s.writeTree (treeNo idx sub) v
  else
    match idx with
    | 0x1030 => s.writeUser v
    | 0x1031 => s.writeFactory
    | 0x2000 => s.timeNames
    | 0x201A => s.startInval f v
    | 0x2020 => s.writeRegion (sub - 1) v
    | 0x2021 => s.semConfigure sub v
    | 0x3002 => s.writeEnable (sub - 1) v
    | 0x3008 | 0x3009 => s.fcWatch (sub - 1)
    | 0x300C => s.writeLps (sub - 1) v
    | 0x300E => s.writeTest (sub - 1) old v
    | 0x4000 => if sub = 1 then s.writeGen old v else if sub = 6 then s.decayHold old else s
    | 0x5013 => s.modFn f (fun x => { x with ctxCmds := x.ctxCmds ++ [BitVec.ofNat 512 v], ctxCmdLast := BitVec.ofNat 512 v })
    | 0x5030 => (s.winAccept f v).modFn f (fun x => { x with winCmds := x.winCmds ++ [BitVec.ofNat 512 v], winCmdLast := BitVec.ofNat 512 v })
    | 0x5034 => s.writeAtomicCache (sub - 1) v
    | 0x6000 => if sub = 4 then s.balanceHold old else s
    | _ => s

/-- What follows from a write to an object of areas 8 to 13. -/
def State.effectHigh (s : State) (idx sub old v : Nat) : State :=
  match idx with
  | 0x8000 => s.writeMode v
  | 0x8010 => { s with sup := { s.sup with faultTimer := v } }
  | 0x9001 => if sub = 1 then s.writeAck v else if sub = 2 then s.writeClear v else s
  | 0xA000 => s.writeCtrCfg sub v
  | 0xA001 => s.writeCtrValue sub
  | 0xA002 => if sub = 1 then s.writeReader old v else s
  | 0xB010 => s.writeAllot sub v
  | 0xB013 => s.writeTrim sub v
  | 0xC002 => if sub = 1 then s.activate v else if sub = 2 then s.confirm else if v = 1 then s.fallBack 4 else s
  | 0xC010 => s.revokeKey v
  | 0xC021 => s.writeAttest sub v
  | 0xD000 => if sub = 2 then s.timeRole else if sub = 9 then s.writeFt v else s
  | 0xD003 => s.timeWatch
  | 0xD010 => s.writeSched (sub - 1) v
  | 0xD020 => s.writeBuckets true (sub - 1) old v
  | 0xD021 => s.writeBuckets false (sub - 1) old v
  | _ => s

/-- Objects whose value is not kept among the accepted values: they are state of their own, or read 0. -/
def elsewhere (idx sub : Nat) : Bool :=
  decide (0x2110 ≤ idx ∧ idx ≤ 0x211F) || [0x201A, 0x5013, 0x5030, 0xA000, 0xA001, 0xC021].contains idx
    || (idx == 0xC002 && sub == 3) || (idx == 0xC001 && sub == 2)

/-- Take an accepted write: the value, then its effect. -/
def State.takeWrite (s : State) (f idx sub v : Nat) : State :=
  let old := s.cfg idx sub
  let s := if idx = 0xD000 ∧ (sub = 11 ∨ sub = 12) then s.outHold else s
  let s := if elsewhere idx sub then s else s.setCfg idx sub (keptValue idx v)
  let s := if idx < 0x8000 then s.effectLow f idx sub old v else s.effectHigh idx sub old v
  if measured idx then s.extendM4 idx sub (natLe (((objAt idx sub).map (·.len)).getD 0) v) else s

/-- The two firmware uploads, which end with CONFLICT_VALUE when a check of R394 fails and yet change state. -/
def State.upload (s : State) (sub v : Nat) (bytes : List Byte) : State × Option Abort :=
  let r := if sub = 1 then s.writeUpload v else s.uploadData bytes
  if r.2 = 0 then ((if sub = 1 then r.1.setCfg 0xC001 1 v else r.1), none) else (r.1, some .conflictValue)

/-- A number that keeps a STR's length beside its bytes (R305). -/
def strValue (bytes : List Byte) : Nat := leNat bytes + bytes.length * 2 ^ 2048

/-- The value a write carries, with reserved bits read as 0. -/
def Obj.valueOf (o : Obj) (bytes : List Byte) : Nat := if o.ty = 9 then strValue bytes else o.clean (leNat bytes)

/-- FW_CONFIRM at or past the trial's end finds the fallback taken first (R402). -/
def State.trialFirst (s : State) (idx sub : Nat) : State :=
  if idx = 0xC002 ∧ sub = 2 ∧ s.trialOver then s.fallBack 1 else s

/-- The rest of a write, once its object, rights, scope, class and length stand: the checks on its value, the journal, the
value and its effect. -/
def State.valueStep (s : State) (r : Req) (idx sub : Nat) (bytes : List Byte) (o : Obj) : State × Option Abort :=
  let v := if idx = 0xC001 ∧ sub = 2 then 0 else o.valueOf bytes
  match s.valueCheck r idx sub v with
  | some a => ((if a = .conflictValue ∧ idx = 0x2020 then s.mtFault 0x0340 deferred else s), some a)
  | none =>
    let recs := s.allRecs idx sub v
    if o.persist && !s.journalTakes recs then (s.mtFault 0x0120 deferred, some .persistFail)
    else if idx = 0xC001 then s.upload sub v bytes
    else ((if o.persist then s.journalWrite recs else s).takeWrite ((reqFn r).getD 0) idx sub v, none)

/-- One step of the engine on a write (R308): every check in order, the journal, the value and its effect. -/
def State.writeStep (s : State) (r : Req) (idx sub : Nat) (bytes : List Byte) : State × Option Abort :=
  let s := s.trialFirst idx sub
  match s.openCheck r idx sub bytes.length, s.obj? idx sub with
  | some a, _ => (s, some a)
  | none, none => (s, some .noSub)
  | none, some o => s.valueStep r idx sub bytes o

/-- The acceptance of a segmented write at its last segment (R319): the class check again, and the value checks. -/
def State.lateStep (s : State) (r : Req) (idx sub : Nat) (bytes : List Byte) : State × Option Abort :=
  match s.obj? idx sub with
  | none => (s, some (if s.idxAssigned idx then .noSub else .noObject))
  | some o =>
    if !o.acc.writable then (s, some .readOnly) else if !o.lenOk bytes.length then (s, some .length)
    else s.valueStep r idx sub bytes o

end Sys2Proof.Machine
end

