-- ==== Sys2Proof/Machine/Dictionary.lean ====
section
/-! DEFINITION. The dictionary engine (spec 12, R308, R317 to R326): PDUs, the seven queues, reads, segmented writes,
snapshots, DESCRIBE, CANCEL, RELAY, kept responses, and their commands. -/

namespace Sys2Proof.Machine

/-! ### The PDU header (R317) -/

def dVersion (h : Nat) : Nat := bf h 0 4
def dService (h : Nat) : Nat := bf h 4 4
def dLast (h : Nat) : Bool := bitAt h 9
def dTxid (h : Nat) : Nat := bf h 16 16
def dIndex (h : Nat) : Nat := bf h 32 16
def dSub (h : Nat) : Nat := bf h 48 8
def dLen (h : Nat) : Nat := bf h 64 13
def dOffset (h : Nat) : Nat := bf h 80 16
def dTotal (h : Nat) : Nat := bf h 96 32

/-- The header of a PDU, a missing byte reading 0. -/
def pduHdr (pdu : List Byte) : Nat := leNat (pdu.take 16)

/-- The data of a PDU. -/
def pduData (pdu : List Byte) : List Byte := (pdu.drop 16).take (dLen (pduHdr pdu))

/-- SERVICE codes. -/
abbrev svcRead : Nat := 0
abbrev svcWrite : Nat := 1
abbrev svcDescribe : Nat := 2
abbrev svcCancel : Nat := 3
abbrev svcRelay : Nat := 4

/-- Codes of R327. -/
def abortCode : Abort → Nat
  | .badPdu => 0x08010000
  | .noObject => 0x06020000
  | .noSub => 0x06020001
  | .noRight => 0x06030000
  | .outOfScope => 0x06030002
  | .notAuthority => 0x06030001
  | .readOnly => 0x06010000
  | .length => 0x06040000
  | .unavailable => 0x06050003
  | .wrongMode => 0x06050002
  | .blockRunning => 0x06050000
  | .busy => 0x06050004
  | .conflictState => 0x06050001
  | .noCapacity => 0x06050005
  | .valueRange => 0x06040001
  | .conflictValue => 0x06040002
  | .segSequence => 0x06060000
  | .segTimeout => 0x06060001
  | .segLimit => 0x06060002
  | .cancelled => 0x06060003
  | .relayTimeout => 0x06060004
  | .persistFail => 0x06070000
  | .internal => 0x06080000

/-- A response PDU (R317). -/
def respPdu (svc txid idx sub off total : Nat) (last aborted : Bool) (data : List Byte) : List Byte :=
  natLe 16 (pack [(0, 4, 1), (4, 4, svc), (8, 1, 1), (9, 1, b2n last), (10, 1, b2n aborted), (16, 16, txid), (32, 16, idx),
    (48, 8, sub), (64, 13, data.length), (80, 16, off), (96, 32, total)]) ++ data

/-- The response that aborts a request. -/
def abortPdu (h : Nat) (a : Abort) : List Byte :=
  respPdu (dService h) (dTxid h) (dIndex h) (dSub h) (dOffset h) (abortCode a) false true []

/-- The response to an accepted write or segment. -/
def okPdu (h : Nat) : List Byte := respPdu (dService h) (dTxid h) (dIndex h) (dSub h) (dOffset h) 0 false false []

/-- The header of a WRITE of `len` bytes in one segment (R319). -/
def writeHdr (r : Req) (idx sub len : Nat) : Nat :=
  pack [(0, 4, 1), (4, 4, svcWrite), (9, 1, 1), (16, 16, r.txid), (32, 16, idx), (48, 8, sub), (64, 13, len), (96, 32, len)]

/-- Segment size of a requester's path (R317). -/
def segSize (r : Req) : Nat := match r.pr with | .fabric | .fw => 4096 | _ => 1024

/-- A request that ends with BAD_PDU (R318, R42): its length is the header and DLEN, a MAILBOX's padded to words. -/
def badPdu (r : Req) (pdu : List Byte) : Bool :=
  let h := pduHdr pdu
  let pad := match r.pr with | .host _ => 3 | _ => 0
  dVersion h != 1 || decide (4 < dService h) || decide (segSize r < dLen h) || decide (pdu.length < 16 + dLen h)
    || decide (16 + dLen h + pad < pdu.length)

/-! ### Paths (R308, R331, R363) -/

/-- The engine serves a requester's path. -/
def State.pathOpen (s : State) (r : Req) : Bool :=
  let up := !s.inMode .seat && !s.inMode .boot && s.island 12
  match r.pr with
  | .fw => up && !s.faults.checkstop
  | .mgmt => up
  | .fabric => up && !s.faults.checkstop && (s.inMode .train || s.inMode .run || s.inMode .pass || s.inMode .test)
  | .host f => up && !s.faults.checkstop && s.present f
  | .smb => false

/-- Queue of a requester: 0 FW, 1 MGMT, 2 FABRIC, 3 to 6 the MAILBOX pages of H0 to H3. -/
def queueOf (r : Req) : Nat :=
  match r.pr with
  | .fw => 0
  | .mgmt => 1
  | .fabric => 2
  | .host f => 3 + etOf f
  | .smb => 7

def State.modDict (s : State) (g : Dict → Dict) : State := { s with dict := g s.dict }

def State.dictQueue (s : State) (q : Nat) : List DictReq := Tbl.getD s.dict.queues q []

/-- A request joins its queue. -/
def State.enqueue (s : State) (x : DictReq) : State :=
  let q := queueOf x.r
  s.modDict (fun d => { d with queues := Tbl.put d.queues q (Tbl.getD d.queues q [] ++ [x]) })

/-! ### Answers (R322 to R325) -/

/-- An MGT packet from the management tile (R324): the PDU header behind the routing header. -/
def State.sendMgt (s : State) (form : Bool) (dev : Nat) (pdu : List Byte) : State :=
  if s.injectStopped then s
  else s.injectFrom 12 {
    kind := kindMgt, hlen := 5, dform := form, plen := (pdu.drop 16).length, dstDev := dev, srcDev := s.selfName.1,
    sform := s.selfName.2, ext := pduHdr pdu, payload := pdu.drop 16 }

/-- A fabric source as one number: its device and form (R322). -/
def fabricSrc (form : Bool) (dev : Nat) : Nat := dev + b2n form * 2 ^ 20

/-- A frame with its 4 bytes of FCS is 1,518 B at most (R8). -/
def frameFits (n : Nat) : Bool := decide (n + 4 ≤ 1518)

/-- Bytes of the frame of a datagram: Ethernet, IPv4 or IPv6, UDP, and the PDU. -/
def datagramLen (v6 : Bool) (pdu : List Byte) : Nat := min 4096 ((if v6 then 62 else 42) + pdu.length)

/-- The bytes of a frame: its headers, which the model does not spell out, and what they carry. -/
def State.frameBytes (s : State) (hdr : Nat) (data : List Byte) : List Byte := (List.range hdr).map (Config.freeByte s.free) ++ data

/-- Send a frame from its buffer, which the amber LED shows (R416); one whose transfer access control refuses is discarded
(R87, R93). -/
def State.frameOut (s : State) (len : Nat) (o : Out) : State :=
  match s.transfer 11 len false with
  | (s, true) => (s.modDict (fun d => { d with amberAt := some s.now })).emit o
  | (s, false) => s

/-- Send a response to its requester; a MAILBOX page's GO clears with it (R325). -/
def State.respond (s : State) (r : Req) (source : Nat) (pdu : List Byte) : State :=
  let s := if bitAt (pduHdr pdu) 10 then s.dictCount 1 else s
  match r.pr with
  | .host f => s.modFn f (fun x => { x with mbResp := pdu.take 2048, mbGo := false })
  | .fabric => s.sendMgt (bitAt r.src 20) (r.src % 2 ^ 20) pdu
  | .mgmt => s.frameOut (datagramLen (bitAt r.src 144) pdu) (.dictResp r source pdu)
  | _ => s.emit (.dictResp r source pdu)

/-- Source and key under which a response is kept (R322); none where none is kept. -/
def keptSrc (r : Req) : Option Nat :=
  match r.pr with
  | .mgmt => some (2 * r.src)
  | .fabric => some (2 * r.src + 1)
  | _ => none

def keptKey (h : Nat) : Nat :=
  pack [(0, 16, dTxid h), (16, 4, dService h), (20, 16, dIndex h), (36, 8, dSub h), (44, 16, dOffset h)]

/-- Drop the oldest of one source's responses beyond 16, and of all beyond 1,024. -/
def trimKept (src : Nat) (l : List Kept) : List Kept :=
  let l := if 16 < (l.filter (fun k => k.src == src)).length then l.eraseP (fun k => k.src == src) else l
  l.drop (l.length - 1024)

/-- Keep a response (R322). -/
def State.keep (s : State) (r : Req) (h : Nat) (pdu : List Byte) : State :=
  match keptSrc r with
  | none => s
  | some src => s.modDict (fun d => { d with kept := trimKept src (d.kept ++ [{ src := src, key := keptKey h, pdu := pdu, at_ := s.now }]) })

/-- The kept response a request's key matches. -/
def State.keptFor (s : State) (r : Req) (h : Nat) : Option Kept :=
  match keptSrc r with
  | none => none
  | some src => s.dict.kept.find? (fun k => k.src == src && k.key == keptKey h && decide (s.now < k.at_ + 10 * sec))

/-- Keep a response, then send it. -/
def State.answerReq (s : State) (r : Req) (source h : Nat) (pdu : List Byte) : State := (s.keep r h pdu).respond r source pdu

/-- End a request with an abort, or with a given response. -/
def State.abortReq (s : State) (x : DictReq) (a : Abort) : State :=
  s.answerReq x.r x.dest (pduHdr x.pdu) (abortPdu (pduHdr x.pdu) a)

/-! ### Segmented transfers (R319 to R321) -/

/-- Requests of one requester: the same principal and source. -/
def sameSource (a b : Req) : Bool := a.pr == b.pr && a.src == b.src

/-- The open transfer of a requester's TXID. -/
def State.segOf (s : State) (r : Req) : Option Seg := s.dict.segs.find? (fun g => g.r == r)

/-- End a transfer; a write's requester is told why at its next segment. -/
def State.endSeg (s : State) (g : Seg) (why : Option Abort) : State :=
  s.modDict (fun d => { d with
    segs := d.segs.filter (fun y => y.id != g.id)
    ended := match why with
      | some a => if g.write then ((d.ended.filter (fun e => e.1 != g.r)).drop ((d.ended.filter (fun e => e.1 != g.r)).length - 63)) ++ [(g.r, a)] else d.ended
      | none => d.ended })

/-- A new transfer ends an open one of its own TXID, and a MAILBOX page's any open one (R321). -/
def State.supersede (s : State) (g : Seg) : State :=
  let s : State := match s.segOf g.r with | some y => s.endSeg y none | none => s
  match g.r.pr with
  | .host _ => (s.dict.segs.filter (fun y => sameSource y.r g.r)).foldl (fun (s : State) (y : Seg) => s.endSeg y (some .cancelled)) s
  | _ => s

/-- A source has as many open transfers as R321 lets it have, or the engine has 64. -/
def State.segsFull (s : State) (g : Seg) : Bool :=
  (match g.r.pr with
    | .mgmt | .fabric => decide (4 ≤ (s.dict.segs.filter (fun y => sameSource y.r g.r)).length)
    | _ => false) || decide (64 ≤ s.dict.segs.length)

/-- Open a transfer within the limits of R321. -/
def State.openSeg (s : State) (g : Seg) : Option State :=
  let s := s.supersede g
  if s.segsFull g then none
  else some (s.modDict (fun d => { d with segs := d.segs ++ [{ g with id := d.nextId }], nextId := d.nextId + 1 }))

/-! ### Services (R318) -/

/-- The READ response for a value's bytes from OFFSET, at most one segment. -/
def readPdu (r : Req) (h : Nat) (value : List Byte) : List Byte :=
  let data := (value.drop (dOffset h)).take (segSize r)
  respPdu svcRead (dTxid h) (dIndex h) (dSub h) (dOffset h) value.length (decide (value.length ≤ dOffset h + data.length)) false data

/-- READ. -/
def State.serveRead (s : State) (x : DictReq) : State :=
  let h := pduHdr x.pdu
  let idx := dIndex h
  let sub := dSub h
  match s.reach x.r idx sub false with
  | some a => s.abortReq x a
  | none =>
    if idx = 0x2020 ∧ sub = 65 then
      if dOffset h ≠ 0 then s.abortReq x (if 4 < dOffset h then .valueRange else .segSequence) else
      let y : SyncRead := { r := x.r, dest := x.dest, epoch := s.acu.epoch, ahead := s.acu.settled }
      { s with acu := { s.acu with syncs := s.acu.syncs ++ [y] } }
    else
      let snap := (s.segOf x.r).filter (fun g => !g.write && g.idx == idx && g.sub == sub && decide (s.now < g.at_ + sec))
      let value := match snap with
        | some g => if dOffset h = 0 then s.valueBytes ((reqFn x.r).getD 0) idx sub else g.bytes
        | none => s.valueBytes ((reqFn x.r).getD 0) idx sub
      if value.length < dOffset h then s.abortReq x .valueRange
      else if dOffset h = 0 then
        if value.length ≤ segSize x.r then s.answerReq x.r x.dest h (readPdu x.r h value)
        else
          match s.openSeg { id := 0, r := x.r, idx := idx, sub := sub, total := value.length, bytes := value, write := false, at_ := s.now } with
          | none => s.abortReq x .segLimit
          | some s => s.answerReq x.r x.dest h (readPdu x.r h value)
      else
        match snap with
        | none => s.abortReq x .segSequence
        | some g =>
          (s.modDict (fun d => { d with segs := d.segs.map (fun (y : Seg) => if y.id = g.id then { y with at_ := s.now } else y) })).answerReq
            x.r x.dest h (readPdu x.r h value)

/-- Perform a whole write and answer it; one that came in segments had its first checks at the first (R319). -/
def State.finishWrite (s : State) (x : DictReq) (bytes : List Byte) (late : Bool) : State :=
  let h := pduHdr x.pdu
  let y := if late then s.lateStep x.r (dIndex h) (dSub h) bytes else s.writeStep x.r (dIndex h) (dSub h) bytes
  match y.2 with
  | some a => y.1.abortReq x a
  | none => y.1.answerReq x.r x.dest h (okPdu h)

/-- The first segment of a longer value (R319). -/
def State.firstSeg (s : State) (x : DictReq) : State :=
  let h := pduHdr x.pdu
  match s.openCheck x.r (dIndex h) (dSub h) (dTotal h) with
  | some a => s.abortReq x a
  | none =>
    if dLast h || decide (dTotal h ≤ segSize x.r) || decide (dTotal h ≤ dLen h) then s.abortReq x .segSequence
    else
      match s.openSeg { id := 0, r := x.r, idx := dIndex h, sub := dSub h, total := dTotal h, bytes := pduData x.pdu, write := true, at_ := s.now } with
      | none => s.abortReq x .segLimit
      | some s => s.answerReq x.r x.dest h (okPdu h)

/-- A later segment (R319). -/
def State.nextSeg (s : State) (x : DictReq) : State :=
  let h := pduHdr x.pdu
  match (s.segOf x.r).filter (·.write) with
  | none =>
    let why := ((s.dict.ended.find? (fun e => e.1 == x.r)).map (·.2)).getD .segSequence
    (s.modDict (fun d => { d with ended := d.ended.filter (fun e => e.1 != x.r) })).abortReq x why
  | some g =>
    let stop := dOffset h + dLen h
    if g.at_ + sec < s.now then ((s.endSeg g none).dictCount 6).abortReq x .segTimeout
    else if g.idx ≠ dIndex h ∨ g.sub ≠ dSub h ∨ g.total ≠ dTotal h ∨ g.bytes.length ≠ dOffset h ∨ g.total < stop
        ∨ (dLast h ≠ decide (stop = g.total)) then
      (s.endSeg g none).abortReq x .segSequence
    else if dLast h then (s.endSeg g none).finishWrite x (g.bytes ++ pduData x.pdu) true
    else
      (s.modDict (fun d => { d with segs := d.segs.map (fun (y : Seg) =>
        if y.id = g.id then { y with bytes := y.bytes ++ pduData x.pdu, at_ := s.now } else y) })).answerReq x.r x.dest h (okPdu h)

/-- WRITE. -/
def State.serveWrite (s : State) (x : DictReq) : State :=
  let h := pduHdr x.pdu
  if dOffset h ≠ 0 then s.nextSeg x
  else if dLast h ∧ dLen h = dTotal h then s.finishWrite x (pduData x.pdu) false
  else s.firstSeg x

/-- Access codes of R307. -/
def Acc.code : Acc → Nat
  | .const => 0 | .ro => 1 | .idle => 2 | .shadow => 3 | .live => 4

/-- The 16 bytes of a DESCRIBE (R318). -/
def Obj.descriptor (o : Obj) : List Byte :=
  natLe 16 (pack [(0, 4, o.ty), (4, 3, o.acc.code), (7, 1, b2n o.persist), (8, 1, b2n (o.scope != .none)), (16, 32, o.len)])

/-- DESCRIBE. -/
def State.serveDescribe (s : State) (x : DictReq) : State :=
  let h := pduHdr x.pdu
  match s.reach x.r (dIndex h) (dSub h) false, s.obj? (dIndex h) (dSub h) with
  | none, some o => s.answerReq x.r x.dest h (respPdu svcDescribe (dTxid h) (dIndex h) (dSub h) 0 0 false false o.descriptor)
  | some a, _ => s.abortReq x a
  | none, none => s.abortReq x .noSub

/-- CANCEL. -/
def State.serveCancel (s : State) (x : DictReq) : State :=
  let h := pduHdr x.pdu
  match s.segOf x.r with
  | none => s.abortReq x .segSequence
  | some g => (s.endSeg g (some .cancelled)).answerReq x.r x.dest h (okPdu h)

/-- A requester may relay (R326). -/
def State.mayRelay (s : State) (r : Req) : Bool :=
  match r.pr with
  | .fw | .mgmt => true
  | .host f => bitAt (s.cfg 0x1021 f) 1
  | .fabric | .smb => false

/-- RELAY: no response to it is kept (R322). -/
def State.serveRelay (s : State) (x : DictReq) : State :=
  let h := pduHdr x.pdu
  let data := pduData x.pdu
  let target := leNat (data.take 8)
  let inner := data.drop 8
  let dev := bf target 0 20
  let form := bitAt target 20
  match firstAbort [(decide (data.length < 24), .badPdu), (!s.mayRelay x.r, .noRight), (decide (64 ≤ s.dict.relays.length), .busy),
      (s.isSelf form dev, .valueRange)] with
  | some a => s.respond x.r x.dest (abortPdu h a)
  | none =>
    let y : Relay := { id := s.dict.nextId, r := x.r, dest := x.dest, dev := dev, form := form, txid := dTxid (pduHdr inner),
                       at_ := s.now, limit := s.cfg 0x1032 1 * us }
    ((s.modDict (fun d => { d with relays := d.relays ++ [y], nextId := d.nextId + 1 })).dictCount 3).sendMgt form dev inner

/-! ### The engine (R308, R322) -/

/-- Count a request the engine takes. -/
def State.countReq (s : State) : State := (s.dictCount 0).perf 13 0x700 0x3F none 1

/-- Serve one request: a kept response answers a retry. -/
def State.serve (s : State) (x : DictReq) : State :=
  let h := pduHdr x.pdu
  let s := s.countReq
  match s.keptFor x.r h with
  | some k => (s.dictCount 2).respond x.r x.dest k.pdu
  | none =>
    if badPdu x.r x.pdu then
      if dService h = svcRelay then s.respond x.r x.dest (abortPdu h .badPdu) else s.abortReq x .badPdu
    else
      match dService h with
      | 0 => s.serveRead x
      | 1 => s.serveWrite x
      | 2 => s.serveDescribe x
      | 3 => s.serveCancel x
      | _ => s.serveRelay x

/-- The engine may take a queue's first request: its path is open. -/
def State.queueReady (s : State) (q : Nat) : Bool :=
  match s.dictQueue q with
  | [] => false
  | x :: _ => s.pathOpen x.r

/-- A queue's place in this cycle's rotation (R308), which starts one place further on each management-tile cycle. -/
def State.dictPlace (s : State) (q : Nat) : Nat := (q + 7 - (Config.dictFirst + s.now * 800 / 1000) % 7) % 7

/-- No other queue that holds a request comes before a queue in this cycle (R308). -/
def State.dictTurn (s : State) (q : Nat) : Bool :=
  (List.range 7).all (fun k => k == q || !s.queueReady k || decide (s.dictPlace q < s.dictPlace k))

/-- Take the first request of a queue, at its turn, if it is of the service asked for; a bad PDU is of every service. -/
def State.serveQueue (s : State) (q svc : Nat) : State :=
  match s.dictQueue q with
  | [] => s
  | x :: rest =>
    if s.pathOpen x.r && s.dictTurn q && (dService (pduHdr x.pdu) == svc || badPdu x.r x.pdu) then
      (s.modDict (fun d => { d with queues := Tbl.put d.queues q rest })).serve x
    else s

/-- A write of the request buffer and MBX_CTRL. While GO is set the buffer takes the bytes, the request already taken
stands, and what touches MBX_CTRL is discarded; a length out of range is answered at once. -/
def State.mailbox (s : State) (f ctrl : Nat) (buf : List Byte) : State :=
  if !s.present f || s.faults.checkstop || s.inMode .seat then s
  else if (s.fn f).mbGo then s.modFn f (fun x => { x with mbReq := buf.take 2044 })
  else
    let len := bf ctrl 1 11
    let s := s.modFn f (fun x => { x with mbReq := buf, mbLen := len, mbGo := bitAt ctrl 0 })
    let h := pduHdr buf
    let r : Req := { pr := .host f, src := 0, txid := dTxid h }
    if !bitAt ctrl 0 then s
    else if len = 0 ∨ 511 < len then
      s.countReq.respond r 0 (respPdu (dService h) (dTxid h) 0 0 0 (abortCode .badPdu) false true [])
    else s.enqueue { r := r, pdu := (buf ++ List.replicate (4 * len - buf.length) 0).take (4 * len) }

/-- No request waits that the engine could take, none on the requester's own path, and its MAILBOX page is free (R308, R325). -/
def State.atOnce (s : State) (r : Req) : Bool :=
  s.pathOpen r && (List.range 7).all (fun q => !s.queueReady q) && (s.dictQueue (queueOf r)).isEmpty
    && (match r.pr with | .host f => !(s.fn f).mbGo | _ => true)

/-- A request put on its path: by GO on a MAILBOX page, which holds it through BOOT (R325), else in the queue of an open path. -/
def State.submit (s : State) (r : Req) (pdu : List Byte) : State :=
  match r.pr with
  | .host f => s.mailbox f (1 + 2 * ((pdu.length + 3) / 4)) pdu
  | _ => if s.pathOpen r then s.enqueue { r := r, pdu := pdu } else s

/-- One write, named by its requester, object and value. The engine takes it at once where nothing waits before it, as
DICT_WRITE would; else it joins its path, if one segment holds it (DESIGN CHOICE, log entry 96). -/
def State.acceptWrite (s : State) (r : Req) (idx sub : Nat) (bytes : List Byte) : State :=
  if !s.atOnce r then
    if segSize r < bytes.length then s else s.submit r (natLe 16 (writeHdr r idx sub bytes.length) ++ bytes)
  else
    let h := writeHdr r idx sub bytes.length
    let s := s.countReq
    match s.keptFor r h with
    | some k => (s.dictCount 2).respond r 0 k.pdu
    | none =>
      let y := s.writeStep r idx sub bytes
      y.1.answerReq r 0 h (match y.2 with | some a => abortPdu h a | none => okPdu h)

/-- A write of a number that takes `len` bytes. -/
def State.acceptNat (s : State) (r : Req) (idx sub len v : Nat) : State := s.acceptWrite r idx sub (natLe len v)

/-! ### The management port (R323) -/

/-- Link-local address formed from MGMT_MAC as EUI-64 (R329). -/
def linkLocal : Nat :=
  let m := Config.mgmtMac.toNat
  0xFE80 * 2 ^ 112 + Nat.xor (m / 2 ^ 24) 0x20000 * 2 ^ 40 + 0xFFFE * 2 ^ 24 + m % 2 ^ 24

/-- The device answers at an address. -/
def State.mgmtOwns (s : State) (v6 : Bool) (dest : Nat) : Bool :=
  if v6 then dest == linkLocal || (dest == s.cfg 0x1010 5 && dest != 0) else dest == s.cfg 0x1010 2 && dest != 0

/-- The first `n` bits of two addresses of `w` bits agree. -/
def samePrefix (w n a b : Nat) : Bool := a / 2 ^ (w - n) == b / 2 ^ (w - n)

/-- A source passes MGMT_ALLOW: no entry is enabled, or an enabled one holds it. -/
def State.mgmtAllows (s : State) (v6 : Bool) (addr : Nat) : Bool :=
  let e (k : Nat) : Nat := bf (s.cfg 0x1010 8) (192 * k) 192
  let on := (List.range 8).filter (fun k => bitAt (e k) 136)
  on.isEmpty || on.any (fun k => bitAt (e k) 137 == v6
    && samePrefix (if v6 then 128 else 32) (bf (e k) 128 8) (bf (e k) 0 (if v6 then 128 else 32)) addr)

/-- A datagram that carries a request; its frame goes to its buffer first, or is discarded (R93). -/
def State.datagram (s : State) (src : Nat) (v6 : Bool) (dest : Nat) (pdu : List Byte) : State :=
  let r : Req := { pr := .mgmt, src := src + b2n v6 * 2 ^ 144, txid := dTxid (pduHdr pdu) }
  if !s.pathOpen r || !s.dict.mgmtLink || !s.mgmtOwns v6 dest || !frameFits (datagramLen v6 pdu) then s
  else
    let (s, stored) := (s.modDict (fun d => { d with amberAt := some s.now })).transfer 11 (datagramLen v6 pdu) true (s.frameBytes (if v6 then 62 else 42) pdu)
    if !stored || !s.mgmtAllows v6 (src / 65536) then s
    else if 64 ≤ (s.dictQueue 1).length then s.dictCount 5
    else s.enqueue { r := r, pdu := pdu, dest := dest }

/-! ### The fabric (R324, R326) -/

/-- The PDU of an MGT packet. -/
def mgtPdu (k : Packet) : List Byte := natLe 16 k.ext ++ k.payload

/-- Take the first request delivered to the management tile into the FABRIC queue. -/
def State.mgtRequest (s : State) : State :=
  match s.dict.rx.find? isRequest with
  | none => s
  | some k =>
    (s.modDict (fun d => { d with rx := d.rx.erase k })).enqueue
      { r := { pr := .fabric, src := fabricSrc k.sform k.srcDev, txid := dTxid k.ext }, pdu := mgtPdu k }

/-- A response delivered under a device's name answers a relay: sent to that name or, where none was, sent by its TXID to a
device under a name of the other form, since a device answers by its coordinate where it has one (DEDUCED, log entry 65). -/
def State.relayOf (s : State) (k : Packet) : Option Relay :=
  let mine := s.dict.relays.filter (fun y => y.txid == dTxid k.ext)
  match mine.find? (fun y => y.dev == k.srcDev && y.form == k.sform) with
  | some y => some y
  | none => mine.find? (fun y => y.form != k.sform)

/-- The first response delivered to the management tile ends the relay it answers; one that answers none is dropped. -/
def State.relayAnswer (s : State) : State :=
  match s.dict.rx.find? (fun k => !isRequest k) with
  | none => s
  | some k =>
    let s := s.modDict (fun d => { d with rx := d.rx.erase k })
    match s.relayOf k with
    | none => s
    | some y =>
      (s.modDict (fun d => { d with relays := d.relays.filter (fun z => z.id != y.id) })).respond y.r y.dest
        (respPdu svcRelay y.r.txid 0 0 0 0 false false (mgtPdu k))

/-- A relay's time has passed (R326). -/
def State.relayLate (s : State) (id : Nat) : State :=
  match s.dict.relays.find? (fun y => y.id == id) with
  | none => s
  | some y =>
    if s.now < y.at_ + y.limit then s
    else
      ((s.modDict (fun d => { d with relays := d.relays.filter (fun z => z.id != id) })).dictCount 4).respond y.r y.dest
        (respPdu svcRelay y.r.txid 0 0 0 (abortCode .relayTimeout) false true [])

/-! ### MAILBOX pages (R42, R325) -/

/-! ### Commands -/

/-- MAILBOX_GO (R42). -/
def execMailboxGo (fn : Nat) (ctrl : BitVec 32) (buf : List Byte) (s : State) : Res := .next (s.mailbox fn ctrl.toNat buf)

/-- MGMT_DATAGRAM_RX (R323). -/
def execMgmtDatagramRx (src : Nat) (v6 : Bool) (dest : Nat) (pdu : List Byte) (s : State) : Res := .next (s.datagram src v6 dest pdu)

/-- MGT_REQUEST_RX (R324). -/
def execMgtRequestRx (s : State) : Res := .next s.mgtRequest

/-- DICT_READ (R318). -/
def execDictRead (q : Nat) (s : State) : Res := .next (s.serveQueue q svcRead)

/-- DICT_WRITE (R319). -/
def execDictWrite (q : Nat) (s : State) : Res := .next (s.serveQueue q svcWrite)

/-- DICT_DESCRIBE (R318). -/
def execDictDescribe (q : Nat) (s : State) : Res := .next (s.serveQueue q svcDescribe)

/-- DICT_CANCEL (R318). -/
def execDictCancel (q : Nat) (s : State) : Res := .next (s.serveQueue q svcCancel)

/-- DICT_RELAY (R326). -/
def execDictRelay (q : Nat) (s : State) : Res := .next (s.serveQueue q svcRelay)

/-- RELAY_RESPONSE_RX (R326). -/
def execRelayResponseRx (s : State) : Res := .next s.relayAnswer

/-- RELAY_TIMEOUT (R326). -/
def execRelayTimeout (id : Nat) (s : State) : Res := .next (s.relayLate id)

/-- SEG_TIMEOUT (R319): a gap of more than 1 s ends a segmented write. -/
def execSegTimeout (id : Nat) (s : State) : Res :=
  .next (match s.dict.segs.find? (fun g => g.id == id && g.write) with
    | some g => if g.at_ + sec < s.now then (s.endSeg g (some .segTimeout)).dictCount 6 else s
    | none => s)

/-- SNAPSHOT_EXPIRY (R320): 1 s after the last read from it. -/
def execSnapshotExpiry (id : Nat) (s : State) : Res :=
  .next (match s.dict.segs.find? (fun g => g.id == id && !g.write) with
    | some g => if g.at_ + sec ≤ s.now then s.endSeg g none else s
    | none => s)

/-- KEPT_RESPONSE_EXPIRY (R322): responses kept for 10 s go. -/
def execKeptResponseExpiry (s : State) : Res :=
  .next (s.modDict (fun d => { d with kept := d.kept.filter (fun k => decide (s.now < k.at_ + 10 * sec)) }))

/-- Answer a read of ACU_SYNC with the epoch at its arrival: a read of the object by its PDU, a read of the register by its
bytes. ACU_EPOCH is the first 4 of the register's 64 bytes, the others read 0, and a read of any offset and length gives
them from the first on (DESIGN CHOICE, log entry 160). -/
def State.syncAnswer (s : State) (y : SyncRead) : State :=
  match y.bus with
  | some (who, len) => s.emit (.accessResp who stOk ((natLe 4 y.epoch.toNat ++ List.replicate 60 0).take len))
  | none =>
    let h := pack [(0, 4, 1), (16, 16, y.r.txid), (32, 16, 0x2020), (48, 8, 65)]
    s.answerReq y.r y.dest h (readPdu y.r h (natLe 4 y.epoch.toNat))

/-- ACU_SYNC_RETURN (R94): the oldest waiting read answers once every access checked before it has finished. -/
def execAcuSyncReturn (s : State) : Res :=
  .next (match s.acu.syncs with
    | [] => s
    | y :: rest => if y.ahead ≤ s.now then ({ s with acu := { s.acu with syncs := rest } } : State).land.syncAnswer y else s)

/-- SMBUS_BLOCK_READ (R328): the byte count, the value and the PEC, or no acknowledge. -/
def smbObject (cmd : Nat) : Option (Nat × Nat) :=
  match cmd with
  | 0x01 => some (0x1000, 1)
  | 0x02 => some (0x1000, 2)
  | 0x03 => some (0x1000, 5)
  | 0x04 => some (0x1000, 7)
  | 0x05 => some (0x2000, 1)
  | 0x06 => some (0x2000, 2)
  | 0x07 => some (0x1010, 1)
  | 0x08 => some (0x1010, 2)
  | 0x09 => some (0x2000, 3)
  | 0x0A => some (0x2010, 1)
  | 0x0B => some (0x2010, 2)
  | 0x0C => some (0x2010, 3)
  | 0x0D => some (0x2010, 4)
  | 0x10 => some (0x8000, 2)
  | 0x11 => some (0x8010, 1)
  | 0x12 => some (0x8020, 1)
  | 0x13 => some (0x9001, 5)
  | _ => none

/-- The block a command reads: count, bytes, and the PEC over address, command and data. -/
def State.smbBlock (s : State) (addr cmd : Nat) (o : Nat × Nat) : List Byte :=
  let v := s.valueBytes 0 o.1 o.2
  let head := [BitVec.ofNat 8 (2 * addr), BitVec.ofNat 8 cmd, BitVec.ofNat 8 (2 * addr + 1), BitVec.ofNat 8 v.length]
  BitVec.ofNat 8 v.length :: v ++ [BitVec.ofNat 8 (crc8 (head ++ v))]

/-- SMBUS_BLOCK_READ (R328). -/
def execSmbusBlockRead (addr cmd : Nat) (s : State) : Res :=
  .next (s.emit (.smbus (
    if s.island 12 && addr == 0x58 + s.dict.smbAddr then (smbObject cmd).map (s.smbBlock addr cmd) else none)))

/-- SMBUS_TIMEOUT (R423): the clock has been low for 25 ms to 35 ms, and the bus is released. -/
def execSmbusTimeout (s : State) : Res := .next (s.emit (.smbus none))

/-- MGMT_LINK_CHANGE (R416): the port runs while the management island does. -/
def execMgmtLinkChange (up mdix : Bool) (s : State) : Res :=
  .next (if s.island 12 then s.modDict (fun d => { d with mgmtLink := up, mdix := up && mdix }) else s)

/-- A frame other than a dictionary datagram is answered (R8). -/
def State.frameAnswered (s : State) (f : MgmtFrame) : Bool :=
  match f with
  | .arpRequest a | .icmpEcho a _ => s.mgmtOwns false a
  | .icmp6Echo a _ | .neighbourSolicit a => s.mgmtOwns true a
  | .vlanTagged | .oversize | .other => false

/-- MGMT_FRAME_RX (R8): ARP, ICMP echo and neighbour discovery are answered, every other frame is discarded, and so is one
whose transfer to its buffer access control refuses (R93). -/
def execMgmtFrameRx (frame : MgmtFrame) (s : State) : Res :=
  .next (
    if s.island 12 && s.dict.mgmtLink then
      let (s, stored) := (s.modDict (fun d => { d with amberAt := some s.now })).transfer 11 frame.size true (s.frameBytes frame.size [])
      if stored && frameFits frame.size && s.frameAnswered frame then s.frameOut frame.size (.mgmtReply frame) else s
    else s)

end Sys2Proof.Machine
end

