-- ==== Sys2Proof/Machine/Access.lean ====
section
/-! DEFINITION. Accesses to the internal address space (R87, R88, R92 to R94, R96): the privileged translation before the
check, what each range holds, on-behalf requests (R70, R75), and the command ACU_ACCESS. -/

namespace Sys2Proof.Machine

/-! ### What the ranges hold (R88) -/

/-- Management SRAM or the store staging buffer. -/
def inSram (a : Nat) : Bool := decide (a < 0x800000) || (decide (0x1000000 ≤ a) && decide (a < 0x1800000))
/-- The semaphore unit, the tile control registers, the ACU_SYNC register. -/
def inSems (a : Nat) : Bool := decide (0x2000000 ≤ a) && decide (a < 0x2004000)
def inControl (a : Nat) : Bool := decide (0x3000000 ≤ a) && decide (a < 0x4000000)
def inSync (a : Nat) : Bool := decide (0x4000000 ≤ a) && decide (a < 0x4000040)

/-- A byte that a read of an internal address gives: memory, a COUNTER user page, a free value for a tile control register,
whose contents the spec does not give, and 0 at a reserved address. -/
def State.internalByte (s : State) (a : Nat) : Byte :=
  if inSram a then s.sramByte a
  else if 0x2200000 ≤ a ∧ a < 0x2300000 then s.counterByte ((a - 0x2200000) / 4096) (a % 4096)
  else if inControl a then Config.freeByte s.free a
  else 0

/-- The semaphore operation that an aligned 4-byte access at an offset of a semaphore's 64 B is; another offset or size is
none (R96). -/
inductive SemOp where
  | acquire (prio : Nat)
  | try_
  | release
  | status
  deriving DecidableEq, Repr

def semOpAt (off len : Nat) (wr : Bool) : Option SemOp :=
  if len ≠ 4 then none
  else if wr then (if off = 0x20 then some .release else none)
  else
    match off with
    | 0x00 => some (.acquire 0)
    | 0x04 => some (.acquire 1)
    | 0x08 => some (.acquire 2)
    | 0x0C => some (.acquire 3)
    | 0x10 => some .try_
    | 0x30 => some .status
    | _ => none

/-- Perform an operation on a semaphore. -/
def State.semDo (s : State) (who : SemMaster) (n : Nat) : SemOp → State
  | .acquire p => s.acquire who n p
  | .try_ => s.tryAcquire who n
  | .release => s.release who n
  | .status => s.emit (.semWord who n (s.sem n).status)

/-- What a performed read answers: the bytes; none where the answer is a semaphore's word, or comes later (R94). -/
def State.internalRead (s : State) (who : SemMaster) (a len : Nat) : State × Option (List Byte) :=
  if inSync a then
    ({ s with acu := { s.acu with syncs := s.acu.syncs ++
        [{ r := { pr := .fw, src := 0, txid := 0 }, bus := some (who, len), epoch := s.acu.epoch, ahead := s.acu.settled }] } }, none)
  else
    match (if inSems a then semOpAt (a % 64) len false else none) with
    | some op => (s.semDo who ((a - 0x2000000) / 64) op, none)
    | none =>
      let bytes := (List.range len).map (fun i => s.internalByte (a + i))
      (if inControl a then s.nextFree else s, some bytes)

/-- What a performed write does: bytes of memory, or a RELEASE; elsewhere the spec gives it no effect. -/
def State.internalWrite (s : State) (who : SemMaster) (a : Nat) (data : List Byte) : State :=
  if inSram a then (s.sramWrite a data).sramMend a data.length
  else
    match (if inSems a then semOpAt (a % 64) data.length true else none) with
    | some op => s.semDo who ((a - 0x2000000) / 64) op
    | none => s

/-! ### Performing and refusing -/

/-- A write among the kinds of access. -/
def isWrite (k : AccKind) : Bool := k == .write

/-- Perform the translated pieces of an access that the check has let pass: reads answer together. -/
def State.performPieces (s : State) (who : SemMaster) (k : AccKind) (data : List Byte) :
    List (Nat × Nat) → State × Option (List Byte)
  | [] => (s, some [])
  | (a, n) :: r =>
    let s := s.fly (semId who) a
    if isWrite k then (s.internalWrite who a (data.take n)).performPieces who k (data.drop n) r
    else
      match s.internalRead who a n with
      | (s, none) => (s, none)
      | (s, some b) =>
        match s.performPieces who k data r with
        | (s, some l) => (s, some (b ++ l))
        | x => x

/-- The answer to a performed access: a host's write is posted and has none. -/
def State.answerAccess (s : State) (who : SemMaster) (k : AccKind) (b : Option (List Byte)) : State :=
  match who, b with
  | _, none => s
  | .host _, some l => if isWrite k then s else s.emit (.accessResp who stOk l)
  | .die _, some l => s.emit (.accessResp who stOk l)

/-- A refused access (R93): a host reads zeros or loses its write; a cluster has a bus error; the store tile's work ends
with BOUNDS; the others lose what they moved. -/
def State.refuseAccess (s : State) (who : SemMaster) (a len : Nat) (k : AccKind) (code : Nat) : State :=
  let s := s.acuDeny (semId who) a len (isWrite k) code
  match who with
  | .host _ => if isWrite k then s else s.emit (.accessResp who stOk (List.replicate len 0))
  | .die m => if m = 10 then s.emit (.accessResp who stBounds []) else if m ≤ 9 then s.emit (.accessResp who stBusError []) else s

/-- Check an access once, as a whole (R92), and perform it, or refuse the whole of it. -/
def State.internalAccess (s : State) (who : SemMaster) (k : AccKind) (data : List Byte) (l : List (Nat × Nat)) : State :=
  match s.acuCheckAll (semId who) l (isWrite k) with
  | some code => s.refuseAccess who ((l.map (·.1)).headD 0) ((l.map (·.2)).foldl (· + ·) 0) k code
  | none =>
    let r := s.performPieces who k data l
    r.1.answerAccess who k r.2

/-- A fault in the privileged domain (R76): an error to the master and a DEFERRED record; an instruction fetch of the cluster
that holds control raises FATAL_DEVICE instead, and one of the other cluster abandons the update it prepares (R396). -/
def State.privFaulted (s : State) (m code : Nat) (k : AccKind) : State :=
  let holds := m == (if s.fw.onB then 9 else 8)
  let s := (s.privRecord m code k).emit (.accessResp (.die m) stBusError [])
  if k = .fetch ∧ !holds ∧ m ≠ 10 ∧ (s.fw.phase = 3 ∨ s.fw.phase = 4) then s.abandon else s

/-- An on-behalf request (R70): translated in the function's domain; a fetch is never allowed. -/
def State.onBehalf (s : State) (m f addr len : Nat) (k : AccKind) (data : List Byte) : State :=
  if !s.present f then s.emit (.accessResp (.die m) stXlate [])
  else
    match k with
    | .fetch => (s.xlateFault f addr xUser 0 .fetch).emit (.accessResp (.die m) stXlate [])
    | .write => s.put f addr data (.behalf m)
    | _ => s.hostReadReq f addr len (.behalf m)

/-- An access by an on-die master or a host (R88, R92). The clusters and the store tile translate it first (R63). -/
def State.access (s : State) (who : SemMaster) (addr len : Nat) (k : AccKind) (behalf : Option Nat) (data : List Byte) : State :=
  match who, behalf with
  | .host _, _ => if s.semOpen who then s.internalAccess who k data [(addr, len)]
      else if isWrite k then s else s.emit (.accessResp who stOk (List.replicate len 0))
  | .die m, some f => s.onBehalf m f addr len k data
  | .die m, none =>
    if 11 ≤ m ∨ !bitAt (s.cfg 0x2018 1) 0 then s.internalAccess who k data [(addr, len)]
    else
      match s.privAll m k (pagePieces addr len) with
      | (s, .ok l) => s.internalAccess who k data l
      | (s, .error code) => s.privFaulted m code k

/-! ### Commands -/

/-- ACU_ACCESS (R92). -/
def execAcuAccess (who : SemMaster) (addr len : Nat) (op : AccessOp) (s : State) : Res :=
  .next (s.access who addr len op.kind op.behalf op.data)

end Sys2Proof.Machine
end

