-- ==== Sys2Proof/Machine/Arch.lean ====
section
/-! DEFINITION. Islands, mesh and SRAM (spec 01, R13 to R24): flits that arrive, tiles that leave reset, time beacons,
the SRAM scrubber, and their commands. -/

namespace Sys2Proof.Machine

/-! ### The mesh (R15 to R21) -/

/-- What has crossed the mesh takes its place in tile `dst`. -/
def State.crossed (s : State) (dst : Nat) (x : Cross) : State :=
  match x with
  | .packet q => { s with arch := { s.arch with inbox := Tbl.put s.arch.inbox dst (Tbl.getD s.arch.inbox dst [] ++ [q]) } }
  | .egress p q => s.modPortq p (fun y => y.enqueue q)
  | .coll p q => s.modPortq p (fun y => { y with coll := y.coll ++ [q] })
  | .operand t num i => s.takeOperand t num i
  | .result t num status fns bytes => fns.foldl (fun s f => s.finishMember t f num status bytes) s
  | .gone => s

/-- The other channels of a channel's tile input at which flits wait. -/
def Arch.rivals (x : Arch) (ch : Nat) : List Nat :=
  (x.chans.filter (fun e => e.1 != ch && e.1 / 8 % 16 == ch / 8 % 16 && !e.2.isEmpty)).map (·.1)

/-- The input's arbiter may serve a channel: no other waits behind a flit of it already (R20). -/
def Arch.mayServe (x : Arch) (ch : Nat) : Bool :=
  (x.rivals ch).all (fun c => !(Tbl.getD x.behind c []).contains ch)

/-- The arbiter serves a channel: its wait begins again, and each other channel has now waited behind a flit of it. -/
def Arch.served (x : Arch) (ch : Nat) : Tbl (List Nat) :=
  (x.rivals ch).foldl (fun t c => Tbl.put t c (ch :: Tbl.getD t c [])) (Tbl.del x.behind ch)

/-- The oldest flit of a channel reaches its tile, in offer order (R15), when its input's arbiter may serve the channel
(R20); a tile in reset discards it (R21). -/
def State.flitIn (s : State) (ch : Nat) : State :=
  let dst := ch / 8 % 16
  match Tbl.getD s.arch.chans ch [] with
  | [] => s
  | f :: rest =>
    if !s.island dst then
      { s with arch := { s.arch with chans := Tbl.put s.arch.chans ch rest, discards := satAdd 64 s.arch.discards 1 } }
    else if !s.arch.mayServe ch then s
    else
      let s := ({ s with arch := { s.arch with
          chans := Tbl.put s.arch.chans ch rest, behind := s.arch.served ch } }).perf (ctrTile dst) 0x001 0x3F none 1
      if f.k + 1 = f.n then s.crossed dst f.x else s

/-! ### SRAM (R22 to R24) -/

/-- The island an SRAM word lies in, in ISLAND_STATE's numbering, and the unit within it. -/
def State.siteTile (s : State) (x : SramSite) : Nat × Nat :=
  match x with
  | .packetBuffer p => (ptOf p, p % 8)
  | .contextStore f _ | .matchStore f _ | .landing f _ => (8 + etOf f, 0)
  | .collBuffer t => (treeHome t (s.tree t).entry.toNat, 0)
  | .routeTable pt _ _ => (pt % 8, 0)
  | .flatTable _ fl => (fl % 8, 0)
  | .xlateCache et _ _ => (8 + et % 4, 0)
  | .management _ => (12, 0)
  | .staging => (13, 0)

/-- A record of an SRAM error (R24, R357). -/
def State.sramFault (s : State) (x : SramSite) (code cls : Nat) : State :=
  let (tile, unit) := s.siteTile x
  let owner : Option (Nat × Nat) := match x with
    | .contextStore f c | .matchStore f c | .landing f c => some (f, c)
    | _ => none
  s.report { code := code, cls := cls, tile := ctrTile tile, unit := unit, fn := owner.map (·.1), ctx := owner.map (·.2) }

/-- The egress port of a port tile at which a packet of an ingress port waits, and the packet. -/
def State.waitsOut (s : State) (p : Nat) : Option (Nat × QPkt) :=
  s.portqs.findSome? (fun e => (e.2.egress.find? (fun q => q.ingress == p)).map (fun q => (e.1, q)))

/-- The packet whose word is lost: the one in reception, else the first of the port's buffer that waits to be routed, for
the reduction unit, or to leave (DESIGN CHOICE, log entry 131); it counts as a link CRC drop. -/
def State.sramPacket (s : State) (p : Nat) : State :=
  if (s.link p).rx.isSome then s.rxDrop p 7
  else
    match (s.portq p).ingress.head?, (s.portq p).coll.head?, s.waitsOut p with
    | some q, _, _ => ((s.modPortq p (fun x => { x with ingress := x.ingress.drop 1 })).leaves q q.vc).linkCount p 7
    | none, some q, _ => ((s.modPortq p (fun x => { x with coll := x.coll.drop 1 })).leaves q q.vc).linkCount p 7
    | none, none, some (e, q) =>
      ((s.modPortq e (fun x => { x with egress := x.egress.erase q })).leaves q (q.inVc (decide (14 ≤ e)))).linkCount p 7
    | none, none, none => s

/-- What an uncorrectable error does to the word's owner (R24). -/
def State.sramLost (s : State) (x : SramSite) : State :=
  match x with
  | .packetBuffer p => (s.sramPacket p).sramFault x 0x0220 deferred
  | .contextStore f c | .matchStore f c | .landing f c =>
    (if (s.ctx f c).c.state = 0 then s else s.loseContext f c).sramFault x 0x0220 deferred
  | .collBuffer t => (s.sramFault x 0x0220 deferred).breakTree t 0x0A50
  | .routeTable pt g grp =>
    ({ s with arch := { s.arch with reloadGrp := s.arch.reloadGrp ++ [pt * 2 ^ 20 + g * 2 ^ 12 + grp] } }).sramFault x 0x0220 deferred
  | .flatTable g fl =>
    ({ s with arch := { s.arch with reloadFlat := s.arch.reloadFlat ++ [g * 2 ^ 20 + fl] } }).sramFault x 0x0220 deferred
  | .xlateCache et f page =>
    (s.modEt et (fun e => { e with cache := e.cache.filter (fun l => !(l.fn == f && l.overlaps (4096 * page) (4096 * page + 4095))) })).sramFault
      x 0x0210 corrected
  | .management a =>
    ({ s with priv := { s.priv with bad := if s.priv.bad.contains (a / 8) then s.priv.bad else s.priv.bad ++ [a / 8] } } : State).sramFault
      x 0x0221 fatalDevice
  | .staging => s.sramFault x 0x0221 fatalDevice

/-- One word is scrubbed; the 2^25 words of R22 make a pass, and SRAM_SCRUB_PERIOD paces the next word. -/
def State.scrubWordDone (s : State) : State :=
  { s with arch := { s.arch with
      scrubWord := (s.arch.scrubWord + 1) % 2 ^ 25
      scrubNext := s.now + s.cfg 0x2000 5 * ms / 2 ^ 25
      scrubAt := if s.arch.scrubWord + 1 = 2 ^ 25 then s.now else s.arch.scrubAt } }

/-- The entry comes back from the management tile's master copy (R24). -/
def State.reloadEntry (s : State) (x : SramSite) : State :=
  match x with
  | .routeTable pt g grp => { s with arch := { s.arch with reloadGrp := s.arch.reloadGrp.filter (· != pt * 2 ^ 20 + g * 2 ^ 12 + grp) } }
  | .flatTable g fl => { s with arch := { s.arch with reloadFlat := s.arch.reloadFlat.filter (· != g * 2 ^ 20 + fl) } }
  | _ => s

/-! ### Commands -/

/-- FLIT_ARRIVAL (R15). -/
def execFlitArrival (ch : Nat) (s : State) : Res := .next (if s.faults.checkstop then s else s.flitIn ch)

/-- TILE_RESET_RELEASE (R21): an island that the mode runs leaves reset. -/
def execTileResetRelease (island : Nat) (s : State) : Res :=
  .next (
    let runs (m : Mode) : Bool := bitAt (modeIslands m).toNat island
    if island < 15 && !s.island island && s.sup.powerGood && s.sup.flushAt.isNone && s.sup.resetAt.isNone && !s.faults.checkstop
        && (runs s.mode.mode || (s.mode.changing && runs s.mode.target)) then
      s.releaseTile island
    else s)

/-- An island's next beacon is due: the first at once, then one each microsecond (R19). -/
def State.beaconDue (s : State) (island : Nat) : Bool :=
  match Tbl.get? s.arch.beaconAt island with
  | none => true
  | some t => decide (t + us ≤ s.now)

/-- TIME_BEACON (R19): the beacon and the measured channel delay together are the time unit's fabric time now, which the
island's own counter takes. -/
def execTimeBeacon (island : Nat) (s : State) : Res :=
  .next (if s.island 14 && s.island island && !s.faults.checkstop && s.beaconDue island
    then { s with arch := { s.arch with
      islandFt := Tbl.put s.arch.islandFt island s.time.ft.toNat, beaconAt := Tbl.put s.arch.beaconAt island s.now } }
    else s)

/-- SRAM_SCRUB_WORD (R24), when the pace of SRAM_SCRUB_PERIOD brings the next word (DESIGN CHOICE, log entry 131): an
access that reaches the word in the same cycle goes first, and the word is retried. -/
def execSramScrubWord (site : SramSite) (res : SramResult) (busy : Bool) (s : State) : Res :=
  .next (
    if busy || !s.island (s.siteTile site).1 || s.faults.checkstop || decide (s.now < s.arch.scrubNext) then s
    else match res with
      | .clean => s.scrubWordDone
      | .single => (s.scrubWordDone.perf (ctrTile (s.siteTile site).1) 0x003 0x3F none 1).sramFault site 0x0210 corrected
      | .double => s.scrubWordDone.sramLost site)

/-- ROUTE_ENTRY_RELOAD (R24). -/
def execRouteEntryReload (site : SramSite) (s : State) : Res := .next (s.reloadEntry site)

end Sys2Proof.Machine
end

