-- ==== Sys2Proof/Machine/Flash.lean ====
section
/-! DEFINITION. The flash array's own events (spec 15): programs, window reads, scrubbing, refreshes, failing blocks and
dies, and their commands. -/

namespace Sys2Proof.Machine

def State.modStore (s : State) (g : Store → Store) : State := { s with store := g s.store }

/-- The store tile runs, no die has failed, and no flush has taken the array (R349, R376, R382). -/
def State.flashRuns (s : State) : Bool := s.island 13 && s.store.st != 3 && s.sup.flushAt.isNone

/-! ### Decoding (R380) -/

/-- A codeword at this many bit errors, or one that took a retry, sends its block to be refreshed (R381). -/
def State.wornRead (s : State) (res : FlashRead) : Bool :=
  match res with
  | .good n retried => retried || decide (120 * s.cfg 0xB000 6 < 100 * n)
  | .unreadable => true

/-- Count what a read's decoding took (R385, R368). -/
def State.countRead (s : State) (res : FlashRead) : State :=
  match res with
  | .good n retried =>
    let s := if 0 < n ∨ retried then (s.storeCount 8 1).perf 12 0x802 0x3F none 1 else s
    if retried then s.storeCount 9 1 else s
  | .unreadable => (s.storeCount 9 1).storeCount 10 1

/-- Decode a read of a block: the counts, and the refresh it asks for. -/
def State.decodeRead (s : State) (block : Nat) (res : FlashRead) : State :=
  let s := s.countRead res
  if s.wornRead res then s.refresh block else s

/-- A page of an allotment becomes UNREADABLE (R380). -/
def State.loseFlashPage (s : State) (f page : Nat) : State :=
  match Tbl.get? s.store.pages (pkey f page) with
  | none => s
  | some g =>
    (s.modStore (fun x => { x with pages := Tbl.put x.pages (pkey f page) { g with unreadable := true } })).report
      { code := 0x0B10, cls := deferred, tile := 12, fn := some f }

/-! ### Reads for windows (R374) -/

/-- The first page of a range that flash answers, and its block. -/
def State.flashPageOf (s : State) (f off len : Nat) : Option (Nat × Nat) :=
  ((pagesOf off len).find? (fun p => (Tbl.get? s.store.pages (pkey f p)).isSome && !s.store.staging.any (StageItem.onPage f p))).map
    (fun p => (p, (Tbl.getD s.store.pages (pkey f p) {}).block))

/-- A window READ's flash read has ended (R374, R380, R382). -/
def State.storeReadEnd (s : State) (x : StoreRead) (res : FlashRead) : State :=
  let o := x.op
  let s := s.modStore (fun y => { y with reads := y.reads.filter (fun z => z.id != x.id) })
  if s.store.st = 3 then (s.answer o stRemote []).rCount (etOf o.fn) 6
  else
    let page := s.flashPageOf o.fn o.raddr o.len
    let s := match page with | some (_, b) => s.decodeRead b res | none => s.countRead res
    match res with
    | .good _ _ => s.answer o stOk x.bytes
    | .unreadable =>
      let s := match page with | some (p, _) => s.loseFlashPage o.fn p | none => s
      (s.answer o stRemote []).rCount (etOf o.fn) 6

/-! ### Scrubbing (R381) -/

/-- Everything programmed that a pass reads. -/
def State.flashSites (s : State) : List FlashSite :=
  s.store.pages.map (fun e => .pool (e.1 / 2 ^ 28) (e.1 % 2 ^ 28))
    ++ s.dict.journal.map (fun e => .journal e.1) ++ s.dict.journal2.map (fun e => .journal (newFormat + e.1))
    ++ s.store.log.map (fun r => .log r.seq)
    ++ ((List.range 3).filter (fun k => (s.fw.slot k).st != .empty)).map .slot

/-- An uncorrectable codeword is handled by its partition (R380). -/
def State.loseSite (s : State) (site : FlashSite) : State :=
  match site with
  | .pool f page => s.loseFlashPage f page
  | .journal k =>
    if k < newFormat then { s with dict := { s.dict with journal := Tbl.del s.dict.journal k } }
    else { s with dict := { s.dict with journal2 := Tbl.del s.dict.journal2 (k - newFormat) } }
  | .log q => s.modStore (fun x => { x with log := x.log.filter (fun r => r.seq != q) })
  | .slot k => s.modSlot k (fun x => { x with unread := true })
  | .flush => s.modStore (fun x => { x with flush := x.flush.map (fun e => (e.1, false)) })

/-- Mark a site as read; a pass that has read every site ends and the next begins. -/
def State.scrubMark (s : State) (site : FlashSite) : State :=
  let seen := if s.store.scrubbed.contains site then s.store.scrubbed else s.store.scrubbed ++ [site]
  if s.flashSites.all seen.contains then
    (s.modStore (fun x => { x with scrubbed := [], scrubAt := s.now, scrubBehind := false })).storeCount 12 1
  else s.modStore (fun x => { x with scrubbed := seen })

/-- The scrubber reads one site on a block. -/
def State.scrubSite (s : State) (block : Nat) (site : FlashSite) (res : FlashRead) : State :=
  let s := (s.decodeRead block res).scrubMark site
  if res = .unreadable then s.loseSite site else s

/-- STORE_SCRUB_PERIOD in ns. -/
def State.scrubPeriod (s : State) : Nat := s.cfg 0xB000 5 * 3600 * sec

/-! ### Refresh (R381, R382) -/

/-- Pages whose newest flash copy lies on a block. -/
def State.pagesOn (s : State) (b : Nat) : Tbl FlashPage := s.store.pages.filter (fun e => e.2.block == b && e.2.flashed)

/-- The valid pages of a block now lie on a free block. -/
def State.movePages (s : State) (b : Nat) : State :=
  let n := 4096 * (s.pagesOn b).length
  let dest := s.freeVal 16
  ((s.modStore (fun x => { x with
      pages := x.pages.map (fun (e : Nat × FlashPage) => if e.2.block = b ∧ e.2.flashed then (e.1, { e.2 with block := dest }) else e)
      programmed := x.programmed + n })).storeCount 3 n).nextFree.perf 12 0x801 0x3F none n

/-- Static levelling may move a block's data (R383): the highest and lowest erase counts differ by more than 200. -/
def State.mayLevel (s : State) (b : Nat) : Bool :=
  !s.store.grown.contains b && decide (s.store.minPe + 200 < s.store.maxPe)

/-- A refresh or a levelling move has ended: the old block is erased, or retired when its source could not be read whole. -/
def State.refreshEnd (s : State) (b : Nat) (complete : Bool) : State :=
  let n := b2n (s.store.refreshing.contains b)
  let s := (s.movePages b).modStore (fun x => { x with refreshing := x.refreshing.filter (· != b) })
  if complete then (s.storeCount 11 n).eraseBlock b else s.retire b

/-! ### Commands -/

/-- The oldest staged item is moved out of staging, through access control (R88), and programmed; one whose move is refused
stays staged (DESIGN CHOICE, log entry 137). -/
def State.programMove (s : State) (block : Nat) : State :=
  match s.store.staging with
  | [] => s
  | i :: _ =>
    match s.transfer 10 i.size false with
    | (s, true) => s.programFirst block
    | (s, false) => s

/-- STAGING_PROGRAM_DONE (R373). -/
def execStagingProgramDone (block : Nat) (s : State) : Res :=
  .next (if s.flashRuns && !s.store.grown.contains block then s.programMove block else s)

/-- PROGRAM_FAIL (R382): the block is retired; its data stays in staging. -/
def execProgramFail (block : Nat) (s : State) : Res := .next (if s.flashRuns then s.retire block else s)

/-- STORE_READ_DONE (R374). -/
def execStoreReadDone (id : Nat) (res : FlashRead) (s : State) : Res :=
  .next (match s.store.reads.find? (fun x => x.id == id) with
    | some x => if s.island 13 then s.storeReadEnd x res else s
    | none => s)

/-- BOOT reads the flush area, which no scrub pass meets: an uncorrectable codeword leaves its image incomplete (R376, R380). -/
def State.flushRead (s : State) (res : FlashRead) : State :=
  if s.inMode .boot then (if res = .unreadable then (s.countRead res).loseSite .flush else s.countRead res) else s

/-- STORE_SCRUB_PAGE (R381); of the flush area, its read during BOOT (DESIGN CHOICE, log entry 162). -/
def execStoreScrubPage (block : Nat) (site : FlashSite) (res : FlashRead) (s : State) : Res :=
  .next (
    if !s.flashRuns then s
    else if site = .flush then s.flushRead res
    else if s.store.scrubbing && s.flashSites.contains site then s.scrubSite block site res
    else s)

/-- BLOCK_REFRESH_DONE (R381). -/
def execBlockRefreshDone (block : Nat) (complete : Bool) (s : State) : Res :=
  .next (if s.flashRuns && (s.store.refreshing.contains block || s.mayLevel block) then s.refreshEnd block complete else s)

/-- SCRUB_BEHIND (R381): once for each pass that outlasts its period. -/
def execScrubBehind (s : State) : Res :=
  .next (if s.flashRuns && s.store.scrubbing && !s.store.scrubBehind && decide (s.store.scrubAt + s.scrubPeriod < s.now) then
    (s.modStore (fun x => { x with scrubBehind := true })).stFault 0x0B50 corrected else s)

/-- DIE_FAILED (R382). -/
def execDieFailed (die : Nat) (s : State) : Res :=
  .next (if s.island 13 then (s.modStore (fun x => { x with st := 3 })).stFault 0x0B60 fatalDevice die else s)

end Sys2Proof.Machine
end

