-- ==== Sys2Proof/Machine/Boot.lean ====
section
/-! DEFINITION. BOOT (spec 16, R390 to R392): the flush image, the slots, the restored values and regions, deferred
faults, and BOOT_END. -/

namespace Sys2Proof.Machine

/-! ### Step 2: the flush image (R376) -/

/-- Program the first `n` staged items. -/
def State.replayItems : Nat → State → State
  | 0, s => s
  | n + 1, s => State.replayItems n (s.programFirst (s.freeVal 16)).nextFree

/-- Functions that had window data in an image. -/
def imageFns (items : List StageItem) : List Nat :=
  items.filterMap (fun i => match i with | .window f _ _ _ => some f | _ => none)

/-- A bad image is discarded: LOSS for its functions, and pages that flash never held are unwritten again. -/
def State.discardImage (s : State) (items : List StageItem) : State :=
  let s := (imageFns items).foldl (fun (s : State) f =>
    { s with dict := { s.dict with journal := Tbl.put s.dict.journal (okey 0xB012 f) 1 } }) s
  (s.modStore (fun x => { x with flush := none, discarded := true, pages := x.pages.filter (fun (e : Nat × FlashPage) => e.2.flashed) })).modSup
    (fun x => { x with bootFaults := x.bootFaults ++ [0x0890] }) |>.pwrCount 7

/-- Erase the flush area: its block on each of the 64 dies (R372, R376), which block of each being a free value. -/
def State.eraseFlush (s : State) : State := (List.range 64).foldl (fun s _ => (s.eraseBlock (s.freeVal 16)).nextFree) s

/-- The store replays or discards the flush image. -/
def State.bootFlush (s : State) : State :=
  match s.store.flush with
  | none => s
  | some (items, true) =>
    ((State.replayItems items.length (s.modStore (fun x => { x with staging := items ++ x.staging }))).modStore
      (fun x => { x with flush := none, replayed := true })).eraseFlush.storeCount 15 1
  | some (items, false) => (s.discardImage items).eraseFlush.storeCount 15 1

/-- The store's state begins again from its spare blocks, and the first scrub pass starts (R381, R382). -/
def State.bootStore (s : State) : State :=
  (s.modStore (fun x => { x with st := 0, lowRec := false, critRec := false, scrubbing := true, scrubbed := [], scrubAt := s.now,
                                 scrubBehind := false })).spareWatch

/-! ### Step 3: the slot (R391) -/

/-- The slots in the order the boot ROM tries them. -/
def Firmware.bootOrder (x : Firmware) : List Nat :=
  let l := (List.range 3).filter (fun k => (x.slot k).st == .confirmed)
    ++ (List.range 2).filter (fun k => (x.slot k).st == .valid || (x.slot k).st == .trial)
  if l.contains 2 then l else l ++ [2]

/-- A refused slot: one IMAGE_REFUSED, and it is no longer booted. -/
def State.refuseSlot (s : State) (k : Nat) : State :=
  let r := s.fw.verify (s.fw.slot k)
  (s.modSlot k (fun x => { x with result := r, st := if k = 2 then .valid else .empty })).fwFault (0x0C10 + r) deferred

/-- A trial that was running did not end: its slot is VALID and the new-format records go (R401). -/
def State.endTrial (s : State) : State :=
  match (List.range 2).find? (fun k => (s.fw.slot k).st == .trial) with
  | some k => ((s.modSlot k (fun x => { x with st := .valid })).dropNew).fwFault 0x0C55 deferred
  | none => s

/-- Records of the format the booted image reads: a TRIAL image booted for want of another reads its own. -/
def State.bootFormat (s : State) (k : Nat) : State := if (s.fw.slot k).st = .trial then s.keepNew else s

/-- The booted slot is CONFIRMED (R391). -/
def State.confirmBoot (s : State) (k : Nat) : State :=
  if (s.fw.slot k).st = .confirmed then s
  else (s.modSlot k (fun x => { x with st := .confirmed })).fwFault (if k = 2 then 0x0C30 else 0x0C20) deferred

/-- M1 and M3 for the booted image (R406). -/
def State.measureBoot (s : State) (k : Nat) : State :=
  (s.setMeas 1 (Config.sha384 ((s.fw.slot k).image.take 4096))).extend 3 (natLe 1 s.fw.arb ++ natLe 1 s.fw.revoked.toNat ++ natLe 1 k)

/-- Boot slot k; new-format records of an update that did not end go (R397). -/
def State.bootSlot (s : State) (k : Nat) : State :=
  ((((s.bootFormat k).confirmBoot k).endTrial.dropNew).measureBoot k).runSlot k

/-! ### Steps 4 and 5: regions and the journal (R90, R315) -/

/-- The three regions that firmware release 1.x sets before it leaves BOOT (R90). -/
def bootRegion (k : Nat) : Option Region :=
  match k with
  | 0 => some ⟨true, 0, 0x1EFFF, 0x0300, 0x0300⟩
  | 6 => some ⟨true, 0x1F000, 0x1F7FF, 0x0B00, 0x0B00⟩
  | 7 => some ⟨true, 0x1F800, 0x1FFFF, 0x1300, 0x1300⟩
  | _ => none

/-- A region at BOOT before clashes are looked for: firmware's, a persisted one in order, or the reset value. -/
def regionAtBoot (recs : Tbl Nat) (k : Nat) : Region :=
  match bootRegion k, Tbl.get? recs (okey 0x2020 (k + 1)) with
  | some g, _ => g
  | none, some v => if (regionOf v).enable ∧ (regionOf v).last < (regionOf v).first then Acu.resetRegions.getD k ⟨false, 0, 0, 0, 0⟩ else regionOf v
  | none, none => Acu.resetRegions.getD k ⟨false, 0, 0, 0, 0⟩

/-- Firmware's three regions first, then the others; one that shares a block with a region before it is disabled. -/
def regionsAtBoot (recs : Tbl Nat) : List Region :=
  let order := [0, 6, 7] ++ (List.range 64).filter (fun k => (bootRegion k).isNone)
  order.foldl (fun (l : List Region) k =>
    let g := regionAtBoot recs k
    l.set k (if g.enable && l.any (fun h => h.enable && g.overlaps h) then { g with enable := false } else g))
    (List.replicate 64 ⟨false, 0, 0, 0, 0⟩)

/-- Some persisted region could not be kept as it was. -/
def regionsLost (recs : Tbl Nat) (l : List Region) : Bool :=
  (List.range 64).any (fun k => (bootRegion k).isNone && (match Tbl.get? recs (okey 0x2020 (k + 1)) with
    | some v => l.getD k ⟨false, 0, 0, 0, 0⟩ != regionOf v
    | none => false))

/-- Restore the regions: each write raises ACU_EPOCH, and firmware's three extend M4. -/
def State.restoreRegions (s : State) (recs : Tbl Nat) : State :=
  let l := regionsAtBoot recs
  let n := 3 + ((List.range 64).filter (fun k => (bootRegion k).isNone && (Tbl.get? recs (okey 0x2020 (k + 1))).isSome)).length
  let s := { s with acu := { s.acu with regions := l, epoch := s.acu.epoch + BitVec.ofNat 32 n } }
  let s := (List.range 64).foldl (fun (s : State) k =>
    let w := (l.getD k ⟨false, 0, 0, 0, 0⟩).word
    if w = objDefault 0x2020 (k + 1) then s else s.setCfg 0x2020 (k + 1) w) s
  [0, 6, 7].foldl (fun (s : State) k => s.extendM4 0x2020 (k + 1) (natLe 16 (l.getD k ⟨false, 0, 0, 0, 0⟩).word)) s

/-- Integrator objects that the journal defines. -/
def restoredUsers (recs : Tbl Nat) : Tbl UserObj :=
  (recs.filter (fun e => decide (2 ^ 24 ≤ e.1) && bitAt e.2 28 && !badUser e.2)).map
    (fun e => (e.1 - 2 ^ 24, { type := bf e.2 24 4, len := userLen e.2, dflt := descDefault e.2 }))

/-- A record passes its object's own checks of range; LOSS is the store's, not a write. -/
def State.recordOk (s : State) (key v : Nat) : Bool :=
  let idx := key / 256
  let sub := key % 256
  match s.obj? idx sub with
  | none => false
  | some o => o.persist && !(o.ty == 0 && decide (1 < v)) && (idx == 0xB012 || !badValue 0 idx sub v)

/-- A restored value clashes with the other restored ones. -/
def State.recordClash (s : State) (key v : Nat) : Bool :=
  [0x3005, 0x3008, 0x3009, 0xB010].contains (key / 256) && s.valueClash (key / 256) (key % 256) v

/-- What a restored value sets beside itself. -/
def State.restoreEffect (s : State) (key v : Nat) : State :=
  let sub := key % 256
  match key / 256 with
  | 0x2021 => s.semConfigure sub v
  | 0xD000 => if sub = 2 then s.timeRole else s
  | 0xD010 => s.modGate (sub - 1) (fun g => { g with sched := BitVec.ofNat 2176 v })
  | 0xD020 => s.writeBuckets true (sub - 1) 0 v
  | 0xD021 => s.writeBuckets false (sub - 1) 0 v
  | _ => s

/-- Length of an object's value in bytes. -/
def State.objLen (s : State) (key : Nat) : Nat := ((s.obj? (key / 256) (key % 256)).map (·.len)).getD 0

/-- Apply one record that passed: its effect, and M4. -/
def State.applyRecord (s : State) (e : Nat × Nat) : State :=
  (s.restoreEffect e.1 e.2).extendM4 (e.1 / 256) (e.1 % 256) (natLe (s.objLen e.1) e.2)

/-- Take restored values as accepted ones; regions have their own way. -/
def State.putValues (s : State) (l : Tbl Nat) : State :=
  { s with dict := { s.dict with vals := l.foldl (fun t e => if e.1 / 256 = 0x2020 then t else Tbl.put t e.1 e.2) s.dict.vals } }

/-- Records that pass their objects' checks: each in its range, none clashing with the others (R315). -/
def State.keptRecords (s : State) (vals : Tbl Nat) : Tbl Nat :=
  let fit := vals.filter (fun e => s.recordOk e.1 e.2)
  let all := s.putValues fit
  fit.filter (fun e => !all.recordClash e.1 e.2)

/-- Integrator objects come back before their values. -/
def State.restoreUsers (s : State) (recs : Tbl Nat) : State := { s with dict := { s.dict with users := restoredUsers recs } }

/-- One PERSIST_RESTORE at each BOOT that replaced a value. -/
def State.restoreFault (s : State) (lost : Bool) : State := if lost then s.mtFault 0x0110 corrected else s

/-- A record that holds a value: not a definition, nor what an integrator object left that has been deleted (R316). -/
def State.isValue (s : State) (key : Nat) : Bool :=
  decide (key < 2 ^ 24) && (decide (key / 256 < 0xE000) || (s.user? (key / 256) (key % 256)).isSome)

/-- Apply the journal: a value its checks refuse is replaced by the default (R315). -/
def State.restore (s : State) : State :=
  let recs := s.journalNow false
  let s := (s.restoreRegions recs).restoreUsers recs
  let vals := recs.filter (fun e => s.isValue e.1)
  let kept := s.keptRecords vals
  (kept.foldl (fun s e => s.applyRecord e) (s.putValues kept)).restoreFault
    (decide (kept.length < vals.length) || regionsLost recs s.acu.regions)

/-! ### The end of step 5 (R351, R363, R400) -/

/-- Record what happened before this BOOT. -/
def State.bootFaults (s : State) : State :=
  let s := s.sup.bootFaults.foldl (fun (s : State) c =>
    s.report { code := c, cls := if c = 0x0870 then corrected else deferred, tile := 15 }) s
  let s := match s.faults.stopSeq with
    | some q => s.mtFault 0x0920 deferred q
    | none => s
  { s with sup := { s.sup with bootFaults := [] }, faults := { s.faults with stopSeq := none } }

/-- SREC is rewritten when it must be (R389). -/
def State.bootSrec (s : State) : State :=
  let r := s.refreshSrec
  if r.2 then r.1.fwFault 0x0C60 corrected else s

/-- The started image: the privileged root, the restored values, the records of before, and STANDBY. -/
def State.bootImage (s : State) : State :=
  let s := ((s.setCfg 0x2018 1 (s.freeVal 64)).nextFree.restore).bootSrec.bootFaults
  { s with mode := { mode := .standby, target := .standby }, sup := { s.sup with faultTimer := s.cfg 0x8010 3 } }

/-- Steps 1 to 6 of R390; with no slot that passes, BOOT holds the device (R392). -/
def State.boot (s : State) : State :=
  let s := (s.setMeas 0 (Config.sha384 Config.bootRom)).bootFlush.bootStore
  let order := s.fw.bootOrder
  let bad := order.takeWhile (fun k => s.fw.verify (s.fw.slot k) != 0)
  let s' := bad.foldl State.refuseSlot s
  match order.drop bad.length with
  | k :: _ => (s'.bootSlot k).bootImage
  | [] => { s with mode := { s.mode with bootHeld := true } }

/-- BOOT_END (R390). -/
def execBootEnd (s : State) : Res :=
  .next (if s.inMode .boot && !s.mode.bootHeld && s.sup.flushAt.isNone then s.boot else s)

end Sys2Proof.Machine
end

