-- ==== Sys2Proof/Machine/Entries.lean ====
section
/-! DEFINITION. Doorbells (R43 to R47, R58, R59), the start of work entries by opcode (R49, R52 to R54, R143, R195,
R228, R232, R261, R283, R284), their finish (R49) and head writes (R50). -/

namespace Sys2Proof.Machine

/-! ### Doorbells -/

/-- Modes in which the DOORBELL pages take writes (R331, R337). -/
def State.doorbellsOn (s : State) : Bool :=
  (s.inMode .train || s.inMode .run || s.inMode .hold || s.inMode .test) && !s.wiping && !s.faults.checkstop

/-- A slot takes an aligned 8-byte or 4-byte write to its offset 0 (R43, R44). -/
def slotWrite (off size : Nat) : Bool := off == 0 && (size == 4 || size == 8)

/-- Count a discarded doorbell. -/
def State.badDoorbell (s : State) (f : Nat) : State :=
  s.modFn f (fun x => { x with badDoorbells := satAdd 32 x.badDoorbells 1 })

/-- A malformed doorbell (R47): counted, a CORRECTED fault, a QUEUE_ERROR event. -/
def State.queueError (s : State) (f ctx value index : Nat) (fctx : Option Nat) : State :=
  ((s.badDoorbell f).fnFault 0x0260 corrected f fctx).postAsync f
    { type := evQueueError, status := stMalformed, context := ctx, info := pack [(0, 32, value), (32, 32, index)] }

/-- Room of a send queue and the doorbell's advance (R46). -/
def Ctx.room (x : Ctx) : Nat := 2 ^ x.sqLog2 - dist x.sqDb x.head
def Ctx.takes (x : Ctx) (v : U32) : Bool := decide (dist v x.sqDb ≤ x.room)

/-- A send-queue doorbell (R46, R47). None is accepted before the 0 of R45 is written to HEAD_ADDR: until then the
context counts as not opened (DESIGN CHOICE, log entry 136). -/
def State.sqDoorbell (s : State) (f c : Nat) (v : U32) : State :=
  let x := (s.ctx f c).c
  if x.state ≠ 1 ∨ (s.ctx f c).w.zeroOwed then s.badDoorbell f
  else if x.takes v then (s.modC f c (fun x => { x with sqDb := v })).startFetch f c
  else s.queueError f c v.toNat x.head.toNat (some c)

/-- Take a consumer index, and arm a queue that has a vector: entries past it count as written since (R58, R59). -/
def EventQ.consume (e : EventQ) (v : U32) (arm : Bool) (now : Nat) : EventQ :=
  let e := { e with consumer := v }
  if arm && !e.armed && e.vector != 0xFFFF then
    { e with armed := true, counted := dist e.producer v, timerAt := if e.producer = v then none else some now }
  else e

/-- An event-queue doorbell (R58): space comes first to what waits (R243, R245, R268). -/
def State.eqDoorbell (s : State) (f q : Nat) (v : U32) (arm : Bool) : State :=
  match s.eq? f q with
  | none => s.badDoorbell f
  | some e =>
    if dist v e.consumer ≤ dist e.producer e.consumer then
      (((s.modEq f q (fun e => e.consume v arm s.etNow)).moderate f q).retryEvents f q).releaseHeld f q
    else s.queueError f 0 v.toNat e.producer.toNat none

/-! ### The start of an entry -/

/-- An earlier entry that sends packets has not started yet: its first packet has taken no PSN (R49, R195). -/
def State.unsentBefore (s : State) (f c : Nat) (idx : U32) : Bool :=
  ((s.ctx f c).w.entries.takeWhile (fun e => e.idx != idx)).any (fun e =>
    e.open && e.sent == 0 && decide (0 < e.total))

/-- An entry's fence is open, or it has none (R272). -/
def State.fenceMet (s : State) (f c : Nat) (e : Entry) : Bool := !wFence e.words.toNat || s.fenceOpen f c e.idx

/-- The entry an ENTRY command starts: the next of its queue, with its opcode, on an open resident context, in a mode
that starts entries. -/
def State.startable (s : State) (f c op : Nat) : Option Entry :=
  if s.entriesRun && (s.ctx f c).c.state == 1 && (s.ctx f c).resident then
    match s.nextEntry f c with
    | some e => if wOpcode e.words.toNat == op && !s.unsentBefore f c e.idx then some e else none
    | none => none
  else none

/-- Begin a generic start: a spilled context is filled first (R198). -/
def State.startEntry (s : State) (f c op : Nat) (go : State → Entry → State) : State :=
  match s.startable f c op with
  | some e => go s e
  | none => if (s.ctx f c).c.state = 1 ∧ s.entriesRun then s.startFill f c else s

/-- Count a started entry and tag it one time in 2^K (R366, R369). -/
def State.entryStarted (s : State) (f c : Nat) (e : Entry) : State :=
  (s.perf (8 + etOf f) 0x400 0x3F (some f) 1).tagEntry f c e.idx

/-- Start an entry that sends `total` packets and awaits responses; one that cannot reach its peer ends (R143). -/
def State.startTx (s : State) (f c : Nat) (e : Entry) (total awaited : Nat) (rndv : Bool := false) : State :=
  if s.canReach (s.ctx f c).c then
    (s.entryStarted f c e).modEntry f c e.idx (fun e => { e with st := .started, total := total, awaited := awaited, rndv := rndv })
  else s.modEntry f c e.idx (fun e => e.finish stUnreachable)

/-- A SEND: eager when INLINE or short enough, else by rendezvous (R228). -/
def State.startSend (s : State) (f c : Nat) (e : Entry) : State :=
  let w := e.words.toNat
  if wInline w || decide (wLength w ≤ s.cfg 0x6010 f) then s.startTx f c e (entryPackets (wLength w)) 0
  else s.startTx f c e 1 0 true

/-- A RECV is handed to its home engine (R232), behind the postings that wait for it (R251), or held with a move's fence
(R248); a full store lets it wait. -/
def State.startRecv (s : State) (f c : Nat) (e : Entry) : State :=
  if s.matchFull f then s
  else
    let s := (s.entryStarted f c e).modEntry f c e.idx (fun e => { e with st := .started })
    let comm := wComm e.words.toNat
    let item : EngItem := .posting f c e.idx comm (s.homeOf f comm)
    if s.fenced f comm then s.modEt (etOf f) (fun t => { t with heldItems := t.heldItems ++ [item] })
    else if (s.et (etOf f)).items.any (fun i => i.key == (f, comm) && i matches .posting _ _ _ _ _) then
      s.modEt (etOf f) (fun t => { t with items := t.items ++ [item] })
    else
      match s.entry? f c e.idx with
      | some e => s.posting f c e
      | none => s

/-- A NOP completes with OK and no other effect (R52). -/
def State.startNop (s : State) (f c : Nat) (e : Entry) : State :=
  (s.entryStarted f c e).modEntry f c e.idx (fun e => { e with st := .done stOk (wLength e.words.toNat) })

/-- A COLLECTIVE takes its operation number, unless it is malformed or its tree broken, and starts if it may (R283,
R284). -/
def State.startColl (s : State) (f c : Nat) (e : Entry) : State :=
  let w := e.words.toNat
  let t := wTree w
  if e.op.isSome then s
  else if s.badCollective f w then s.modEntry f c e.idx (fun e => e.finish stMalformed)
  else if (s.tree t).broken then s.modEntry f c e.idx (fun e => e.finish stTreeBroken)
  else
    let num := Tbl.getD (s.tree t).next f 0
    let s := s.modTree t (fun x => { x with next := Tbl.put x.next f ((num + 1) % 65536) })
    let s := (s.modEntry f c e.idx (fun e => { e with op := some num })).tagEntry f c e.idx
    if !s.fenceMet f c e then s
    else if s.collMayStart t f num then s.startCollective f c { e with op := some num } num else s.collCount 13

/-- A waiting COLLECTIVE may start now (R272, R284). -/
def State.collStart (s : State) (f c : Nat) (e : Entry) : State :=
  match e.op with
  | some num => if s.fenceMet f c e && s.collMayStart (wTree e.words.toNat) f num then s.startCollective f c e num else s
  | none => s

/-! ### The finish of an entry (R49) -/

/-- The packets of an entry that packet mode tagged are recorded at its completion (R369). -/
def State.traceDone (s : State) (f c : Nat) (e : Entry) : State :=
  (List.range e.sent).foldl (fun s i =>
    let psn := (e.firstPsn + BitVec.ofNat 32 i).toNat
    s.tracePkt (etOf f) 5
      { kind := kindReq, hlen := 8, dstDev := 0, srcDev := s.selfName.1, sform := s.selfName.2, srcFn := f, srcCtx := c,
        ext := topData + psn * 2 ^ 64 }) (s.traceEntry f c e 5)

/-- The event of a finished entry (R57, R233). -/
def finishEvent (c : Nat) (e : Entry) (st len : Nat) : Event :=
  let w := e.words.toNat
  if wOpcode w = opRecv then e.recvEv.getD { type := evRecv, status := st, userData := wUser w }
  else { type := evWorkDone, status := st, context := c, userData := wUser w, info := e.idx.toNat, length := len }

/-- No write to the entry's own buffers waits for a translation. -/
def State.entryWritten (s : State) (f c : Nat) (idx : U32) : Bool :=
  !(s.fn f).writes.any (fun h => h.use == .result c idx || h.use == .recvBuf c idx || h.use == .landing c idx)

/-- STATUS, then the event where SIGNAL asks for one, then the head past the entry (R49). -/
def State.finishEntry (s : State) (f c : Nat) (e : Entry) (st len : Nat) : State :=
  let y := s.ctx f c
  let w := e.words.toNat
  let s := s.traceDone f c e
  let s := s.modEntry f c e.idx (fun e => { e with st := .eventWait })
  let s := s.put f (y.c.sqBase + 64 * (e.idx.toNat % 2 ^ y.c.sqLog2) + 1) (natLe 1 st) (.status c e.idx)
  if wSignal w then
    s.post f (if wOpcode w = opRecv then s.recvQueue f c else y.c.sqEq) { finishEvent c e st len with holds := some (c, e.idx) }
  else (s.entryFinished f c e.idx).flushWrites f

/-! ### Commands -/

/-- SQ_DOORBELL (R43, R46, R47). -/
def execSqDoorbell (fn ctx off size : Nat) (val : BitVec 64) (s : State) : Res :=
  .next (
    if !s.doorbellsOn || !s.present fn then s
    else if !slotWrite off size then s.badDoorbell fn
    else s.sqDoorbell fn ctx (BitVec.ofNat 32 val.toNat))

/-- EQ_DOORBELL (R44, R58, R59). -/
def execEqDoorbell (fn q off size : Nat) (val : BitVec 64) (s : State) : Res :=
  .next (
    if !s.doorbellsOn || !s.present fn then s
    else if !slotWrite off size then s.badDoorbell fn
    else s.eqDoorbell fn q (BitVec.ofNat 32 val.toNat) (size == 8 && bitAt val.toNat 32))

/-- EQ_MOD_TIMER (R59). -/
def execEqModTimer (fn q : Nat) (s : State) : Res := .next (s.moderate fn q)

/-- ENTRY_NOP (R52). -/
def execEntryNop (fn ctx : Nat) (s : State) : Res := .next (s.startEntry fn ctx opNop (fun s e => s.startNop fn ctx e))

/-- ENTRY_SEND (R228, R229). -/
def execEntrySend (fn ctx : Nat) (s : State) : Res := .next (s.startEntry fn ctx opSend (fun s e => s.startSend fn ctx e))

/-- ENTRY_RECV (R232). -/
def execEntryRecv (fn ctx : Nat) (s : State) : Res := .next (s.startEntry fn ctx opRecv (fun s e => s.startRecv fn ctx e))

/-- ENTRY_WRITE (R261). -/
def execEntryWrite (fn ctx : Nat) (s : State) : Res :=
  .next (s.startEntry fn ctx opWrite (fun s e => s.startTx fn ctx e (entryPackets (wLength e.words.toNat)) 1))

/-- ENTRY_WRITE_NOTIFY (R261). -/
def execEntryWriteNotify (fn ctx : Nat) (s : State) : Res :=
  .next (s.startEntry fn ctx opWriteNotify (fun s e => s.startTx fn ctx e (entryPackets (wLength e.words.toNat)) 1))

/-- ENTRY_READ (R261, R269). -/
def execEntryRead (fn ctx : Nat) (s : State) : Res :=
  .next (s.startEntry fn ctx opRead (fun s e =>
    s.startTx fn ctx e (entryPackets (wLength e.words.toNat)) (entryPackets (wLength e.words.toNat))))

/-- ENTRY_FETCH_ADD (R264). -/
def execEntryFetchAdd (fn ctx : Nat) (s : State) : Res := .next (s.startEntry fn ctx opFetchAdd (fun s e => s.startTx fn ctx e 1 1))

/-- ENTRY_SWAP (R264). -/
def execEntrySwap (fn ctx : Nat) (s : State) : Res := .next (s.startEntry fn ctx opSwap (fun s e => s.startTx fn ctx e 1 1))

/-- ENTRY_CSWAP (R264). -/
def execEntryCswap (fn ctx : Nat) (s : State) : Res := .next (s.startEntry fn ctx opCswap (fun s e => s.startTx fn ctx e 1 1))

/-- ENTRY_COLLECTIVE (R283, R284). -/
def execEntryCollective (fn ctx : Nat) (s : State) : Res :=
  .next (s.startEntry fn ctx opCollective (fun s e => s.startColl fn ctx e))

/-- COLL_ENTRY_START (R284). -/
def execCollEntryStart (fn ctx : Nat) (s : State) : Res :=
  .next (s.startEntry fn ctx opCollective (fun s e => s.collStart fn ctx e))

/-- ENTRY_FINISH (R49): due once the entry's finishing condition is met and its own writes are issued. -/
def execEntryFinish (fn ctx : Nat) (idx : U32) (s : State) : Res :=
  .next (
    match s.entry? fn ctx idx with
    | none => s
    | some e =>
      match e.st with
      | .done st len =>
        if s.entryWritten fn ctx idx && !s.faults.checkstop then s.atHome fn ctx (fun s => s.finishEntry fn ctx e st len) else s
      | _ => s)

/-- HEAD_WRITE_TIMER (R50): 1 µs after the head has moved, and again while the write is withheld (R75). -/
def execHeadWriteTimer (fn ctx : Nat) (s : State) : Res :=
  .next (
    match (s.ctx fn ctx).w.headLag with
    | some t =>
      if t + us ≤ s.etNow ∧ !s.writePending fn (.head ctx) ∧ (s.ctx fn ctx).c.state ≠ 0
      then s.atHome fn ctx (fun s => (s.queueHead fn ctx).flushWrites fn) else s
    | none => s)

end Sys2Proof.Machine
end

