-- ==== Sys2Proof/Machine/Transports.lean ====
section
/-! DEFINITION. The transport's commands (spec 08): contexts opened, closed and queried (R191 to R196), packets sent and
received (R204 to R211, R214, R262, R271), and the timers (R205, R208, R212, R215, R246). -/

namespace Sys2Proof.Machine

/-! ### Completion records (R192) -/

/-- The 16-byte record of a context command. -/
def ctxRecord (status op inc ctx token : Nat) : List Byte :=
  natLe 16 (pack [(0, 8, status), (8, 2, op), (16, 16, inc), (32, 20, ctx), (64, 32, token)])

/-- Incarnation of a context that is open or closing, else 0. -/
def State.liveInc (s : State) (f c : Nat) : Nat := if (s.ctx f c).c.state = 0 then 0 else (s.ctx f c).c.inc

/-- Write a completion record at a bus address. -/
def State.complete (s : State) (f addr : Nat) (bytes : List Byte) : State := (s.queueWrite f addr bytes .bus).flushWrites f

/-- Take the executed command off the function's list. -/
def State.popCtxCmd (s : State) (f : Nat) : State := s.modFn f (fun x => { x with ctxCmds := x.ctxCmds.drop 1 })

/-- The oldest outstanding context command, if it has this OP. -/
def State.ctxCmd (s : State) (f op : Nat) : Option Nat :=
  if s.faults.checkstop then none
  else (((s.fn f).ctxCmds.head?).map (·.toNat)).filter (fun v => ccOp v == op)

/-! ### OPEN (R193) -/

/-- An event queue of the function exists. -/
def State.eqExists (s : State) (f q : Nat) : Bool := (s.eq? f q).isSome

/-- The MALFORMED cases of R193. -/
def State.badOpen (s : State) (f v : Nat) : Bool :=
  let base := bf v 128 64
  let head := bf v 192 64
  let log2 := bf v 256 5
  let sq := bf v 264 12
  let rq := bf v 276 12
  (s.ctx f (ccCtx v)).c.state != 0 || decide (log2 < 4) || decide (16 < log2)
    || base % 4096 != 0 || head % 4 != 0 || base / 2 ^ 57 != 0 || head / 2 ^ 57 != 0
    || sq == 0 || !s.eqExists f sq || (rq != 0 && !s.eqExists f rq)
    || reservedDev (bitAt v 84) (bf v 64 20)
    || s.tombHolds f (ccCtx v) ((s.fn f).epoch * 4096 + ccInc v)

/-- The context an OPEN makes (R190). -/
def State.openedCtx (s : State) (f v : Nat) : Ctx :=
  { state := 1, sqLog2 := bf v 256 5, sqEq := bf v 264 12, rqEq := bf v 276 12, inc := (s.fn f).epoch * 4096 + ccInc v,
    peerInc := bf v 48 16, peerDev := bf v 64 20, peerForm := bitAt v 84, peerFn := bf v 85 8, peerCtx := bf v 93 20,
    sqBase := bf v 128 64, headAddr := bf v 192 64, txLimit := BitVec.ofNat 16 (s.cfg 0x5010 f),
    rxLimit := BitVec.ofNat 16 (s.cfg 0x5010 f), rate := s.cfg 0x5000 11 }

/-- Status of an OPEN, and the state with a slot made for it. -/
def State.tryOpen (s : State) (f v : Nat) : Nat × State :=
  if s.badOpen f v then (stMalformed, s)
  else if !bitAt v 84 && s.coord?.isNone then (stUnreachable, s)
  else
    match s.makeRoom f with
    | none => (stLost, s)
    | some s =>
      let c := ccCtx v
      (stOk, (s.modCtx f c (fun y => { c := s.openedCtx f v, w := { zeroOwed := true, resyncBase := s.etNow, resyncLen := s.cfg 0x5000 5 * us }, m := { msgs := y.m.msgs } })).put f (bf v 192 64) (natLe 4 0) (.head c))

/-- Execute an OPEN: 0 to HEAD_ADDR, then the completion record. -/
def State.openCtx (s : State) (f v : Nat) : State :=
  let r := s.tryOpen f v
  (r.2.popCtxCmd f).complete f (ccCompl v) (ctxRecord r.1 0 (r.2.liveInc f (ccCtx v)) (ccCtx v) (ccToken v))

/-! ### CLOSE and QUERY (R192, R195, R196) -/

/-- An entry that has not started when its context closes (R195), or a rendezvous SEND awaiting its FIN (R250). -/
def Entry.lostAtClose (e : Entry) : Bool :=
  e.open && (e.st == .fetched || (e.sent == 0 && decide (0 < e.total)) || (e.rndv && !e.fin))

/-- Set a context CLOSING. -/
def State.closeCtx (s : State) (f c compl token : Nat) : State :=
  let s := s.modCtx f c (fun y => { y with
    c := { y.c with state := 2 }
    w := { y.w with
      closeTok := some (compl, token)
      entries := y.w.entries.map (fun e => if e.lostAtClose then e.finish stLost else e)
      cur := y.w.cur.filter (fun t => !y.w.entries.any (fun e => e.idx == t.idx && e.lostAtClose)) } })
  (s.closeMatching f c).startFetch f c

/-- Execute a CLOSE: a context that is not open is MALFORMED; a spilled one is brought back first. -/
def State.closeCmd (s : State) (f v : Nat) : State :=
  let c := ccCtx v
  if (s.ctx f c).c.state ≠ 1 then
    (s.popCtxCmd f).complete f (ccCompl v) (ctxRecord stMalformed 1 (s.liveInc f c) c (ccToken v))
  else s.atHome f c (fun s => (s.popCtxCmd f).closeCtx f c (ccCompl v) (ccToken v))

/-- Execute a QUERY: the record as it stands, all 0 for a closed context. -/
def State.queryCmd (s : State) (f v : Nat) : State :=
  let c := ccCtx v
  let y := s.ctx f c
  s.atHome f c fun s =>
    (s.popCtxCmd f).complete f (ccCompl v)
      (ctxRecord stOk 2 (s.liveInc f c) c (ccToken v) ++ natLe 64 (if y.c.state = 0 then 0 else y.c.record))

/-- Complete unexpected messages outlive their context (R250): their numbers move out of the way of the next
incarnation's, above 2^32. -/
def keptMsn (inc msn : Nat) : Nat := if msn < 2 ^ 32 then 2 ^ 32 * (inc + 1) + msn else msn

/-- A write or a read that serves a message of a closed context follows the message's number. -/
def AddrUse.keep (c : Nat) (k : Nat → Nat) : AddrUse → AddrUse
  | .overflow c' msn => if c' = c then .overflow c' (k msn) else .overflow c' msn
  | u => u
def ReadFor.keep (c : Nat) (k : Nat → Nat) : ReadFor → ReadFor
  | .overflow c' msn off b => if c' = c then .overflow c' (k msn) off b else .overflow c' msn off b
  | u => u
def HeldWrite.keep (c : Nat) (k : Nat → Nat) (h : HeldWrite) : HeldWrite :=
  { h with use := h.use.keep c k, land := h.land.map (fun l => if l.ctx = c then { l with msn := k l.msn } else l) }

/-- Remove a closed context but for the messages it leaves, with what is on its way for them. -/
def State.forgetCtx (s : State) (f c : Nat) : State :=
  let y := s.ctx f c
  let k := keptMsn y.c.inc
  let s := s.modFn f (fun x => { x with writes := x.writes.map (HeldWrite.keep c k) })
  let s := { s with reads := s.reads.map (fun (e : Nat × HostRead) =>
    if e.2.fn = f then (e.1, { e.2 with use := e.2.use.keep c k }) else e) }
  let s := { s with mctxs := s.mctxs.map (fun (e : Nat × MatchCtx) =>
    if e.1 / 2 ^ 16 = f then (e.1, { e.2 with unexp := e.2.unexp.map (fun (u : Nat × Nat) => if u.1 = c then (c, k u.2) else u) }) else e) }
  let left := y.m.msgs.map (fun m => { m with msn := k m.msn })
  if left = [] then { s with ctxs := Tbl.del s.ctxs (ckey f c) }
  else s.modCtx f c (fun _ => { m := { msgs := left } })

/-- Reach CLOSED: what matching state came while it was CLOSING is closed too (R250), the head is written, the tombstone begins,
saved responses go, the slot is free and the command completes. A full tombstone table makes the close wait, and one fault tells of it. -/
def State.finishClose (s : State) (f c : Nat) : State :=
  let h := etOf f
  let y := s.ctx f c
  if 262144 ≤ (s.et h).tombs.length then s.modW f c (fun w => { w with tombFull := true })
  else
    let s := (if y.w.tombFull then s.fnFault 0x0540 corrected f (some c) else s).closeMatching f c
    let s := (s.queueHead f c).modEt h (fun e => { e with
      tombs := e.tombs ++ [{ fn := f, ctx := c, inc := y.c.inc, at_ := s.etNow }]
      saved := e.saved.filter (fun r => !(r.fn == f && r.ctx == c))
      targets := e.targets.filter (fun t => !(t.fn == f && t.ctx == c)) })
    let s := ((s.saveWatch h).forgetCtx f c).replayWatch h
    match y.w.closeTok with
    | some (compl, token) => s.complete f compl (ctxRecord stOk 1 0 c token)
    | none => s.flushWrites f

/-! ### Receiving -/

/-- The packet at the head of a tile's arrivals, if it is of a kind. -/
def State.rxHead (s : State) (n : Nat) (is_ : Packet → Bool) : Option QPkt :=
  if s.faults.checkstop || !s.island (8 + n) then none else ((s.et n).rx.head?).filter (fun q => is_ q.pkt)

/-- Take it off. -/
def State.rxPop (s : State) (n : Nat) : State := s.modEt n (fun e => { e with rx := e.rx.drop 1 })

/-- Put it behind the others: it waits for its context's fill (R198). -/
def State.rxRotate (s : State) (n : Nat) : State := s.modEt n (fun e => { e with rx := e.rx.drop 1 ++ e.rx.take 1 })

/-- The context a packet names is open or closing, and away in its spill region. -/
def State.spilled (s : State) (p : Packet) : Bool :=
  match s.ctx? p.dstFn p.dstCtx with
  | some y => y.c.state != 0 && !y.here
  | none => false

/-- A packet for a spilled context: its fill starts, or it is dropped with 1,024 misses outstanding (R198). -/
def State.rxMiss (s : State) (n : Nat) (p : Packet) : State :=
  if 1024 ≤ s.missesIn n then (s.rxPop n).tCount n 13
  else (s.startFill p.dstFn p.dstCtx).rxRotate n

/-- The checks of R207 on a DATA or RESYNC packet's context, incarnations and source. -/
def State.rxValid (s : State) (p : Packet) : Bool :=
  match s.ctx? p.dstFn p.dstCtx with
  | some y => y.c.state != 0 && !y.w.lost && xDstInc p == y.c.inc && xSrcInc p == y.c.peerInc
      && p.srcDev == y.c.peerDev && p.sform == y.c.peerForm && p.srcFn == y.c.peerFn && p.srcCtx == y.c.peerCtx
  | none => false

/-- Note what a request from the peer brings for the next response (R146, R208). -/
def State.noteRequest (s : State) (p : Packet) : State :=
  s.modCtx p.dstFn p.dstCtx (fun y => { y with w := { y.w with chint := p.chint, echoNm := p.nonmin }, refd := true })

/-- The newest packet an ACK covers or answers (R208). -/
def State.noteEcho (s : State) (p : Packet) : State :=
  s.modW p.dstFn p.dstCtx (fun w => { w with echoTs := xSendTs p, echoAt := s.etNow })

/-- A PSN is a duplicate or lies beyond the window (R207). -/
def Ctx.duplicate (x : Ctx) (psn : U32) : Bool :=
  let d := dist psn x.rxEpsn
  decide (2 ^ 31 ≤ d) || (decide (1 ≤ d) && decide (d ≤ 64) && bitAt x.rxMap.toNat (d - 1))
def Ctx.beyond (x : Ctx) (psn : U32) : Bool := decide (65 ≤ dist psn x.rxEpsn) && decide (dist psn x.rxEpsn < 2 ^ 31)

/-- Ones at the bottom of a map. -/
def trailingOnes : Nat → Nat → Nat
  | 0, _ => 0
  | n + 1, v => if v % 2 = 1 then trailingOnes n (v / 2) + 1 else 0

/-- Mark a PSN received: RX_EPSN passes over received PSNs (R207). -/
def Ctx.accept (x : Ctx) (psn : U32) : Ctx :=
  let d := dist psn x.rxEpsn
  let x := { x with rxPend := min 64 (x.rxPend + 1) }
  if d = 0 then
    let n := trailingOnes 64 x.rxMap.toNat
    { x with rxEpsn := x.rxEpsn + BitVec.ofNat 32 (n + 1), rxMap := x.rxMap >>> (n + 1) }
  else { x with rxMap := x.rxMap ||| (1 <<< (d - 1)) }

/-- An operation's answer before acceptance (R207, R236, R267): refuse as not ready, or take, with a payload's place. -/
def State.takePacket (s : State) (p : Packet) : State × Option PayloadDest :=
  let f := p.dstFn
  let c := p.dstCtx
  if oOpc p = 1 ∧ oMkind p ≠ 2 ∧ oMkind p ≠ 4 then s.matchTake f c p
  else if 3 ≤ oOpc p ∧ oOpc p ≤ 8 then
    match s.rmaNotReady f c p with
    | some k => (s.rCount (etOf f) k, none)
    | none => (s, some .discard)
  else (s, some .discard)

/-- Refuse a packet as not ready. -/
def State.refuse (s : State) (p : Packet) : State :=
  let f := p.dstFn
  let s := (s.sendRnr f p.dstCtx (xPsn p) (xSendTs p)).perf (8 + etOf f) 0x440 0x3F (some f) 1
  if oOpc p = 1 then s.mCount (etOf f) 7 else s

/-- Hand an accepted packet to its operation. -/
def State.perform (s : State) (p : Packet) (dest : PayloadDest) : State :=
  let f := p.dstFn
  let c := p.dstCtx
  let h := etOf f
  if oOpc p = 1 then
    if oMkind p = 2 ∨ oMkind p = 4 then s.modEt h (fun e => { e with ops := e.ops ++ [(f, c, p)] })
    else
      let s := match dest with
        | .block b => s.modFn f (fun x => { x with overBlocks := x.overBlocks ++ [b] })
        | .straight | .discard => s.returnSlots f c (xSlots p)
        | _ => s
      s.modEt h (fun e => { e with items := e.items ++ [.header f c p dest (s.homeOf f (oComm p))] }) |>.landWatch h
  else if 3 ≤ oOpc p ∧ oOpc p ≤ 8 then (s.tracePkt h 4 p).rmaTake f c p
  else s.rCount h 4

/-- Accept a packet (R207, R208): its PSN is marked, its delay noted, its operation performed, what RX_EPSN passes
completes (R268), and an ACK leaves when one is due. -/
def State.acceptPkt (s : State) (p : Packet) (dest : PayloadDest) : State :=
  let f := p.dstFn
  let c := p.dstCtx
  let owd := s.owdOf p
  let s := (s.modCtx f c (fun y => { y with
    c := y.c.accept (xPsn p)
    w := { y.w with
      ackAt := some (y.w.ackAt.getD s.etNow)
      owd := match owd with | some d => max d y.w.owd | none => y.w.owd
      owdOk := y.w.owdOk && owd.isSome } })).noteEcho p
  let s := ((s.fnCtr f 2 1).fnCtr f 4 p.plen).perform p dest
  let s := s.completeAll f c
  let s := (s.flushWrites f).saveWatch (etOf f)
  let x := (s.ctx f c).c
  if 0 < x.rxPend ∧ (s.cfg 0x5000 1 ≤ x.rxPend ∨ xAckreq p) then s.ackNow f c else s

/-- A duplicate is acknowledged at once and never performed again; reads are read again and kept answers repeated
(R210, R266). -/
def State.dupPkt (s : State) (p : Packet) : State :=
  let f := p.dstFn
  let c := p.dstCtx
  let s := (s.tCount (etOf f) 6).noteEcho p
  let s := if 3 ≤ oOpc p ∧ oOpc p ≤ 8 then s.rmaDuplicate f c p
    else if oOpc p = 1 ∧ oMkind p = 2 then s.takePull f c p
    else s
  (s.ackNow f c).flushWrites f

/-- A DATA packet (R207). It releases the saved records it shows answered (R266), a duplicate after its own answer (DEDUCED, log
entry 159). -/
def State.dataRx (s : State) (n : Nat) : State :=
  match s.rxHead n (fun p => p.kind == kindReq && xTop p == topData) with
  | none => s
  | some q =>
    let p := q.pkt
    if s.spilled p then s.rxMiss n p
    else
      let s := s.rxPop n
      if !s.rxValid p then s.sendStale n p
      else
        let x := (s.ctx p.dstFn p.dstCtx).c
        let s := s.noteRequest p
        if x.duplicate (xPsn p) then (s.dupPkt p).rack p.dstFn p.dstCtx p
        else
        let s := s.rack p.dstFn p.dstCtx p
        if x.beyond (xPsn p) then s.tCount n 7
        else
          match s.takePacket p with
          | (s, none) => s.refuse p
          | (s, some dest) => s.acceptPkt p dest

/-- A RESYNC (R207, R215). -/
def State.resyncRx (s : State) (n : Nat) : State :=
  match s.rxHead n (fun p => p.kind == kindReq && xTop p == topResync) with
  | none => s
  | some q =>
    let p := q.pkt
    if s.spilled p then s.rxMiss n p
    else
      let s := s.rxPop n
      if !s.rxValid p then s.sendStale n p else (s.noteRequest p).sendResyncAck p.dstFn p.dstCtx (cTs p)

/-- Take a response-kind packet with a TOP off the tile's arrivals and act on it. -/
def State.rspRx (s : State) (n : Nat) (is_ : Packet → Bool) (go : State → Packet → State) : State :=
  match s.rxHead n (fun p => p.kind == kindRsp && is_ p) with
  | none => s
  | some q => if s.spilled q.pkt then s.rxMiss n q.pkt else go (s.rxPop n) q.pkt

/-- A PSN is unacknowledged. -/
def Ctx.unacked (x : Ctx) (psn : U32) : Bool := decide (dist psn x.una < dist x.nextPsn x.una)

/-- An ACK or RESYNC_ACK (R209, R214). -/
def State.ackIn (s : State) (p : Packet) (force : Bool) : State :=
  if s.fromPeer p then (s.takeAck p force).flushWrites p.dstFn else s.tCount (etOf p.dstFn) 11

/-- True when a NAK's DST_INC names the context's incarnation (R211). -/
def State.nakFor (s : State) (p : Packet) : Bool :=
  match s.ctx? p.dstFn p.dstCtx with
  | some y => y.c.state != 0 && !y.w.lost && xDstInc p == y.c.inc
  | none => false

/-- A NAK STALE (R211). -/
def State.staleIn (s : State) (p : Packet) : State :=
  let f := p.dstFn
  let c := p.dstCtx
  let y := s.ctx f c
  if s.nakFor p ∧ (y.c.unacked (xPsn p) ∨ (y.w.resyncAt ≠ 0 ∧ cTs p = y.w.resyncTs)) then
    ((s.tCount (etOf f) 9).endContext f c none stLost).startFetch f c
  else s

/-! ### Sending (R204) -/

/-- Check 6: the port tile that R429 selects accepts the injection of a request to the peer (R161). -/
def State.injectOk (s : State) (f c : Nat) : Bool :=
  let k := s.ctxPacket f c (s.ctx f c).c kindReq 8 0 []
  s.takesRequest (injectTile k) k

/-- Start the next DATA packet of a resident context, if every check of R204 lets it; resends that waited for the pacer go
first (R217). A PULL or a FIN goes before the next entry, but not between the packets of one, whose PSNs are consecutive
(R228, R261). -/
def State.sendHere (s : State) (f c : Nat) : State :=
  if !(s.ctx f c).w.resends.isEmpty then
    if s.injectStopped || decide (s.etNow < (s.ctx f c).w.pacerAt) then s else s.resendNext f c
  else if !s.injectOk f c then s
  else
    match (if (s.nextTx f c).any (fun e => decide (0 < e.sent)) then none else (s.ctx f c).w.owed.find? (s.owedOk f c)) with
    | some o => if s.mayStart f c (o.mkind == 2) then s.sendOwed f c o else s
    | none =>
      match s.nextTx f c with
      | none => s
      | some e =>
        let w := e.words.toNat
        let op := wOpcode w
        let last := e.sent + 1 == e.total
        let resp := op == opRead || isAtomic op || ((op == opWrite || op == opWriteNotify) && last)
        if !s.mayStart f c resp || (wFence w && e.sent == 0 && !s.fenceOpen f c e.idx) then s
        else if !s.canReach (s.ctx f c).c then (s.modEntry f c e.idx Entry.unreach).settle f c
        else if op == opSend && e.rndv then s.sendRts f c e
        else if op == opRead || isAtomic op then s.sendRequest f c e
        else s.sendPayload f c e

/-- Start the next DATA packet of a context. -/
def State.sendNext (s : State) (f c : Nat) : State := s.atHome f c (fun s => s.sendHere f c)

/-! ### Timers -/

/-- The PSN a retransmit expiry resends: UNA, or the oldest request that awaits a response (R212, R270). -/
def CtxAll.oldest (y : CtxAll) : Option U32 :=
  if y.c.nextPsn ≠ y.c.una then some y.c.una else ((y.w.replay.find? (·.resp)).map (·.psn))

/-- The retransmit timer expires (R212). -/
def State.retransmitExpiry (s : State) (f c : Nat) : State :=
  let y := s.ctx f c
  match y.oldest with
  | none => s
  | some psn =>
    let s := s.tCount (etOf f) 2
    if s.cfg 0x5000 4 ≤ y.c.retries then
      ((s.tCount (etOf f) 3).endContext f c (s.entryOfPsn f c psn) stRetry).startFetch f c
    else
      (((s.modC f c (fun x => { x with retries := x.retries + 1 })).retransmit f c psn).sendResync f c).restartRto f c

/-- An eager packet of the context waits for credit (R215). -/
def State.creditWait (s : State) (f c : Nat) : Bool :=
  match s.nextTx f c with
  | some e =>
    let w := e.words.toNat
    wOpcode w == opSend && !e.rndv && !(s.ctx f c).c.credit (landSlots (min 4096 (wLength w - 4096 * e.sent)))
  | none => false

/-- An occasion for RESYNCs (R215, R229): packets unacknowledged, an eager packet short of credit, a rendezvous. -/
def State.resyncDue (s : State) (f c : Nat) : Bool :=
  (s.ctx f c).c.nextPsn != (s.ctx f c).c.una || s.creditWait f c || (s.et (etOf f)).rndv.any (fun r => r.fn == f && r.ctx == c)

/-- A timer's instant has come. -/
def after (t : Option Nat) (d now : Nat) : Bool :=
  match t with
  | some a => decide (a + d ≤ now)
  | none => false

/-- A context's timer acts: the context is live, and injection is not stopped (R336); a spilled one is filled first. -/
def State.onTimer (s : State) (f c : Nat) (due : Bool) (go : State → State) : State :=
  if (s.ctx f c).c.state = 0 ∨ s.injectStopped ∨ !due then s
  else s.atHome f c (fun s => (go s).flushWrites f)

/-! ### Commands -/

/-- CTX_OPEN (R193). -/
def execCtxOpen (fn : Nat) (s : State) : Res :=
  .next (match s.ctxCmd fn 0 with
    | some v => s.openCtx fn v
    | none => s)

/-- CTX_CLOSE (R195). -/
def execCtxClose (fn : Nat) (s : State) : Res :=
  .next (match s.ctxCmd fn 1 with
    | some v => s.closeCmd fn v
    | none => s)

/-- CTX_QUERY (R192). -/
def execCtxQuery (fn : Nat) (s : State) : Res :=
  .next (match s.ctxCmd fn 2 with
    | some v => s.queryCmd fn v
    | none => s)

/-- CTX_CLOSE_COMPLETE (R195, R196). -/
def execCtxCloseComplete (fn ctx : Nat) (s : State) : Res :=
  .next (if s.closable fn ctx && !s.faults.checkstop then s.atHome fn ctx (fun s => s.finishClose fn ctx) else s)

/-- TOMBSTONE_EXPIRY (R196): 4 ms after the context closed. -/
def execTombstoneExpiry (fn ctx : Nat) (s : State) : Res :=
  .next (s.modEt (etOf fn) (fun e => { e with
    tombs := e.tombs.filter (fun t => !(t.fn == fn && t.ctx == ctx && decide (t.at_ + 4 * ms ≤ s.etNow))) }))

/-- DATA_SEND (R204). -/
def execDataSend (fn ctx : Nat) (s : State) : Res :=
  .next (if (s.ctx fn ctx).c.state = 0 then s else (s.sendNext fn ctx).flushWrites fn)

/-- DATA_RX (R207). -/
def execDataRx (et : Nat) (s : State) : Res := .next (s.dataRx et)

/-- RESYNC_RX (R207, R215). -/
def execResyncRx (et : Nat) (s : State) : Res := .next (s.resyncRx et)

/-- ACK_RX (R209). -/
def execAckRx (et : Nat) (s : State) : Res :=
  .next (s.rspRx et (fun p => xTop p == topAck) (fun s p => s.ackIn p false))

/-- RESYNC_ACK_RX (R214): the answer to the latest RESYNC sets TX_LIMIT whatever it was. -/
def execResyncAckRx (et : Nat) (s : State) : Res :=
  .next (s.rspRx et (fun p => xTop p == topResyncAck) (fun s p =>
    s.ackIn p ((s.ctx p.dstFn p.dstCtx).w.resyncAt != 0 && cTs p == (s.ctx p.dstFn p.dstCtx).w.resyncTs)))

/-- NAK_RNR_RX (R211, R246). -/
def execNakRnrRx (et : Nat) (s : State) : Res :=
  .next (s.rspRx et (fun p => xTop p == topNak && cCode p == 1) (fun s p =>
    if s.nakFor p && (s.ctx p.dstFn p.dstCtx).c.unacked (xPsn p)
    then (s.takeRnr p.dstFn p.dstCtx (xPsn p)).startFetch p.dstFn p.dstCtx else s))

/-- NAK_STALE_RX (R211). -/
def execNakStaleRx (et : Nat) (s : State) : Res :=
  .next (s.rspRx et (fun p => xTop p == topNak && cCode p != 1) (fun s p => if cCode p = 2 then s.staleIn p else s))

/-- RESP_RX (R271). -/
def execRespRx (et : Nat) (s : State) : Res :=
  .next (s.rspRx et (fun p => xTop p == topResp && oOpc p != 1) (fun s p => if s.fromPeer p then (s.respDelay p).takeResponse p else s))

/-- PULL_RESP_RX (R231). -/
def execPullRespRx (et : Nat) (s : State) : Res :=
  .next (s.rspRx et (fun p => xTop p == topResp && oOpc p == 1) (fun s p =>
    if s.fromPeer p then ((s.respDelay p).takePullResp p).flushWrites p.dstFn else s))

/-- ACK_DELAY_TIMER (R208): ACK_DELAY after the first packet accepted and not acknowledged, or the first slot returned
and not reported. -/
def execAckDelayTimer (fn ctx : Nat) (s : State) : Res :=
  .next (s.onTimer fn ctx
    (after (s.ctx fn ctx).w.ackAt (s.cfg 0x5000 2) s.etNow || after (s.ctx fn ctx).w.credAt (s.cfg 0x5000 2) s.etNow)
    (fun s => s.ackNow fn ctx))

/-- RETRANSMIT_TIMER (R212, R270). -/
def execRetransmitTimer (fn ctx : Nat) (s : State) : Res :=
  .next (s.onTimer fn ctx (after (s.ctx fn ctx).w.rtoAt (s.ctx fn ctx).w.rtoLen s.etNow) (fun s => s.retransmitExpiry fn ctx))

/-- RESYNC_TIMER (R215, R229): RESYNC_PERIOD after the last RESYNC, or after packets began to be outstanding. -/
def execResyncTimer (fn ctx : Nat) (s : State) : Res :=
  .next (s.onTimer fn ctx
    (decide ((s.ctx fn ctx).w.resyncBase + (s.ctx fn ctx).w.resyncLen ≤ s.etNow) && s.resyncDue fn ctx)
    (fun s => s.sendResync fn ctx))

/-- REPLAY_FULL (R205): the table has stayed full for 1 ms. -/
def execReplayFull (et : Nat) (s : State) : Res :=
  .next (
    if after (s.et et).fullAt ms s.etNow && !(s.et et).fullRec then
      (s.modEt et (fun e => { e with fullRec := true })).report { code := 0x0530, cls := corrected, tile := 8 + et }
    else s)

/-- RNR_BACKOFF_TIMER (R246): the round's PSNs are resent in PSN order. -/
def execRnrBackoffTimer (fn ctx : Nat) (s : State) : Res :=
  .next (
    match (s.ctx fn ctx).m.rnr with
    | some r =>
      s.onTimer fn ctx (!r.resent && decide (r.start + r.wait ≤ s.etNow)) (fun s =>
        let s := s.modM fn ctx (fun m => { m with rnr := some { r with
          resent := true, first := BitVec.ofNat 32 (r.psns.headD 0) } })
        r.psns.foldl (fun s psn => s.retransmit fn ctx (BitVec.ofNat 32 psn)) s)
    | none => s)

end Sys2Proof.Machine
end

