-- ==== Sys2Proof/Machine/Engines.lean ====
section
/-! DEFINITION. The commands of the matching engines (R229 to R231, R238, R242, R247, R248) and of windows and saved
responses (R255 to R258, R266, R267). -/

namespace Sys2Proof.Machine

/-! ### Matching engines -/

/-- Take the first item off a tile's engines. -/
def State.itemPop (s : State) (h : Nat) : State := s.modEt h (fun e => { e with items := e.items.drop 1 })

/-- An item that reaches an engine whose tombstone for its matching context is held is forwarded, counted, and
recorded (R248). -/
def State.lateItem (s : State) (h f comm engine : Nat) : State :=
  if (s.et h).tmoves.any (fun m => m.fn == f && m.comm == comm && m.src == engine) && s.homeOf f comm != engine then
    (s.mCount h 13).report { code := 0x0630, cls := corrected, tile := 8 + h, unit := engine, fn := some f }
  else s

/-- Blocks of the overflow region taken for a packet that then found no place. -/
def State.freeUnused (s : State) (f : Nat) (p : Packet) (c : Nat) (dest : PayloadDest) : State :=
  match dest with
  | .block b =>
    if (s.msg? f c (oMsn p)).any (fun m => m.pieces.any (fun q => q.block == some b)) then s
    else if s.reads.any (fun e => match e.2.use with | .overflow _ _ _ k => e.2.fn == f && k == b | _ => false) then s
    else s.modFn f (fun x => { x with overBlocks := x.overBlocks.filter (· != b) })
  | _ => s

/-- The next item of a tile's matching engines: inside a move's fence it is held (R248), else its header, posting or commit
step is performed (R232, R238, R249). -/
def State.matchItem (s : State) (h : Nat) : State :=
  match (s.et h).items.head? with
  | none => s
  | some i =>
    let k := i.key
    let s := s.itemPop h
    if s.fenced k.1 k.2 then s.modEt h (fun e => { e with heldItems := e.heldItems ++ [i] })
    else
      match i with
      | .header f c p dest engine =>
        let s := (s.lateItem h f (oComm p) engine).header f c p dest
        ((((s.freeUnused f p c dest).landWatch h).flushWrites f).endFailed f).ackIfDue f c
      | .commit f c _ => (((s.commitReady 64 f c).landWatch h).flushWrites f).endFailed f
      | .posting f c idx comm engine =>
        let s := s.lateItem h f comm engine
        match s.entry? f c idx with
        | some e => if e.st == .started then (((s.posting f c e).landWatch h).flushWrites f).endFailed f else s
        | none => s

/-- The first accepted PULL or FIN of a tile. -/
def State.firstOp (s : State) (h mkind : Nat) : Option (Nat × Nat × Packet) :=
  (s.et h).ops.find? (fun o => oMkind o.2.2 == mkind)

/-- Perform it, if its context still lives. -/
def State.opStep (s : State) (h mkind : Nat) (go : State → Nat → Nat → Packet → State) : State :=
  match s.firstOp h mkind with
  | none => s
  | some o =>
    let s := s.modEt h (fun e => { e with ops := e.ops.erase o })
    if (s.ctx o.1 o.2.1).c.state = 0 then s else ((go s o.1 o.2.1 o.2.2).flushWrites o.1).ackIfDue o.1 o.2.1

/-! ### Windows (R255 to R258) -/

/-- The 16-byte completion record of a window command (R256). -/
def winRecord (status op rkey token : Nat) : List Byte :=
  natLe 16 (pack [(0, 8, status), (8, 2, op), (32, 32, rkey), (64, 32, token)])

/-- The oldest outstanding window command, if it has this OP. -/
def State.winCmd (s : State) (f op : Nat) : Option Nat :=
  if s.faults.checkstop then none
  else (((s.fn f).winCmds.head?).map (·.toNat)).filter (fun v => wcOp v == op)

def State.popWinCmd (s : State) (f : Nat) : State := s.modFn f (fun x => { x with winCmds := x.winCmds.drop 1 })

/-- The MALFORMED cases of R257. -/
def State.badRegister (s : State) (f v : Nat) : Bool :=
  let store := bitAt v 2
  let rd := bitAt v 3
  let wr := bitAt v 4
  let at_ := bitAt v 5
  let nt := bitAt v 6
  let eq := bf v 8 12
  let base := bf v 64 64
  let len := bf v 128 64
  (!rd && !wr && !at_) || len == 0 || decide (2 ^ 48 < len)
    || (!store && decide (2 ^ 48 < base + len)) || (store && decide (4096 * s.allotPages f < base + len))
    || (at_ && store) || (nt && !wr) || (nt && (eq == 0 || !s.eqExists f eq))

/-- The command image a QUERY returns: RKEY filled in, COMPL_ADDR, TOKEN and reserved bits 0 (R3). -/
def winImage (v rkey : Nat) : Nat := setBf (setBf (bf v 0 212) 20 12 0) 32 32 rkey

/-- The window a REGISTER makes. -/
def winOfCmd (f v rkey tag : Nat) : Win :=
  { tag := tag, reg := true, fn := f, store := bitAt v 2, rd := bitAt v 3, wr := bitAt v 4, atm := bitAt v 5,
    nt := bitAt v 6, ctxb := bitAt v 7, notifyEq := bf v 8 12, base := bf v 64 64, len := bf v 128 64,
    bound := bf v 192 20, img := BitVec.ofNat 512 (winImage v rkey) }

/-- Execute a REGISTER: the lowest free slot takes the window. -/
def State.register (s : State) (f v : Nat) : State :=
  let h := etOf f
  let s := s.popWinCmd f
  let fail (st : Nat) : State := s.complete f (wcCompl v) (winRecord st 0 0 (wcToken v))
  if s.badRegister f v then fail stMalformed
  else if s.winQuota f ≤ s.winUse f then fail stKey
  else
    match s.freeSlot h with
    | none => fail stKey
    | some k =>
      let tag := (s.win h k).tag
      let rkey := tag * 65536 + k
      ((s.modWin h k (fun _ => winOfCmd f v rkey tag)).modFn f (fun x => { x with writes := x.writes ++
        [{ addr := wcCompl v, bytes := winRecord stOk 0 rkey (wcToken v), use := .bus, admits := some k }] })).flushWrites f

/-- Reads that passed the old key's check and have not ended (R258). -/
def State.keyReads (s : State) (f rkey : Nat) : List Nat :=
  (s.reads.filter (fun e => e.2.fn == f && (match e.2.use with
    | .target c psn => (s.target? f c psn).any (fun o => o.rkey == rkey)
    | _ => false))).map (·.1)

/-- Execute a REVOKE: the key is gone at once, its record waits for what passed under it. -/
def State.revoke (s : State) (f v : Nat) : State :=
  let rkey := wcRkey v
  let s := s.popWinCmd f
  if s.heldKey f rkey then
    let reads := s.keyReads f rkey
    (s.revokeSlot (etOf f) (rkey % 65536)).modFn f (fun x => { x with
      revokes := x.revokes ++ [{ rkey := rkey, compl := wcCompl v, token := wcToken v, reads := reads }] })
  else s.complete f (wcCompl v) (winRecord stKey 1 0 (wcToken v))

/-- Execute a QUERY. -/
def State.winQuery (s : State) (f v : Nat) : State :=
  let rkey := wcRkey v
  let s := s.popWinCmd f
  if s.heldKey f rkey then
    s.complete f (wcCompl v) (winRecord stOk 2 rkey (wcToken v) ++ natLe 64 (s.win (etOf f) (rkey % 65536)).img.toNat)
  else s.complete f (wcCompl v) (winRecord stKey 2 0 (wcToken v))

/-- True when what passed under a revoked key has finished: no read outstanding, no store read, no write held. -/
def State.revokeDone (s : State) (f : Nat) (r : RevokeWait) : Bool :=
  r.reads.isEmpty && !(s.store.reads.any (fun x => x.op.fn == f && x.op.rkey == r.rkey))
    && !(s.fn f).writes.any (fun h => match h.use with | .window _ => true | _ => false)

/-! ### Commands -/

/-- MATCH_HEADER (R238). -/
def execMatchHeader (et : Nat) (s : State) : Res := .next (if s.faults.checkstop then s else s.matchItem et)

/-- PULL_RX (R230). -/
def execPullRx (et : Nat) (s : State) : Res := .next (s.opStep et 2 (fun s f c p => s.takePull f c p))

/-- FIN_RX (R229). -/
def execFinRx (et : Nat) (s : State) : Res := .next (s.opStep et 4 (fun s f c p => s.takeFin f c p))

/-- LANDING_EXHAUSTED (R242): no slot has been free for 1 ms. -/
def execLandingExhausted (et : Nat) (s : State) : Res :=
  .next (
    if s.landFree et == 0 && after (s.et et).landZeroAt ms s.etNow && !(s.et et).landRec then
      (s.modEt et (fun e => { e with landRec := true })).report { code := 0x0620, cls := corrected, tile := 8 + et }
    else s)

/-- MATCH_BALANCE_INTERVAL (R247). -/
def execMatchBalanceInterval (et : Nat) (s : State) : Res :=
  .next (if (s.et et).balanceAt + bf (s.balanceCfg et) 16 16 * us ≤ s.etNow ∧ s.island (8 + et) then s.balance et else s)

/-- FENCE_END (R248): 2 µs after a move began. -/
def execFenceEnd (et : Nat) (s : State) : Res :=
  .next (
    match (s.et et).moves.find? (fun m => decide (m.at_ + 2 * us ≤ s.etNow)) with
    | some m => s.endFence et m
    | none => s)

/-- MIGRATE_TOMB_EXPIRY (R248): 50 µs after the fence's end. -/
def execMigrateTombExpiry (et fn comm : Nat) (s : State) : Res :=
  .next (s.modEt et (fun e => { e with
    tmoves := e.tmoves.filter (fun m => !(m.fn == fn && m.comm == comm && decide (m.at_ + 52 * us ≤ s.etNow))) }))

/-- WIN_REGISTER (R257). -/
def execWinRegister (fn : Nat) (s : State) : Res :=
  .next (match s.winCmd fn 0 with
    | some v => s.register fn v
    | none => s)

/-- WIN_REVOKE (R258). -/
def execWinRevoke (fn : Nat) (s : State) : Res :=
  .next (match s.winCmd fn 1 with
    | some v => s.revoke fn v
    | none => s)

/-- WIN_QUERY (R256). -/
def execWinQuery (fn : Nat) (s : State) : Res :=
  .next (match s.winCmd fn 2 with
    | some v => s.winQuery fn v
    | none => s)

/-- REVOKE_COMPLETE (R258): the oldest revoke whose operations have all finished. -/
def execRevokeComplete (fn : Nat) (s : State) : Res :=
  .next (
    match (s.fn fn).revokes with
    | [] => s
    | r :: rest =>
      if s.revokeDone fn r then
        (s.modFn fn (fun x => { x with revokes := rest })).complete fn r.compl (winRecord stOk 1 r.rkey r.token)
      else s)

/-- SAVE_RECORD_EXPIRY (R266): RMA_SAVE_TIME after the record was made. -/
def execSaveRecordExpiry (fn ctx : Nat) (psn : U32) (s : State) : Res :=
  .next ((s.modEt (etOf fn) (fun e => { e with
    saved := e.saved.filter (fun r => !(r.fn == fn && r.ctx == ctx && r.psn == psn && decide (r.at_ + r.ttl ≤ s.etNow))) })).saveWatch (etOf fn))

/-- SAVE_FULL (R267): the table has stayed full for 1 ms. -/
def execSaveFull (et : Nat) (s : State) : Res :=
  .next (
    if after (s.et et).saveAt ms s.etNow && !(s.et et).saveRec then
      (s.modEt et (fun e => { e with saveRec := true })).report { code := 0x0550, cls := corrected, tile := 8 + et }
    else s)

end Sys2Proof.Machine
end

