-- ==== Sys2Proof/Machine/Requests.lean ====
section
/-! DEFINITION. Commands that are one dictionary request for one object, each the write (or the ACU_SYNC read) of R308
on that object, and cable power (R414). -/

namespace Sys2Proof.Machine

/-- Index and sub-index of an event queue's EQ_DESC (R55) and of a tree's COLL_TREE (R280). -/
def eqObject (q : Nat) : Nat × Nat := (0x2110 + q / 256, q % 256)
def treeObject (t : Nat) : Nat × Nat := (0x7100 + t / 256, t % 256)

/-! ### Host interface and sharing -/

/-- EQ_CREATE (R55): EQ_DESC with ENABLE 1. -/
def execEqCreate (r : Req) (q : Nat) (desc : BitVec 256) (s : State) : Res :=
  .next (s.acceptNat r (eqObject q).1 (eqObject q).2 32 (desc ||| 1).toNat)

/-- EQ_DESTROY (R55): EQ_DESC with ENABLE 0. -/
def execEqDestroy (r : Req) (q : Nat) (s : State) : Res := .next (s.acceptNat r (eqObject q).1 (eqObject q).2 32 0)

/-- XLATE_INVALIDATE (R82): the writer's own XLATE_INV. -/
def execXlateInvalidate (r : Req) (req : BitVec 256) (s : State) : Res :=
  .next (s.acceptNat r 0x201A ((reqFn r).getD 0) 32 req.toNat)

/-- ACU_REGION_WRITE (R91). -/
def execAcuRegionWrite (r : Req) (k : Nat) (val : BitVec 128) (s : State) : Res :=
  .next (s.acceptNat r 0x2020 (k + 1) 16 val.toNat)

/-- The header of a READ of one object. -/
def readHdr (r : Req) (idx sub : Nat) : Nat := pack [(0, 4, 1), (9, 1, 1), (16, 16, r.txid), (32, 16, idx), (48, 8, sub)]

/-- One read, named by its requester and object: taken at once where nothing waits before it, else it joins its path. -/
def State.acceptRead (s : State) (r : Req) (idx sub : Nat) : State :=
  let pdu := natLe 16 (readHdr r idx sub)
  if s.atOnce r then s.serve { r := r, pdu := pdu } else s.submit r pdu

/-- ACU_SYNC_READ (R94). -/
def execAcuSyncRead (r : Req) (s : State) : Res := .next (s.acceptRead r 0x2020 65)

/-- SEM_CFG_WRITE (R105). -/
def execSemCfgWrite (r : Req) (sem : Nat) (val : BitVec 32) (s : State) : Res := .next (s.acceptNat r 0x2021 sem 4 val.toNat)

/-! ### Ports -/

/-- PORT_LPS_ENTER_REQ (R134). -/
def execPortLpsEnterReq (r : Req) (p st : Nat) (s : State) : Res := .next (s.acceptNat r 0x300C (p + 1) 1 st)

/-- A packet waits for a port that sleeps in E-IDLE with AUTO_EXIT 1 (R135). -/
def State.autoExit (s : State) (p : Nat) : Bool :=
  (s.link p).lps == 1 && bitAt (s.cfg 0x300D (p + 1)) 1 && !(s.portq p).egress.isEmpty

/-- PORT_LPS_EXIT (R135): a write of 0, or the router's packet. -/
def execPortLpsExit (r : Option Req) (p : Nat) (s : State) : Res :=
  .next (match r with
    | some q => s.acceptNat q 0x300C (p + 1) 1 0
    | none => if s.autoExit p then s.lpsExit p else s)

/-- PORT_ENABLE_WRITE (R137). -/
def execPortEnableWrite (r : Req) (p val : Nat) (s : State) : Res := .next (s.acceptNat r 0x3002 (p + 1) 1 val)

/-- PORT_TEST_WRITE (R136). -/
def execPortTestWrite (r : Req) (p : Nat) (val : BitVec 32) (s : State) : Res :=
  .next (s.acceptNat r 0x300E (p + 1) 4 val.toNat)

/-- Ports of fabric connector J(3 + c) (R414). -/
def cablePorts (c : Nat) : List Nat := (List.range 4).map (fun k => 4 * c + k)

/-- CPk of a port is on (R414). -/
def State.cableOn (s : State) (p : Nat) : Bool :=
  s.island (ptOf p) && s.cfg 0x3002 (p + 1) == 1 && (s.link p).cableTripAt.isNone

/-- A port loses its cable power: an up one goes down, one in bring-up starts again (R414). -/
def State.cableLost (s : State) (p : Nat) : State :=
  let s := s.modLink p (fun l => { l with cableTripAt := some s.now })
  if s.inService p then s.portDown p else if (s.link p).stage = 0 then s else s.portStart p

/-- CABLE_POWER_TRIP (R414): the limiter turns all four contacts off. -/
def execCablePowerTrip (c : Nat) (s : State) : Res :=
  .next (if (cablePorts c).any s.cableOn then (cablePorts c).foldl State.cableLost s else s)

/-- One second has passed since a port's limiter tripped (R414). -/
def State.cableRetry (s : State) (p : Nat) : State :=
  match (s.link p).cableTripAt with
  | some t => if t + sec ≤ s.now then s.modLink p (fun l => { l with cableTripAt := none }) else s
  | none => s

/-- CABLE_POWER_RETRY (R414). -/
def execCablePowerRetry (c : Nat) (s : State) : Res := .next ((cablePorts c).foldl State.cableRetry s)

/-! ### Routing, time, collectives -/

/-- ROUTE_GEN_ACTIVE_WRITE (R159). -/
def execRouteGenActiveWrite (r : Req) (val : Nat) (s : State) : Res := .next (s.acceptNat r 0x4000 1 1 val)

/-- FT_SET_WRITE (R164). -/
def execFtSetWrite (r : Req) (val : BitVec 64) (s : State) : Res := .next (s.acceptNat r 0xD000 9 8 val.toNat)

/-- GATE_SCHED_WRITE (R180). -/
def execGateSchedWrite (r : Req) (p : Nat) (val : BitVec 2176) (s : State) : Res :=
  .next (s.acceptNat r 0xD010 (p + 1) 272 val.toNat)

/-- ATOMIC_CACHE_WRITE (R265). -/
def execAtomicCacheWrite (r : Req) (et val : Nat) (s : State) : Res := .next (s.acceptNat r 0x5034 (et + 1) 1 val)

/-- TREE_INSTALL (R280): COLL_TREE with ENABLE 1. -/
def execTreeInstall (r : Req) (t : Nat) (val : BitVec 512) (s : State) : Res :=
  .next (s.acceptNat r (treeObject t).1 (treeObject t).2 64 (val ||| 1).toNat)

/-- TREE_UNINSTALL (R280): COLL_TREE with ENABLE 0. -/
def execTreeUninstall (r : Req) (t : Nat) (val : BitVec 512) (s : State) : Res :=
  .next (s.acceptNat r (treeObject t).1 (treeObject t).2 64 (val &&& ~~~1).toNat)

/-! ### The dictionary's own objects, modes, faults, counters -/

/-- DICT_USER_DEFINE_WRITE (R316). -/
def execDictUserDefineWrite (r : Req) (val : BitVec 128) (s : State) : Res := .next (s.acceptNat r 0x1030 1 16 val.toNat)

/-- DICT_FACTORY_WRITE (R329). -/
def execDictFactoryWrite (r : Req) (val : BitVec 32) (s : State) : Res := .next (s.acceptNat r 0x1031 1 4 val.toNat)

/-- MODE_REQ for TRAIN (R334). -/
def execModeReqTrain (r : Req) (s : State) : Res := .next (s.acceptNat r 0x8000 1 1 3)
/-- MODE_REQ for RUN (R334). -/
def execModeReqRun (r : Req) (s : State) : Res := .next (s.acceptNat r 0x8000 1 1 4)
/-- MODE_REQ for HOLD (R334). -/
def execModeReqHold (r : Req) (s : State) : Res := .next (s.acceptNat r 0x8000 1 1 5)
/-- MODE_REQ for PASS (R334). -/
def execModeReqPass (r : Req) (s : State) : Res := .next (s.acceptNat r 0x8000 1 1 6)
/-- MODE_REQ for TEST (R334). -/
def execModeReqTest (r : Req) (s : State) : Res := .next (s.acceptNat r 0x8000 1 1 7)
/-- MODE_REQ for STANDBY (R334). -/
def execModeReqStandby (r : Req) (s : State) : Res := .next (s.acceptNat r 0x8000 1 1 2)

/-- FAULT_ACK (R360). -/
def execFaultAck (r : Req) (val : BitVec 64) (s : State) : Res := .next (s.acceptNat r 0x9001 1 8 val.toNat)
/-- FAULT_CLEAR (R360). -/
def execFaultClear (r : Req) (val : BitVec 64) (s : State) : Res := .next (s.acceptNat r 0x9001 2 8 val.toNat)

/-- CTR_CFG_WRITE (R364). -/
def execCtrCfgWrite (r : Req) (sub : Nat) (val : BitVec 32) (s : State) : Res := .next (s.acceptNat r 0xA000 sub 4 val.toNat)
/-- CTR_VALUE_WRITE (R365). -/
def execCtrValueWrite (r : Req) (sub : Nat) (val : BitVec 64) (s : State) : Res := .next (s.acceptNat r 0xA001 sub 8 val.toNat)
/-- CTR_READER_ENABLE_WRITE (R367). -/
def execCtrReaderEnableWrite (r : Req) (val : Nat) (s : State) : Res := .next (s.acceptNat r 0xA002 1 1 val)

/-! ### The store -/

/-- FN_STORE_ALLOT_WRITE (R377). -/
def execFnStoreAllotWrite (r : Req) (fn : Nat) (val : BitVec 64) (s : State) : Res := .next (s.acceptNat r 0xB010 fn 8 val.toNat)

/-- FN_STORE_ERASE (R377): FN_STORE_ALLOT with ERASE 1. -/
def execFnStoreErase (r : Req) (fn : Nat) (val : BitVec 64) (s : State) : Res :=
  .next (s.acceptNat r 0xB010 fn 8 (val ||| 0x100000000).toNat)

/-- FN_STORE_TRIM_WRITE (R379). -/
def execFnStoreTrimWrite (r : Req) (fn : Nat) (val : BitVec 128) (s : State) : Res := .next (s.acceptNat r 0xB013 fn 16 val.toNat)

/-- STORE_LOG_CURSOR_WRITE (R384). -/
def execStoreLogCursorWrite (r : Req) (val : BitVec 64) (s : State) : Res := .next (s.acceptNat r 0xB000 7 8 val.toNat)

/-! ### Firmware -/

/-- FW_UPLOAD_OPEN (R395). -/
def execFwUploadOpen (r : Req) (s : State) : Res := .next (s.acceptNat r 0xC001 1 1 1)
/-- FW_UPLOAD_COMMIT (R395). -/
def execFwUploadCommit (r : Req) (s : State) : Res := .next (s.acceptNat r 0xC001 1 1 2)
/-- FW_UPLOAD_ABORT (R395). -/
def execFwUploadAbort (r : Req) (s : State) : Res := .next (s.acceptNat r 0xC001 1 1 3)
/-- FW_UPLOAD_DATA (R395). -/
def execFwUploadData (r : Req) (chunk : List Byte) (s : State) : Res := .next (s.acceptWrite r 0xC001 2 chunk)
/-- FW_ACTIVATE (R396). -/
def execFwActivate (r : Req) (val : Nat) (s : State) : Res := .next (s.acceptNat r 0xC002 1 1 val)
/-- FW_CONFIRM (R400). -/
def execFwConfirm (r : Req) (val : BitVec 32) (s : State) : Res := .next (s.acceptNat r 0xC002 2 4 val.toNat)
/-- FW_FALLBACK (R401). -/
def execFwFallback (r : Req) (val : Nat) (s : State) : Res := .next (s.acceptNat r 0xC002 3 1 val)
/-- FW_KEY_REVOKE (R403). -/
def execFwKeyRevoke (r : Req) (val : Nat) (s : State) : Res := .next (s.acceptNat r 0xC010 3 1 val)
/-- ATTEST_REQ (R407). -/
def execAttestReq (r : Req) (sub : Nat) (nonce : BitVec 256) (s : State) : Res := .next (s.acceptNat r 0xC021 sub 32 nonce.toNat)

/-! ### Faults that reach the collector (R355, R358) -/

/-- Firmware has erred (R327, R330): the request whose turn it is ends with INTERNAL; with none waiting nothing ends. -/
def State.firmwareErrs (s : State) : State :=
  match (List.range 7).find? (fun q => s.queueReady q && s.dictTurn q) with
  | none => s
  | some q =>
    match s.dictQueue q with
    | [] => s
    | x :: rest => (s.modDict (fun d => { d with queues := Tbl.put d.queues q rest })).countReq.abortReq x .internal

/-- FAULT_REPORT (R358): the faults on their way, and one from outside the model's own reports, reach the collector. Its code
must be one of a chapter's table, with the class that table gives it (R355); ENGINE_ERROR comes of a request that ends with
INTERNAL (R330). -/
def execFaultReport (ext : Option FaultReport) (s : State) : Res :=
  .next (
    let l := ext.toList.filter (fun f => faultClass f.code == some f.cls)
    (if l.any (fun f => f.code == 0x0130) then s.firmwareErrs else s).collectCycle l)

end Sys2Proof.Machine
end

