-- ==== Sys2Proof/Machine/Trees.lean ====
section
/-! DEFINITION. The commands of arriving collective packets, keepalives and silent edges (R289, R296 to R300). -/

namespace Sys2Proof.Machine

/-- Take the collective packet at the head of a port if it is of a kind, and act on it; its bytes leave the port's
buffer (R127). -/
def State.collTake (s : State) (p : Nat) (is_ : Packet → Bool) (go : State → Packet → State) : State :=
  match (s.portq p).coll.head? with
  | some q => if is_ q.pkt && !s.faults.checkstop then go ((s.collPop p).leaves q q.vc) q.pkt else s
  | none => s

/-- Neither an ABORT nor a KEEPALIVE. -/
def isCollData (k : Packet) : Bool := kCtype k != 1 && kCtype k != 2

/-- CUP_RX (R289, R300). -/
def execCupRx (p : Nat) (s : State) : Res :=
  .next (s.collTake p (fun k => k.kind == kindCup && isCollData k) (fun s k => s.takeCup p k))

/-- CDN_RX (R296, R300). -/
def execCdnRx (p : Nat) (s : State) : Res :=
  .next (s.collTake p (fun k => k.kind == kindCdn && isCollData k) (fun s k => s.takeCdn p k))

/-- COLL_ABORT_RX (R298). -/
def execCollAbortRx (p : Nat) (s : State) : Res :=
  .next (s.collTake p (fun k => kCtype k == 1) (fun s k => s.takeAbort p k))

/-- KEEPALIVE_RX (R297). -/
def execKeepaliveRx (p : Nat) (s : State) : Res :=
  .next (s.collTake p (fun k => kCtype k == 2) (fun s _ => s.collCount 7))

/-- KEEPALIVE_TIMER (R297): every quarter of COLL_TIMEOUT in RUN. -/
def execKeepaliveTimer (s : State) : Res :=
  .next (
    if s.inMode .run ∧ !s.injectStopped ∧ s.keepAt + s.cfg 0x7000 1 * us / 4 ≤ s.now then
      { s.keepalives with keepAt := s.now }
    else s)

/-- EDGE_SILENT (R297): no collective packet on the port for COLL_TIMEOUT. -/
def execEdgeSilent (p : Nat) (s : State) : Res :=
  .next (
    if s.inMode .run ∧ !s.faults.checkstop ∧ s.treeEdge p ∧ (s.portq p).collAt + s.cfg 0x7000 1 * us ≤ s.now then
      s.breakTrees (fun _ v => (tEdges v).contains p) 0x0A10 (some p)
    else s)

end Sys2Proof.Machine
end

