-- ==== Sys2Proof/Machine/Dispatch.lean ====
section
/-! DEFINITION. The meaning of every command: one arm per constructor of Instr. -/

namespace Sys2Proof.Machine

def exec (i : Instr) (s : State) : Host.Outcome State Fault Refusal :=
  match i with
  | .flitArrival ch => Sys2Proof.Machine.execFlitArrival ch s
  | .tileResetRelease island => Sys2Proof.Machine.execTileResetRelease island s
  | .timeBeacon island => Sys2Proof.Machine.execTimeBeacon island s
  | .sramScrubWord site res busy => Sys2Proof.Machine.execSramScrubWord site res busy s
  | .routeEntryReload site => Sys2Proof.Machine.execRouteEntryReload site s
  | .hostTrainRetry hp => Sys2Proof.Machine.execHostTrainRetry hp s
  | .hostLinkDown hp => Sys2Proof.Machine.execHostLinkDown hp s
  | .perstNAssert hp => Sys2Proof.Machine.execPerstNAssert hp s
  | .perstNRelease hp => Sys2Proof.Machine.execPerstNRelease hp s
  | .hostReadComplete tag res => Sys2Proof.Machine.execHostReadComplete tag res s
  | .mailboxGo fn ctrl buf => Sys2Proof.Machine.execMailboxGo fn ctrl buf s
  | .sqDoorbell fn ctx off size val => Sys2Proof.Machine.execSqDoorbell fn ctx off size val s
  | .eqDoorbell fn q off size val => Sys2Proof.Machine.execEqDoorbell fn q off size val s
  | .eqModTimer fn q => Sys2Proof.Machine.execEqModTimer fn q s
  | .entryFetchDone tag res => Sys2Proof.Machine.execEntryFetchDone tag res s
  | .entryNop fn ctx => Sys2Proof.Machine.execEntryNop fn ctx s
  | .entrySend fn ctx => Sys2Proof.Machine.execEntrySend fn ctx s
  | .entryRecv fn ctx => Sys2Proof.Machine.execEntryRecv fn ctx s
  | .entryWrite fn ctx => Sys2Proof.Machine.execEntryWrite fn ctx s
  | .entryWriteNotify fn ctx => Sys2Proof.Machine.execEntryWriteNotify fn ctx s
  | .entryRead fn ctx => Sys2Proof.Machine.execEntryRead fn ctx s
  | .entryFetchAdd fn ctx => Sys2Proof.Machine.execEntryFetchAdd fn ctx s
  | .entrySwap fn ctx => Sys2Proof.Machine.execEntrySwap fn ctx s
  | .entryCswap fn ctx => Sys2Proof.Machine.execEntryCswap fn ctx s
  | .entryCollective fn ctx => Sys2Proof.Machine.execEntryCollective fn ctx s
  | .collEntryStart fn ctx => Sys2Proof.Machine.execCollEntryStart fn ctx s
  | .entryFinish fn ctx idx => Sys2Proof.Machine.execEntryFinish fn ctx idx s
  | .headWriteTimer fn ctx => Sys2Proof.Machine.execHeadWriteTimer fn ctx s
  | .eqCreate r q desc => Sys2Proof.Machine.execEqCreate r q desc s
  | .eqDestroy r q => Sys2Proof.Machine.execEqDestroy r q s
  | .functionLevelReset fn => Sys2Proof.Machine.execFunctionLevelReset fn s
  | .flrComplete fn => Sys2Proof.Machine.execFlrComplete fn s
  | .vfDisable hp enable numVfs => Sys2Proof.Machine.execVfDisable hp enable numVfs s
  | .walkStep tag res => Sys2Proof.Machine.execWalkStep tag res s
  | .xlateInvalidate r req => Sys2Proof.Machine.execXlateInvalidate r req s
  | .invalidationComplete fn => Sys2Proof.Machine.execInvalidationComplete fn s
  | .acuAccess who addr len op => Sys2Proof.Machine.execAcuAccess who addr len op s
  | .acuRegionWrite r k val => Sys2Proof.Machine.execAcuRegionWrite r k val s
  | .acuSyncRead r => Sys2Proof.Machine.execAcuSyncRead r s
  | .acuSyncReturn => Sys2Proof.Machine.execAcuSyncReturn s
  | .semAcquire who sem prio => Sys2Proof.Machine.execSemAcquire who sem prio s
  | .semTry who sem => Sys2Proof.Machine.execSemTry who sem s
  | .semRelease who sem => Sys2Proof.Machine.execSemRelease who sem s
  | .semStatus who sem => Sys2Proof.Machine.execSemStatus who sem s
  | .semWaitTimeout sem ticket => Sys2Proof.Machine.execSemWaitTimeout sem ticket s
  | .semCfgWrite r sem val => Sys2Proof.Machine.execSemCfgWrite r sem val s
  | .signalDetect p => Sys2Proof.Machine.execSignalDetect p s
  | .bringupStageEnd p info => Sys2Proof.Machine.execBringupStageEnd p info s
  | .bringupStageTimeout p => Sys2Proof.Machine.execBringupStageTimeout p s
  | .trainSilenceEnd p => Sys2Proof.Machine.execTrainSilenceEnd p s
  | .lossOfSignal p => Sys2Proof.Machine.execLossOfSignal p s
  | .lxWordRx p word val => Sys2Proof.Machine.execLxWordRx p word val s
  | .codewordRx p lane msg parity => Sys2Proof.Machine.execCodewordRx p lane msg parity s
  | .sopRx p lseq vc => Sys2Proof.Machine.execSopRx p lseq vc s
  | .eopRx p data crc nextSop => Sys2Proof.Machine.execEopRx p data crc nextSop s
  | .eopStompRx x => Sys2Proof.Machine.execEopStompRx x s
  | .fcRx p xoff => Sys2Proof.Machine.execFcRx p xoff s
  | .fcRepeatTimer p => Sys2Proof.Machine.execFcRepeatTimer p s
  | .xoffStuck p vc => Sys2Proof.Machine.execXoffStuck p vc s
  | .laneLockLoss p lane => Sys2Proof.Machine.execLaneLockLoss p lane s
  | .laneRelock p lane => Sys2Proof.Machine.execLaneRelock p lane s
  | .laneFailTimer p lane => Sys2Proof.Machine.execLaneFailTimer p lane s
  | .laneUsableTimer p lane => Sys2Proof.Machine.execLaneUsableTimer p lane s
  | .peerMarkerChange p rxLock rxUsable => Sys2Proof.Machine.execPeerMarkerChange p rxLock rxUsable s
  | .linkDown p => Sys2Proof.Machine.execLinkDown p s
  | .portLpsEnterReq r p st => Sys2Proof.Machine.execPortLpsEnterReq r p st s
  | .portLpsExit r p => Sys2Proof.Machine.execPortLpsExit r p s
  | .lpiReqRx p st force => Sys2Proof.Machine.execLpiReqRx p st force s
  | .lpiAckRx p st => Sys2Proof.Machine.execLpiAckRx p st s
  | .lpiNakRx p st => Sys2Proof.Machine.execLpiNakRx p st s
  | .lpiTimeout p => Sys2Proof.Machine.execLpiTimeout p s
  | .lpsExitFail p => Sys2Proof.Machine.execLpsExitFail p s
  | .portEnableWrite r p val => Sys2Proof.Machine.execPortEnableWrite r p val s
  | .portTestWrite r p val => Sys2Proof.Machine.execPortTestWrite r p val s
  | .cablePowerTrip c => Sys2Proof.Machine.execCablePowerTrip c s
  | .cablePowerRetry c => Sys2Proof.Machine.execCablePowerRetry c s
  | .packetInject pt => Sys2Proof.Machine.execPacketInject pt s
  | .packetRoute p => Sys2Proof.Machine.execPacketRoute p s
  | .portEgressStart p => Sys2Proof.Machine.execPortEgressStart p s
  | .packetDeliver tile => Sys2Proof.Machine.execPacketDeliver tile s
  | .qdepthPublish pt => Sys2Proof.Machine.execQdepthPublish pt s
  | .hintDecay pt => Sys2Proof.Machine.execHintDecay pt s
  | .routeGenActiveWrite r val => Sys2Proof.Machine.execRouteGenActiveWrite r val s
  | .genQuietEnd g => Sys2Proof.Machine.execGenQuietEnd g s
  | .ftSyncTimer p => Sys2Proof.Machine.execFtSyncTimer p s
  | .timeSetRx p set => Sys2Proof.Machine.execTimeSetRx p set s
  | .timeLockLoss p => Sys2Proof.Machine.execTimeLockLoss p s
  | .holdoverExpired => Sys2Proof.Machine.execHoldoverExpired s
  | .parentReselectTimer => Sys2Proof.Machine.execParentReselectTimer s
  | .timeInPulse => Sys2Proof.Machine.execTimeInPulse s
  | .timeInMessage bytes => Sys2Proof.Machine.execTimeInMessage bytes s
  | .timeInLost => Sys2Proof.Machine.execTimeInLost s
  | .timeOutPulse => Sys2Proof.Machine.execTimeOutPulse s
  | .timeOutMessage => Sys2Proof.Machine.execTimeOutMessage s
  | .ftSetWrite r val => Sys2Proof.Machine.execFtSetWrite r val s
  | .gateEvent p cls => Sys2Proof.Machine.execGateEvent p cls s
  | .gateSchedWrite r p val => Sys2Proof.Machine.execGateSchedWrite r p val s
  | .gateSwitch p => Sys2Proof.Machine.execGateSwitch p s
  | .queueSample pt => Sys2Proof.Machine.execQueueSample pt s
  | .ctxOpen fn => Sys2Proof.Machine.execCtxOpen fn s
  | .ctxClose fn => Sys2Proof.Machine.execCtxClose fn s
  | .ctxQuery fn => Sys2Proof.Machine.execCtxQuery fn s
  | .ctxCloseComplete fn ctx => Sys2Proof.Machine.execCtxCloseComplete fn ctx s
  | .tombstoneExpiry fn ctx => Sys2Proof.Machine.execTombstoneExpiry fn ctx s
  | .contextFill tag res => Sys2Proof.Machine.execContextFill tag res s
  | .dataSend fn ctx => Sys2Proof.Machine.execDataSend fn ctx s
  | .dataRx et => Sys2Proof.Machine.execDataRx et s
  | .resyncRx et => Sys2Proof.Machine.execResyncRx et s
  | .ackRx et => Sys2Proof.Machine.execAckRx et s
  | .resyncAckRx et => Sys2Proof.Machine.execResyncAckRx et s
  | .nakRnrRx et => Sys2Proof.Machine.execNakRnrRx et s
  | .nakStaleRx et => Sys2Proof.Machine.execNakStaleRx et s
  | .ackDelayTimer fn ctx => Sys2Proof.Machine.execAckDelayTimer fn ctx s
  | .retransmitTimer fn ctx => Sys2Proof.Machine.execRetransmitTimer fn ctx s
  | .resyncTimer fn ctx => Sys2Proof.Machine.execResyncTimer fn ctx s
  | .replayFull et => Sys2Proof.Machine.execReplayFull et s
  | .rnrBackoffTimer fn ctx => Sys2Proof.Machine.execRnrBackoffTimer fn ctx s
  | .respRx et => Sys2Proof.Machine.execRespRx et s
  | .matchHeader et => Sys2Proof.Machine.execMatchHeader et s
  | .pullRx et => Sys2Proof.Machine.execPullRx et s
  | .pullRespRx et => Sys2Proof.Machine.execPullRespRx et s
  | .finRx et => Sys2Proof.Machine.execFinRx et s
  | .overflowReadDone tag res => Sys2Proof.Machine.execOverflowReadDone tag res s
  | .landingExhausted et => Sys2Proof.Machine.execLandingExhausted et s
  | .matchBalanceInterval et => Sys2Proof.Machine.execMatchBalanceInterval et s
  | .fenceEnd et => Sys2Proof.Machine.execFenceEnd et s
  | .migrateTombExpiry et fn comm => Sys2Proof.Machine.execMigrateTombExpiry et fn comm s
  | .winRegister fn => Sys2Proof.Machine.execWinRegister fn s
  | .winRevoke fn => Sys2Proof.Machine.execWinRevoke fn s
  | .winQuery fn => Sys2Proof.Machine.execWinQuery fn s
  | .revokeComplete fn => Sys2Proof.Machine.execRevokeComplete fn s
  | .targetReadDone tag res => Sys2Proof.Machine.execTargetReadDone tag res s
  | .saveRecordExpiry fn ctx psn => Sys2Proof.Machine.execSaveRecordExpiry fn ctx psn s
  | .saveFull et => Sys2Proof.Machine.execSaveFull et s
  | .atomicCacheWrite r et val => Sys2Proof.Machine.execAtomicCacheWrite r et val s
  | .treeInstall r t val => Sys2Proof.Machine.execTreeInstall r t val s
  | .treeUninstall r t val => Sys2Proof.Machine.execTreeUninstall r t val s
  | .collOperandReady tag res => Sys2Proof.Machine.execCollOperandReady tag res s
  | .cupRx p => Sys2Proof.Machine.execCupRx p s
  | .cdnRx p => Sys2Proof.Machine.execCdnRx p s
  | .collAbortRx p => Sys2Proof.Machine.execCollAbortRx p s
  | .keepaliveRx p => Sys2Proof.Machine.execKeepaliveRx p s
  | .keepaliveTimer => Sys2Proof.Machine.execKeepaliveTimer s
  | .edgeSilent p => Sys2Proof.Machine.execEdgeSilent p s
  | .mgmtDatagramRx src v6 dest pdu => Sys2Proof.Machine.execMgmtDatagramRx src v6 dest pdu s
  | .mgtRequestRx => Sys2Proof.Machine.execMgtRequestRx s
  | .dictRead q => Sys2Proof.Machine.execDictRead q s
  | .dictWrite q => Sys2Proof.Machine.execDictWrite q s
  | .dictDescribe q => Sys2Proof.Machine.execDictDescribe q s
  | .dictCancel q => Sys2Proof.Machine.execDictCancel q s
  | .dictRelay q => Sys2Proof.Machine.execDictRelay q s
  | .relayResponseRx => Sys2Proof.Machine.execRelayResponseRx s
  | .relayTimeout id => Sys2Proof.Machine.execRelayTimeout id s
  | .segTimeout id => Sys2Proof.Machine.execSegTimeout id s
  | .snapshotExpiry id => Sys2Proof.Machine.execSnapshotExpiry id s
  | .keptResponseExpiry => Sys2Proof.Machine.execKeptResponseExpiry s
  | .dictUserDefineWrite r val => Sys2Proof.Machine.execDictUserDefineWrite r val s
  | .dictFactoryWrite r val => Sys2Proof.Machine.execDictFactoryWrite r val s
  | .smbusBlockRead addr cmd => Sys2Proof.Machine.execSmbusBlockRead addr cmd s
  | .modeReqTrain r => Sys2Proof.Machine.execModeReqTrain r s
  | .modeReqRun r => Sys2Proof.Machine.execModeReqRun r s
  | .modeReqHold r => Sys2Proof.Machine.execModeReqHold r s
  | .modeReqPass r => Sys2Proof.Machine.execModeReqPass r s
  | .modeReqTest r => Sys2Proof.Machine.execModeReqTest r s
  | .modeReqStandby r => Sys2Proof.Machine.execModeReqStandby r s
  | .quiesceDrainEnd => Sys2Proof.Machine.execQuiesceDrainEnd s
  | .modeChangeComplete => Sys2Proof.Machine.execModeChangeComplete s
  | .seatPinChange pin level => Sys2Proof.Machine.execSeatPinChange pin level s
  | .seatDebounceEnd => Sys2Proof.Machine.execSeatDebounceEnd s
  | .rampComplete => Sys2Proof.Machine.execRampComplete s
  | .powerGoodAssert => Sys2Proof.Machine.execPowerGoodAssert s
  | .faultTimerStart => Sys2Proof.Machine.execFaultTimerStart s
  | .faultTimerEnd => Sys2Proof.Machine.execFaultTimerEnd s
  | .breaker => Sys2Proof.Machine.execBreaker s
  | .fastTrip => Sys2Proof.Machine.execFastTrip s
  | .overvoltage => Sys2Proof.Machine.execOvervoltage s
  | .railFault => Sys2Proof.Machine.execRailFault s
  | .thermalTrip island => Sys2Proof.Machine.execThermalTrip island s
  | .resetNAssert => Sys2Proof.Machine.execResetNAssert s
  | .resetNRelease => Sys2Proof.Machine.execResetNRelease s
  | .inputSample mv ma => Sys2Proof.Machine.execInputSample mv ma s
  | .inputUndervoltage => Sys2Proof.Machine.execInputUndervoltage s
  | .flushComplete => Sys2Proof.Machine.execFlushComplete s
  | .supervisorPowerLoss => Sys2Proof.Machine.execSupervisorPowerLoss s
  | .tempRead temps => Sys2Proof.Machine.execTempRead temps s
  | .faultReport ext => Sys2Proof.Machine.execFaultReport ext s
  | .faultAck r val => Sys2Proof.Machine.execFaultAck r val s
  | .faultClear r val => Sys2Proof.Machine.execFaultClear r val s
  | .ctrCfgWrite r sub val => Sys2Proof.Machine.execCtrCfgWrite r sub val s
  | .ctrValueWrite r sub val => Sys2Proof.Machine.execCtrValueWrite r sub val s
  | .ctrReaderEnableWrite r val => Sys2Proof.Machine.execCtrReaderEnableWrite r val s
  | .counterSnapshot => Sys2Proof.Machine.execCounterSnapshot s
  | .stagingProgramDone block => Sys2Proof.Machine.execStagingProgramDone block s
  | .programFail block => Sys2Proof.Machine.execProgramFail block s
  | .storeReadDone id res => Sys2Proof.Machine.execStoreReadDone id res s
  | .storeScrubPage block site res => Sys2Proof.Machine.execStoreScrubPage block site res s
  | .blockRefreshDone block complete => Sys2Proof.Machine.execBlockRefreshDone block complete s
  | .scrubBehind => Sys2Proof.Machine.execScrubBehind s
  | .dieFailed die => Sys2Proof.Machine.execDieFailed die s
  | .fnStoreAllotWrite r fn val => Sys2Proof.Machine.execFnStoreAllotWrite r fn val s
  | .fnStoreErase r fn val => Sys2Proof.Machine.execFnStoreErase r fn val s
  | .fnStoreTrimWrite r fn val => Sys2Proof.Machine.execFnStoreTrimWrite r fn val s
  | .storeLogCursorWrite r val => Sys2Proof.Machine.execStoreLogCursorWrite r val s
  | .bootEnd => Sys2Proof.Machine.execBootEnd s
  | .fwUploadOpen r => Sys2Proof.Machine.execFwUploadOpen r s
  | .fwUploadData r chunk => Sys2Proof.Machine.execFwUploadData r chunk s
  | .fwUploadCommit r => Sys2Proof.Machine.execFwUploadCommit r s
  | .fwUploadAbort r => Sys2Proof.Machine.execFwUploadAbort r s
  | .fwActivate r val => Sys2Proof.Machine.execFwActivate r val s
  | .fwLoadingTimeout => Sys2Proof.Machine.execFwLoadingTimeout s
  | .fwReady => Sys2Proof.Machine.execFwReady s
  | .handover => Sys2Proof.Machine.execHandover s
  | .fwSelftestResult passed => Sys2Proof.Machine.execFwSelftestResult passed s
  | .fwConfirm r val => Sys2Proof.Machine.execFwConfirm r val s
  | .fwTrialExpiry => Sys2Proof.Machine.execFwTrialExpiry s
  | .fwFallback r val => Sys2Proof.Machine.execFwFallback r val s
  | .fwWatchdogTimeout => Sys2Proof.Machine.execFwWatchdogTimeout s
  | .fwKeyRevoke r val => Sys2Proof.Machine.execFwKeyRevoke r val s
  | .attestReq r sub nonce => Sys2Proof.Machine.execAttestReq r sub nonce s
  | .attestQuoteDone sub => Sys2Proof.Machine.execAttestQuoteDone sub s
  | .hostLinkUp hp rate lanes flit cfg => Sys2Proof.Machine.execHostLinkUp hp rate lanes flit cfg s
  | .vfEnable hp numVfs => Sys2Proof.Machine.execVfEnable hp numVfs s
  | .supervisorPowerOn => Sys2Proof.Machine.execSupervisorPowerOn s
  | .mgmtLinkChange up mdix => Sys2Proof.Machine.execMgmtLinkChange up mdix s
  | .mgmtFrameRx frame => Sys2Proof.Machine.execMgmtFrameRx frame s
  | .smbusTimeout => Sys2Proof.Machine.execSmbusTimeout s
  | .exitSequenceRx p => Sys2Proof.Machine.execExitSequenceRx p s

end Sys2Proof.Machine
end

