-- ==== Sys2Proof/WellFormed.lean ====
section
/-! DEFINITION. Which commands are well formed: every operand that names a part of the device names one it has. -/

namespace Sys2Proof

/-- Function identities are 8 bits (R5). -/
def isFn (f : Nat) : Bool := decide (f < 256)
/-- Context numbers are 20 bits (R6). -/
def isCtx (c : Nat) : Bool := decide (c < 2 ^ 20)
/-- Host ports H0 to H3. -/
def isHostPort (h : Nat) : Bool := decide (h < 4)
/-- Fabric ports P00 to P63. -/
def isPort (p : Nat) : Bool := decide (p < 64)
/-- Port tiles PT0 to PT7 (R12). -/
def isPt (t : Nat) : Bool := decide (t < 8)
/-- Endpoint tiles ET0 to ET3 (R12). -/
def isEt (t : Nat) : Bool := decide (t < 4)
/-- Semaphores 0 to 255 (R96). -/
def isSem (n : Nat) : Bool := decide (n < 256)
/-- Bits of ISLAND_STATE (R27). -/
def isIsland (n : Nat) : Bool := decide (n < 15)
/-- Lanes of a port. -/
def isLane (l : Nat) : Bool := decide (l < 4)
/-- Virtual channels (R114). -/
def isVc (v : Nat) : Bool := decide (v < 10)
/-- Trees (R278). -/
def isTree (t : Nat) : Bool := decide (t < 4096)
/-- Event queues of a function (R55). -/
def isEventQueue (q : Nat) : Bool := decide (q < 4096)
/-- Counter subs 0x01 to 0x6C (R364). -/
def isCtrSub (k : Nat) : Bool := decide (1 ≤ k) && decide (k ≤ 0x6C)
/-- Flash blocks (R372). -/
def isBlock (b : Nat) : Bool := decide (b < 65536)
/-- A principal of R311. -/
def isReq (r : Req) : Bool := match r.pr with | .host f => isFn f | _ => true
/-- A master of the semaphore unit (R100). -/
def isSemMaster (m : SemMaster) : Bool :=
  match m with | .host f => isFn f | .die k => decide (8 ≤ k) && decide (k ≤ 12)

/-- Powers of two from lo, n of them. -/
def powers (lo n : Nat) : List Nat := (List.range n).map (fun k => lo * 2 ^ k)
/-- What a host may set (R8, R32, R34): Max_Payload_Size to 512 B, Max_Read_Request_Size to 4,096 B, BAR0s aligned to
32 MiB, 64 vectors for the PF and 16 for a VF. -/
def isHostCfg (c : HostCfg) : Bool :=
  (powers 128 3).contains c.mps && (powers 128 6).contains c.mrrs
    && decide (c.bar0 % 2 ^ 25 = 0) && decide (c.vfBar0 % 2 ^ 25 = 0)
    && (c.msix.take 1).all (fun m => decide (m.table.length ≤ 64)) && (c.msix.drop 1).all (fun m => decide (m.table.length ≤ 16))

/-- An access (R70, R87, R88, R92): at most 4,096 B, a write with its bytes; a host reaches the semaphores and its own COUNTER
user page and fetches nothing; the on-behalf tag is for the clusters and the store tile; an atomic is a target's own. -/
def isAccess (who : SemMaster) (addr len : Nat) (kind : AccKind) (behalf : Option Nat) (data : List Byte) : Bool :=
  isSemMaster who && decide (addr < 2 ^ 64) && decide (1 ≤ len) && decide (len ≤ 4096)
    && kind != .atomic && decide (kind = .write → data.length = len) && behalf.all isFn
    && (match who with
        | .host f => kind != .fetch && behalf.isNone
            && ((decide (0x2000000 ≤ addr) && decide (addr + len ≤ 0x2004000))
              || (decide (0x2200000 + 4096 * f ≤ addr) && decide (addr + len ≤ 0x2200000 + 4096 * f + 4096)))
        | .die m => behalf.isNone || decide (m ≤ 10))

/-- Handshake channels in each direction between two tiles (R17), in ISLAND_STATE's numbering. -/
def channels (src dst : Nat) : Nat :=
  if src = dst ∨ 15 ≤ src ∨ 15 ≤ dst then 0
  else if src < 8 ∧ dst < 8 then 8
  else if 12 ≤ src ∨ 12 ≤ dst then 1
  else if src < 8 ∨ dst < 8 then 2
  else 0
/-- Channel k from tile src to tile dst exists. -/
def channelOk (src dst k : Nat) : Bool := decide (k < channels src dst)

/-- A command is well formed when each operand lies in its range. -/
def Instr.wf (i : Instr) : Bool :=
  match i with
  | .flitArrival ch => channelOk (ch / 128) (ch / 8 % 16) (ch % 8)
  | .tileResetRelease island => isIsland island
  | .timeBeacon island => isIsland island
  | .sramScrubWord _ _ _ => true
  | .routeEntryReload _ => true
  | .hostTrainRetry hp => isHostPort hp
  | .hostLinkDown hp => isHostPort hp
  | .perstNAssert hp => isHostPort hp
  | .perstNRelease hp => isHostPort hp
  | .hostReadComplete _ _ => true
  | .mailboxGo fn _ _ => isFn fn
  | .sqDoorbell fn ctx _ _ _ => isFn fn && isCtx ctx
  | .eqDoorbell fn q _ _ _ => isFn fn && isEventQueue q
  | .eqModTimer fn q => isFn fn && isEventQueue q
  | .entryFetchDone _ _ => true
  | .entryNop fn ctx => isFn fn && isCtx ctx
  | .entrySend fn ctx => isFn fn && isCtx ctx
  | .entryRecv fn ctx => isFn fn && isCtx ctx
  | .entryWrite fn ctx => isFn fn && isCtx ctx
  | .entryWriteNotify fn ctx => isFn fn && isCtx ctx
  | .entryRead fn ctx => isFn fn && isCtx ctx
  | .entryFetchAdd fn ctx => isFn fn && isCtx ctx
  | .entrySwap fn ctx => isFn fn && isCtx ctx
  | .entryCswap fn ctx => isFn fn && isCtx ctx
  | .entryCollective fn ctx => isFn fn && isCtx ctx
  | .collEntryStart fn ctx => isFn fn && isCtx ctx
  | .entryFinish fn ctx _ => isFn fn && isCtx ctx
  | .headWriteTimer fn ctx => isFn fn && isCtx ctx
  | .eqCreate r q _ => isReq r && isEventQueue q
  | .eqDestroy r q => isReq r && isEventQueue q
  | .functionLevelReset fn => isFn fn
  | .flrComplete fn => isFn fn
  | .vfDisable hp _ numVfs => isHostPort hp && decide (numVfs < 64)
  | .walkStep _ _ => true
  | .xlateInvalidate r _ => isReq r
  | .invalidationComplete fn => isFn fn
  | .acuAccess who addr len op => isAccess who addr len op.kind op.behalf op.data
  | .acuRegionWrite r k _ => isReq r && decide (k < 64)
  | .acuSyncRead r => isReq r
  | .acuSyncReturn => true
  | .semAcquire who sem prio => isSemMaster who && isSem sem && decide (prio < 4)
  | .semTry who sem => isSemMaster who && isSem sem
  | .semRelease who sem => isSemMaster who && isSem sem
  | .semStatus who sem => isSemMaster who && isSem sem
  | .semWaitTimeout sem _ => isSem sem
  | .semCfgWrite r sem _ => isReq r && isSem sem
  | .signalDetect p => isPort p
  | .bringupStageEnd p _ => isPort p
  | .bringupStageTimeout p => isPort p
  | .trainSilenceEnd p => isPort p
  | .lossOfSignal p => isPort p
  | .lxWordRx p word _ => isPort p && decide (word < 4)
  | .codewordRx p lane _ _ => isPort p && isLane lane
  | .sopRx p lseq vc => isPort p && decide (lseq < 4096) && decide (vc < 16)
  | .eopRx p _ _ _ => isPort p
  | .eopStompRx x => isPort x.p
  | .fcRx p _ => isPort p
  | .fcRepeatTimer p => isPort p
  | .xoffStuck p vc => isPort p && isVc vc
  | .laneLockLoss p lane => isPort p && isLane lane
  | .laneRelock p lane => isPort p && isLane lane
  | .laneFailTimer p lane => isPort p && isLane lane
  | .laneUsableTimer p lane => isPort p && isLane lane
  | .peerMarkerChange p _ _ => isPort p
  | .linkDown p => isPort p
  | .portLpsEnterReq r p st => isReq r && isPort p && decide (st < 4)
  | .portLpsExit r p => (match r with | some q => isReq q | none => true) && isPort p
  | .lpiReqRx p st _ => isPort p && decide (st < 4)
  | .lpiAckRx p st => isPort p && decide (st < 4)
  | .lpiNakRx p st => isPort p && decide (st < 4)
  | .lpiTimeout p => isPort p
  | .lpsExitFail p => isPort p
  | .portEnableWrite r p _ => isReq r && isPort p
  | .portTestWrite r p _ => isReq r && isPort p
  | .cablePowerTrip c => decide (c < 16)
  | .cablePowerRetry c => decide (c < 16)
  | .packetInject pt => isPt pt
  | .packetRoute p => isPort p
  | .portEgressStart p => isPort p
  | .packetDeliver tile => decide (8 ≤ tile) && decide (tile ≤ 12)
  | .qdepthPublish pt => isPt pt
  | .hintDecay pt => isPt pt
  | .routeGenActiveWrite r _ => isReq r
  | .genQuietEnd g => decide (g < 2)
  | .ftSyncTimer p => isPort p
  | .timeSetRx p _ => isPort p
  | .timeLockLoss p => isPort p
  | .holdoverExpired => true
  | .parentReselectTimer => true
  | .timeInPulse => true
  | .timeInMessage _ => true
  | .timeInLost => true
  | .timeOutPulse => true
  | .timeOutMessage => true
  | .ftSetWrite r _ => isReq r
  | .gateEvent p cls => isPort p && decide (cls < 4)
  | .gateSchedWrite r p _ => isReq r && isPort p
  | .gateSwitch p => isPort p
  | .queueSample pt => isPt pt
  | .ctxOpen fn => isFn fn
  | .ctxClose fn => isFn fn
  | .ctxQuery fn => isFn fn
  | .ctxCloseComplete fn ctx => isFn fn && isCtx ctx
  | .tombstoneExpiry fn ctx => isFn fn && isCtx ctx
  | .contextFill _ _ => true
  | .dataSend fn ctx => isFn fn && isCtx ctx
  | .dataRx et => isEt et
  | .resyncRx et => isEt et
  | .ackRx et => isEt et
  | .resyncAckRx et => isEt et
  | .nakRnrRx et => isEt et
  | .nakStaleRx et => isEt et
  | .ackDelayTimer fn ctx => isFn fn && isCtx ctx
  | .retransmitTimer fn ctx => isFn fn && isCtx ctx
  | .resyncTimer fn ctx => isFn fn && isCtx ctx
  | .replayFull et => isEt et
  | .rnrBackoffTimer fn ctx => isFn fn && isCtx ctx
  | .respRx et => isEt et
  | .matchHeader et => isEt et
  | .pullRx et => isEt et
  | .pullRespRx et => isEt et
  | .finRx et => isEt et
  | .overflowReadDone _ _ => true
  | .landingExhausted et => isEt et
  | .matchBalanceInterval et => isEt et
  | .fenceEnd et => isEt et
  | .migrateTombExpiry et fn comm => isEt et && isFn fn && decide (comm < 65536)
  | .winRegister fn => isFn fn
  | .winRevoke fn => isFn fn
  | .winQuery fn => isFn fn
  | .revokeComplete fn => isFn fn
  | .targetReadDone _ _ => true
  | .saveRecordExpiry fn ctx _ => isFn fn && isCtx ctx
  | .saveFull et => isEt et
  | .atomicCacheWrite r et _ => isReq r && isEt et
  | .treeInstall r t _ => isReq r && isTree t
  | .treeUninstall r t _ => isReq r && isTree t
  | .collOperandReady _ _ => true
  | .cupRx p => isPort p
  | .cdnRx p => isPort p
  | .collAbortRx p => isPort p
  | .keepaliveRx p => isPort p
  | .keepaliveTimer => true
  | .edgeSilent p => isPort p
  | .mgmtDatagramRx _ _ _ _ => true
  | .mgtRequestRx => true
  | .dictRead q => decide (q < 7)
  | .dictWrite q => decide (q < 7)
  | .dictDescribe q => decide (q < 7)
  | .dictCancel q => decide (q < 7)
  | .dictRelay q => decide (q < 7)
  | .relayResponseRx => true
  | .relayTimeout _ => true
  | .segTimeout _ => true
  | .snapshotExpiry _ => true
  | .keptResponseExpiry => true
  | .dictUserDefineWrite r _ => isReq r
  | .dictFactoryWrite r _ => isReq r
  | .smbusBlockRead _ cmd => decide (cmd < 256)
  | .modeReqTrain r => isReq r
  | .modeReqRun r => isReq r
  | .modeReqHold r => isReq r
  | .modeReqPass r => isReq r
  | .modeReqTest r => isReq r
  | .modeReqStandby r => isReq r
  | .quiesceDrainEnd => true
  | .modeChangeComplete => true
  | .seatPinChange pin _ => decide (pin < 2)
  | .seatDebounceEnd => true
  | .rampComplete => true
  | .powerGoodAssert => true
  | .faultTimerStart => true
  | .faultTimerEnd => true
  | .breaker => true
  | .fastTrip => true
  | .overvoltage => true
  | .railFault => true
  | .thermalTrip island => isIsland island
  | .resetNAssert => true
  | .resetNRelease => true
  | .inputSample _ _ => true
  | .inputUndervoltage => true
  | .flushComplete => true
  | .supervisorPowerLoss => true
  | .tempRead _ => true
  | .faultReport _ => true
  | .faultAck r _ => isReq r
  | .faultClear r _ => isReq r
  | .ctrCfgWrite r sub _ => isReq r && isCtrSub sub
  | .ctrValueWrite r sub _ => isReq r && isCtrSub sub
  | .ctrReaderEnableWrite r _ => isReq r
  | .counterSnapshot => true
  | .stagingProgramDone block => isBlock block
  | .programFail block => isBlock block
  | .storeReadDone _ _ => true
  | .storeScrubPage block _ _ => isBlock block
  | .blockRefreshDone block _ => isBlock block
  | .scrubBehind => true
  | .dieFailed die => decide (die < 64)
  | .fnStoreAllotWrite r fn _ => isReq r && isFn fn
  | .fnStoreErase r fn _ => isReq r && isFn fn
  | .fnStoreTrimWrite r fn _ => isReq r && isFn fn
  | .storeLogCursorWrite r _ => isReq r
  | .bootEnd => true
  | .fwUploadOpen r => isReq r
  | .fwUploadData r _ => isReq r
  | .fwUploadCommit r => isReq r
  | .fwUploadAbort r => isReq r
  | .fwActivate r _ => isReq r
  | .fwLoadingTimeout => true
  | .fwReady => true
  | .handover => true
  | .fwSelftestResult _ => true
  | .fwConfirm r _ => isReq r
  | .fwTrialExpiry => true
  | .fwFallback r _ => isReq r
  | .fwWatchdogTimeout => true
  | .fwKeyRevoke r _ => isReq r
  | .attestReq r sub _ => isReq r && decide (1 ≤ sub) && decide (sub ≤ 6)
  | .attestQuoteDone sub => decide (1 ≤ sub) && decide (sub ≤ 6)
  | .hostLinkUp hp _ _ _ cfg => isHostPort hp && isHostCfg cfg
  | .vfEnable hp numVfs => isHostPort hp && decide (numVfs < 64)
  | .supervisorPowerOn => true
  | .mgmtLinkChange _ _ => true
  | .mgmtFrameRx _ => true
  | .smbusTimeout => true
  | .exitSequenceRx p => isPort p

end Sys2Proof
end

