-- ==== Sys2Proof/Safety.lean ====
section
/-! DEFINITION. What counts as a safe run, in the terms the claims use. -/

namespace Sys2Proof.Safety

open Sys2Proof.Machine

/-- A step that goes on: neither a fault nor a refusal. -/
def goesOn (s : State) : Prop := ∃ t, step s = .next t

/-- Every waiting command is well formed. -/
def queueWf (s : State) : Prop := ∀ c ∈ s.pending, c.wf = true

/-- A write of the number `v` in `len` bytes, by an open path on which nothing waits and no retry, that every check of R327 lets pass and whose
records the journal takes (R308, R315, R322); `w` is the value it carries, reserved bits 0. -/
def passes (s : State) (r : Req) (idx sub len v w : Nat) : Prop :=
  s.atOnce r = true ∧ s.keptFor r (writeHdr r idx sub len) = none ∧ s.openCheck r idx sub len = none
    ∧ s.valueCheck r idx sub w = none
    ∧ ∃ o, s.obj? idx sub = some o ∧ w = o.valueOf (natLe len v) ∧ (o.persist = true → s.journalTakes (s.allRecs idx sub w) = true)

/-- The value `w` has been taken and its requester answered: beside what taking it does and the answer, only the request's
count, its journal records and the counters they move differ (R308, R315). -/
def taken (s t : State) (r : Req) (idx sub len w : Nat) : Prop :=
  ∃ u : State, t = (u.takeWrite ((reqFn r).getD 0) idx sub w).answerReq r 0 (writeHdr r idx sub len) (okPdu (writeHdr r idx sub len))
    ∧ u.dict.vals = s.dict.vals
    ∧ u = { s with
        store := u.store, ctrs := u.ctrs
        dict := { s.dict with counts := u.dict.counts, journal := u.dict.journal, journal2 := u.dict.journal2 } }

end Sys2Proof.Safety
end

