-- ==== Sys2Proof/Certificates/Slice0/Obligations.lean ====
section
/-! DEFINITION. The statements for the provers, one per entry of OBLIGATIONS.json. Each command's statement ends in
`exec c s = .next t` and says what `t` holds; a clause `t = { s with … }` names every part that may differ. -/

open Sys2Proof Sys2Proof.Machine

/-- For every command c, queue rest and state s, step of s with c at the front of its queue is exec of c on s with the queue's rest. The model's own choices that it rests on, with no rule behind them: log entry 2. (95 what each step holds.) -/
def Obligations.StepRunsFront : Prop :=
  ∀ (c : Instr) (rest : List Instr) (s : State),
    step { s with pending := c :: rest } = exec c { s with pending := rest }

/-- With no command waiting a step answers a next state one nanosecond later, in the same mode, with the queue still empty. The model's own choices that it rests on, with no rule behind them: log entry 1. (01 R13.) -/
def Obligations.IdleStepPassesTime : Prop :=
  ∀ s : State, s.pending = [] →
    ∃ t : State, step s = .next t ∧ t.now = s.now + 1 ∧ t.pending = [] ∧ t.mode.mode = s.mode.mode

/-- Every command, on every state, answers a next state whose queue of waiting commands and elapsed time are those it was given. The model's own choices that it rests on, with no rule behind them: log entries 1, 5. (95 what each step holds.) -/
def Obligations.CommandsLeaveQueueAndClock : Prop :=
  ∀ (c : Instr) (s : State), ∃ t : State, exec c s = .next t ∧ t.pending = s.pending ∧ t.now = s.now

/-- If the target mode is the mode whenever no mode change is in progress, then the same holds of the next state of every step, whatever command runs. The model's own choices that it rests on, with no rule behind them: log entry 5. (13 R335, 13 R353.) -/
def Obligations.StableModeIsItsTarget : Prop :=
  ∀ s t : State, (s.mode.changing = false → s.mode.target = s.mode.mode) → step s = .next t →
    (t.mode.changing = false → t.mode.target = t.mode.mode)

/-- After reset the device is in SEAT with no change in progress, its islands in reset, its islands' queues empty, semaphore 0 with LIMIT and AVAILABLE 1, ROUTE generation quiet periods over, FN_EPOCH 1, FAULT_SEQ 1, and the regions of R90. The model's own choices that it rests on, with no rule behind them: log entries 11, 12. (13 R331, 01 R27, 04 R90, 04 R105, 08 R194, 14 R357.) -/
def Obligations.ResetIsStableSeat : Prop :=
  State.reset.mode.mode = .seat ∧ State.reset.mode.target = State.reset.mode.mode ∧ State.reset.mode.changing = false ∧
  (∀ k < 15, State.reset.island k = false) ∧ State.reset.pending = [] ∧
  (State.reset.sem 0).limit = 1 ∧ (State.reset.sem 0).avail = 1 ∧ (State.reset.sem 0).enable = true ∧
  (∀ n, 0 < n → State.reset.sem n = {}) ∧ (∀ f, (State.reset.fn f).epoch = 1 ∧ (State.reset.fn f).state = 0) ∧
  State.reset.faults.seq = 1 ∧ State.reset.acu.regions.length = 64 ∧
  (∀ idx sub, State.reset.cfg idx sub = objDefault idx sub)

/-- TILE_RESET_RELEASE sets the island's bit of ISLAND_STATE alone; TIME_BEACON sets that island's fabric-time counter to the time unit's and no other, once in a microsecond at most. SRAM_SCRUB_WORD retries a busy word; once the next word is due it advances the pass, records a single-bit error as CORRECTED 0x0210, an uncorrectable management or staging word as FATAL_DEVICE 0x0221, and marks a lost route entry or flat entry for reload with DEFERRED 0x0220; ROUTE_ENTRY_RELOAD ends the wait of that entry. FLIT_ARRIVAL takes the oldest flit of its channel: a running tile whose arbiter may serve the channel receives it, and with its last flit a packet waits in the tile, and a routed packet at its egress port; one that was dropped on its way brings nothing; while a channel already waits behind a flit of this one, nothing happens; a tile in reset loses the flit and MESH_DISCARDS counts one. No other channel's flits change. The model's own choices that it rests on, with no rule behind them: log entries 18, 19, 20, 21, 36, 41, 131. (01 R15, 01 R16, 01 R19, 01 R20, 01 R21, 01 R24, 01 R27, 01 R429, 14 R356.) -/
def Obligations.IslandsAndScrubbing : Prop :=
  ((∀ (k : Nat) (s : State), k < 15 → s.island k = false → s.sup.powerGood = true → s.sup.flushAt = none →
    s.sup.resetAt = none → s.faults.checkstop = false →
    (bitAt (modeIslands s.mode.mode).toNat k = true ∨ (s.mode.changing = true ∧ bitAt (modeIslands s.mode.target).toNat k = true)) →
    ∃ t : State, exec (.tileResetRelease k) s = .next t ∧ (∀ j, j < 15 → t.island j = (decide (j = k) || s.island j)) ∧
      t = { s with arch := { s.arch with islands := t.arch.islands } }) ∧
  (∀ (k : Nat) (s : State), s.island 14 = true → s.island k = true → s.faults.checkstop = false →
    ((∀ a, Tbl.get? s.arch.beaconAt k = some a → a + 1000 ≤ s.now) → ∃ t : State, exec (.timeBeacon k) s = .next t ∧ Tbl.getD t.arch.islandFt k 0 = s.time.ft.toNat ∧
      (∀ j, j ≠ k → Tbl.getD t.arch.islandFt j 0 = Tbl.getD s.arch.islandFt j 0) ∧
      Tbl.get? t.arch.beaconAt k = some s.now ∧ (∀ j, j ≠ k → Tbl.get? t.arch.beaconAt j = Tbl.get? s.arch.beaconAt j) ∧
      t = { s with arch := { s.arch with islandFt := t.arch.islandFt, beaconAt := t.arch.beaconAt } }) ∧
    (∀ a, Tbl.get? s.arch.beaconAt k = some a → s.now < a + 1000 → exec (.timeBeacon k) s = .next s)) ∧
  (∀ (x : SramSite) (r : SramResult) (s : State), exec (.sramScrubWord x r true) s = .next s) ∧
  (∀ (x : SramSite) (s : State), s.island (s.siteTile x).1 = true → s.faults.checkstop = false → s.arch.scrubNext ≤ s.now →
    (∃ t : State, exec (.sramScrubWord x .clean false) s = .next t ∧ t.arch.scrubWord = (s.arch.scrubWord + 1) % 2 ^ 25 ∧
      t = { s with arch := { s.arch with scrubWord := t.arch.scrubWord, scrubAt := t.arch.scrubAt, scrubNext := t.arch.scrubNext } }) ∧
    (∃ (t : State) (f : FaultReport), exec (.sramScrubWord x .single false) s = .next t ∧ t.arch.scrubWord = (s.arch.scrubWord + 1) % 2 ^ 25 ∧
      t.faults.coming = s.faults.coming ++ [f] ∧ f.code = 0x0210 ∧ f.cls = corrected ∧
      t = { s with arch := { s.arch with scrubWord := t.arch.scrubWord, scrubAt := t.arch.scrubAt, scrubNext := t.arch.scrubNext },
                   faults := { s.faults with coming := t.faults.coming }, ctrs := t.ctrs }) ∧
    ((x = .staging ∨ ∃ a, x = .management a) → ∃ (t : State) (f : FaultReport), exec (.sramScrubWord x .double false) s = .next t ∧
      t.arch.scrubWord = (s.arch.scrubWord + 1) % 2 ^ 25 ∧
      t.faults.coming = s.faults.coming ++ [f] ∧ f.code = 0x0221 ∧ f.cls = fatalDevice ∧
      (∀ a, x = .management a → a / 8 ∈ t.priv.bad) ∧
      t = { s with arch := { s.arch with scrubWord := t.arch.scrubWord, scrubAt := t.arch.scrubAt, scrubNext := t.arch.scrubNext },
                   faults := { s.faults with coming := t.faults.coming }, priv := { s.priv with bad := t.priv.bad } }) ∧
    (∀ pt g grp, x = .routeTable pt g grp → ∃ (t : State) (f : FaultReport), exec (.sramScrubWord x .double false) s = .next t ∧
      t.arch.scrubWord = (s.arch.scrubWord + 1) % 2 ^ 25 ∧
      t.faults.coming = s.faults.coming ++ [f] ∧ f.code = 0x0220 ∧ f.cls = deferred ∧
      t.arch.reloadGrp = s.arch.reloadGrp ++ [pt * 2 ^ 20 + g * 2 ^ 12 + grp] ∧
      t = { s with arch := { s.arch with scrubWord := t.arch.scrubWord, scrubAt := t.arch.scrubAt, scrubNext := t.arch.scrubNext, reloadGrp := t.arch.reloadGrp },
                   faults := { s.faults with coming := t.faults.coming } }) ∧
    (∀ g fl, x = .flatTable g fl → ∃ (t : State) (f : FaultReport), exec (.sramScrubWord x .double false) s = .next t ∧
      t.arch.scrubWord = (s.arch.scrubWord + 1) % 2 ^ 25 ∧
      t.faults.coming = s.faults.coming ++ [f] ∧ f.code = 0x0220 ∧ f.cls = deferred ∧
      t.arch.reloadFlat = s.arch.reloadFlat ++ [g * 2 ^ 20 + fl] ∧
      t = { s with arch := { s.arch with scrubWord := t.arch.scrubWord, scrubAt := t.arch.scrubAt, scrubNext := t.arch.scrubNext, reloadFlat := t.arch.reloadFlat },
                   faults := { s.faults with coming := t.faults.coming } })) ∧
  (∀ (pt g grp : Nat) (s : State), ∃ t : State, exec (.routeEntryReload (.routeTable pt g grp)) s = .next t ∧
    (∀ k, k ∈ t.arch.reloadGrp ↔ k ∈ s.arch.reloadGrp ∧ k ≠ pt * 2 ^ 20 + g * 2 ^ 12 + grp) ∧
    t = { s with arch := { s.arch with reloadGrp := t.arch.reloadGrp } }) ∧
  (∀ (g fl : Nat) (s : State), ∃ t : State, exec (.routeEntryReload (.flatTable g fl)) s = .next t ∧
    (∀ k, k ∈ t.arch.reloadFlat ↔ k ∈ s.arch.reloadFlat ∧ k ≠ g * 2 ^ 20 + fl) ∧
    t = { s with arch := { s.arch with reloadFlat := t.arch.reloadFlat } })) ∧
  ((∀ (ch : Nat) (s : State) (f : Flit) (rest : List Flit), s.faults.checkstop = false →
    Tbl.getD s.arch.chans ch [] = f :: rest → s.island (ch / 8 % 16) = true → s.arch.mayServe ch = true →
    (∀ q, f.x = .packet q ∨ f.k + 1 ≠ f.n → ∃ t : State, exec (.flitArrival ch) s = .next t ∧ Tbl.getD t.arch.chans ch [] = rest ∧
      (∀ c, c ≠ ch → Tbl.getD t.arch.chans c [] = Tbl.getD s.arch.chans c []) ∧ t.arch.discards = s.arch.discards ∧
      Tbl.getD t.arch.inbox (ch / 8 % 16) [] = Tbl.getD s.arch.inbox (ch / 8 % 16) [] ++ (if f.k + 1 = f.n then [q] else []) ∧
      (∀ d, d ≠ ch / 8 % 16 → Tbl.getD t.arch.inbox d [] = Tbl.getD s.arch.inbox d []) ∧
      t = { s with arch := { s.arch with chans := t.arch.chans, behind := t.arch.behind, inbox := t.arch.inbox }, ctrs := t.ctrs }) ∧
    (∀ p q, f.x = .egress p q → f.k + 1 = f.n → ∃ t : State, exec (.flitArrival ch) s = .next t ∧ Tbl.getD t.arch.chans ch [] = rest ∧
      (∀ c, c ≠ ch → Tbl.getD t.arch.chans c [] = Tbl.getD s.arch.chans c []) ∧
      t.portq p = (s.portq p).enqueue q ∧ (∀ x, x ≠ p → t.portq x = s.portq x) ∧
      t = { s with arch := { s.arch with chans := t.arch.chans, behind := t.arch.behind }, ctrs := t.ctrs, portqs := t.portqs }) ∧
    (f.x = .gone → ∃ t : State, exec (.flitArrival ch) s = .next t ∧ Tbl.getD t.arch.chans ch [] = rest ∧
      (∀ c, c ≠ ch → Tbl.getD t.arch.chans c [] = Tbl.getD s.arch.chans c []) ∧
      t = { s with arch := { s.arch with chans := t.arch.chans, behind := t.arch.behind }, ctrs := t.ctrs })) ∧
  (∀ (ch : Nat) (s : State), s.island (ch / 8 % 16) = true → s.arch.mayServe ch = false → exec (.flitArrival ch) s = .next s) ∧
  (∀ (ch : Nat) (s : State) (f : Flit) (rest : List Flit), s.faults.checkstop = false →
    Tbl.getD s.arch.chans ch [] = f :: rest → s.island (ch / 8 % 16) = false →
    ∃ t : State, exec (.flitArrival ch) s = .next t ∧ Tbl.getD t.arch.chans ch [] = rest ∧
      (∀ c, c ≠ ch → Tbl.getD t.arch.chans c [] = Tbl.getD s.arch.chans c []) ∧
      t.arch.discards = satAdd 64 s.arch.discards 1 ∧ t = { s with arch := { s.arch with chans := t.arch.chans, discards := t.arch.discards } }))

/-- PERST_N released starts training; a retry at its 100 ms instant starts training; a partner in Flit mode at x4 or wider brings the port to L0 with the negotiated rate and width and the sizes the host sets, and its absent PF to FN_STATE 1 at the BAR0 the host assigned, a multiple of 32 MiB, which decodes; another partner sends the port back to Detect with its next retry 100 ms later and one CORRECTED 0x0230 per power cycle; PERST_N asserted on a port not in L0 holds it in Detect. Other host ports are unchanged. The model's own choices that it rests on, with no rule behind them: log entries 4, 133, 134. (00 R9, 02 R32, 02 R33, 02 R34, 02 R37, 17 R415.) -/
def Obligations.HostPortTraining : Prop :=
  (∀ (hp : Nat) (s : State), s.pcieOn hp = true → (s.hostPort hp).train = .detect →
    ∃ t : State, exec (.perstNRelease hp) s = .next t ∧ t.hostPort hp = { s.hostPort hp with perst := false, train := .training } ∧
      (∀ h, h ≠ hp → t.hostPort h = s.hostPort h) ∧ t = { s with hosts := t.hosts }) ∧
  (∀ (hp : Nat) (s : State), s.pcieOn hp = true → (s.hostPort hp).train = .detect → (s.hostPort hp).perst = false →
    (s.hostPort hp).retryAt ≤ s.now →
    ∃ t : State, exec (.hostTrainRetry hp) s = .next t ∧ t.hostPort hp = { s.hostPort hp with train := .training } ∧
      (∀ h, h ≠ hp → t.hostPort h = s.hostPort h) ∧ t = { s with hosts := t.hosts }) ∧
  (∀ (hp rate width : Nat) (reversed : Bool) (cfg : HostCfg) (s : State), s.pcieOn hp = true → (s.hostPort hp).train = .training →
    (s.hostPort hp).perst = false → 4 ≤ width →
    ∃ t : State, exec (.hostLinkUp hp rate { width := width, reversed := reversed } true cfg) s = .next t ∧
      t.hostPort hp = { s.hostPort hp with train := .l0, rate := rate, width := width, flit := true, reversed := reversed,
                                           mps := cfg.mps, mrrs := cfg.mrrs, cfg := cfg } ∧
      (∀ h, h ≠ hp → t.hostPort h = s.hostPort h) ∧
      ((s.fn (64 * hp)).state = 0 → (t.fn (64 * hp)).state = 1 ∧ (t.fn (64 * hp)).bar0 = cfg.bar0 / 2 ^ 25 * 2 ^ 25 ∧ (t.fn (64 * hp)).memOn = true) ∧
      (∀ f, f ≠ 64 * hp → t.fn f = s.fn f) ∧ t = { s with hosts := t.hosts, fns := t.fns }) ∧
  (∀ (hp rate width : Nat) (flit reversed : Bool) (cfg : HostCfg) (s : State), s.pcieOn hp = true → (s.hostPort hp).train = .training →
    (s.hostPort hp).perst = false → (flit = false ∨ width < 4) →
    ∃ t : State, exec (.hostLinkUp hp rate { width := width, reversed := reversed } flit cfg) s = .next t ∧
      t.hostPort hp = { s.hostPort hp with train := .detect, noFlitRecorded := true, retryAt := s.now + 100 * ms } ∧
      (∀ h, h ≠ hp → t.hostPort h = s.hostPort h) ∧
      t.faults.coming = s.faults.coming ++ (if (s.hostPort hp).noFlitRecorded then [] else
        [{ code := 0x0230, cls := corrected, tile := 8 + hp }]) ∧
      t = { s with hosts := t.hosts, faults := { s.faults with coming := t.faults.coming } }) ∧
  (∀ (hp : Nat) (s : State), (s.hostPort hp).train ≠ .l0 →
    ∃ t : State, exec (.perstNAssert hp) s = .next t ∧ t.hostPort hp = { s.hostPort hp with perst := true, train := .detect } ∧
      (∀ h, h ≠ hp → t.hostPort h = s.hostPort h) ∧ t = { s with hosts := t.hosts })

/-- HOST_LINK_DOWN of a port in L0 completes, whatever functions the port has: the port is in Detect with rate, width and Flit mode 0, VF Enable clear, HOST_LINK_DOWNS counted once and what the host had set gone, and it differs in nothing else but the tag its next request tries; the other ports differ in that tag alone; every enabled function of the port is in reset, with no read awaited, and no other function changes its FN_STATE; FATAL_PORT 0x0250 of its endpoint tile is recorded last; no read of the port is awaited. The mode, the queue and the clock stay. HOST_LINK_DOWN of a port not in L0 changes nothing. PERST_N asserted on a port in L0 does the same and holds the port. The model's own choices that it rests on, with no rule behind them: log entries 4, 133. (02 R36, 02 R37, 02 R62, 17 R415.) -/
def Obligations.HostLinkLoss : Prop :=
  (∀ (hp : Nat) (s : State), (s.hostPort hp).train = .l0 →
    ∃ t : State, exec (.hostLinkDown hp) s = .next t ∧
      t.hostPort hp = { s.hostPort hp with train := .detect, rate := 0, width := 0, flit := false, vfEnable := false,
                                           downs := satAdd 32 (s.hostPort hp).downs 1, mps := 128, mrrs := 512, cfg := {},
                                           nextReq := (t.hostPort hp).nextReq } ∧
      (∀ h, h ≠ hp → t.hostPort h = { s.hostPort h with nextReq := (t.hostPort h).nextReq }) ∧
      (∀ f, etOf f = hp → (s.fn f).state = 1 → (t.fn f).state = 2) ∧
      (∀ f, (etOf f ≠ hp ∨ (s.fn f).state ≠ 1) → (t.fn f).state = (s.fn f).state) ∧
      (∀ f, etOf f = hp → (s.fn f).state ≠ 0 → (t.fn f).flrReads = []) ∧
      t.faults.coming.getLast? = some { code := 0x0250, cls := fatalPort, tile := 8 + hp } ∧
      (∀ e ∈ t.reads, e.2.hp ≠ hp) ∧
      t.pending = s.pending ∧ t.now = s.now ∧ t.mode = s.mode) ∧
  (∀ (hp : Nat) (s : State), (s.hostPort hp).train ≠ .l0 → exec (.hostLinkDown hp) s = .next s) ∧
  (∀ (hp : Nat) (s : State), (s.hostPort hp).train = .l0 →
    ∃ t : State, exec (.perstNAssert hp) s = .next t ∧
      t.hostPort hp = { s.hostPort hp with train := .detect, perst := true, rate := 0, width := 0, flit := false, vfEnable := false,
                                           downs := satAdd 32 (s.hostPort hp).downs 1, mps := 128, mrrs := 512, cfg := {},
                                           nextReq := (t.hostPort hp).nextReq } ∧
      (∀ h, h ≠ hp → t.hostPort h = { s.hostPort h with nextReq := (t.hostPort h).nextReq }) ∧
      (∀ f, etOf f = hp → (s.fn f).state = 1 → (t.fn f).state = 2) ∧
      (∀ f, (etOf f ≠ hp ∨ (s.fn f).state ≠ 1) → (t.fn f).state = (s.fn f).state) ∧
      (∀ f, etOf f = hp → (s.fn f).state ≠ 0 → (t.fn f).flrReads = []) ∧
      t.faults.coming.getLast? = some { code := 0x0250, cls := fatalPort, tile := 8 + hp } ∧
      (∀ e ∈ t.reads, e.2.hp ≠ hp) ∧
      t.pending = s.pending ∧ t.now = s.now ∧ t.mode = s.mode)

/-- VF_ENABLE on a port in L0 sets VF Enable and NumVFs, of which 63 are in force at most; each absent VF from 1 to NumVFs is enabled, each enabled function past NumVFs is in reset, and no other function changes its FN_STATE; with none past NumVFs nothing but the port and those functions changes. A function-level reset of an enabled VF gives FN_STATE 2 to it alone, without a BAR0 or an MSI-X table of the host's; one of an enabled PF gives it to every enabled function of the port and clears VF Enable; one of a function that is absent or in reset changes nothing. VF_DISABLE takes VF Enable and NumVFs down, and every enabled function past what is then in force is in reset and no other changes its FN_STATE. FLR_COMPLETE with no read awaited gives FN_STATE 1 where the function exists and 0 where it does not, and changes no other function. The mode, the queue and the clock stay. The model's own choices that it rests on, with no rule behind them: log entries 3, 133, 134. (02 R38, 02 R40, 02 R61, 02 R62.) -/
def Obligations.FunctionsComeAndGo : Prop :=
  (∀ (hp n : Nat) (s : State), (s.hostPort hp).train = .l0 → n ≤ 63 → (∀ f ∈ s.fnsOf hp, f % 64 ≤ n) →
    ∃ t : State, exec (.vfEnable hp n) s = .next t ∧ t.hostPort hp = { s.hostPort hp with vfEnable := true, numVfs := n } ∧
      (∀ k, 1 ≤ k → k ≤ n → (s.fn (64 * hp + k)).state = 0 → (t.fn (64 * hp + k)).state = 1) ∧
      (∀ f, (f ≤ 64 * hp ∨ 64 * hp + n < f) → t.fn f = s.fn f) ∧ t = { s with hosts := t.hosts, fns := t.fns }) ∧
  (∀ (hp n : Nat) (s : State), (s.hostPort hp).train = .l0 →
    ∃ t : State, exec (.vfEnable hp n) s = .next t ∧
      t.hostPort hp = { s.hostPort hp with vfEnable := true, numVfs := min 63 n, nextReq := (t.hostPort hp).nextReq } ∧
      (∀ k, 1 ≤ k → k ≤ min 63 n → (s.fn (64 * hp + k)).state = 0 → (t.fn (64 * hp + k)).state = 1) ∧
      (∀ f, etOf f = hp → min 63 n < f % 64 → (s.fn f).state = 1 → (t.fn f).state = 2) ∧
      (∀ f, (etOf f ≠ hp ∨ f % 64 = 0 ∨ (s.fn f).state = 2 ∨ (f % 64 ≤ min 63 n ∧ (s.fn f).state ≠ 0) ∨ (min 63 n < f % 64 ∧ (s.fn f).state ≠ 1)) →
        (t.fn f).state = (s.fn f).state) ∧
      t.pending = s.pending ∧ t.now = s.now ∧ t.mode = s.mode) ∧
  (∀ (f : Nat) (s : State), f % 64 ≠ 0 → (s.fn f).state = 1 →
    ∃ t : State, exec (.functionLevelReset f) s = .next t ∧ (t.fn f).state = 2 ∧ (t.fn f).bar0 = 0 ∧ (t.fn f).memOn = false ∧
      (t.fn f).msix = {} ∧ (∀ g, g ≠ f → (t.fn g).state = (s.fn g).state) ∧
      t.pending = s.pending ∧ t.now = s.now ∧ t.mode = s.mode) ∧
  (∀ (f : Nat) (s : State), f % 64 = 0 → (s.fn f).state = 1 →
    ∃ t : State, exec (.functionLevelReset f) s = .next t ∧
      t.hostPort (etOf f) = { s.hostPort (etOf f) with vfEnable := false, nextReq := (t.hostPort (etOf f)).nextReq } ∧
      (∀ g, etOf g = etOf f → (s.fn g).state = 1 → (t.fn g).state = 2 ∧ (t.fn g).bar0 = 0 ∧ (t.fn g).memOn = false ∧ (t.fn g).msix = {}) ∧
      (∀ g, (etOf g ≠ etOf f ∨ (s.fn g).state ≠ 1) → (t.fn g).state = (s.fn g).state) ∧
      t.pending = s.pending ∧ t.now = s.now ∧ t.mode = s.mode) ∧
  (∀ (f : Nat) (s : State), (s.fn f).state ≠ 1 → exec (.functionLevelReset f) s = .next s) ∧
  (∀ (hp n lim : Nat) (enable : Bool) (s : State),
    lim = (if (s.hostPort hp).vfEnable && enable then min (s.hostPort hp).numVfs n else 0) →
    ∃ t : State, exec (.vfDisable hp enable n) s = .next t ∧
      t.hostPort hp = { s.hostPort hp with vfEnable := (s.hostPort hp).vfEnable && enable, numVfs := min (s.hostPort hp).numVfs n,
                                           nextReq := (t.hostPort hp).nextReq } ∧
      (∀ f, etOf f = hp → lim < f % 64 → (s.fn f).state = 1 → (t.fn f).state = 2) ∧
      (∀ f, (etOf f ≠ hp ∨ f % 64 ≤ lim ∨ (s.fn f).state ≠ 1) → (t.fn f).state = (s.fn f).state) ∧
      t.pending = s.pending ∧ t.now = s.now ∧ t.mode = s.mode) ∧
  (∀ (f : Nat) (s : State), (s.fn f).state = 2 → (s.fn f).flrReads = [] →
    ∃ t : State, exec (.flrComplete f) s = .next t ∧ (t.fn f).state = (if s.exists_ f then 1 else 0) ∧
      (∀ g, g ≠ f → t.fn g = s.fn g) ∧ t = { s with fns := t.fns })

/-- A send-queue doorbell within the room of R46 becomes the last accepted doorbell, and the fetch of entries starts where none runs; one beyond it is counted in FN_BAD_DOORBELLS, recorded as CORRECTED 0x0260, and posted as a QUEUE_ERROR event with the rejected value and the head; a write of the wrong size or offset, or to a context not open, is only counted. An accepted event-queue doorbell gives CONSUMER and, with ARM in an 8-byte write, arms a queue that has a vector and is not armed, with the entries past it counted, and no other; then the queue's message is sent if it is due, and what waited for its space goes on; one past the producer is counted, recorded and posted as a QUEUE_ERROR event with the rejected value and the producer. EQ_MOD_TIMER on an armed queue with a vector and a counted entry, once MOD_COUNT entries are counted or MOD_TIME has passed or is 0, clears the flag and sends the MSI-X message of the vector's table entry, or sets the vector's pending bit where MSI-X is off or masked; while no condition holds it changes nothing. The model's own choices that it rests on, with no rule behind them: log entries 24, 130, 136. (02 R43, 02 R44, 02 R46, 02 R47, 02 R58, 02 R59.) -/
def Obligations.Doorbells : Prop :=
  ((∀ (f c sz : Nat) (v : BitVec 64) (s : State), s.doorbellsOn = true → s.present f = true → (sz = 4 ∨ sz = 8) →
    (s.ctx f c).c.state = 1 → (s.ctx f c).w.zeroOwed = false →
    ((s.ctx f c).c.takes (BitVec.ofNat 32 v.toNat) = true →
      (∃ u : State, exec (.sqDoorbell f c 0 sz v) s = .next (u.startFetch f c) ∧
        (u.ctx f c).c = { (s.ctx f c).c with sqDb := BitVec.ofNat 32 v.toNat } ∧ u = { s with ctxs := u.ctxs }) ∧
      ((s.ctx f c).w.fetching = true → ∃ t : State, exec (.sqDoorbell f c 0 sz v) s = .next t ∧
        (t.ctx f c).c = { (s.ctx f c).c with sqDb := BitVec.ofNat 32 v.toNat } ∧ t = { s with ctxs := t.ctxs })) ∧
    ((s.ctx f c).c.takes (BitVec.ofNat 32 v.toNat) = false →
      ∃ u : State, exec (.sqDoorbell f c 0 sz v) s = .next (u.postAsync f
          { type := evQueueError, status := stMalformed, context := c, info := pack [(0, 32, (BitVec.ofNat 32 v.toNat).toNat), (32, 32, (s.ctx f c).c.head.toNat)] }) ∧
        (u.fn f).badDoorbells = satAdd 32 (s.fn f).badDoorbells 1 ∧ u.ctxs = s.ctxs ∧
        u.faults.coming = s.faults.coming ++ [{ code := 0x0260, cls := corrected, tile := 8 + etOf f, fn := some f, ctx := some c }] ∧
        u = { s with fns := u.fns, faults := { s.faults with coming := u.faults.coming } })) ∧
  (∀ (f c off sz : Nat) (v : BitVec 64) (s : State), s.doorbellsOn = true → s.present f = true →
    (off ≠ 0 ∨ (sz ≠ 4 ∧ sz ≠ 8) ∨ (s.ctx f c).c.state ≠ 1) →
    ∃ t : State, exec (.sqDoorbell f c off sz v) s = .next t ∧ (t.fn f).badDoorbells = satAdd 32 (s.fn f).badDoorbells 1 ∧
      (∀ g, g ≠ f → t.fn g = s.fn g) ∧ t = { s with fns := t.fns }) ∧
  (∀ (f q sz : Nat) (v : BitVec 64) (e : EventQ) (s : State), s.doorbellsOn = true → s.present f = true → (sz = 4 ∨ sz = 8) →
    s.eq? f q = some e →
    (dist (BitVec.ofNat 32 v.toNat) e.consumer ≤ dist e.producer e.consumer →
      ∃ u : State, exec (.eqDoorbell f q 0 sz v) s = .next ((((u.moderate f q).retryEvents f q).releaseHeld f q)) ∧
        u.eq? f q = some (e.consume (BitVec.ofNat 32 v.toNat) (sz == 8 && bitAt v.toNat 32) s.etNow) ∧
        (e.consume (BitVec.ofNat 32 v.toNat) (sz == 8 && bitAt v.toNat 32) s.etNow).consumer = BitVec.ofNat 32 v.toNat ∧
        u = { s with eqs := u.eqs }) ∧
    (dist e.producer e.consumer < dist (BitVec.ofNat 32 v.toNat) e.consumer →
      ∃ u : State, exec (.eqDoorbell f q 0 sz v) s = .next (u.postAsync f
          { type := evQueueError, status := stMalformed, info := pack [(0, 32, (BitVec.ofNat 32 v.toNat).toNat), (32, 32, e.producer.toNat)] }) ∧
        (u.fn f).badDoorbells = satAdd 32 (s.fn f).badDoorbells 1 ∧ u.eqs = s.eqs ∧
        u.faults.coming = s.faults.coming ++ [{ code := 0x0260, cls := corrected, tile := 8 + etOf f, fn := some f }] ∧
        u = { s with fns := u.fns, faults := { s.faults with coming := u.faults.coming } })) ∧
  (∀ (e : EventQ) (v : U32) (now : Nat), e.armed = false → e.vector ≠ 0xFFFF →
    e.consume v true now = { e with consumer := v, armed := true, counted := dist e.producer v,
                                    timerAt := if e.producer = v then none else some now }) ∧
  (∀ (e : EventQ) (v : U32) (arm : Bool) (now : Nat), (arm = false ∨ e.armed = true ∨ e.vector = 0xFFFF) →
    e.consume v arm now = { e with consumer := v }) ∧
  (∀ (f q off sz : Nat) (v : BitVec 64) (s : State), s.doorbellsOn = true → s.present f = true →
    (off ≠ 0 ∨ (sz ≠ 4 ∧ sz ≠ 8) ∨ s.eq? f q = none) →
    ∃ t : State, exec (.eqDoorbell f q off sz v) s = .next t ∧ (t.fn f).badDoorbells = satAdd 32 (s.fn f).badDoorbells 1 ∧
      (∀ g, g ≠ f → t.fn g = s.fn g) ∧ t = { s with fns := t.fns })) ∧
  ((∀ (f q : Nat) (e : EventQ) (s : State), s.eq? f q = some e → e.armed = true → e.vector ≠ 0xFFFF → 0 < e.counted →
    (max 1 e.modCount ≤ e.counted ∨ e.modTime = 0 ∨ ∃ a, e.timerAt = some a ∧ a + 100 * e.modTime ≤ s.etNow) →
    ((s.fn f).msix.enable = true → (s.fn f).msix.fmask = false → ((s.fn f).msix.table.getD e.vector {}).masked = false →
      ∃ t : State, exec (.eqModTimer f q) s = .next t ∧
        t.out = s.out ++ [.msix (etOf f) f e.vector ((s.fn f).msix.table.getD e.vector {}).addr ((s.fn f).msix.table.getD e.vector {}).data] ∧
        t.eq? f q = some { e with armed := false, counted := 0, timerAt := none } ∧
        t = { s with eqs := t.eqs, out := t.out }) ∧
    (((s.fn f).msix.enable = false ∨ (s.fn f).msix.fmask = true ∨ ((s.fn f).msix.table.getD e.vector {}).masked = true) →
      ∃ t : State, exec (.eqModTimer f q) s = .next t ∧ e.vector ∈ (t.fn f).msixPend ∧
        t.eq? f q = some { e with armed := false, counted := 0, timerAt := none } ∧
        (∀ g, g ≠ f → t.fn g = s.fn g) ∧ t = { s with eqs := t.eqs, fns := t.fns })) ∧
  (∀ (f q : Nat) (e : EventQ) (s : State), s.eq? f q = some e →
    (e.armed = false ∨ e.vector = 0xFFFF ∨ e.counted = 0 ∨
      (e.counted < max 1 e.modCount ∧ e.modTime ≠ 0 ∧ ∀ a, e.timerAt = some a → s.etNow < a + 100 * e.modTime)) →
    exec (.eqModTimer f q) s = .next s))

/-- For a ring of 16 to 65,536 entries whose occupancy is at most its size, a doorbell value that the test of R46 takes leaves an occupancy that is at most the size and is the old occupancy plus the advance. The model's own choices that it rests on, with no rule behind them: log entry 24. (02 R46.) -/
def Obligations.OccupancyNeverExceedsTheRing : Prop :=
  ∀ (x : Ctx) (v : U32), x.sqLog2 ≤ 16 → dist x.sqDb x.head ≤ 2 ^ x.sqLog2 → x.takes v = true →
    dist v x.head = dist x.sqDb x.head + dist v x.sqDb ∧ dist v x.head ≤ 2 ^ x.sqLog2

/-- The next entry of an open resident context starts: a NOP meets its finishing condition with OK and its LENGTH; a SEND, WRITE, WRITE_NOTIFY, READ or atomic whose peer can be reached is started with its packet count (one for an empty payload, one per 4,096 B, one for an atomic) and its awaited responses; one whose peer cannot be reached finishes with UNREACHABLE and sends nothing. The model's own choices that it rests on, with no rule behind them: log entries 70, 71, 72. (02 R49, 02 R52, 06 R143, 09 R228, 10 R261, 10 R264, 10 R269.) -/
def Obligations.EntriesStart : Prop :=
  (∀ (f c : Nat) (e : Entry) (s : State), s.startable f c opNop = some e →
    ∃ (t : State) (e' : Entry), exec (.entryNop f c) s = .next t ∧ e' ∈ (t.ctx f c).w.entries ∧ e'.idx = e.idx ∧ e'.words = e.words ∧ e'.st = .done stOk (wLength e.words.toNat) ∧
      t = { s with ctxs := t.ctxs, ets := t.ets, ctrs := t.ctrs }) ∧
  (∀ (i : Nat → Nat → Instr) (op total awaited : Nat) (f c : Nat) (e : Entry) (s : State), s.startable f c op = some e →
    (i = .entrySend ∧ op = opSend ∧ awaited = 0 ∧
        (if wInline e.words.toNat || decide (wLength e.words.toNat ≤ s.cfg 0x6010 f)
          then total = entryPackets (wLength e.words.toNat) else total = 1) ∨
      i = .entryWrite ∧ op = opWrite ∧ total = entryPackets (wLength e.words.toNat) ∧ awaited = 1 ∨
      i = .entryWriteNotify ∧ op = opWriteNotify ∧ total = entryPackets (wLength e.words.toNat) ∧ awaited = 1 ∨
      i = .entryRead ∧ op = opRead ∧ total = entryPackets (wLength e.words.toNat) ∧ awaited = total ∨
      i = .entryFetchAdd ∧ op = opFetchAdd ∧ total = 1 ∧ awaited = 1 ∨
      i = .entrySwap ∧ op = opSwap ∧ total = 1 ∧ awaited = 1 ∨
      i = .entryCswap ∧ op = opCswap ∧ total = 1 ∧ awaited = 1) →
    (s.canReach (s.ctx f c).c = true →
      ∃ (t : State) (e' : Entry), exec (i f c) s = .next t ∧ e' ∈ (t.ctx f c).w.entries ∧ e'.idx = e.idx ∧ e'.words = e.words ∧ e'.st = .started ∧ e'.total = total ∧
        e'.awaited = awaited ∧ t = { s with ctxs := t.ctxs, ets := t.ets, ctrs := t.ctrs }) ∧
    (s.canReach (s.ctx f c).c = false →
      ∃ (t : State) (e' : Entry), exec (i f c) s = .next t ∧ e' ∈ (t.ctx f c).w.entries ∧ e'.idx = e.idx ∧ e'.words = e.words ∧ e'.st = .done stUnreachable 0 ∧
        t = { s with ctxs := t.ctxs }))

/-- A RECV that finds the match store open, no move's fence and no earlier posting of its communicator still waiting, and that no unexpected message waits for, is started and posted last of its communicator with the next PSEQ; a COLLECTIVE takes the tree's next operation number of its function, or finishes with MALFORMED or TREE_BROKEN; one whose fence is closed takes the number alone, and waits; COLL_ENTRY_START starts one that took its number once its fence is open and it may start. The model's own choices that it rests on, with no rule behind them: log entry 71. (09 R232, 09 R237, 09 R251, 10 R272, 11 R283, 11 R284.) -/
def Obligations.ReceivesAndCollectivesStart : Prop :=
  (∀ (f c : Nat) (e e1 : Entry) (s u : State), s.startable f c opRecv = some e → s.matchFull f = false →
    u = (s.entryStarted f c e).modEntry f c e.idx (fun e => { e with st := .started }) →
    u.fenced f (wComm e.words.toNat) = false →
    (u.et (etOf f)).items.any (fun i => i.key == (f, wComm e.words.toNat) && i matches .posting _ _ _ _ _) = false → u.entry? f c e.idx = some e1 → e1.words = e.words →
    ((u.mCount (etOf f) 1).engOp f (wComm e.words.toNat)).findUnexpected f (postedOfEntry c e1 (u.mctx f (wComm e.words.toNat)).pseq) = none →
    ∃ t : State, exec (.entryRecv f c) s = .next t ∧
      (t.mctx f (wComm e.words.toNat)).posted = (s.mctx f (wComm e.words.toNat)).posted
        ++ [postedOfEntry c e1 (s.mctx f (wComm e.words.toNat)).pseq] ∧
      (t.mctx f (wComm e.words.toNat)).pseq = (s.mctx f (wComm e.words.toNat)).pseq + 1 ∧ e1.st = .started ∧ t.mode = s.mode) ∧
  (∀ (f c : Nat) (e : Entry) (s : State), s.startable f c opCollective = some e → e.op = none →
    (s.badCollective f e.words.toNat = true →
      ∃ t : State, exec (.entryCollective f c) s = .next t ∧ t = s.modEntry f c e.idx (fun e => e.finish stMalformed)) ∧
    (s.badCollective f e.words.toNat = false → (s.tree (wTree e.words.toNat)).broken = true →
      ∃ t : State, exec (.entryCollective f c) s = .next t ∧ t = s.modEntry f c e.idx (fun e => e.finish stTreeBroken)) ∧
    (∀ (num : Nat) (u : State), s.badCollective f e.words.toNat = false → (s.tree (wTree e.words.toNat)).broken = false →
      num = Tbl.getD (s.tree (wTree e.words.toNat)).next f 0 →
      u = (((s.modTree (wTree e.words.toNat) (fun x => { x with next := Tbl.put x.next f ((num + 1) % 65536) })).modEntry f c e.idx
            (fun e => { e with op := some num })).tagEntry f c e.idx) →
      Tbl.getD (u.tree (wTree e.words.toNat)).next f 0 = (num + 1) % 65536 ∧
      exec (.entryCollective f c) s = .next (if !u.fenceMet f c e then u else if u.collMayStart (wTree e.words.toNat) f num
        then u.startCollective f c { e with op := some num } num else u.collCount 13))) ∧
  (∀ (f c num : Nat) (e : Entry) (s : State), s.startable f c opCollective = some e → e.op = some num →
    s.fenceMet f c e = true → s.collMayStart (wTree e.words.toNat) f num = true →
    exec (.collEntryStart f c) s = .next (s.startCollective f c e num)) ∧
  (∀ (f c num : Nat) (e : Entry) (s : State), s.startable f c opCollective = some e → e.op = some num →
    (s.fenceMet f c e = false ∨ s.collMayStart (wTree e.words.toNat) f num = false) → exec (.collEntryStart f c) s = .next s)

/-- ENTRY_FINISH of an entry of a resident context whose finishing condition is met and whose own writes are issued queues its STATUS byte at byte 1 of its slot, then, with SIGNAL, its WORK_DONE event that holds the head, and otherwise takes the entry out and advances the head; while a write of the entry's buffers waits, nothing happens. HEAD_WRITE_TIMER of a resident context queues the head index 1 us after the head moved, and changes nothing before. The model's own choices that it rests on, with no rule behind them: log entries 30, 31. (02 R49, 02 R50, 02 R57.) -/
def Obligations.EntriesFinish : Prop :=
  (∀ (f c : Nat) (idx : U32) (e : Entry) (st len : Nat) (s : State), s.entry? f c idx = some e → e.st = .done st len →
    s.entryWritten f c idx = true → s.faults.checkstop = false → (s.ctx f c).resident = true →
    ∃ u : State, u = ((s.traceDone f c e).modEntry f c e.idx (fun e => { e with st := .eventWait })).put f
        ((s.ctx f c).c.sqBase + 64 * (e.idx.toNat % 2 ^ (s.ctx f c).c.sqLog2) + 1) (natLe 1 st) (.status c e.idx) ∧
      (wSignal e.words.toNat = false → exec (.entryFinish f c idx) s = .next ((u.entryFinished f c e.idx).flushWrites f)) ∧
      (wSignal e.words.toNat = true → wOpcode e.words.toNat ≠ opRecv →
        exec (.entryFinish f c idx) s = .next (u.post f (s.ctx f c).c.sqEq
          { type := evWorkDone, status := st, context := c, userData := wUser e.words.toNat, info := e.idx.toNat, length := len, holds := some (c, e.idx) }))) ∧
  (∀ (f c : Nat) (idx : U32) (s : State), s.entryWritten f c idx = false → exec (.entryFinish f c idx) s = .next s) ∧
  (∀ (f c a : Nat) (s : State), (s.ctx f c).w.headLag = some a → a + 1000 ≤ s.etNow → s.writePending f (.head c) = false →
    (s.ctx f c).c.state ≠ 0 → (s.ctx f c).resident = true →
    exec (.headWriteTimer f c) s = .next ((s.queueHead f c).flushWrites f)) ∧
  (∀ (f c a : Nat) (s : State), (s.ctx f c).w.headLag = some a → s.etNow < a + 1000 → exec (.headWriteTimer f c) s = .next s)

/-- HOST_READ_COMPLETE on a read that is on the link, faulted or dead completes: the read is outstanding no more and no other read changes, the wait of the function's resets, invalidations and revokes for it is over, a dead read's data is discarded, and otherwise the result, which is a failure where the read's translation faulted and the cached word where an atomic's read hit one, reaches the work the read was for; then waiting reads of the port go on. ENTRY_FETCH_DONE, WALK_STEP, CONTEXT_FILL, OVERFLOW_READ_DONE, TARGET_READ_DONE and COLL_OPERAND_READY complete so on a read of their own use. Fetched entries arrive at the end of the queue and the fetch index moves past them. A spill record that cannot be read loses the context with 0x0510, one with a wrong CHECK with 0x0520. An overflow block read for a message that is gone is free again. A target read of a READ is answered OK with its bytes, a failed one with REMOTE_FAULT, and the ACK that waited for it goes. An operand joins its operation. With no such read nothing changes. The model's own choices that it rests on, with no rule behind them: log entries 7, 8. (02 R35, 02 R48, 02 R61, 03 R75, 03 R84, 08 R198, 08 R199, 09 R241, 10 R262, 11 R289.) -/
def Obligations.ReadsEnd : Prop :=
  (∀ (i : Instr) (tag : Nat) (r : HostRead) (res : ReadResult) (s : State), Tbl.get? s.reads tag = some r →
    (r.pieces.isSome = true ∨ r.fault.isSome = true ∨ r.dead = true) →
    (i = .hostReadComplete tag res ∨
      i = .entryFetchDone tag res ∧ (∃ c k n, r.use = .entries c k n) ∨
      i = .walkStep tag res ∧ r.use = .table ∨
      i = .contextFill tag res ∧ (∃ c, r.use = .spill c) ∨
      i = .overflowReadDone tag res ∧ (∃ c m o b, r.use = .overflow c m o b) ∨
      i = .targetReadDone tag res ∧ (∃ c p, r.use = .target c p) ∨
      i = .collOperandReady tag res ∧ (∃ c k, r.use = .operand c k)) →
    ∃ u : State, Tbl.get? u.reads tag = none ∧ (∀ k, k ≠ tag → Tbl.get? u.reads k = Tbl.get? s.reads k) ∧
      u.fn r.fn = { s.fn r.fn with
        flrReads := (s.fn r.fn).flrReads.filter (· != tag),
        invals := (s.fn r.fn).invals.map (fun v => { v with reads := v.reads.filter (· != tag) }),
        revokes := (s.fn r.fn).revokes.map (fun v => { v with reads := v.reads.filter (· != tag) }) } ∧
      (∀ g, g ≠ r.fn → u.fn g = s.fn g) ∧ u = { s with reads := u.reads, fns := u.fns } ∧
      (r.dead = true → ∃ t : State, exec i s = .next t ∧ t = u.retryReads r.hp) ∧
      (r.dead = false → ∃ t : State, exec i s = .next t ∧
        t = (u.readUse tag r (if r.fault.isSome then .failed else match r.hit with | some v => .ok (natLe 8 v) | none => res)).retryReads r.hp)) ∧
  (∀ (tag c n : Nat) (first : U32) (data : List Byte) (r : HostRead) (s : State), r.use = .entries c first n → (s.ctx r.fn c).c.state = 1 →
    ∃ w : State, s.readUse tag r (.ok data) = w.startFetch r.fn c ∧
      (w.ctx r.fn c).w.entries = (s.ctx r.fn c).w.entries ++ (fetchedEntries first n data).map (fun e => e.arrive false) ∧
      (w.ctx r.fn c).c.fetch = (s.ctx r.fn c).c.fetch + BitVec.ofNat 32 n ∧ w = { s with ctxs := w.ctxs }) ∧
  (∀ (tag c : Nat) (r : HostRead) (s : State), r.use = .spill c → (s.ctx r.fn c).c.state ≠ 0 → (s.ctx r.fn c).resident = false →
    (r.fault = none → s.readUse tag r .failed = (((s.fnFault 0x0510 deferred r.fn (some c)).modCtx r.fn c (fun y => { y with filling := false })).loseContext r.fn c).startFetch r.fn c) ∧
    (∀ data, leNat ((data.drop 248).take 4) ≠ spillCheck r.fn c (data.take 248) →
      s.readUse tag r (.ok data) = (((s.fnFault 0x0520 deferred r.fn (some c)).modCtx r.fn c (fun y => { y with filling := false })).loseContext r.fn c).startFetch r.fn c)) ∧
  (∀ (tag c msn off blk : Nat) (res : ReadResult) (r : HostRead) (s : State), r.use = .overflow c msn off blk → s.msg? r.fn c msn = none →
    ∃ t : State, s.readUse tag r res = t ∧ blk ∉ (t.fn r.fn).overBlocks ∧ t = { s with fns := t.fns }) ∧
  (∀ (tag c : Nat) (psn : U32) (o : TargetOp) (r : HostRead) (s : State), r.use = .target c psn → s.target? r.fn c psn = some o → r.fault = none →
    (∀ data, isAtomic o.opc = false → s.readUse tag r (.ok data) = (((s.answer o stOk (data.take o.len)).dropTarget o).retryAtomics (etOf r.fn)).ackIfDue r.fn c) ∧
    s.readUse tag r .failed = (((((s.fnFault 0x0240 deferred r.fn (some c)).answer o stRemote []).dropTarget o).rCount (etOf r.fn) 9).retryAtomics
      (etOf r.fn)).ackIfDue r.fn c) ∧
  (∀ (tag c num : Nat) (idx : U32) (data : List Byte) (e : Entry) (r : HostRead) (s : State), r.use = .operand c idx → s.entry? r.fn c idx = some e →
    e.op = some num → e.open = true →
    s.readUse tag r (.ok data) = s.contribute (wTree e.words.toNat) r.fn num stOk e.words.toNat (data.take (wLength e.words.toNat))) ∧
  (∀ (tag : Nat) (res : ReadResult) (s : State), Tbl.get? s.reads tag = none →
    exec (.hostReadComplete tag res) s = .next s ∧ exec (.entryFetchDone tag res) s = .next s ∧ exec (.walkStep tag res) s = .next s ∧
    exec (.contextFill tag res) s = .next s ∧ exec (.overflowReadDone tag res) s = .next s ∧
    exec (.targetReadDone tag res) s = .next s ∧ exec (.collOperandReady tag res) s = .next s)

/-- One table entry read for a walk: V 0 ends the walk with NOT_VALID, a level-4 leaf and a misaligned leaf with FORMAT, a pointer into a forbidden region with REGION; a leaf the access may use is cached and serves what waited, one it may not use is not cached and ends the walk with the leaf's fault; the result of a walk that an invalidation overlapped is dropped and what waited walks again; another pointer, of a walk not overlapped or overlapped, makes the walk read the 8-byte entry of the next level's index in the next table, at once where the tile's 64 walks and the port's requests have room and later where they have not. WALK_STEP on the table read of a walk in flight drops the read, takes the walk out, and goes on with the entry read, or ends the walk with WALK_ABORT BUS when the read failed. The model's own choices that it rests on, with no rule behind them: log entries 26, 27, 28. (03 R66, 03 R67, 03 R68, 03 R72, 03 R73, 03 R74, 03 R78, 03 R84.) -/
def Obligations.WalkEntries : Prop :=
  (∀ (w : Walk) (e : Nat) (s : State),
    (pteValid e = false → s.walkEntry w e = s.endWalk w (fun _ _ => .fault 0x0710 w.level)) ∧
    (pteValid e = true → w.level = 4 → pteLeaf e = true → s.walkEntry w e = s.endWalk w (fun _ _ => .fault 0x0740 4)) ∧
    (pteValid e = true → (w.level = 2 ∨ w.level = 3) → pteLeaf e = true → pteAddr e % 2 ^ levelShift w.level ≠ 0 →
      s.walkEntry w e = s.endWalk w (fun _ _ => .fault 0x0740 w.level)) ∧
    (pteValid e = true → (w.level = 1 ∨ (w.level = 2 ∨ w.level = 3) ∧ pteLeaf e = true) → pteAddr e % 2 ^ levelShift w.level = 0 →
      (w.stale = false → w.since = [] →
        ((∃ b, s.leafBy w.excl w.fn w.va w.level w.kind (leafOf w.fn w.va w.level e) = .ok b) →
          s.walkEntry w e = (s.cacheLeaf (leafOf w.fn w.va w.level e)).endWalk w
            (fun a k => (s.cacheLeaf (leafOf w.fn w.va w.level e)).leafBy w.excl w.fn a w.level k (leafOf w.fn w.va w.level e))) ∧
        ((∃ code, s.leafBy w.excl w.fn w.va w.level w.kind (leafOf w.fn w.va w.level e) = .fault code w.level) →
          s.walkEntry w e = ((s.holdLeaf ((leafOf w.fn w.va w.level e).page w.va)).endWalk w
            (fun a k => s.leafBy w.excl w.fn a w.level k (leafOf w.fn w.va w.level e))).freeLeaf ((leafOf w.fn w.va w.level e).page w.va))) ∧
      (w.stale = true → s.walkEntry w e = s.endWalk w (fun _ _ => .miss))) ∧
    (pteValid e = true → (w.level = 2 ∨ w.level = 3 ∨ w.level = 4) → pteLeaf e = false → s.forbiddenBy w.excl (etOf w.fn) (pteAddr e) = true →
      s.walkEntry w e = s.endWalk w (fun _ _ => .fault 0x0762 (w.level - 1))) ∧
    (pteValid e = true → (w.level = 2 ∨ w.level = 3 ∨ w.level = 4) → pteLeaf e = false → s.forbiddenBy w.excl (etOf w.fn) (pteAddr e) = false →
      (w.stale = false → w.since = [] → s.walkEntry w e =
        (s.cachePtr { fn := w.fn, base := w.va, level := w.level - 1, table := pteAddr e }).issueTable
          { w with level := w.level - 1, table := pteAddr e, tag := none }) ∧
      (w.stale = true → s.walkEntry w e = s.issueTable { w with level := w.level - 1, table := pteAddr e, tag := none }))) ∧
  (∀ (w : Walk) (s : State),
    (s.walksIn (etOf w.fn) < 64 → s.readRoom (etOf w.fn) 1 = true →
      ∃ (t : State) (r : HostRead), s.issueTable w = t ∧ t.nextTag = s.nextTag + 1 ∧ Tbl.get? t.reads s.nextTag = some r ∧
        r.hp = etOf w.fn ∧ r.fn = w.fn ∧ r.addr = w.table + 8 * bf w.va (levelShift w.level) 9 ∧ r.len = 8 ∧ r.use = .table ∧
        r.pieces = some [(w.table + 8 * bf w.va (levelShift w.level) 9, 8)] ∧
        t.walks = s.walks ++ [{ w with tag := some s.nextTag }] ∧
        t = { s with nextTag := t.nextTag, reads := t.reads, walks := t.walks, out := t.out, hosts := t.hosts }) ∧
    ((64 ≤ s.walksIn (etOf w.fn) ∨ s.readRoom (etOf w.fn) 1 = false) → s.issueTable w = { s with walks := s.walks ++ [{ w with tag := none }] })) ∧
  (∀ (tag : Nat) (r : HostRead) (w : Walk) (s : State), Tbl.get? s.reads tag = some r → r.use = .table → r.dead = false → r.fault = none →
    r.pieces.isSome = true → s.walks.find? (fun w => w.tag == some tag) = some w →
    ∃ u : State, u.walks = s.walks.erase w ∧ Tbl.get? u.reads tag = none ∧ u = { s with reads := u.reads, fns := u.fns, walks := u.walks } ∧
      (∀ data, exec (.walkStep tag (.ok data)) s = .next ((u.walkEntry w (leNat (data.take 8))).retryReads r.hp)) ∧
      exec (.walkStep tag .failed) s = .next ((u.endWalk w (fun _ _ => .fault 0x0761 w.level)).retryReads r.hp))

/-- A read needs R, a write W, an atomic at its target both, and all need U; a missing right is RIGHTS before USER; an instruction fetch in a function's domain is USER; an address in a BAR0 of the port that decodes or in an enabled HOST_WALK_EXCL range is TARGET; otherwise the bus address is the leaf's page with the address's offset in it. A function without tables uses its addresses as bus addresses, an enabled domain refuses bits [63:48] that are not 0 with FORMAT, and neither allows an instruction fetch. The model's own choices that it rests on, with no rule behind them: log entries 32, 132. (03 R64, 03 R66, 03 R69, 03 R70, 03 R71.) -/
def Obligations.LeafRights : Prop :=
  (∀ (f va level : Nat) (k : AccKind) (l : Leaf) (s : State),
    (k ≠ .fetch → ((k = .read ∨ k = .atomic) → l.r = true) → ((k = .write ∨ k = .atomic) → l.w = true) → l.u = true →
      s.leafAccess f va level k l = (if s.forbidden (etOf f) (l.out + va % 2 ^ l.log2) then .fault 0x0750 level
        else .ok (l.out + va % 2 ^ l.log2))) ∧
    (k ≠ .fetch → ((k = .read ∨ k = .atomic) ∧ l.r = false ∨ (k = .write ∨ k = .atomic) ∧ l.w = false) →
      s.leafAccess f va level k l = .fault 0x0720 level) ∧
    (((k = .read ∨ k = .atomic) → l.r = true) → ((k = .write ∨ k = .atomic) → l.w = true) → l.u = false →
      s.leafAccess f va level k l = .fault 0x0730 level) ∧
    s.leafAccess f va level .fetch l = .fault 0x0730 level) ∧
  (∀ (hp a : Nat) (s : State), s.forbidden hp a = true ↔
    (∃ e ∈ s.fns, etOf e.1 = hp ∧ e.2.memOn = true ∧ e.2.bar0 ≤ a ∧ a < e.2.bar0 + 2 ^ 25) ∨
    (∃ k, k < 8 ∧ inExcl (s.cfg 0x2019 (8 * hp + k + 1)) a = true)) ∧
  (∀ (f va : Nat) (k : AccKind) (s : State), k ≠ .fetch → bitAt (s.cfg 0x2017 f) 0 = false → s.lookup f va k = .ok va) ∧
  (∀ (f va : Nat) (k : AccKind) (s : State), k ≠ .fetch → bitAt (s.cfg 0x2017 f) 0 = true → 2 ^ 48 ≤ va → s.lookup f va k = .fault 0x0740 0) ∧
  (∀ (f va : Nat) (s : State), s.lookup f va .fetch = .fault 0x0730 0)

/-- INVALIDATION_COMPLETE on a function whose oldest request waits for no read and no walk takes the request out, queues its TOKEN, lowest byte first, at its completion address within one page, and retries what waited on a fault; while it waits, or with no request, nothing happens. The model's own choices that it rests on, with no rule behind them: log entry 29. (03 R75, 03 R83, 03 R84, 03 R85.) -/
def Obligations.InvalidationsComplete : Prop :=
  (∀ (f : Nat) (v : Inval) (rest : List Inval) (s : State), (s.fn f).invals = v :: rest → v.reads = [] → v.walks = [] →
    v.compl % 4096 ≤ 4092 →
    ∃ u : State, exec (.invalidationComplete f) s = .next ((u.flushWrites f).retryFaulted f) ∧
      u.fn f = { s.fn f with invals := rest, writes := (s.fn f).writes ++ [{ addr := v.compl, bytes := natLe 4 v.token, use := .bus }] } ∧
      (∀ g, g ≠ f → u.fn g = s.fn g) ∧ u = { s with fns := u.fns }) ∧
  (∀ (f : Nat) (v : Inval) (rest : List Inval) (s : State), (s.fn f).invals = v :: rest → (v.reads ≠ [] ∨ v.walks ≠ []) →
    exec (.invalidationComplete f) s = .next s) ∧
  (∀ (f : Nat) (s : State), (s.fn f).invals = [] → exec (.invalidationComplete f) s = .next s)

/-- ACU_ACCESS by a host whose function is present, by master 11 or 12, or by another on-die master while the privileged domain is not enabled, on no function's behalf: it is performed exactly when its first byte lies in an enabled region whose mask has the master's bit and whose end the access does not pass. A performed read of management SRAM or the staging buffer answers OK with the bytes there, a performed write stores its bytes there and no other byte of it changes, a host's write has no answer, and the access is in flight for at most 4 us. Otherwise it is refused with NO_REGION, STRADDLE or DENIED: ACU_DENIED counts one, ACU_LAST_DENIED holds its words, only a master other than a host raises a DEFERRED record, a host's read answers zeros, its write nothing, master 10's access BOUNDS and a cluster's a bus error. The model's own choices that it rests on, with no rule behind them: log entries 34, 137. (04 R88, 04 R89, 04 R91, 04 R92, 04 R93.) -/
def Obligations.AccessControl : Prop :=
  (∀ (who : SemMaster) (a len : Nat) (k : AccKind) (data : List Byte) (s : State),
    (match who with | .host _ => s.semOpen who = true | .die m => 11 ≤ m ∨ bitAt (s.cfg 0x2018 1) 0 = false) →
    (∀ (g : Region), s.acu.regions.find? (fun g => g.holds a) = some g → g.holds (a + (len - 1)) = true →
      (k = .read → bitAt g.rmask.toNat (semId who) = true → inSram a = true → inSram (a + (len - 1)) = true →
        ∃ (t : State) (x : Flying), exec (.acuAccess who a len { kind := k, data := data }) s = .next t ∧
          t.out = s.out ++ [.accessResp who stOk ((List.range len).map (fun i => s.internalByte (a + i)))] ∧
          t.acu.flying = s.acu.flying ++ [x] ∧ x.master = semId who ∧ x.addr = a ∧ s.now ≤ x.fin ∧ x.fin ≤ s.now + 4000 ∧
          t = { s with acu := { s.acu with flying := t.acu.flying }, out := t.out, free := t.free }) ∧
      (k = .write → bitAt g.wmask.toNat (semId who) = true → inSram a = true → data.length = len →
        ∃ (t : State) (x : Flying), exec (.acuAccess who a len { kind := k, data := data }) s = .next t ∧
          (∀ i, i < len → some (t.sramByte (a + i)) = data[i]?) ∧ (∀ b, (b < a ∨ a + len ≤ b) → t.sramByte b = s.sramByte b) ∧
          t.out = s.out ++ (match who with | .host _ => [] | .die _ => [.accessResp who stOk []]) ∧
          t.acu.flying = s.acu.flying ++ [x] ∧ x.master = semId who ∧ x.addr = a ∧ x.fin ≤ s.now + 4000 ∧
          t = { s with acu := { s.acu with flying := t.acu.flying }, out := t.out, free := t.free,
                       priv := { s.priv with sram := t.priv.sram, bad := t.priv.bad } })) ∧
    (∀ (code : Nat),
      ((s.acu.regions.find? (fun g => g.holds a) = none ∧ code = 0x0310) ∨
        (∃ g, s.acu.regions.find? (fun g => g.holds a) = some g ∧ g.holds (a + (len - 1)) = false ∧ code = 0x0330) ∨
        (∃ g, s.acu.regions.find? (fun g => g.holds a) = some g ∧ g.holds (a + (len - 1)) = true ∧
          bitAt (if k = .write then g.wmask.toNat else g.rmask.toNat) (semId who) = false ∧ code = 0x0320)) →
      ∃ t : State, exec (.acuAccess who a len { kind := k, data := data }) s = .next t ∧
        t.acu.denied = s.acu.denied + 1 ∧ t.acu.lastDenied = deniedWord (semId who) a len (k == .write) code ∧
        t.out = s.out ++ (match who with
          | .host _ => if k = .write then [] else [.accessResp who stOk (List.replicate len 0)]
          | .die m => if m = 10 then [.accessResp who stBounds []] else if m ≤ 9 then [.accessResp who stBusError []] else []) ∧
        (semId who ≤ 7 → t.faults = s.faults) ∧
        (7 < semId who → ∃ f : FaultReport, t.faults.coming = s.faults.coming ++ [f] ∧ f.code = code ∧ f.cls = deferred) ∧
        t = { s with acu := { s.acu with denied := t.acu.denied, lastDenied := t.acu.lastDenied }, out := t.out,
                     faults := { s.faults with coming := t.faults.coming } })) ∧
  (∀ (m a len code : Nat) (k : AccKind) (data : List Byte) (s u : State), m < 11 → bitAt (s.cfg 0x2018 1) 0 = true →
    s.privAll m k (pagePieces a len) = (u, .error code) →
    ∃ t : State, exec (.acuAccess (.die m) a len { kind := k, data := data }) s = .next t ∧ t = u.privFaulted m code k)

/-- On an open unit whose rules allow the access: ACQUIRE and TRY on an enabled semaphore with a unit free, no waiter and room in the hold table take one unit and answer GRANTED with ABANDONED as it stood, which they clear; on a disabled semaphore they answer REFUSED; with no unit free or a waiter TRY answers zero with AVAILABLE, and with no unit free an ACQUIRE within the limits, whose port lets it wait and whose priority no holder's is below, waits last, a host's for the port's bound; STATUS answers the status word; RELEASE by a master that holds none counts in SEM_BAD_RELEASES and writes 0x0350; RELEASE by a holder of several units of a semaphore with no waiter returns one; an expired host waiter leaves with TIMEOUT. No other semaphore changes. The model's own choices that it rests on, with no rule behind them: log entries 3, 135. (04 R96, 04 R97, 04 R98, 04 R99, 04 R100, 04 R102, 04 R105.) -/
def Obligations.SemaphoreCommands : Prop :=
  (∀ (who : SemMaster) (n p p' : Nat) (s : State), s.semOpen who = true →
    (p' = match who with | .host f => s.cfg 0x2024 f | .die _ => p % 4) →
    s.acuCheck (semId who) (semAddr n + 4 * p') 4 false = none →
    ((s.sem n).enable = true → who ≠ .die 11 → who ≠ .die 12 → 0 < (s.sem n).avail → (s.sem n).waiters = [] → s.holdUse < 4096 →
      ∃ t : State, exec (.semAcquire who n p) s = .next t ∧
        t.out = s.out ++ [.semWord who n (semResult true (s.sem n).abandoned false false ((s.sem n).avail - 1))] ∧
        (t.sem n).avail = (s.sem n).avail - 1 ∧ (t.sem n).abandoned = false ∧ (t.sem n).waiters = [] ∧
        (t.sem n).holds.any (fun h => h.who == who) = true ∧ (∀ k, k ≠ n → t.sem k = s.sem k) ∧
        t = { s with sems := t.sems, out := t.out, ctrs := t.ctrs }) ∧
    ((s.sem n).enable = false →
      ∃ t : State, exec (.semAcquire who n p) s = .next t ∧
        t.out = s.out ++ [.semWord who n (semResult false false true false (s.sem n).avail)] ∧ t = { s with out := t.out }) ∧
    ((s.sem n).enable = true → who ≠ .die 11 → who ≠ .die 12 → (s.sem n).avail = 0 → s.waitLimit who = false →
      (∀ f, who = .host f → s.cfg 0x2023 (etOf f + 1) ≠ 0) → (∀ h ∈ (s.sem n).holds, p' ≤ h.eff) →
      ∃ t : State, exec (.semAcquire who n p) s = .next t ∧
        (t.sem n).waiters = (s.sem n).waiters ++ [{ who := who, prio := p', ticket := s.nextTicket, at_ := s.now, bound := (match who with | .host f => some (s.cfg 0x2023 (etOf f + 1) * 1000) | .die _ => none) }] ∧
        t.nextTicket = s.nextTicket + 1 ∧ (∀ k, k ≠ n → t.sem k = s.sem k) ∧
        t = { s with sems := t.sems, nextTicket := t.nextTicket })) ∧
  (∀ (who : SemMaster) (n : Nat) (s : State), s.semOpen who = true → s.acuCheck (semId who) (semAddr n + 0x10) 4 false = none →
    ((s.sem n).enable = true → who ≠ .die 11 → who ≠ .die 12 → 0 < (s.sem n).avail → (s.sem n).waiters = [] → s.holdUse < 4096 →
      ∃ t : State, exec (.semTry who n) s = .next t ∧
        t.out = s.out ++ [.semWord who n (semResult true (s.sem n).abandoned false false ((s.sem n).avail - 1))] ∧
        (t.sem n).avail = (s.sem n).avail - 1 ∧ (t.sem n).abandoned = false ∧ (t.sem n).waiters = [] ∧
        (t.sem n).holds.any (fun h => h.who == who) = true ∧ (∀ k, k ≠ n → t.sem k = s.sem k) ∧
        t = { s with sems := t.sems, out := t.out, ctrs := t.ctrs }) ∧
    ((s.sem n).enable = false →
      ∃ t : State, exec (.semTry who n) s = .next t ∧
        t.out = s.out ++ [.semWord who n (semResult false false true false (s.sem n).avail)] ∧ t = { s with out := t.out }) ∧
    ((s.sem n).enable = true → who ≠ .die 11 → who ≠ .die 12 → ((s.sem n).avail = 0 ∨ (s.sem n).waiters ≠ []) →
      ∃ t : State, exec (.semTry who n) s = .next t ∧
        t.out = s.out ++ [.semWord who n (semResult false false false false (s.sem n).avail)] ∧ t = { s with out := t.out })) ∧
  (∀ (who : SemMaster) (n : Nat) (s : State), s.semOpen who = true → s.acuCheck (semId who) (semAddr n + 0x30) 4 false = none →
    ∃ t : State, exec (.semStatus who n) s = .next t ∧ t.out = s.out ++ [.semWord who n (s.sem n).status] ∧ t = { s with out := t.out }) ∧
  (∀ (who : SemMaster) (n : Nat) (s : State), s.semOpen who = true → s.acuCheck (semId who) (semAddr n + 0x20) 4 true = none →
    ((∀ h ∈ (s.sem n).holds, h.who ≠ who) →
      ∃ t : State, exec (.semRelease who n) s = .next t ∧ t.acu.badReleases = satAdd 32 s.acu.badReleases 1 ∧
        t.acu.lastDenied = deniedWord (semId who) (semAddr n + 0x20) 4 true 0x0350 ∧
        t = { s with acu := { s.acu with badReleases := t.acu.badReleases, lastDenied := t.acu.lastDenied } }) ∧
    (∀ (c e : Nat), (s.sem n).holds = [{ who := who, count := c, eff := e }] → 2 ≤ c → (s.sem n).waiters = [] →
      ∃ t : State, exec (.semRelease who n) s = .next t ∧ (t.sem n).avail = (s.sem n).avail + 1 ∧
        (t.sem n).holds = [{ who := who, count := c - 1, eff := e }] ∧ (∀ k, k ≠ n → t.sem k = s.sem k) ∧
        t = { s with sems := t.sems })) ∧
  (∀ (n k b : Nat) (w : Waiter) (s : State), (s.sem n).waiters.find? (fun w => w.ticket == k) = some w → w.bound = some b →
    w.at_ + b ≤ s.now →
    ∃ t : State, exec (.semWaitTimeout n k) s = .next t ∧
      t.out = s.out ++ [.semWord w.who n (semResult false false false true (s.sem n).avail)] ∧
      (t.sem n).waiters = (s.sem n).waiters.filter (fun v => v.ticket != k) ∧ (∀ j, j ≠ n → t.sem j = s.sem j) ∧
      t = { s with sems := t.sems, out := t.out })

/-- Where each holder has one entry with a positive count, a RELEASE by a holder, with no acquire waiting, and an ACQUIRE granted on arrival leave the sum of AVAILABLE and the units held as it was, and each holder still has one entry with a positive count. The model's own choices that it rests on, with no rule behind them: log entry 5. (04 R96, 04 R100.) -/
def Obligations.SemaphoreUnitsConserved : Prop :=
  ∀ (who : SemMaster) (n p : Nat) (s : State), s.semOpen who = true → (s.sem n).waiters = [] →
    ((s.sem n).holds.map (·.who)).Nodup → (∀ h ∈ (s.sem n).holds, 0 < h.count) →
    (s.acuCheck (semId who) (semAddr n + 0x20) 4 true = none → (s.sem n).holds.any (fun h => h.who == who) = true →
      ∃ t : State, exec (.semRelease who n) s = .next t ∧
        (t.sem n).avail + ((t.sem n).holds.map (·.count)).sum = (s.sem n).avail + ((s.sem n).holds.map (·.count)).sum ∧
        (t.sem n).avail = (s.sem n).avail + 1 ∧
        ((t.sem n).holds.map (·.who)).Nodup ∧ (∀ h ∈ (t.sem n).holds, 0 < h.count)) ∧
    (s.acuCheck (semId who) (semAddr n + 4 * (match who with | .host f => s.cfg 0x2024 f | .die _ => p % 4)) 4 false = none →
      (s.sem n).enable = true → who ≠ .die 11 → who ≠ .die 12 → 0 < (s.sem n).avail → s.holdUse < 4096 →
      ∃ t : State, exec (.semAcquire who n p) s = .next t ∧
        (t.sem n).avail + ((t.sem n).holds.map (·.count)).sum = (s.sem n).avail + ((s.sem n).holds.map (·.count)).sum ∧
        ((t.sem n).holds.map (·.who)).Nodup ∧ (∀ h ∈ (t.sem n).holds, 0 < h.count))

/-- SIGNAL_DETECT takes a port that brings up, with its transmitters on, from stage 1 to 2. A stage's end takes 2 to 3 once its pattern has run for 50 ms, or on an exit from DEEP 1 ms from the exit's start, and not before, 3 to 4 with the lanes' polarity found and all in block lock, 4 to 5 once every lane has seen 4 good codewords, and not before, 5 with one PORT in all lanes, a straight or reversed lane order and a skew of at most 96 ns to 6 with the order found, 6 once the peer's STAGE is 6 to 7 with polarity and order committed, and 8 with the port time-locked to 9, while stage 7 ends by no such event; lanes that disagree in PORT, and a peer before stage 6, let stages 5 and 6 go on. A link-exchange word 3 with ACK after two identical sets takes stage 7 to 8; two identical sets that pass the check are noted with the peer; stage 8's limit brings the port up too. A stage 2 to 7 past its limit of R116, a wrong lane order or too much skew in stage 5 is a failed attempt: outside an exit from a low-power state it gives stage 1, transmitters off from now, one more consecutive failure, and, from LINK_TRAIN_ATTEMPTS on, one DEFERRED record. TRAIN_SILENCE_END turns the transmitters on after 10 ms, or 1 s once LINK_TRAIN_ATTEMPTS have failed; loss of signal returns a port in stages 2 to 8 of a bring-up to stage 1 without counting a failure; a peer of another version or role is held at stage 7 with FATAL_PORT 0x0420. The model's own choices that it rests on, with no rule behind them: log entries 4, 49, 139, 153. (05 R116, 05 R117, 05 R118, 05 R119, 05 R138, 01 R30.) -/
def Obligations.BringUp : Prop :=
  ((∀ (p : Nat) (s : State), (s.link p).stage = 1 → (s.link p).silentAt = none → s.bringsUp = true →
    ∃ t : State, exec (.signalDetect p) s = .next t ∧
      t.link p = { s.link p with stage := 2, stageAt := s.now, active := 0xF,
                                 lanes := (s.link p).lanes.mapIdx (fun i (x : Lane) => { x with txEq := s.cfg 0x300B (4 * p + i) }) } ∧
      (∀ q, q ≠ p → t.link q = s.link q) ∧ t = { s with links := t.links }) ∧
  (∀ (p : Nat) (x : StageInfo) (s : State),
    ((s.link p).stage = 2 →
      ((if (s.link p).lps = 5 then (s.link p).lpsExitAt.getD (s.link p).stageAt + 1000000 else (s.link p).stageAt + 50000000) ≤ s.now →
        ∃ t : State, exec (.bringupStageEnd p x) s = .next t ∧ t.link p = { s.link p with stage := 3, stageAt := s.now, active := 0xF, cwSeq := 0 } ∧
          (∀ q, q ≠ p → t.link q = s.link q) ∧ t = { s with links := t.links }) ∧
      (s.now < (if (s.link p).lps = 5 then (s.link p).lpsExitAt.getD (s.link p).stageAt + 1000000 else (s.link p).stageAt + 50000000) →
        exec (.bringupStageEnd p x) s = .next s)) ∧
    ((s.link p).stage = 3 → ∃ t : State, exec (.bringupStageEnd p x) s = .next t ∧
      t.link p = { s.link p with stage := 4, stageAt := s.now, foundInv := x.inverted, rxLock := 0xF,
                                 lanes := (s.link p).lanes.map (fun y => { y with badRun := 0, goodRun := 0 }) } ∧
      (∀ q, q ≠ p → t.link q = s.link q) ∧ t = { s with links := t.links }) ∧
    ((s.link p).stage = 4 →
      ((∀ y ∈ (s.link p).lanes, 4 ≤ y.goodRun) → ∃ t : State, exec (.bringupStageEnd p x) s = .next t ∧
        t.link p = { s.link p with stage := 5, stageAt := s.now } ∧ (∀ q, q ≠ p → t.link q = s.link q) ∧ t = { s with links := t.links }) ∧
      ((∃ y ∈ (s.link p).lanes, y.goodRun < 4) → exec (.bringupStageEnd p x) s = .next s)) ∧
    ((s.link p).stage = 5 → (x.lanes = [0, 1, 2, 3] ∨ x.lanes = [3, 2, 1, 0]) → x.skew ≤ 96 →
      ((∀ a ∈ x.ports, ∀ b ∈ x.ports, a = b) → ∃ t : State, exec (.bringupStageEnd p x) s = .next t ∧
        t.link p = { s.link p with stage := 6, stageAt := s.now, foundRev := decide (x.lanes = [3, 2, 1, 0]) } ∧
        (∀ q, q ≠ p → t.link q = s.link q) ∧ t = { s with links := t.links, tports := t.tports }) ∧
      ((∃ a ∈ x.ports, ∃ b ∈ x.ports, a ≠ b) → exec (.bringupStageEnd p x) s = .next s)) ∧
    ((s.link p).stage = 6 → (s.link p).lps ≠ 5 →
      (6 ≤ (s.link p).peerStage → ∃ t : State, exec (.bringupStageEnd p x) s = .next t ∧
        t.link p = { s.link p with stage := 7, stageAt := s.now, inverted := (s.link p).foundInv, reversed := (s.link p).foundRev,
                                   lxCur := [], lxPrev := [], lxSame := false } ∧
        (∀ q, q ≠ p → t.link q = s.link q) ∧ t = { s with links := t.links, out := t.out }) ∧
      ((s.link p).peerStage < 6 → exec (.bringupStageEnd p x) s = .next s)) ∧
    ((s.link p).stage = 7 → exec (.bringupStageEnd p x) s = .next s) ∧
    ((s.link p).stage = 8 → (s.tport p).locked = true → exec (.bringupStageEnd p x) s = .next (s.portComesUp p))) ∧
  (∀ (p : Nat) (s : State), (s.link p).stage = 8 → (s.link p).stageAt + (s.link p).timeWait * 1000 ≤ s.now →
    exec (.bringupStageTimeout p) s = .next (s.portComesUp p)) ∧
  (∀ (p : Nat) (s : State), (s.portComesUp p).portUp p = true ∧ ((s.portComesUp p).link p).active = 0xF ∧
    ((s.portComesUp p).link p).attempts = 0 ∧ ((s.portComesUp p).link p).xoffPeer = 0) ∧
  (∀ (p : Nat) (v : BitVec 48) (s : State), (s.link p).stage = 7 → (s.link p).miscabled = false → (s.link p).lxSame = true →
    v.getLsbD 0 = true →
    ∃ t : State, exec (.lxWordRx p 3 v) s = .next t ∧ t.link p = { s.link p with stage := 8, stageAt := s.now, timeWait := s.cfg 0x3006 1 } ∧
      (∀ q, q ≠ p → t.link q = s.link q) ∧ t = { s with links := t.links }) ∧
  (∀ (p : Nat) (a b c : BitVec 48) (f m : Bool) (s : State), (s.link p).stage = 7 → (s.link p).miscabled = false →
    (s.link p).lxSame = false → (s.link p).lxCur = [a, b] → (s.link p).lxPrev = [a, b, c] → bf b.toNat 8 8 = 1 →
    s.peerCheck p a.toNat = some (f, m) →
    ∃ t : State, exec (.lxWordRx p 2 c) s = .next t ∧ (t.link p).lxSame = true ∧ (t.link p).stage = 7 ∧ (t.link p).flatOnly = f ∧
      (t.link p).mgmtOnly = m ∧ (t.link p).peer = bf a.toNat 0 38 + bf b.toNat 0 6 * 2 ^ 38 ∧
      t = { s with links := t.links, out := t.out })) ∧
  ((∀ (l : Link), (l.stage = 2 → l.stageLimit = 100000000) ∧ (l.stage = 3 ∨ l.stage = 4 ∨ l.stage = 5 ∨ l.stage = 7 → l.stageLimit = 1000000) ∧
    (l.stage = 6 → l.stageLimit = 100000)) ∧
  (∀ (p : Nat) (s : State), 2 ≤ (s.link p).stage → (s.link p).stage ≤ 7 → (s.link p).stageAt + (s.link p).stageLimit ≤ s.now →
    (s.link p).miscabled = false → exec (.bringupStageTimeout p) s = .next (s.failAttempt p (0x0410 + (s.link p).stage))) ∧
  (∀ (p : Nat) (x : StageInfo) (s : State), (s.link p).stage = 5 →
    (x.lanes ≠ [0, 1, 2, 3] → x.lanes ≠ [3, 2, 1, 0] → exec (.bringupStageEnd p x) s = .next (s.failAttempt p 0x0430)) ∧
    ((x.lanes = [0, 1, 2, 3] ∨ x.lanes = [3, 2, 1, 0]) → 96 < x.skew → exec (.bringupStageEnd p x) s = .next (s.failAttempt p 0x0440))) ∧
  (∀ (p code : Nat) (s : State), (s.link p).lps ≠ 5 → ∃ u : State, s.failAttempt p code = u.timeUnlock p ∧ (u.link p).stage = 1 ∧ (u.link p).stageAt = s.now ∧
    (u.link p).silentAt = some s.now ∧ (u.link p).attempts = (s.link p).attempts + 1 ∧ (u.link p).rx = none ∧
    (∀ q, q ≠ p → u.link q = s.link q) ∧ u = { s with links := u.links, faults := { s.faults with coming := u.faults.coming } } ∧
    ((s.link p).attempts + 1 < s.cfg 0x3007 1 → u.faults = s.faults) ∧
    (s.cfg 0x3007 1 ≤ (s.link p).attempts + 1 → (s.link p).failRec = false →
      u.faults.coming = s.faults.coming ++ [{ code := code, cls := deferred, tile := ptOf p, unit := p % 8 }])) ∧
  (∀ (p a : Nat) (s : State), (s.link p).silentAt = some a →
    a + (if s.cfg 0x3007 1 ≤ (s.link p).attempts then 1000000000 else 10000000) ≤ s.now →
    ∃ t : State, exec (.trainSilenceEnd p) s = .next t ∧ t.link p = { s.link p with silentAt := none } ∧
      (∀ q, q ≠ p → t.link q = s.link q) ∧ t = { s with links := t.links }) ∧
  (∀ (p : Nat) (s : State), 2 ≤ (s.link p).stage → (s.link p).stage ≤ 8 → (s.link p).lps ≠ 5 →
    ∃ u : State, exec (.lossOfSignal p) s = .next (u.timeUnlock p) ∧
      u.link p = { (s.link p).unmapped with stage := 1, stageAt := s.now, miscabled := false, lps := 0 } ∧
      (u.link p).attempts = (s.link p).attempts ∧
      (∀ q, q ≠ p → u.link q = s.link q) ∧ u = { s with links := u.links }) ∧
  (∀ (p : Nat) (a b c : BitVec 48) (s : State), (s.link p).stage = 7 → (s.link p).miscabled = false →
    (s.link p).lxSame = false → (s.link p).lxCur = [a, b] → (s.link p).lxPrev = [a, b, c] →
    (bf b.toNat 8 8 ≠ 1 ∨ s.peerCheck p a.toNat = none) →
    ∃ t : State, exec (.lxWordRx p 2 c) s = .next t ∧ (t.link p).miscabled = true ∧ (t.link p).stage = 7 ∧ (t.link p).lxSame = false ∧
      t.faults.coming = s.faults.coming ++ [{ code := 0x0420, cls := fatalPort, tile := ptOf p, unit := p % 8 }] ∧
      t = { s with links := t.links, faults := { s.faults with coming := t.faults.coming } }))

/-- On a port that receives, SOP_RX of a VC with no policer in force and a sequence number at most 2,047 ahead counts the gap, expects the next one and starts reception; one behind marks the packet old. With no bad block waiting in the stream, a packet that ends stomped is counted STOMP_RX unless a bad block, an old number, a bad VC or too many blocks drops it first; one that ends with such a cause, a wrong CRC or no room on its VC is dropped and counted once in that order; one that passes, on a VC that the mode carries, waits at its port on its VC with the instant of its SOP, one on a VC that the mode does not carry is counted as such and gone. No other link changes. The model's own choices that it rests on, with no rule behind them: log entries 35, 37. (05 R121, 05 R122, 05 R123, 05 R137, 06 R156, 13 R332.) -/
def Obligations.PacketReception : Prop :=
  (∀ (p lseq vc : Nat) (s : State), s.rxOn p = true → (s.link p).rx = none →
    ((lseq + 4096 - (s.link p).rxSeq.toNat) % 4096 ≤ 2047 →
      (∀ k, policerOf vc = some k → bitAt (bf (s.cfg 0xD021 (p + 1)) (64 * k) 64) 0 = false) →
      ∃ t : State, exec (.sopRx p lseq vc) s = .next t ∧ (t.link p).rxSeq = BitVec.ofNat 12 (lseq + 1) ∧
        (t.link p).rx = some { lseq := lseq, vc := vc, at_ := s.now, ft := s.time.ft.toNat } ∧
        (t.link p).counts = bump (s.link p).counts 3 ((lseq + 4096 - (s.link p).rxSeq.toNat) % 4096) ∧
        (∀ q, q ≠ p → t.link q = s.link q) ∧ t = { s with links := t.links }) ∧
    (2047 < (lseq + 4096 - (s.link p).rxSeq.toNat) % 4096 →
      ∃ t : State, exec (.sopRx p lseq vc) s = .next t ∧
        t.link p = { s.link p with rx := some { lseq := lseq, vc := vc, old := true, at_ := s.now, ft := s.time.ft.toNat },
                                   stream := (t.link p).stream } ∧
        (∀ q, q ≠ p → t.link q = s.link q) ∧ t = { s with links := t.links })) ∧
  (∀ (p : Nat) (x : RxPkt) (data : List Byte) (s : State), s.rxOn p = true → (s.link p).rx = some x → Block.bad ∉ (s.link p).stream →
    ∃ t : State, exec (.eopStompRx { p := p, data := data }) s = .next t ∧ (t.link p).rx = none ∧
      (t.link p).counts = bump (s.link p).counts
        (if x.bad then 2 else if x.old then 4 else if 10 ≤ x.vc ∨ 520 < data.length / 8 then 5 else 6) 1 ∧
      (∀ q, q ≠ p → t.link q = s.link q) ∧ t = { s with links := t.links, portqs := t.portqs, free := t.free }) ∧
  (∀ (p k : Nat) (x : RxPkt) (data : List Byte) (crc : BitVec 32) (s : State), s.rxOn p = true → (s.link p).rx = some x →
    Block.bad ∉ (s.link p).stream →
    (x.bad = true ∧ k = 2 ∨ x.bad = false ∧ x.old = true ∧ k = 4 ∨
      x.bad = false ∧ x.old = false ∧ (10 ≤ x.vc ∨ 520 < data.length / 8) ∧ k = 5 ∨
      x.bad = false ∧ x.old = false ∧ x.vc < 10 ∧ data.length / 8 ≤ 520 ∧ linkCrc x.lseq x.vc data ≠ crc.toNat ∧ k = 7 ∨
      x.bad = false ∧ x.old = false ∧ x.vc < 10 ∧ data.length / 8 ≤ 520 ∧ linkCrc x.lseq x.vc data = crc.toNat ∧
        x.policed = false ∧ s.vcLimit p x.vc < nth (s.link p).held x.vc + data.length ∧ k = 8) →
    ∃ t : State, exec (.eopRx p data crc none) s = .next t ∧ (t.link p).rx = none ∧ (t.link p).counts = bump (s.link p).counts k 1 ∧
      (∀ q, q ≠ p → t.link q = s.link q) ∧ t = { s with links := t.links, portqs := t.portqs, free := t.free }) ∧
  (∀ (p : Nat) (x : RxPkt) (data : List Byte) (crc : BitVec 32) (s : State), s.rxOn p = true → (s.link p).rx = some x →
    Block.bad ∉ (s.link p).stream →
    x.bad = false → x.old = false → x.vc < 10 → data.length / 8 ≤ 520 → linkCrc x.lseq x.vc data = crc.toNat → x.policed = false →
    nth (s.link p).held x.vc + data.length ≤ s.vcLimit p x.vc → s.tracing = false →
    ∃ u : State, (u.link p).rx = none ∧ (u.link p).counts = bump (s.link p).counts 1 1 ∧ (∀ q, q ≠ p → u.link q = s.link q) ∧
      u = { s with links := u.links, ctrs := u.ctrs } ∧
      (s.carries x.vc = true → exec (.eopRx p data crc none) s = .next (u.rxPlace p x.vc x.at_ (parsePacket data) data.length)) ∧
      (s.carries x.vc = false → exec (.eopRx p data crc none) s = .next (u.modeDrop (ptOf p)))) ∧
  (∀ (p vc a len : Nat) (k : Packet) (s : State), vc ≠ 6 → vc ≠ 7 →
    ((s.rxPlace p vc a k len).portq p).ingress =
      (s.portq p).ingress ++ [{ pkt := k, vc := vc, ingress := p, arr := a, blocks := len / 8 }])

/-- FC_RX on a receiving port sets the peer's XOFF bitmap; the repeat timer hands the current bitmap to the transmitter again after 25 ns, behind the control blocks that wait; a VC in XOFF past VC_XOFF_LIMIT is recorded once as CORRECTED 0x0470. From stage 4 on and outside low-power states, a codeword on a lane of the straight order counts in the lane's statistics: one that decodes with n corrected symbols in counter n, one that does not decode in counter 16, and no other of the counters 0 to 16. The model's own choices that it rests on, with no rule behind them: log entries 47, 139. (05 R110, 05 R126, 05 R129, 05 R137.) -/
def Obligations.FlowControl : Prop :=
  (∀ (p : Nat) (x : BitVec 10) (s : State), s.rxOn p = true →
    ∃ t : State, exec (.fcRx p x) s = .next t ∧ t.link p = { s.link p with xoffPeer := x } ∧ (∀ q, q ≠ p → t.link q = s.link q) ∧
      t = { s with links := t.links }) ∧
  (∀ (p : Nat) (s : State), s.rxOn p = true → (s.link p).fcAt + 25 ≤ s.now →
    ∃ t : State, exec (.fcRepeatTimer p) s = .next t ∧ t.out = s.out ++ [.fc p (s.link p).xoffSent] ∧
      t.link p = { (s.link p).upToNow s.now with
        fcAt := s.now, txCtl := ((s.link p).upToNow s.now).txCtl ++ [.fc (s.link p).xoffSent] } ∧
      (∀ q, q ≠ p → t.link q = s.link q) ∧ t = { s with links := t.links, out := t.out }) ∧
  (∀ (p v a : Nat) (s : State), (s.link p).xoffAt.getD v none = some a → a + s.cfg 0x300A 1 * 1000 < s.now →
    (s.link p).xoffRec.getD v false = false →
    ∃ t : State, exec (.xoffStuck p v) s = .next t ∧ t.link p = { s.link p with xoffRec := (s.link p).xoffRec.set v true } ∧
      (∀ q, q ≠ p → t.link q = s.link q) ∧
      t.faults.coming = s.faults.coming ++ [{ code := 0x0470, cls := corrected, tile := ptOf p, unit := p % 8, info := v }] ∧
      t = { s with links := t.links, faults := { s.faults with coming := t.faults.coming } }) ∧
  (∀ (p k v : Nat) (msg : BitVec 5140) (par : BitVec 300) (s : State), s.loop p = 0 → 4 ≤ (s.link p).stage → ((s.link p).lps = 0 ∨ 4 ≤ (s.link p).lps) →
    (s.link p).foundRev = false → k < (s.link p).lanes.length → ((s.link p).lanes.getD k {}).fec.length = 19 →
    (∃ n, (rsDecode (if (s.link p).foundInv.getLsbD k then swapPairs (par ++ msg).toNat else (par ++ msg).toNat)).2 = .corrected n ∧ v = min n 15 ∨
      (rsDecode (if (s.link p).foundInv.getLsbD k then swapPairs (par ++ msg).toNat else (par ++ msg).toNat)).2 = .uncorrectable ∧ v = 16) →
    ∃ t : State, exec (.codewordRx p k msg par) s = .next t ∧
      nth ((t.link p).lanes.getD k {}).fec v = satAdd 64 (nth ((s.link p).lanes.getD k {}).fec v) 1 ∧
      (∀ j, j ≤ 16 → j ≠ v → nth ((t.link p).lanes.getD k {}).fec j = nth ((s.link p).lanes.getD k {}).fec j) ∧
      (∀ q, q ≠ p → t.link q = s.link q) ∧ t = { s with links := t.links, ctrs := t.ctrs })

/-- On an up port in no low-power state: the loss of a lane in lock after 4 bad codewords takes it out of RX_LOCK and counts it, under its receive lane, and leaves RX_USABLE and ACTIVE; relock after the rerun of its stages puts it back in RX_LOCK; LANE_FAIL_TIME out of lock takes it out of RX_USABLE, and 100 ms in lock puts it back; the peer's marker is noted and chooses the widest ACTIVE of 4, 2 or 1 usable lanes not below PORT_MIN_WIDTH, else PORT_MIN_WIDTH locked lanes, none where too few are in both, and a narrower ACTIVE raises DEFERRED 0x0450; a link narrower than PORT_MIN_WIDTH for LINK_DOWN_TIME goes down: stage 1, its transmitters off from now, and FATAL_PORT 0x0460 recorded. The model's own choices that it rests on, with no rule behind them: log entries 44, 49, 139, 141. (05 R130, 05 R131, 05 R132.) -/
def Obligations.LanesAndLinkDown : Prop :=
  (∀ (p k : Nat) (s : State), k < 4 → s.portUp p = true → (s.link p).lps = 0 → (s.link p).rxLock.getLsbD k = true →
    4 ≤ ((s.link p).lanes.getD k {}).badRun →
    ∃ t : State, exec (.laneLockLoss p k) s = .next t ∧
      (∀ j, j < 4 → (t.link p).rxLock.getLsbD j = (decide (j ≠ k) && (s.link p).rxLock.getLsbD j)) ∧
      ((s.link p).foundRev = false → k < (s.link p).lanes.length → (t.link p).lanes.getD k {} =
        { (s.link p).lanes.getD k {} with lostAt := some s.now, fec := bump ((s.link p).lanes.getD k {}).fec 18 1, badRun := 0, goodRun := 0,
                                          synced := false }) ∧
      ((s.link p).foundRev = true → (s.link p).lanes.length = 4 →
        (t.link p).lanes.getD k {} = { (s.link p).lanes.getD k {} with lostAt := some s.now, badRun := 0, goodRun := 0, synced := false } ∧
        (t.link p).lanes.getD (3 - k) {} =
          { (s.link p).lanes.getD (3 - k) {} with fec := bump ((s.link p).lanes.getD (3 - k) {}).fec 18 1 }) ∧
      (t.link p).rxUsable = (s.link p).rxUsable ∧ (t.link p).active = (s.link p).active ∧
      (∀ q, q ≠ p → t.link q = s.link q) ∧ t = { s with links := t.links }) ∧
  (∀ (p k : Nat) (s : State), k < 4 → s.portUp p = true → (s.link p).lps = 0 → (s.link p).rxLock.getLsbD k = false →
    (s.link p).relocks k = true → s.narrowOver p = false →
    ∃ t : State, exec (.laneRelock p k) s = .next t ∧
      (∀ j, j < 4 → (t.link p).rxLock.getLsbD j = (decide (j = k) || (s.link p).rxLock.getLsbD j)) ∧
      (∀ q, q ≠ p → t.link q = s.link q) ∧ t = { s with links := t.links }) ∧
  (∀ (p k a : Nat) (s : State), k < 4 → s.portUp p = true → (s.link p).lps = 0 → ((s.link p).lanes.getD k {}).lostAt = some a →
    a + s.cfg 0x3005 1 * 1000 ≤ s.now →
    ∃ t : State, exec (.laneFailTimer p k) s = .next t ∧ t.link p = { s.link p with rxUsable := laneOff (s.link p).rxUsable k } ∧
      (∀ q, q ≠ p → t.link q = s.link q) ∧ t = { s with links := t.links }) ∧
  (∀ (p k : Nat) (s : State), k < 4 → s.portUp p = true → (s.link p).rxLock.getLsbD k = true →
    ((s.link p).lanes.getD k {}).lockAt + 100000000 ≤ s.now →
    ∃ t : State, exec (.laneUsableTimer p k) s = .next t ∧ t.link p = { s.link p with rxUsable := laneOn (s.link p).rxUsable k } ∧
      (∀ q, q ≠ p → t.link q = s.link q) ∧ t = { s with links := t.links }) ∧
  (∀ (p : Nat) (lock usable a : BitVec 4) (s : State), s.portUp p = true → chooseActive (s.cfg 0x3003 (p + 1)) lock usable = some a →
    ∃ t : State, exec (.peerMarkerChange p lock usable) s = .next t ∧ (t.link p).active = a ∧ (t.link p).peerLock = lock ∧
      (t.link p).peerUsable = usable ∧ (∀ q, q ≠ p → t.link q = s.link q) ∧
      ((lanesOf (s.link p).active).length ≤ (lanesOf a).length → t = { s with links := t.links }) ∧
      ((lanesOf a).length < (lanesOf (s.link p).active).length → t.faults.coming = s.faults.coming ++
        [{ code := 0x0450, cls := deferred, tile := ptOf p, unit := p % 8 }]) ∧
      t = { s with links := t.links, faults := { s.faults with coming := t.faults.coming } }) ∧
  (∀ (p : Nat) (lock usable : BitVec 4) (s : State), s.portUp p = true → chooseActive (s.cfg 0x3003 (p + 1)) lock usable = none →
    ∃ t : State, exec (.peerMarkerChange p lock usable) s = .next t ∧ (t.link p).active = (s.link p).active ∧ (t.link p).peerLock = lock ∧
      (t.link p).peerUsable = usable ∧ (∀ q, q ≠ p → t.link q = s.link q) ∧ t = { s with links := t.links }) ∧
  (∀ (m : Nat) (lock usable : BitVec 4), (m = 1 ∨ m = 2 ∨ m = 4) →
    (chooseActive m lock usable = none ↔ (lanesOf lock).length < m ∧ (lanesOf usable).length < m) ∧
    (∀ w, (w = 1 ∨ w = 2 ∨ w = 4) → m ≤ w → w ≤ (lanesOf usable).length → (∀ v, (v = 2 ∨ v = 4) → w < v → (lanesOf usable).length < v) →
      chooseActive m lock usable = some (lowLanes usable w)) ∧
    (m ≤ (lanesOf lock).length → (lanesOf usable).length < m → chooseActive m lock usable = some (lowLanes lock m))) ∧
  (∀ (p a : Nat) (s : State), s.portUp p = true → (s.link p).lps = 0 → (s.link p).narrowAt = some a → a + s.cfg 0x3004 1 * 1000 ≤ s.now →
    ∃ t : State, exec (.linkDown p) s = .next t ∧ (t.link p).stage = 1 ∧ (t.link p).stageAt = s.now ∧ (t.link p).silentAt = some s.now ∧
      t.faults.coming.getLast? = some { code := 0x0460, cls := fatalPort, tile := ptOf p, unit := p % 8 } ∧
      t.pending = s.pending ∧ t.now = s.now ∧ t.mode = s.mode)

/-- A request from the peer to an up port with none of its own out is answered ACK and entered when ACCEPT_PEER is 1 or FORCE is set, and NAK otherwise; against an own outstanding request it counts as ACK when the states are equal and ends both when they differ; ACK enters the requested state, NAK refuses it, and 10 us without an answer times it out; a request and an ACK follow the packets that have started, a NAK does not; entry breaks the trees with an edge on the port and sends 16 IDLE blocks last; AUTO_EXIT wakes an E-IDLE port for a waiting packet, with 64 TRAIN blocks a lane; the peer's exit sequence, outside a change to HOLD, ends an exit from E-IDLE, lets one from IDLE-HELD run stages 3 on again and one from DEEP stages 2 on, and starts the exit of a port in E-IDLE or IDLE-HELD; an exit without lock after twice its time takes the port down. CABLE_POWER_TRIP on a connector with power on marks its four ports tripped now: an up port goes down, one in bring-up starts again; CABLE_POWER_RETRY clears a trip once 1 s has passed since it, and not before. The model's own choices that it rests on, with no rule behind them: log entries 42, 50. (05 R133, 05 R134, 05 R135, 17 R414.) -/
def Obligations.LowPowerStates : Prop :=
  ((∀ (p st : Nat) (force : Bool) (s : State), s.portUp p = true → (s.link p).lpsReqAt = none → (s.link p).lps = 0 →
    ((bitAt (s.cfg 0x300D (p + 1)) 0 || force) = true →
      exec (.lpiReqRx p st force) s = .next ((s.emitLpi p 1 st false).enterLps p st)) ∧
    ((bitAt (s.cfg 0x300D (p + 1)) 0 || force) = false →
      exec (.lpiReqRx p st force) s = .next (s.emitLpi p 2 st false))) ∧
  (∀ (p kind st : Nat) (force : Bool) (s : State), ∃ t : State, s.emitLpi p kind st force = t ∧ t.out = s.out ++ [.lpi p kind st force] ∧
    (kind = 2 → t.link p = { (s.link p).upToNow s.now with txCtl := ((s.link p).upToNow s.now).txCtl ++ [.lpi st kind force] }) ∧
    (kind ≠ 2 → t.link p = { (s.link p).upToNow s.now with tx := ((s.link p).upToNow s.now).tx ++ [.lpi st kind force] }) ∧
    (∀ q, q ≠ p → t.link q = s.link q) ∧ t = { s with links := t.links, out := t.out }) ∧
  (∀ (p st a : Nat) (force : Bool) (s : State), s.portUp p = true → (s.link p).lpsReqAt = some a →
    ((s.link p).lpsGoal = st →
      exec (.lpiReqRx p st force) s = .next ((s.modLink p (fun l => { l with lpsLast := 1 })).enterLps p st) ∧
      exec (.lpiAckRx p st) s = .next ((s.modLink p (fun l => { l with lpsLast := 1 })).enterLps p st) ∧
      ∃ t : State, exec (.lpiNakRx p st) s = .next t ∧ t.link p = { s.link p with lps := 0, lpsReqAt := none, lpsLast := 2 } ∧
        (∀ q, q ≠ p → t.link q = s.link q) ∧ t = { s with links := t.links }) ∧
    ((s.link p).lpsGoal ≠ st →
      ∃ t : State, exec (.lpiReqRx p st force) s = .next t ∧ (t.link p).lps = 0 ∧ (t.link p).lpsReqAt = none ∧ (t.link p).lpsLast = 2 ∧
        t.out = s.out ++ [.lpi p 2 st false] ∧ (∀ q, q ≠ p → t.link q = s.link q) ∧ t = { s with links := t.links, out := t.out })) ∧
  (∀ (p st : Nat) (s w : State), w = s.breakTrees (fun _ v => (tEdges v).contains p) 0x0A20 (some p) →
    ∃ u : State, s.enterLps p st = u.timeUnlock p (if st = 3 then 16 else 4) ∧
      u.link p = { (w.link p).upToNow w.now with
        tx := ((w.link p).upToNow w.now).tx ++ List.replicate 16 .idle, lps := st, lpsGoal := st, lpsReqAt := none, narrowAt := none,
        lanes := (w.link p).lanes.map (fun x => { x with lostAt := none, badRun := 0, goodRun := 0 }) } ∧
      (∀ q, q ≠ p → u.link q = w.link q) ∧ u = { w with links := u.links }) ∧
  (∀ (p a : Nat) (s : State), (s.link p).lpsReqAt = some a → a + 10000 ≤ s.now →
    ∃ t : State, exec (.lpiTimeout p) s = .next t ∧ t.link p = { s.link p with lps := 0, lpsReqAt := none, lpsLast := 3 } ∧
      (∀ q, q ≠ p → t.link q = s.link q) ∧ t = { s with links := t.links }) ∧
  (∀ (p : Nat) (s : State), (s.link p).lps = 1 → bitAt (s.cfg 0x300D (p + 1)) 1 = true → (s.portq p).egress ≠ [] →
    ∃ t : State, exec (.portLpsExit none p) s = .next t ∧
      t.link p = { (s.link p).upToNow s.now with
        lps := 5, lpsGoal := 1, lpsExitAt := some s.now,
        txCtl := ((s.link p).upToNow s.now).txCtl ++ List.replicate (64 * (lanesOf (s.link p).txDeal).length) .train } ∧
      t.out = s.out ++ [.laneExit p] ∧ (∀ q, q ≠ p → t.link q = s.link q) ∧ t = { s with links := t.links, out := t.out }) ∧
  (∀ (p : Nat) (s : State), (s.link p).lps = 5 → (s.link p).stage = 9 →
    (s.mode.changing = false ∨ s.mode.drained = false ∨ s.mode.target ≠ .hold) →
    ((s.link p).lpsGoal = 1 → ∃ t : State, exec (.exitSequenceRx p) s = .next t ∧ (t.link p).lps = 0 ∧ (t.link p).lpsExitAt = none ∧
      (t.link p).stage = 9 ∧ (∀ q, q ≠ p → t.link q = s.link q) ∧ t = { s with links := t.links, out := t.out }) ∧
    ((s.link p).lpsGoal = 2 → ∃ t : State, exec (.exitSequenceRx p) s = .next t ∧ (t.link p).lps = 5 ∧ (t.link p).stage = 3 ∧
      (t.link p).stageAt = s.now ∧ (∀ q, q ≠ p → t.link q = s.link q) ∧ t = { s with links := t.links }) ∧
    ((s.link p).lpsGoal = 3 → ∃ t : State, exec (.exitSequenceRx p) s = .next t ∧ (t.link p).lps = 5 ∧ (t.link p).stage = 2 ∧
      (t.link p).stageAt = s.now ∧ (∀ q, q ≠ p → t.link q = s.link q) ∧ t = { s with links := t.links })) ∧
  (∀ (p : Nat) (s : State),
    ((s.link p).lps = 1 → (s.mode.changing = false ∨ s.mode.drained = false ∨ s.mode.target ≠ .hold) → ∃ t l, exec (.exitSequenceRx p) s = .next t ∧ (t.link p).lps = 0 ∧ (t.link p).stage = (s.link p).stage ∧
      t.out = s.out ++ .laneExit p :: l ∧ (∀ q, q ≠ p → t.link q = s.link q) ∧ t = { s with links := t.links, out := t.out }) ∧
    ((s.link p).lps = 2 → ∃ t : State, exec (.exitSequenceRx p) s = .next t ∧ (t.link p).lps = 5 ∧ (t.link p).lpsGoal = 2 ∧ (t.link p).stage = 3 ∧
      (t.link p).lpsExitAt = some s.now ∧ t.out = s.out ++ [.laneExit p] ∧ (∀ q, q ≠ p → t.link q = s.link q) ∧
      t = { s with links := t.links, out := t.out })) ∧
  (∀ (p a : Nat) (s : State), (s.link p).lpsExitAt = some a → (s.link p).lps = 5 → (s.link p).stage ≠ 8 →
    a + 2 * exitTime (s.link p).lpsGoal ≤ s.now →
    ∃ t : State, exec (.lpsExitFail p) s = .next t ∧ t = s.portDown p ∧ (t.link p).stage = 1 ∧
      t.faults.coming.getLast? = some { code := 0x0460, cls := fatalPort, tile := ptOf p, unit := p % 8 })) ∧
  ((∀ (c : Nat) (s : State), (∃ p ∈ cablePorts c, s.cableOn p = true) →
    exec (.cablePowerTrip c) s = .next ((cablePorts c).foldl State.cableLost s)) ∧
  (∀ (p : Nat) (s : State),
    (s.portUp p = true → s.cableLost p = (s.modLink p (fun l => { l with cableTripAt := some s.now })).portDown p) ∧
    (s.portUp p = false → (s.link p).lps ≠ 5 → ∃ t : State, s.cableLost p = t ∧ (t.link p).cableTripAt = some s.now ∧
      ((s.link p).stage = 0 → (t.link p).stage = 0) ∧ ((s.link p).stage ≠ 0 → (t.link p).stage ≤ 1) ∧
      (∀ q, q ≠ p → t.link q = s.link q) ∧ t = { s with links := t.links })) ∧
  (∀ (c : Nat) (s : State), (∀ p ∈ cablePorts c, (s.link p).stage ≠ 9 ∧ (s.link p).lps ≠ 5) → (∃ p ∈ cablePorts c, s.cableOn p = true) →
    ∃ t : State, exec (.cablePowerTrip c) s = .next t ∧
      (∀ p ∈ cablePorts c, (t.link p).cableTripAt = some s.now ∧ (t.link p).stage ≤ 1) ∧
      (∀ p, p ∉ cablePorts c → t.link p = s.link p) ∧ t = { s with links := t.links }) ∧
  (∀ (c : Nat) (s : State), ∃ t : State, exec (.cablePowerRetry c) s = .next t ∧
    (∀ p ∈ cablePorts c, t.link p = (match (s.link p).cableTripAt with
      | some a => if a + 1000000000 ≤ s.now then { s.link p with cableTripAt := none } else s.link p
      | none => s.link p)) ∧
    (∀ p, p ∉ cablePorts c → t.link p = s.link p) ∧ t = { s with links := t.links }))

/-- PACKET_ROUTE takes the packet that waits longest at its ingress port, one of the right length whose end was good, and does what the router decides: a decision for a port of the same port tile puts it last at that port's egress with the VC its GV gives, one for a port of another tile offers it on the mesh to that tile, a decision for this device offers its flits to its tile, and a drop adds one to that cause in ROUTE_DROPS; the packet joins no other port's egress. The model's own choices that it rests on, with no rule behind them: log entries 35, 36, 41, 141, 142. (01 R429, 06 R140, 06 R142, 06 R145, 06 R153.) -/
def Obligations.RoutersForward : Prop :=
  ∀ (p : Nat) (q : QPkt) (rest : List QPkt) (s v u : State) (h : Hop), (s.portq p).ingress = q :: rest → q.stomp = false → q.ghost = false →
    q.blocks = ceilDiv (max 64 (pktSize q.pkt)) 8 → v = s.modPortq p (fun x => { x with ingress := rest }) →
    v.routeIt p q.vc q.pkt = (h, u) →
    (∀ r k, h = .out r k → ptOf r = ptOf p →
      ∃ t : State, exec (.packetRoute p) s = .next t ∧ (t.portq p).ingress = rest ∧
        (t.portq r).egress = (s.portq r).egress ++ [{ q with pkt := k, vc := vcOf k }] ∧
        (∀ j, j ≠ r → (t.portq j).egress = (s.portq j).egress) ∧
        t = { s with portqs := t.portqs, pts := t.pts, free := t.free }) ∧
    (∀ r k, h = .out r k → ptOf r ≠ ptOf p →
      ∃ t : State, exec (.packetRoute p) s = .next t ∧
        t = ((u.offer (ptOf p) (ptOf r) (r % 8) (.egress r { q with pkt := k, vc := vcOf k })).noteDepth r (vcOf k)).throttleWatch q.tile ∧
        (t.portq p).ingress = rest ∧ (∀ j, (t.portq j).egress = (s.portq j).egress)) ∧
    (h = .here → ∃ t : State, exec (.packetRoute p) s = .next t ∧ t = (u.deliverHere (ptOf p) q).leaves q q.vc ∧
      (t.portq p).ingress = rest ∧ (∀ j, (t.portq j).egress = (s.portq j).egress)) ∧
    (∀ c, h = .drop c → q.ingress < 64 → c < 16 → (s.pt q.tile).drops.length = 16 → ptOf p = q.tile →
      ∃ t : State, exec (.packetRoute p) s = .next t ∧ (t.portq p).ingress = rest ∧
        nth (t.pt q.tile).drops c = satAdd 64 (nth (s.pt q.tile).drops c) 1 ∧
        (∀ j, j ≠ c → nth (t.pt q.tile).drops j = nth (s.pt q.tile).drops j) ∧
        (∀ j, (t.portq j).egress = (s.portq j).egress) ∧
        t = { s with portqs := t.portqs, pts := t.pts, free := t.free, links := t.links, ctrs := t.ctrs, out := t.out })

/-- A packet of a wrong format is dropped as FORMAT and one for a reserved destination as BAD_DEST; a request or response for this device is delivered; inside its destination group it goes by the row port for the destination's slot first and by the column port for its rank after that, with LTGT the destination, or is dropped as LOCAL_DOWN when the row port is not up and as HOP_LIMIT after 15 links; a packet that needs a global hop with GV 2 is dropped as VC_EXHAUSTED, and one with a lower GV takes the hop on an up port with GV one more. The model's own choices that it rests on, with no rule behind them: log entries 38, 141, 142. (06 R142, 06 R145, 06 R148, 01 R29.) -/
def Obligations.RoutersDecide : Prop :=
  (∀ (p vc : Nat) (k : Packet) (s : State), badFormat k vc = true → s.routeIt p vc k = (.drop 0, s)) ∧
  (∀ (p vc : Nat) (k : Packet) (s : State), badFormat k vc = false → reservedDev k.dform k.dstDev = true →
    s.routeIt p vc k = (.drop 2, s)) ∧
  (∀ (p c : Nat) (k : Packet) (s : State), badFormat k (vcOf k) = false → reservedDev k.dform k.dstDev = false →
    p < 64 → (s.link p).mgmtOnly = false → s.entryLost (ptOf p) p (vcOf k) k = false → vcOf k < 8 → s.coord? = some c →
    (c = k.dstDev → s.routeIt p (vcOf k) k = (.here, s)) ∧
    (c ≠ k.dstDev → c / 64 = k.dstDev / 64 → k.hops < 15 → c % 8 ≠ k.dstDev % 8 →
      s.portCarries (if k.dstDev % 8 < c % 8 then k.dstDev % 8 else k.dstDev % 8 - 1) 0 = true →
      s.routeIt p (vcOf k) k =
        (.out (if k.dstDev % 8 < c % 8 then k.dstDev % 8 else k.dstDev % 8 - 1) { k with ltgt := k.dstDev % 64 }, s)) ∧
    (c ≠ k.dstDev → c / 64 = k.dstDev / 64 → k.hops < 15 → c % 8 = k.dstDev % 8 →
      s.portCarries (if k.dstDev / 8 % 8 < c / 8 % 8 then 7 + k.dstDev / 8 % 8 else 6 + k.dstDev / 8 % 8) 0 = true →
      s.routeIt p (vcOf k) k =
        (.out (if k.dstDev / 8 % 8 < c / 8 % 8 then 7 + k.dstDev / 8 % 8 else 6 + k.dstDev / 8 % 8) { k with ltgt := k.dstDev % 64 }, s)) ∧
    (c ≠ k.dstDev → c / 64 = k.dstDev / 64 → k.hops < 15 → c % 8 ≠ k.dstDev % 8 →
      s.portCarries (if k.dstDev % 8 < c % 8 then k.dstDev % 8 else k.dstDev % 8 - 1) 0 = false →
      s.routeIt p (vcOf k) k = (.drop 8, s)) ∧
    (c ≠ k.dstDev → c / 64 = k.dstDev / 64 → k.hops = 15 → s.routeIt p (vcOf k) k = (.drop 6, s))) ∧
  (∀ (p : Nat) (k : Packet) (s : State), k.gv = 2 → s.globalHop p k = .drop 4) ∧
  (∀ (p : Nat) (k : Packet) (s : State), k.gv < 2 → k.hops < 15 → s.portCarries p 0 = true →
    s.globalHop p k = .out p { k with gv := k.gv + 1 })

/-- A packet whose destination has no valid entry is dropped as NO_ROUTE; a down entry sends it on its port with TDOWN 1; otherwise a packet that has gone down is dropped as TREE_TURN, the root drops it as NO_ROUTE, and any other device sends it on ESC_UP_PORT of its generation; a port of the way that is not up drops it as PORT_DOWN, and the sixteenth link as HOP_LIMIT. The model's own choices that it rests on, with no rule behind them: log entries 38, 142, 143. (06 R150, 06 R151.) -/
def Obligations.EscapeTreeRoutes : Prop :=
  ∀ (k : Packet) (s : State) (valid down port up : Nat), s.treeLook k = (valid, down, port) → up = s.cfg 0x4001 (b2n k.gen + 1) →
    (valid = 0 → s.treeHop k = .drop 3) ∧
    (valid ≠ 0 → down = 1 → k.hops < 15 → s.portCarries port (vcOf k) = true → s.treeHop k = .out port { k with tdown := true }) ∧
    (valid ≠ 0 → down ≠ 1 → k.tdown = true → s.treeHop k = .drop 5) ∧
    (valid ≠ 0 → down ≠ 1 → k.tdown = false → up = 0xFF → s.treeHop k = .drop 3) ∧
    (valid ≠ 0 → down ≠ 1 → k.tdown = false → up ≠ 0xFF → k.hops < 15 → s.portCarries up (vcOf k) = true →
      s.treeHop k = .out up k) ∧
    (valid ≠ 0 → (down = 1 ∨ k.tdown = false ∧ up ≠ 0xFF) → k.hops < 15 → s.portCarries (if down = 1 then port else up) (vcOf k) = false →
      s.treeHop k = .drop 9) ∧
    (valid ≠ 0 → (down = 1 ∨ k.tdown = false ∧ up ≠ 0xFF) → k.hops = 15 → s.treeHop k = .drop 6)

/-- Unthrottled, PACKET_INJECT takes the first waiting packet and carries out the decision made for it; for this device's own group, or with no coordinate, that is the router's decision for the packet with GEN set to ROUTE_GEN_ACTIVE. A packet of a VC that the mode does not carry is counted in MODE_DROPS, but for one to this device in TEST; in HARD no request is taken, and once a quiesce has stopped injection nothing is. PACKET_DELIVER hands a packet to its endpoint tile, or a management packet to the management tile, with its residence added to AGE, discards a request or response whose TOP no command takes, drops it as AGED above 31,250 units, and drops a management request beyond 64, and an ESC request that finds no room, as NO_DELIVERY. The model's own choices that it rests on, with no rule behind them: log entries 16, 39, 40, 41. (06 R142, 06 R153, 06 R156, 06 R157, 06 R158, 06 R161, 13 R332.) -/
def Obligations.InjectionAndDelivery : Prop :=
  (∀ (n : Nat) (q : QPkt) (rest : List QPkt) (s : State), s.injectStopped = false → Tbl.getD s.arch.inbox n [] = q :: rest →
    (s.pt n).throttle = 0 →
    (s.carries (vcOf q.pkt) = true ∨ s.inMode .test = true ∧ s.isSelf q.pkt.dform q.pkt.dstDev = true) →
    ∃ u : State, u = { s with arch := { s.arch with inbox := u.arch.inbox } } ∧ Tbl.getD u.arch.inbox n [] = rest ∧
      (∀ j, j ≠ n → Tbl.getD u.arch.inbox j [] = Tbl.getD s.arch.inbox j []) ∧
      exec (.packetInject n) s = .next ((u.decideInject n q.pkt).2.carryOut n { q with ingress := 64 + n, vc := vcOf q.pkt }
        (u.decideInject n q.pkt).1)) ∧
  (∀ (n : Nat) (k : Packet) (s : State), (∀ c, s.coord? = some c → c / 64 = k.dstDev / 64) →
    s.decideInject n k = s.routeIt (64 + n) (vcOf { k with gen := s.genNow == 1 }) { k with gen := s.genNow == 1 }) ∧
  (∀ (n : Nat) (q : QPkt) (rest : List QPkt) (s : State), s.injectStopped = false → Tbl.getD s.arch.inbox n [] = q :: rest →
    (s.pt n).throttle = 0 →
    s.carries (vcOf q.pkt) = false → (s.inMode .test = false ∨ s.isSelf q.pkt.dform q.pkt.dstDev = false) →
    ∃ t : State, exec (.packetInject n) s = .next t ∧ (t.pt n).modeDrops = satAdd 64 (s.pt n).modeDrops 1 ∧
      Tbl.getD t.arch.inbox n [] = rest ∧ t = { s with arch := t.arch, pts := t.pts }) ∧
  (∀ (n : Nat) (s : State), (s.pt n).throttle = 2 → (∀ q ∈ Tbl.getD s.arch.inbox n [], q.pkt.kind = kindReq) →
    exec (.packetInject n) s = .next s) ∧
  (∀ (n : Nat) (s : State), s.injectStopped = true → exec (.packetInject n) s = .next s) ∧
  (∀ (tile : Nat) (q : QPkt) (rest : List QPkt) (s : State), Tbl.getD s.arch.inbox tile [] = q :: rest →
    (min 0xFFFF (q.pkt.age + ceilDiv (s.now - q.arr) 64) ≤ 31250 → 8 ≤ tile → tile < 12 → knownTop q.pkt = true →
      (q.pkt.dform = false ∨ q.pkt.kind ≠ kindReq ∨ (s.et (tile - 8)).rx.length ≤ Config.deliveryRoom) →
      ∃ t : State, exec (.packetDeliver tile) s = .next t ∧ Tbl.getD t.arch.inbox tile [] = rest ∧
        (t.et (tile - 8)).rx = (s.et (tile - 8)).rx ++ [{ q with pkt := { q.pkt with age := min 0xFFFF (q.pkt.age + ceilDiv (s.now - q.arr) 64) } }] ∧
        (∀ n, n ≠ tile - 8 → t.et n = s.et n) ∧
        t = { s with arch := { s.arch with inbox := t.arch.inbox }, ets := t.ets }) ∧
    (min 0xFFFF (q.pkt.age + ceilDiv (s.now - q.arr) 64) ≤ 31250 → 8 ≤ tile → tile < 12 → knownTop q.pkt = false →
      (q.pkt.dform = false ∨ q.pkt.kind ≠ kindReq ∨ (s.et (tile - 8)).rx.length ≤ Config.deliveryRoom) →
      ∃ t : State, exec (.packetDeliver tile) s = .next t ∧ Tbl.getD t.arch.inbox tile [] = rest ∧
        t = { s with arch := { s.arch with inbox := t.arch.inbox } }) ∧
    (31250 < min 0xFFFF (q.pkt.age + ceilDiv (s.now - q.arr) 64) → (s.pt q.tile).drops.length = 16 →
      ∃ t : State, exec (.packetDeliver tile) s = .next t ∧ Tbl.getD t.arch.inbox tile [] = rest ∧
        nth (t.pt q.tile).drops 7 = satAdd 64 (nth (s.pt q.tile).drops 7) 1 ∧
        t = { s with arch := { s.arch with inbox := t.arch.inbox }, pts := t.pts, ctrs := t.ctrs }) ∧
    (min 0xFFFF (q.pkt.age + ceilDiv (s.now - q.arr) 64) ≤ 31250 → tile = 12 → isRequest q.pkt = true → 64 ≤ s.mgtHeld →
      (s.pt q.tile).drops.length = 16 →
      ∃ t : State, exec (.packetDeliver tile) s = .next t ∧ nth (t.pt q.tile).drops 10 = satAdd 64 (nth (s.pt q.tile).drops 10) 1 ∧
        t.dict = s.dict) ∧
    (min 0xFFFF (q.pkt.age + ceilDiv (s.now - q.arr) 64) ≤ 31250 → tile = 12 → (isRequest q.pkt = false ∨ s.mgtHeld < 64) →
      ∃ t : State, exec (.packetDeliver tile) s = .next t ∧ Tbl.getD t.arch.inbox tile [] = rest ∧
        t.dict.rx = s.dict.rx ++ [{ q.pkt with age := min 0xFFFF (q.pkt.age + ceilDiv (s.now - q.arr) 64) }] ∧
        t = { s with arch := { s.arch with inbox := t.arch.inbox }, dict := { s.dict with rx := t.dict.rx } }) ∧
    (min 0xFFFF (q.pkt.age + ceilDiv (s.now - q.arr) 64) ≤ 31250 → 8 ≤ tile → tile < 12 → q.pkt.dform = true → q.pkt.kind = kindReq →
      Config.deliveryRoom < (s.et (tile - 8)).rx.length → (s.pt q.tile).drops.length = 16 →
      ∃ t : State, exec (.packetDeliver tile) s = .next t ∧ nth (t.pt q.tile).drops 10 = satAdd 64 (nth (s.pt q.tile).drops 10) 1 ∧
        t.ets = s.ets))

/-- PORT_EGRESS_START takes the packet that arbitration selects, here one with no shaper, on no collective VC, that this device injected: its AGE grows by its residence, to the instant its first block leaves behind those that wait, and the link delay, each rounded up to 64 ns; above 31,250 it is dropped as AGED, and otherwise it leaves with that AGE, one more hop and CHINT raised to the port's level, on the next LSEQ, counted as sent, its blocks last in the stream. Management goes before every other VC, and ESC goes next once 15 starts have passed it by. The model's own choices that it rests on, with no rule behind them: log entries 35, 43, 140. (05 R122, 06 R139, 06 R146, 06 R152, 06 R156, 06 R157.) -/
def Obligations.PacketsLeave : Prop :=
  (∀ (p : Nat) (q : QPkt) (vcs : List Nat) (s : State), s.txOn p = true → s.selectPkt p = some (q, vcs) →
    s.ageOut p q ≤ 31250 → 64 ≤ q.ingress → q.vc ≠ 6 → q.vc ≠ 7 → s.shaper p q.vc = none → q.stomp = false →
    ∃ t : State, exec (.portEgressStart p) s = .next t ∧ (t.portq p).egress = (s.portq p).egress.erase q ∧
      t.out = s.out ++ [.packet p (s.link p).txSeq.toNat q.vc
        { q.pkt with age := s.ageOut p q, hops := q.pkt.hops + 1,
                     chint := max q.pkt.chint (min 15 (s.vcBytes p q.vc / 8192)) } false] ∧
      (t.link p).tx = framed ((s.link p).upToNow s.now).tx (s.link p).txSeq.toNat q.vc (packetBytes { q.pkt with age := s.ageOut p q, hops := q.pkt.hops + 1, chint := max q.pkt.chint (min 15 (s.vcBytes p q.vc / 8192)) }) false ∧
      (t.link p).txSeq = (s.link p).txSeq + 1 ∧ (t.link p).counts = bump (s.link p).counts 0 1 ∧
      (∀ j, j ≠ p → t.link j = s.link j ∧ t.portq j = s.portq j) ∧
      t = { s with portqs := t.portqs, links := t.links, pts := t.pts, ctrs := t.ctrs, out := t.out }) ∧
  (∀ (p : Nat) (q : QPkt) (vcs : List Nat) (s : State), s.txOn p = true → s.selectPkt p = some (q, vcs) →
    31250 < s.ageOut p q → 64 ≤ q.ingress → q.vc ≠ 6 → q.vc ≠ 7 → (s.pt (ptOf p)).drops.length = 16 →
    ∃ t : State, exec (.portEgressStart p) s = .next t ∧ (t.portq p).egress = (s.portq p).egress.erase q ∧ t.out = s.out ∧ t.links = s.links ∧
      nth (t.pt (ptOf p)).drops 7 = satAdd 64 (nth (s.pt (ptOf p)).drops 7) 1 ∧
      t = { s with portqs := t.portqs, pts := t.pts, ctrs := t.ctrs }) ∧
  (∀ (x : PortQ) (vcs : List Nat), (8 ∈ vcs → nextVc x vcs = some 8) ∧
    (8 ∉ vcs → 9 ∈ vcs → 15 ≤ x.escSkip → nextVc x vcs = some 9) ∧
    (∀ v, nextVc x vcs = some v → v ∈ vcs)) ∧
  (∀ (p : Nat) (s : State), s.selectPkt p = none → exec (.portEgressStart p) s = .next s)

/-- QDEPTH_PUBLISH every 32 ns sets q of the tile's eight ports to their request bytes in KiB, at most 1,023; HINT_DECAY, after the interval by the ROUTE_HINT_DECAY it began with, lowers each HINT level by one and keeps no zero; GEN_QUIET_END ends a quiet period that has passed. The model's own choices that it rests on, with no rule behind them: log entry 3. (06 R146, 06 R160.) -/
def Obligations.DepthsHintsAndGenerations : Prop :=
  (∀ (n : Nat) (s : State), (s.pt n).qpubAt + 32 ≤ s.now →
    ∃ t : State, exec (.qdepthPublish n) s = .next t ∧
      (∀ p, (t.portq p).q = (if p / 8 = n then min 1023 ((s.vcBytes p 0 + s.vcBytes p 1 + s.vcBytes p 2) / 1024) else (s.portq p).q)) ∧
      (∀ p, t.portq p = { s.portq p with q := (t.portq p).q }) ∧ t.pt n = { s.pt n with qpubAt := s.now } ∧
      t = { s with portqs := t.portqs, pts := t.pts }) ∧
  (∀ (n g : Nat) (s : State), (s.pt n).decayAt + (s.pt n).decayOld.getD (s.cfg 0x4000 6) * 1000 ≤ s.now →
    ∃ t : State, exec (.hintDecay n) s = .next t ∧ (∀ v, (g, v) ∈ (t.pt n).hint ↔ v ≠ 0 ∧ ∃ x, (g, x) ∈ (s.pt n).hint ∧ v = x - 1) ∧
      (t.pt n).decayAt = s.now ∧ (t.pt n).decayOld = none ∧ (∀ j, j ≠ n → t.pt j = s.pt j) ∧ t = { s with pts := t.pts }) ∧
  (∀ (g a : Nat) (s : State), s.quiet.getD g none = some a → a ≤ s.now →
    ∃ t : State, exec (.genQuietEnd g) s = .next t ∧ t.quiet = s.quiet.set g none ∧ t = { s with quiet := t.quiet })

/-- FT_SYNC_TIMER at FT_SYNC_INTERVAL sends one set with the fabric time at which its word 0 leaves, its place among the codeword's blocks counted at the nominal rate, this device's state, STEPS and root name, its four blocks before everything that waits, and keeps its departure as the latest of at most four; a received set that fails a check of R167 counts one BAD_SETS and ends the run; a set is used exactly when its blocks came in order, it echoes one of the last four departures with a turn-around, and its round trip lies between 0 and 20,000 ns; a used one on a root's port records the peer's state, STEPS and root, and locks the port at the run it needs; a locked port without a set for 8 intervals is unlocked. The model's own choices that it rests on, with no rule behind them: log entries 52, 144, 154, 155. (07 R165, 07 R166, 07 R167, 07 R169.) -/
def Obligations.TimeSetsExchanged : Prop :=
  (∀ (p d : Nat) (s : State), s.timeSends p = true → (s.tport p).sentAt + s.cfg 0xD000 6 ≤ s.now →
    d = (s.time.ft.toNat + ((s.link p).upToNow s.now).leavesIn s.now 0 * 65536 / 225) % 2 ^ 80 →
    ∃ (t : State) (w0 w1 w2 w3 : BitVec 48), exec (.ftSyncTimer p) s = .next t ∧ t.out = s.out ++ [.time p (s.tport p).seq w0 w1 w2 w3] ∧
      w0.toNat = d % 2 ^ 48 ∧ bf w1.toNat 0 32 = d / 2 ^ 48 ∧
      (s.time.st < 16 → bf w1.toNat 32 4 = s.time.st) ∧ (s.time.steps < 16 → bf w1.toNat 36 4 = s.time.steps) ∧
      w3.toNat = s.time.rootId % 2 ^ 48 ∧
      (t.link p).txCtl = [.time 0 (s.tport p).seq w0, .time 1 (s.tport p).seq w1, .time 2 (s.tport p).seq w2, .time 3 (s.tport p).seq w3]
        ++ ((s.link p).upToNow s.now).txCtl ∧
      (t.tport p).departs.length ≤ 4 ∧ (t.tport p).departs.getLast? = some ((s.tport p).seq, d) ∧
      (t.tport p).seq = ((s.tport p).seq + 1) % 16 ∧ (∀ q, q ≠ p → t.tport q = s.tport q) ∧
      t = { s with tports := t.tports, out := t.out, links := t.links }) ∧
  (∀ (p : Nat) (x : TimeSet) (s : State), s.timeSends p = true → setRtt (s.tport p) x = none →
    ∃ t : State, exec (.timeSetRx p x) s = .next t ∧ (t.tport p).badSets = satAdd 32 (s.tport p).badSets 1 ∧ (t.tport p).run = 0 ∧
      (t.tport p).locked = (s.tport p).locked ∧ (∀ q, q ≠ p → t.tport q = s.tport q) ∧ t = { s with tports := t.tports }) ∧
  (∀ (t : TimePort) (x : TimeSet), setRtt t x = none ↔
    (x.inOrder = false ∨ t.echoed (bf x.word2.toNat 0 4) = none ∨ bf x.word2.toNat 4 44 = 2 ^ 44 - 1 ∨
      ∃ d, t.echoed (bf x.word2.toNat 0 4) = some d ∧
        (elapsed x.arrival d < bf x.word2.toNat 4 44 ∨ 20000 * 65536 + bf x.word2.toNat 4 44 < elapsed x.arrival d))) ∧
  (∀ (p : Nat) (x : TimeSet) (rtt : Int) (s : State), s.timeSends p = true → setRtt (s.tport p) x = some rtt → (s.time.st = 4 ∨ s.time.st = 5) →
    ∃ t : State, exec (.timeSetRx p x) s = .next t ∧ (t.tport p).peerState = bf x.word1.toNat 32 4 ∧
      (t.tport p).peerSteps = bf x.word1.toNat 36 4 ∧ (t.tport p).peerRoot = bf x.word3.toNat 0 21 ∧
      (t.tport p).run = (s.tport p).run + 1 ∧
      (t.tport p).locked = ((s.tport p).locked || decide ((s.tport p).need ≤ (s.tport p).run + 1)) ∧ t.time.ft = s.time.ft ∧
      (∀ q, q ≠ p → t.tport q = { s.tport q with betterAt := (t.tport q).betterAt }) ∧
      t = { s with tports := t.tports, portqs := t.portqs, time := t.time, gates := t.gates, free := t.free }) ∧
  (∀ (p : Nat) (s : State), (s.tport p).locked = true → (s.tport p).lastAt + 8 * s.cfg 0xD000 6 ≤ s.now →
    ∃ u : State, exec (.timeLockLoss p) s = .next u.timeWatch ∧ u.tport p = { s.tport p with locked := false, run := 0, need := 16 } ∧
      (∀ q, q ≠ p → u.tport q = s.tport q) ∧ u = { s with tports := u.tports })

/-- A valid set of the parent steps fabric time by the opposite of its offset on the first set of ACQUIRING and slews it after that; LOCKED follows on the 64th consecutive set below 1 ns; the fourth consecutive set beyond FT_STEP_LIMIT in LOCKED or HOLDOVER returns to ACQUIRING with STEP recorded and no step taken; HOLDOVER becomes FREE at its limit with HOLDOVER_EXPIRED; a port that has offered more for 1 s becomes the parent, and with none nothing changes; the parent chosen among all ports is eligible, and the first by root, STEPS and port number. The model's own choices that it rests on, with no rule behind them: log entries 51, 53, 144, 154. (07 R164, 07 R170, 07 R171, 07 R188.) -/
def Obligations.TimeFollowsItsParent : Prop :=
  (∀ (th : Int) (s : State), s.time.st = 1 → s.time.stepped = false → s.time.condStep = false →
    (s.servo th).time.ft = BitVec.ofInt 80 ((s.time.ft.toNat : Int) - th) ∧ (s.servo th).time.slew = 0 ∧ (s.servo th).time.stepped = true) ∧
  (∀ (th : Int) (s : State), s.time.st = 1 → s.time.stepped = true →
    (s.servo th).time.ft = s.time.ft ∧ (s.servo th).time.slew = -th ∧
    ((s.servo th).time.st = 2 ↔ th.natAbs < 65536 ∧ 63 ≤ s.time.goodRun)) ∧
  (∀ (th : Int) (s : State), (s.time.st = 2 ∨ s.time.st = 3) → s.stepLimit < th.natAbs →
    (s.time.farRun < 3 → (s.servo th).time.st = s.time.st ∧ (s.servo th).time.farRun = s.time.farRun + 1 ∧ (s.servo th).faults = s.faults) ∧
    (3 ≤ s.time.farRun → (s.servo th).time.st = 1 ∧ (s.servo th).time.ft = s.time.ft ∧
      (s.servo th).faults.coming = s.faults.coming ++ [{ code := 0x0D10, cls := deferred, tile := 14 }])) ∧
  (∀ s : State, s.time.st = 3 → s.time.parent = none → s.time.holdAt + s.cfg 0xD000 8 * 1000000 ≤ s.now →
    ∃ t : State, exec .holdoverExpired s = .next t ∧ t.time.st = 0 ∧ t.time.steps = 15 ∧ t.time.rootId = 0x1FFFFF ∧ t.time.ft = s.time.ft ∧
      t.faults.coming = s.faults.coming ++ [{ code := 0x0D30, cls := deferred, tile := 14 }] ∧
      t = { s with time := t.time, gates := t.gates, faults := { s.faults with coming := t.faults.coming } }) ∧
  (∀ (s : State) (a p : Nat), s.betterParent a = some p → p < 64 ∧ s.offersMore a p = true ∧
    (∃ at_, (s.tport p).betterAt = some at_ ∧ at_ + 1000000000 ≤ s.now)) ∧
  (∀ (s : State) (a p : Nat), s.time.parent = some a → s.betterParent a = some p →
    ∃ u : State, exec .parentReselectTimer s = .next u.timeWatch ∧ u.time.parent = some p ∧ u.time.ft = s.time.ft ∧
      u.time.st = (if s.time.st = 0 then 1 else s.time.st) ∧
      (s.time.st = 2 → u.time.steps = min 15 ((s.tport p).peerSteps + 1)) ∧
      u = { s with time := u.time, tports := u.tports, gates := u.gates }) ∧
  (∀ (s : State) (a : Nat), s.time.parent = some a → s.betterParent a = none → exec .parentReselectTimer s = .next s) ∧
  (∀ (s : State) (p : Nat), s.bestParent = some p → s.eligibleParent p = true ∧ p < 64 ∧
    ∀ q, q < 64 → s.eligibleParent q = true → s.parentBefore q p = false ∧ (s.parentBefore p q = false → p ≤ q))

/-- TIME_IN samples pass the time unit's access check; one refused changes nothing else. A TIME_IN message with the right start and CRC and VALID 1 leaves its seconds, one with VALID 0 none; a pulse 1 s after the one before, whose message named the next second, adds one to the run of valid pulses, and any other ends it; the third takes a ROOT_FREE root to ROOT_REF with STEPS 0; 1.5 s without a valid pulse takes it back with TIME_IN_LOST; a due TIME_OUT pulse, unless QUALIFY holds it back, is sent for 1 ms and marks its second, and its message with the next second follows 500 ms after it. The model's own choices that it rests on, with no rule behind them: log entries 54, 138, 154. (04 R87, 07 R174, 07 R175, 07 R188.) -/
def Obligations.TimeInAndTimeOut : Prop :=
  (∀ (b d : List Byte) (s : State), d = (List.range 16).map (Config.freeByte s.free) →
    ((s.transfer 12 16 true d).2 = true → ∃ t : State, exec (.timeInMessage b) s = .next t ∧ t.time.msgSec = timeMsg b ∧
      t = { (s.transfer 12 16 true d).1 with time := { s.time with msgSec := t.time.msgSec } }) ∧
    ((s.transfer 12 16 true d).2 = false → exec (.timeInMessage b) s = .next (s.transfer 12 16 true d).1 ∧
      exec .timeInPulse s = .next (s.transfer 12 16 true d).1)) ∧
  (∀ (m len : Nat) (wr : Bool) (d : List Byte) (s : State), (m ≠ 10 ∨ bitAt (s.cfg 0x2018 1) 0 = false) → ∃ u : State, u = (s.transfer m len wr d).1 ∧
    ((s.transfer m len wr d).2 = true ↔ s.acuCheck m (s.bufferAddr m) len wr = none) ∧
    ((s.transfer m len wr d).2 = true → u = { s with acu := { s.acu with flying := u.acu.flying }, free := u.free,
                                                     priv := { s.priv with sram := u.priv.sram, bad := u.priv.bad } } ∧
      (wr = false → u.priv = s.priv)) ∧
    ((s.transfer m len wr d).2 = false → u.acu.denied = s.acu.denied + 1 ∧
      u = { s with acu := { s.acu with denied := u.acu.denied, lastDenied := u.acu.lastDenied }, free := u.free,
                   faults := { s.faults with coming := u.faults.coming } })) ∧
  (∀ (k : Nat) (v : Byte), timeMsg (natLe 2 0x5AA5 ++ natLe 8 k ++ [v] ++ natLe 1 (crc8 (natLe 8 k ++ [v]))) =
    (if v.getLsbD 0 then some (k % 2 ^ 64) else none)) ∧
  (∀ (d : List Byte) (s : State), d = (List.range 16).map (Config.freeByte s.free) → (s.transfer 12 16 true d).2 = true →
    ∃ t : State, exec .timeInPulse s = .next t ∧ t.time.pulseAt = some s.now ∧ t.time.msgSec = none ∧ t.time.pulseSec = s.time.msgSec ∧
    ((∃ a k, s.time.pulseAt = some a ∧ a + 999000000 ≤ s.now ∧ s.now ≤ a + 1001000000 ∧
      s.time.pulseSec = some k ∧ s.time.msgSec = some (k + 1)) →
      t.time.validRun = s.time.validRun + 1) ∧
    (¬ (∃ a k, s.time.pulseAt = some a ∧ a + 999000000 ≤ s.now ∧ s.now ≤ a + 1001000000 ∧
      s.time.pulseSec = some k ∧ s.time.msgSec = some (k + 1)) →
      t.time.validRun = 0) ∧
    (t.time.st ≠ s.time.st → t.time.st = 4 ∧ s.time.st = 5 ∧ 3 ≤ t.time.validRun) ∧
    (s.time.st ≠ 5 → t = { (s.transfer 12 16 true d).1 with time := t.time }) ∧
    t = { (s.transfer 12 16 true d).1 with time := t.time, tports := t.tports, gates := t.gates }) ∧
  (∀ (s : State) (a k : Nat), (s.transfer 12 16 true ((List.range 16).map (Config.freeByte s.free))).2 = true → s.time.st = 5 → 2 ≤ s.time.validRun → s.time.pulseAt = some a →
    a + 999000000 ≤ s.now → s.now ≤ a + 1001000000 → s.time.pulseSec = some k → s.time.msgSec = some (k + 1) →
    ∃ t : State, exec .timeInPulse s = .next t ∧ t.time.st = 4 ∧ t.time.steps = 0) ∧
  (∀ s : State, s.time.st = 4 → s.time.lastValid + 1500000000 ≤ s.now →
    ∃ t : State, exec .timeInLost s = .next t ∧ t.time.st = 5 ∧ t.time.validRun = 0 ∧ t.time.ft = s.time.ft ∧
      t.faults.coming = s.faults.coming ++ [{ code := 0x0D50, cls := deferred, tile := 14 }] ∧
      t = { s with time := t.time, gates := t.gates, faults := { s.faults with coming := t.faults.coming } }) ∧
  (∀ s : State, s.outDue = true → (bitAt s.outCfg.1 1 = false ∨ s.ftUsable = true) →
    ∃ t : State, exec .timeOutPulse s = .next t ∧ t.out = s.out ++ [.timeOutPulse (s.outNs / 1000000000).toNat] ∧
      t.time.outPulseAt = some s.now ∧ t.time.outUntil = s.now + 1000000 ∧
      t.time.outSec = (s.outNs / 1000000000).toNat + 1 ∧ t.outDue = false ∧
      t = { s with time := t.time, out := t.out }) ∧
  (∀ (s : State) (a : Nat), s.time.outPulseAt = some a → a + 500000000 ≤ s.now →
    ∃ t : State, exec .timeOutMessage s = .next t ∧
      t.out = s.out ++ [.timeOutMsg (outMessage ((s.outNs / 1000000000).toNat + 1) s.ftUsable)] ∧
      t = { s with time := { s.time with outPulseAt := none }, out := t.out })

/-- GATE_EVENT sets one class's gate to what the schedule in force says now and leaves the other three; a disabled schedule, and an unlocked-open one on unusable time, open every gate; GATE_SWITCH at S puts the pending schedule into force and each gate to its state, and changes nothing before S; QUEUE_SAMPLE at a multiple of QSAMPLE_PERIOD of usable fabric time, else once the period has passed on the tile's own timer, writes each of the tile's eight blocks with the fabric time, its port, whether it is aligned, and the depth of each queue, packets that cross the mesh to it among them. The model's own choices that it rests on, with no rule behind them: log entry 46. (07 R178, 07 R179, 07 R180, 07 R185, 07 R186.) -/
def Obligations.GatesAndSamples : Prop :=
  (∀ (p c : Nat) (s : State), c < 4 → ∃ t : State, exec (.gateEvent p c) s = .next t ∧
    (∀ j, j < 4 → (t.gate p).openMask.getLsbD j =
      (if j = c then s.gateNow (s.gate p).sched.toNat c s.ftNs else (s.gate p).openMask.getLsbD j)) ∧
    t.gate p = { s.gate p with openMask := (t.gate p).openMask } ∧ (∀ q, q ≠ p → t.gate q = s.gate q) ∧ t = { s with gates := t.gates }) ∧
  (∀ (v c ft : Nat) (s : State), (gEnable v = false ∨ (gUnlockedOpen v = true ∧ s.ftUsable = false) ∨ gEntries v c = []) →
    s.gateNow v c ft = true) ∧
  (∀ (p at_ : Nat) (v : BitVec 2176) (s : State), (s.gate p).pend = some (v, at_) →
    (at_ ≤ s.ftNs → ∃ t : State, exec (.gateSwitch p) s = .next t ∧ (t.gate p).sched = v ∧ (t.gate p).pend = none ∧ (t.gate p).lastSw = s.ftNs ∧
      (∀ c, c < 4 → (t.gate p).openMask.getLsbD c = s.gateNow v.toNat c s.ftNs) ∧ (∀ q, q ≠ p → t.gate q = s.gate q) ∧
      t = { s with gates := t.gates }) ∧
    (s.ftNs < at_ → exec (.gateSwitch p) s = .next s)) ∧
  (∀ (n i : Nat) (s : State), i < 8 →
    (if s.ftUsable then s.ftNs % (s.cfg 0xD030 1 * 1000) < 2 ∧
        (s.ftNs / (s.cfg 0xD030 1 * 1000) ≠ bf (s.portq (8 * n)).sample 0 64 / (s.cfg 0xD030 1 * 1000) ∨ (s.pt n).sampleAt + 4 ≤ s.now)
      else (s.pt n).sampleAt + s.cfg 0xD030 1 * 1000 ≤ s.now) →
    ∃ u : State, exec (.queueSample n) s = .next u.readerStep ∧ bf (u.portq (8 * n + i)).sample 0 64 = s.ftNs % 2 ^ 64 ∧
      bf (u.portq (8 * n + i)).sample 64 6 = (8 * n + i) % 64 ∧ bitAt (u.portq (8 * n + i)).sample 70 = s.ftUsable ∧
      (∀ v, v < 10 → bf (u.portq (8 * n + i)).sample (128 + 64 * v) 16 =
        min 0xFFFF ((s.queuedFor (8 * n + i)).filter (fun q => q.vc == v)).length) ∧
      (u.portq (8 * n + i)).egress = (s.portq (8 * n + i)).egress ∧
      u = { s with portqs := u.portqs, pts := u.pts, ctrs := { s.ctrs with offered := u.ctrs.offered } })

/-- The oldest OPEN that no check refuses and that finds a slot makes the context OPEN with the fields R190 and R193 give it, writes 0 to HEAD_ADDR and then its completion record; a refused one writes MALFORMED, one that needs a coordinate the device has not UNREACHABLE, and one without a slot CONTEXT_LOST; CLOSE of an open resident context sets CLOSING, keeps its token and goes on with its matching and its fetches, of any other context it writes MALFORMED; QUERY of a resident context writes its record; a resident context that can close, with room for a tombstone, closes what matching still holds of it, becomes CLOSED, leaves a tombstone with its incarnation and writes the record of its CLOSE; a tombstone of the context ends 4 ms after it began. The model's own choices that it rests on, with no rule behind them: log entries 74, 75. (08 R190, 08 R191, 08 R192, 08 R193, 08 R195, 08 R196.) -/
def Obligations.ContextCommands : Prop :=
  (∀ (f : Nat) (b : BitVec 512) (rest : List (BitVec 512)) (s : State), (s.fn f).ctxCmds = b :: rest → s.faults.checkstop = false →
    ((s.ctx f (ccCtx b.toNat)).resident = true →
      (ccOp b.toNat = 0 → s.badOpen f b.toNat = false → (bitAt b.toNat 84 = true ∨ s.coord?.isSome = true) →
        s.slotsOf f < s.ctxQuota f → s.slotsIn (etOf f) < 262144 →
        ∃ (u w : State), (u.ctx f (ccCtx b.toNat)).c = s.openedCtx f b.toNat ∧ (u.ctx f (ccCtx b.toNat)).resident = true ∧
          (∀ g d, (g ≠ f ∨ d ≠ ccCtx b.toNat) → g < 256 → f < 256 → d < 2 ^ 20 → u.ctx g d = s.ctx g d) ∧ u = { s with ctxs := u.ctxs } ∧
          w = u.put f (bf b.toNat 192 64) (natLe 4 0) (.head (ccCtx b.toNat)) ∧
          exec (.ctxOpen f) s = .next ((w.popCtxCmd f).complete f (ccCompl b.toNat)
            (ctxRecord stOk 0 (w.liveInc f (ccCtx b.toNat)) (ccCtx b.toNat) (ccToken b.toNat)))) ∧
      (ccOp b.toNat = 1 → (s.ctx f (ccCtx b.toNat)).c.state = 1 →
        ∃ u : State, exec (.ctxClose f) s = .next ((u.closeMatching f (ccCtx b.toNat)).startFetch f (ccCtx b.toNat)) ∧
          (u.ctx f (ccCtx b.toNat)).c = { (s.ctx f (ccCtx b.toNat)).c with state := 2 } ∧
          (u.ctx f (ccCtx b.toNat)).w.closeTok = some (ccCompl b.toNat, ccToken b.toNat) ∧ (u.fn f).ctxCmds = rest ∧
          u = { s with ctxs := u.ctxs, fns := u.fns }) ∧
      (ccOp b.toNat = 2 → exec (.ctxQuery f) s = .next ((s.popCtxCmd f).complete f (ccCompl b.toNat)
        (ctxRecord stOk 2 (s.liveInc f (ccCtx b.toNat)) (ccCtx b.toNat) (ccToken b.toNat) ++
          natLe 64 (if (s.ctx f (ccCtx b.toNat)).c.state = 0 then 0 else (s.ctx f (ccCtx b.toNat)).c.record))))) ∧
    (ccOp b.toNat = 0 → s.badOpen f b.toNat = true → exec (.ctxOpen f) s = .next ((s.popCtxCmd f).complete f (ccCompl b.toNat)
      (ctxRecord stMalformed 0 (s.liveInc f (ccCtx b.toNat)) (ccCtx b.toNat) (ccToken b.toNat)))) ∧
    (ccOp b.toNat = 0 → s.badOpen f b.toNat = false → bitAt b.toNat 84 = false → s.coord? = none →
      exec (.ctxOpen f) s = .next ((s.popCtxCmd f).complete f (ccCompl b.toNat)
        (ctxRecord stUnreachable 0 (s.liveInc f (ccCtx b.toNat)) (ccCtx b.toNat) (ccToken b.toNat)))) ∧
    (ccOp b.toNat = 0 → s.badOpen f b.toNat = false → (bitAt b.toNat 84 = true ∨ s.coord?.isSome = true) → s.makeRoom f = none →
      exec (.ctxOpen f) s = .next ((s.popCtxCmd f).complete f (ccCompl b.toNat)
        (ctxRecord stLost 0 (s.liveInc f (ccCtx b.toNat)) (ccCtx b.toNat) (ccToken b.toNat)))) ∧
    (ccOp b.toNat = 1 → (s.ctx f (ccCtx b.toNat)).c.state ≠ 1 → exec (.ctxClose f) s = .next ((s.popCtxCmd f).complete f (ccCompl b.toNat)
      (ctxRecord stMalformed 1 (s.liveInc f (ccCtx b.toNat)) (ccCtx b.toNat) (ccToken b.toNat))))) ∧
  (∀ (f v : Nat) (s : State), s.ctx f (ccCtx v) = {} → s.badOpen f v = false →
    (s.openedCtx f v).state = 1 ∧ (s.openedCtx f v).inc = (s.fn f).epoch * 4096 + ccInc v ∧ (s.openedCtx f v).nextPsn = 0 ∧
    (s.openedCtx f v).rxEpsn = 0 ∧ (s.openedCtx f v).txUsed = 0 ∧ (s.openedCtx f v).rate = s.cfg 0x5000 11 ∧
    4 ≤ (s.openedCtx f v).sqLog2 ∧ (s.openedCtx f v).sqLog2 ≤ 16 ∧ (s.openedCtx f v).sqEq ≠ 0 ∧
    (s.eq? f (s.openedCtx f v).sqEq).isSome = true ∧
    ∀ t ∈ (s.et (etOf f)).tombs, t.fn = f → t.ctx = ccCtx v → t.inc ≠ (s.openedCtx f v).inc) ∧
  (∀ (f c : Nat) (s : State), s.closable f c = true → s.faults.checkstop = false → (s.ctx f c).resident = true →
    (s.et (etOf f)).tombs.length < 262144 → (s.ctx f c).w.tombFull = false → ∀ v, v = s.closeMatching f c →
    ∃ u : State, ((s.ctx f c).w.closeTok = none → exec (.ctxCloseComplete f c) s = .next (u.flushWrites f)) ∧
      (∀ a k, (s.ctx f c).w.closeTok = some (a, k) →
        exec (.ctxCloseComplete f c) s = .next (u.complete f a (ctxRecord stOk 1 0 c k))) ∧ (u.ctx f c).c.state = 0 ∧
      (u.et (etOf f)).tombs = (v.et (etOf f)).tombs ++ [{ fn := f, ctx := c, inc := (s.ctx f c).c.inc, at_ := v.etNow }] ∧
      u = { v with ctxs := u.ctxs, ets := u.ets, mctxs := u.mctxs, fns := u.fns, reads := u.reads }) ∧
  (∀ (f c : Nat) (s : State), ∃ t : State, exec (.tombstoneExpiry f c) s = .next t ∧
    (∀ x, x ∈ (t.et (etOf f)).tombs ↔ x ∈ (s.et (etOf f)).tombs ∧ ¬ (x.fn = f ∧ x.ctx = c ∧ x.at_ + 4000000 ≤ s.etNow)) ∧
    t = { s with ets := t.ets })

/-- DATA_SEND of a resident open context with no resend and no PULL or FIN waiting, whose checks hold, sends the next packet of its first started eager SEND or its WRITE, once the payload is there: the context's NEXT_PSN rises by one, TX_USED rises by the packet's slots, a replay record is added with the old NEXT_PSN, the entry and the offset, and the entry counts the packet; no other context changes. With 64 packets unacknowledged, with refused PSNs outstanding, with the pacer still running, or with injection stopped, no packet starts. A resend that waits goes first once the pacer allows it. A CLOSED context sends nothing. The model's own choices that it rests on, with no rule behind them: log entries 58, 148, 156. (08 R204, 08 R205, 08 R213, 08 R217.) -/
def Obligations.PacketsAreNumberedOnce : Prop :=
  (∀ (f c : Nat) (e : Entry) (d : List Byte) (s : State), (s.ctx f c).c.state = 1 → (s.ctx f c).resident = true →
    (s.ctx f c).w.resends = [] → s.injectOk f c = true → (s.ctx f c).w.owed = [] → s.nextTx f c = some e → s.entry? f c e.idx = some e →
    (wOpcode e.words.toNat = opSend ∧ e.rndv = false ∧ (s.ctx f c).c.credit (landSlots (min 4096 (wLength e.words.toNat - 4096 * e.sent))) = true ∨
      wOpcode e.words.toNat = opWrite) →
    s.mayStart f c (wOpcode e.words.toNat == opWrite && e.sent + 1 == e.total) = true → wFence e.words.toNat = false →
    s.canReach (s.ctx f c).c = true → s.txData f c e (4096 * e.sent) (min 4096 (wLength e.words.toNat - 4096 * e.sent)) = some d →
    ∃ (u : State) (r : Replay), exec (.dataSend f c) s = .next (u.flushWrites f) ∧
      (u.ctx f c).c = { (s.ctx f c).c with
        nextPsn := (s.ctx f c).c.nextPsn + 1
        txUsed := (s.ctx f c).c.txUsed + BitVec.ofNat 16 r.slots } ∧
      (u.ctx f c).w.replay = (s.ctx f c).w.replay ++ [r] ∧ r.psn = (s.ctx f c).c.nextPsn ∧ r.idx = e.idx ∧ r.off = 4096 * e.sent ∧
      r.slots = (if wOpcode e.words.toNat = opSend then landSlots (min 4096 (wLength e.words.toNat - 4096 * e.sent)) else 0) ∧
      (∀ x, u.entry? f c e.idx = some x → x.sent = e.sent + 1 ∧ x.lastPsn = (s.ctx f c).c.nextPsn) ∧
      (∀ k, k ≠ ckey f c → Tbl.getD u.ctxs k {} = Tbl.getD s.ctxs k {}) ∧
      u = { s with ctxs := u.ctxs, ets := u.ets, fns := u.fns, arch := u.arch, ctrs := u.ctrs }) ∧
  (∀ (f c : Nat) (s : State), (s.ctx f c).c.state = 1 → (s.ctx f c).resident = true → (s.ctx f c).w.resends = [] → (s.ctx f c).w.owed = [] →
    (dist (s.ctx f c).c.nextPsn (s.ctx f c).c.una = 64 ∨ (s.ctx f c).m.refused ≠ [] ∨ s.etNow < (s.ctx f c).w.pacerAt ∨ s.injectStopped = true) →
    exec (.dataSend f c) s = .next (s.flushWrites f)) ∧
  (∀ (f c : Nat) (s : State), (s.ctx f c).c.state = 1 → (s.ctx f c).resident = true → (s.ctx f c).w.resends ≠ [] → s.injectStopped = false →
    ((s.ctx f c).w.pacerAt ≤ s.etNow → exec (.dataSend f c) s = .next ((s.resendNext f c).flushWrites f)) ∧
    (s.etNow < (s.ctx f c).w.pacerAt → exec (.dataSend f c) s = .next (s.flushWrites f))) ∧
  (∀ (f c : Nat) (s : State), (s.ctx f c).c.state = 0 → exec (.dataSend f c) s = .next s) ∧
  (∀ l : Nat, landSlots l = max 1 ((l + 255) / 256))

/-- Accepting a PSN that is neither a duplicate nor beyond the window makes it a duplicate; every PSN that was one, and is not 2^31 or a little more behind, stays one; RX_EPSN never moves backward and moves at most 65. The model's own choices that it rests on, with no rule behind them: log entry 59. (08 R207, 08 R210, 08 R216.) -/
def Obligations.AtMostOnce : Prop :=
  ∀ (x : Ctx) (psn : U32), x.duplicate psn = false → x.beyond psn = false →
    (x.accept psn).duplicate psn = true ∧
    (∀ q, x.duplicate q = true → (dist q x.rxEpsn < 2 ^ 31 ∨ 2 ^ 31 + 65 ≤ dist q x.rxEpsn) → (x.accept psn).duplicate q = true) ∧
    dist (x.accept psn).rxEpsn x.rxEpsn ≤ 65 ∧ ((x.accept psn).rxEpsn = x.rxEpsn ↔ psn ≠ x.rxEpsn)

/-- A request packet at the head of an endpoint tile's arrivals whose context is not spilled leaves it. One whose context, incarnations or source do not match is handed to the stale answer; a RESYNC that matches is answered; a DATA packet that matches is handed to the duplicate's answer when its PSN is a duplicate, is counted as a window drop when it lies beyond the window, and is refused or accepted as its operation says otherwise; whatever comes of it, the saved records it shows answered are released, by a duplicate after its own answer. One for a spilled context waits behind the others while the context is filled, or is dropped and counted when 1,024 fills are outstanding. The model's own choices that it rests on, with no rule behind them: log entries 55, 56, 59, 146, 159. (08 R198, 08 R207, 08 R210, 08 R215.) -/
def Obligations.PacketsAreReceived : Prop :=
  (∀ (n : Nat) (q : QPkt) (rest : List QPkt) (s : State), (s.et n).rx = q :: rest → s.faults.checkstop = false → s.island (8 + n) = true →
    s.spilled q.pkt = false → q.pkt.kind = kindReq →
    ∃ (u w v : State), (u.et n).rx = rest ∧ (∀ j, j ≠ n → u.et j = s.et j) ∧ u = { s with ets := u.ets } ∧ w = u.noteRequest q.pkt ∧
      v = w.rack q.pkt.dstFn q.pkt.dstCtx q.pkt ∧
      (xTop q.pkt = topData → s.rxValid q.pkt = false → exec (.dataRx n) s = .next (u.sendStale n q.pkt)) ∧
      (xTop q.pkt = topResync → s.rxValid q.pkt = false → exec (.resyncRx n) s = .next (u.sendStale n q.pkt)) ∧
      (xTop q.pkt = topResync → s.rxValid q.pkt = true →
        exec (.resyncRx n) s = .next (w.sendResyncAck q.pkt.dstFn q.pkt.dstCtx (cTs q.pkt))) ∧
      (xTop q.pkt = topData → s.rxValid q.pkt = true →
        ((s.ctx q.pkt.dstFn q.pkt.dstCtx).c.duplicate (xPsn q.pkt) = true → exec (.dataRx n) s =
          .next ((w.dupPkt q.pkt).rack q.pkt.dstFn q.pkt.dstCtx q.pkt)) ∧
        ((s.ctx q.pkt.dstFn q.pkt.dstCtx).c.duplicate (xPsn q.pkt) = false → (s.ctx q.pkt.dstFn q.pkt.dstCtx).c.beyond (xPsn q.pkt) = true →
          exec (.dataRx n) s = .next (v.tCount n 7)) ∧
        ((s.ctx q.pkt.dstFn q.pkt.dstCtx).c.duplicate (xPsn q.pkt) = false → (s.ctx q.pkt.dstFn q.pkt.dstCtx).c.beyond (xPsn q.pkt) = false →
          (∀ x, v.takePacket q.pkt = (x, none) → exec (.dataRx n) s = .next (x.refuse q.pkt)) ∧
          (∀ x d, v.takePacket q.pkt = (x, some d) → exec (.dataRx n) s = .next (x.acceptPkt q.pkt d))))) ∧
  (∀ (n : Nat) (q : QPkt) (rest : List QPkt) (s : State), (s.et n).rx = q :: rest → s.faults.checkstop = false → s.island (8 + n) = true →
    s.spilled q.pkt = true → q.pkt.kind = kindReq → s.missesIn n < 1024 →
    (xTop q.pkt = topData → exec (.dataRx n) s = .next ((s.startFill q.pkt.dstFn q.pkt.dstCtx).rxRotate n)) ∧
    (xTop q.pkt = topResync → exec (.resyncRx n) s = .next ((s.startFill q.pkt.dstFn q.pkt.dstCtx).rxRotate n))) ∧
  (∀ (n : Nat) (q : QPkt) (rest : List QPkt) (s : State), (s.et n).rx = q :: rest → s.faults.checkstop = false → s.island (8 + n) = true →
    s.spilled q.pkt = true → q.pkt.kind = kindReq → xTop q.pkt = topData → 1024 ≤ s.missesIn n →
    (s.et n).tCounts.length = 16 →
    ∃ t : State, exec (.dataRx n) s = .next t ∧ (t.et n).rx = rest ∧ nth (t.et n).tCounts 13 = satAdd 64 (nth (s.et n).tCounts 13) 1 ∧
      t = { s with ets := t.ets })

/-- An ACK of a context's incarnations whose PSN lies 1 to NEXT_PSN minus UNA ahead moves UNA to it, sets RETRIES to 0, leaves NEXT_PSN, keeps no acknowledged record but one that awaits a response, and sets TX_LIMIT to its LIMIT unless that is behind; one further ahead, or of other incarnations, only counts ACK_BAD; a RESYNC_ACK to the latest RESYNC sets TX_LIMIT whatever it was; a NAK RNR for an unacknowledged PSN keeps the replay records and, where no round is open and RNR_LIMIT allows another, notes the PSN and counts a round; a NAK STALE for one ends the context with CONTEXT_LOST; a NAK of another incarnation changes nothing but the tile's arrivals; a RESP of the context is handed, with its delay, to the request it answers. The model's own choices that it rests on, with no rule behind them: log entries 60, 63, 146. (08 R209, 08 R211, 08 R214, 09 R246, 10 R271.) -/
def Obligations.AcksMoveTheWindow : Prop :=
  (∀ (f c : Nat) (l : U16) (s : State),
    ((l - (s.ctx f c).c.txLimit).toNat < 2 ^ 15 → ((s.takeLimit f c l false).ctx f c).c.txLimit = l) ∧
    (2 ^ 15 ≤ (l - (s.ctx f c).c.txLimit).toNat → ((s.takeLimit f c l false).ctx f c).c.txLimit = (s.ctx f c).c.txLimit) ∧
    ((s.takeLimit f c l true).ctx f c).c.txLimit = l ∧ (∀ g, s.takeLimit f c l g = { s with ctxs := (s.takeLimit f c l g).ctxs })) ∧
  (∀ (n : Nat) (q : QPkt) (rest : List QPkt) (s : State), (s.et n).rx = q :: rest → s.faults.checkstop = false → s.island (8 + n) = true →
    s.spilled q.pkt = false → q.pkt.kind = kindRsp →
    ∃ u : State, (u.et n).rx = rest ∧ (∀ j, j ≠ n → u.et j = s.et j) ∧ u = { s with ets := u.ets } ∧
      (xTop q.pkt = topAck → s.fromPeer q.pkt = true → exec (.ackRx n) s = .next ((u.takeAck q.pkt false).flushWrites q.pkt.dstFn)) ∧
      (xTop q.pkt = topAck → s.fromPeer q.pkt = false → exec (.ackRx n) s = .next (u.tCount (etOf q.pkt.dstFn) 11)) ∧
      (xTop q.pkt = topResyncAck → s.fromPeer q.pkt = true → (s.ctx q.pkt.dstFn q.pkt.dstCtx).w.resyncAt ≠ 0 →
        cTs q.pkt = (s.ctx q.pkt.dstFn q.pkt.dstCtx).w.resyncTs →
        exec (.resyncAckRx n) s = .next ((u.takeAck q.pkt true).flushWrites q.pkt.dstFn)) ∧
      (xTop q.pkt = topNak → cCode q.pkt = 1 → s.nakFor q.pkt = true → (s.ctx q.pkt.dstFn q.pkt.dstCtx).c.unacked (xPsn q.pkt) = true →
        exec (.nakRnrRx n) s = .next ((u.takeRnr q.pkt.dstFn q.pkt.dstCtx (xPsn q.pkt)).startFetch q.pkt.dstFn q.pkt.dstCtx)) ∧
      (xTop q.pkt = topNak → cCode q.pkt = 1 → s.nakFor q.pkt = false → exec (.nakRnrRx n) s = .next u) ∧
      (xTop q.pkt = topNak → cCode q.pkt = 2 → s.nakFor q.pkt = true → (s.ctx q.pkt.dstFn q.pkt.dstCtx).c.unacked (xPsn q.pkt) = true →
        exec (.nakStaleRx n) s = .next (((u.tCount (etOf q.pkt.dstFn) 9).endContext q.pkt.dstFn q.pkt.dstCtx none stLost).startFetch q.pkt.dstFn q.pkt.dstCtx)) ∧
      (xTop q.pkt = topNak → cCode q.pkt = 2 → s.nakFor q.pkt = false → exec (.nakStaleRx n) s = .next u) ∧
      (xTop q.pkt = topResyncAck → s.fromPeer q.pkt = true → cTs q.pkt ≠ (s.ctx q.pkt.dstFn q.pkt.dstCtx).w.resyncTs →
        exec (.resyncAckRx n) s = .next ((u.takeAck q.pkt false).flushWrites q.pkt.dstFn)) ∧
      (xTop q.pkt = topResp → oOpc q.pkt ≠ 1 → s.fromPeer q.pkt = true → exec (.respRx n) s = .next ((u.respDelay q.pkt).takeResponse q.pkt)) ∧
      (xTop q.pkt = topResp → oOpc q.pkt = 1 → s.fromPeer q.pkt = true →
        exec (.pullRespRx n) s = .next (((u.respDelay q.pkt).takePullResp q.pkt).flushWrites q.pkt.dstFn))) ∧
  (∀ (p : Packet) (force : Bool) (s : State), 1 ≤ dist (xPsn p) (s.ctx p.dstFn p.dstCtx).c.una →
    dist (xPsn p) (s.ctx p.dstFn p.dstCtx).c.una ≤ dist (s.ctx p.dstFn p.dstCtx).c.nextPsn (s.ctx p.dstFn p.dstCtx).c.una →
    ((s.takeAck p force).ctx p.dstFn p.dstCtx).c.una = xPsn p ∧ ((s.takeAck p force).ctx p.dstFn p.dstCtx).c.retries = 0 ∧
    ((s.takeAck p force).ctx p.dstFn p.dstCtx).c.nextPsn = (s.ctx p.dstFn p.dstCtx).c.nextPsn ∧
    ((s.takeAck p force).ctx p.dstFn p.dstCtx).c.txLimit =
      (if force = true ∨ (cLimit p - (s.ctx p.dstFn p.dstCtx).c.txLimit).toNat < 2 ^ 15 then cLimit p else (s.ctx p.dstFn p.dstCtx).c.txLimit) ∧
    (∀ r ∈ ((s.takeAck p force).ctx p.dstFn p.dstCtx).w.replay, r.acked = true → r.resp = true)) ∧
  (∀ (p : Packet) (force : Bool) (s : State), dist (s.ctx p.dstFn p.dstCtx).c.nextPsn (s.ctx p.dstFn p.dstCtx).c.una < dist (xPsn p) (s.ctx p.dstFn p.dstCtx).c.una →
    dist (xPsn p) (s.ctx p.dstFn p.dstCtx).c.una < 2 ^ 31 → s.takeAck p force = s.tCount (etOf p.dstFn) 11) ∧
  (∀ (f c : Nat) (psn : U32) (s : State), (s.ctx f c).m.rnr = none →
    (s.cfg 0x6000 2 = 255 ∨ (s.ctx f c).m.rnrRounds + 1 ≤ s.cfg 0x6000 2) →
    psn.toNat ∈ ((s.takeRnr f c psn).ctx f c).m.refused ∧ ((s.takeRnr f c psn).ctx f c).w.replay = (s.ctx f c).w.replay ∧
    ((s.takeRnr f c psn).ctx f c).m.rnrRounds = min 255 ((s.ctx f c).m.rnrRounds + 1))

/-- On a resident open or closing context with injection not stopped: a due ACK_DELAY sends the ACK, which sets RX_PEND to 0 and stops the timer, or marks it due until the accepted packets are secured; a due retransmit timer below RETRY_LIMIT adds one to RETRIES, retransmits the oldest packet, sends a RESYNC and restarts, and at the limit ends the context with RETRY_EXCEEDED; a RESYNC_PERIOD that has passed while one is due sends a RESYNC; a due backoff retransmits the round's PSNs in their order and marks them resent; none of the four acts before it is due. None acts on a closed context or while injection is stopped. A replay table full for 1 ms is recorded, once. The model's own choices that it rests on, with no rule behind them: log entries 3, 6, 57, 64, 146, 147. (08 R205, 08 R208, 08 R212, 08 R215, 08 R221, 09 R246.) -/
def Obligations.TransportTimers : Prop :=
  (∀ (f c : Nat) (s : State), (s.ctx f c).c.state ≠ 0 → (s.ctx f c).resident = true → s.injectStopped = false →
    ((after (s.ctx f c).w.ackAt (s.cfg 0x5000 2) s.etNow = true ∨ after (s.ctx f c).w.credAt (s.cfg 0x5000 2) s.etNow = true) →
      (s.secured f c = true → exec (.ackDelayTimer f c) s = .next ((s.sendAck f c).flushWrites f) ∧ ((s.sendAck f c).ctx f c).c.rxPend = 0 ∧
        ((s.sendAck f c).ctx f c).w.ackAt = none ∧ ((s.sendAck f c).ctx f c).w.credAt = none) ∧
      (s.secured f c = false → exec (.ackDelayTimer f c) s = .next ((s.modW f c (fun w => { w with ackDue := true })).flushWrites f))) ∧
    (after (s.ctx f c).w.ackAt (s.cfg 0x5000 2) s.etNow = false → after (s.ctx f c).w.credAt (s.cfg 0x5000 2) s.etNow = false →
      exec (.ackDelayTimer f c) s = .next s) ∧
    (after (s.ctx f c).w.rtoAt (s.ctx f c).w.rtoLen s.etNow = false → exec (.retransmitTimer f c) s = .next s) ∧
    (s.etNow < (s.ctx f c).w.resyncBase + (s.ctx f c).w.resyncLen → exec (.resyncTimer f c) s = .next s) ∧
    (∀ r, (s.ctx f c).m.rnr = some r → s.etNow < r.start + r.wait → exec (.rnrBackoffTimer f c) s = .next s) ∧
    (∀ psn, after (s.ctx f c).w.rtoAt (s.ctx f c).w.rtoLen s.etNow = true → (s.ctx f c).oldest = some psn →
      ((s.ctx f c).c.retries < s.cfg 0x5000 4 →
        ∃ u : State, (u.ctx f c).c = { (s.ctx f c).c with retries := (s.ctx f c).c.retries + 1 } ∧ u = { s with ctxs := u.ctxs, ets := u.ets } ∧
          exec (.retransmitTimer f c) s = .next ((((u.retransmit f c psn).sendResync f c).restartRto f c).flushWrites f)) ∧
      (s.cfg 0x5000 4 ≤ (s.ctx f c).c.retries →
        exec (.retransmitTimer f c) s = .next (((((s.tCount (etOf f) 2).tCount (etOf f) 3).endContext f c
          ((s.tCount (etOf f) 2).entryOfPsn f c psn) stRetry).startFetch f c).flushWrites f))) ∧
    ((s.ctx f c).w.resyncBase + (s.ctx f c).w.resyncLen ≤ s.etNow → s.resyncDue f c = true →
      exec (.resyncTimer f c) s = .next ((s.sendResync f c).flushWrites f)) ∧
    (∀ r, (s.ctx f c).m.rnr = some r → r.resent = false → r.start + r.wait ≤ s.etNow →
      ∃ u : State, exec (.rnrBackoffTimer f c) s = .next ((r.psns.foldl (fun v psn => v.retransmit f c (BitVec.ofNat 32 psn)) u).flushWrites f) ∧ (∃ x, (u.ctx f c).m.rnr = some x ∧ x.resent = true) ∧
        u = { s with ctxs := u.ctxs })) ∧
  (∀ (f c : Nat) (s : State), ((s.ctx f c).c.state = 0 ∨ s.injectStopped = true) →
    exec (.ackDelayTimer f c) s = .next s ∧ exec (.retransmitTimer f c) s = .next s ∧ exec (.resyncTimer f c) s = .next s ∧
    exec (.rnrBackoffTimer f c) s = .next s) ∧
  (∀ (n : Nat) (s : State), after (s.et n).fullAt 1000000 s.etNow = true → (s.et n).fullRec = false →
    ∃ t : State, exec (.replayFull n) s = .next t ∧ t.et n = { s.et n with fullRec := true } ∧ (∀ j, j ≠ n → t.et j = s.et j) ∧
      t.faults.coming = s.faults.coming ++ [{ code := 0x0530, cls := corrected, tile := 8 + n }] ∧
      t = { s with ets := t.ets, faults := { s.faults with coming := t.faults.coming } })

/-- A receive matches a message of its communicator whose SOURCE it names or that it takes from any source, when every tag bit under TAG_MASK is equal. MATCH_HEADER takes the first item of the tile's engines, unless its matching context is inside a fence, and performs it as a posting or as a header. A posting that meets no unexpected message joins the end of its posted list with the next PSEQ; one that does binds a listed unexpected message that matches it, which leaves the list. A header with no record whose MSN lies outside RX_MSN to RX_MSN + 63 leaves the matching state of its context, gives landing slots back and is recorded as MATCH_FORMAT of its home engine. A message committed unexpected, where the function asks for no event, joins its list and RX_MSN rises by one. A PULL inside its message reads the sender's buffer and one with no rendezvous record is answered BOUNDS; a FIN ends the rendezvous record and marks its entry. The model's own choices that it rests on, with no rule behind them: log entries 68, 69, 73, 77, 158. (09 R222, 09 R223, 09 R227, 09 R229, 09 R230, 09 R232, 09 R238.) -/
def Obligations.MessagesMeetReceives : Prop :=
  (∀ (r : Posted) (comm tag : Nat) (src : Option Nat), envMatches r comm tag src = true ↔
    r.comm = comm ∧ (r.anySrc = true ∨ (src = some r.source ∧ r.source / 2 ^ 14 ≤ 3200)) ∧
      ∀ i, r.mask.testBit i = true → r.tag.testBit i = tag.testBit i) ∧
  (∀ (h f c k : Nat) (e : Entry) (rest : List EngItem) (s : State), (s.et h).items = .posting f c e.idx (wComm e.words.toNat) k :: rest →
    s.faults.checkstop = false → s.entry? f c e.idx = some e → e.st = .started → s.fenced f (wComm e.words.toNat) = false →
    ∃ u : State, (u.et h).items = rest ∧ u = { s with ets := u.ets, faults := { s.faults with coming := u.faults.coming } } ∧
      exec (.matchHeader h) s = .next ((((u.posting f c e).landWatch h).flushWrites f).endFailed f)) ∧
  (∀ (f c : Nat) (e : Entry) (s : State), s.findUnexpected f (postedOfEntry c e (s.mctx f (wComm e.words.toNat)).pseq) = none →
    ((s.posting f c e).mctx f (wComm e.words.toNat)).posted = (s.mctx f (wComm e.words.toNat)).posted ++
      [postedOfEntry c e (s.mctx f (wComm e.words.toNat)).pseq] ∧
    ((s.posting f c e).mctx f (wComm e.words.toNat)).pseq = (s.mctx f (wComm e.words.toNat)).pseq + 1 ∧
    ((s.posting f c e).mctx f (wComm e.words.toNat)).unexp = (s.mctx f (wComm e.words.toNat)).unexp ∧ (s.posting f c e).ctxs = s.ctxs) ∧
  (∀ (f c d : Nat) (e : Entry) (m : Msg) (s : State), s.findUnexpected f (postedOfEntry c e (s.mctx f (wComm e.words.toNat)).pseq) = some (d, m) →
    ∃ u : State, s.posting f c e = (u.startPull f d m (postedOfEntry c e (s.mctx f (wComm e.words.toNat)).pseq)).deliver f d m.msn ∧
      (u.mctx f (wComm e.words.toNat)).posted = (s.mctx f (wComm e.words.toNat)).posted ∧
      (u.mctx f (wComm e.words.toNat)).pseq = (s.mctx f (wComm e.words.toNat)).pseq + 1 ∧
      (u.mctx f (wComm e.words.toNat)).unexp = (s.mctx f (wComm e.words.toNat)).unexp.filter (fun y => y != (d, m.msn)) ∧
      (∀ y, u.msg? f d m.msn = some y → y.st = .matched ∧ y.recv = some (postedOfEntry c e (s.mctx f (wComm e.words.toNat)).pseq)) ∧
      u = { s with ctxs := u.ctxs, mctxs := u.mctxs, ets := u.ets, ctrs := u.ctrs }) ∧
  (∀ (f c : Nat) (r : Posted) (m : Msg) (s : State), s.findUnexpected f r = some (c, m) →
    (c, m.msn) ∈ (s.mctx f r.comm).unexp ∧ envMatches r m.comm m.tag m.source = true) ∧
  (∀ (h f c k : Nat) (p : Packet) (d : PayloadDest) (rest : List EngItem) (s : State), (s.et h).items = .header f c p d k :: rest →
    s.faults.checkstop = false → s.fenced f (oComm p) = false →
    ∃ u : State, (u.et h).items = rest ∧ u = { s with ets := u.ets, faults := { s.faults with coming := u.faults.coming } } ∧
      exec (.matchHeader h) s = .next ((((((u.header f c p d).freeUnused f p c d).landWatch h).flushWrites f).endFailed f).ackIfDue f c)) ∧
  (∀ (f c : Nat) (p : Packet) (d : PayloadDest) (s : State), s.msg? f c (oMsn p) = none → (oMkind p = 3 ∨ 64 ≤ s.msnAbove f c (oMsn p)) →
    ((s.header f c p d).ctx f c).m = (s.ctx f c).m ∧
    (∀ n, d = .landing n → ((s.header f c p d).ctx f c).c.rxLimit = (s.ctx f c).c.rxLimit + BitVec.ofNat 16 n) ∧
    (s.header f c p d).faults.coming = s.faults.coming ++
      [{ code := 0x0610, cls := corrected, tile := 8 + etOf f, unit := s.homeOf f (oComm p), fn := some f, ctx := some c }]) ∧
  (∀ (f c : Nat) (m : Msg) (s : State), bitAt (s.cfg 0x6014 f) 0 = false →
    ((s.commitUnexpected f c m).mctx f m.comm).unexp = (s.mctx f m.comm).unexp ++ [(c, m.msn)] ∧
    ((s.commitUnexpected f c m).ctx f c).m.rxMsn = (s.ctx f c).m.rxMsn + 1 ∧
    (s.commitUnexpected f c m).out = s.out ∧ (s.commitUnexpected f c m).fns = s.fns) ∧
  (∀ (h f c : Nat) (p : Packet) (s : State), s.firstOp h 2 = some (f, c, p) → (s.ctx f c).c.state ≠ 0 →
    ∃ u : State, (u.et h).ops = (s.et h).ops.erase (f, c, p) ∧ u = { s with ets := u.ets } ∧
      (s.rndv? f c (oMsn p) = none → exec (.pullRx h) s =
        .next (((u.pullResp f c (xPsn p) (oMsn p) (oOffset p) (oMlen p) stBounds []).flushWrites f).ackIfDue f c)) ∧
      (∀ r e, s.rndv? f c (oMsn p) = some r → s.entry? f c r.idx = some e → oOffset p + oMlen p ≤ wLength e.words.toNat →
        0 < oMlen p → oMlen p ≤ 4096 → exec (.pullRx h) s =
          .next (((u.hostReadReq f (wLocal e.words.toNat + oOffset p) (oMlen p)
            (.pull c (oMsn p) (xPsn p).toNat (oOffset p) (oMlen p))).flushWrites f).ackIfDue f c))) ∧
  (∀ (h f c : Nat) (p : Packet) (r : Rndv) (s : State), s.firstOp h 4 = some (f, c, p) → (s.ctx f c).c.state ≠ 0 →
    s.rndv? f c (oMsn p) = some r →
    ∃ u : State, exec (.finRx h) s = .next ((u.flushWrites f).ackIfDue f c) ∧ u.rndv? f c (oMsn p) = none ∧ (u.et h).ops = (s.et h).ops.erase (f, c, p) ∧
      (∀ e, u.entry? f c r.idx = some e → e.fin = true) ∧ u = { s with ctxs := u.ctxs, ets := u.ets })

/-- A landing buffer without a free slot, now and for 1 ms, is recorded once as LANDING_EXHAUSTED, and nothing happens otherwise. When the balance interval of a running tile has passed, its operation counts and those of its matching contexts are zero again and the next interval begins, by a MATCH_BALANCE written since; with balancing on and the busiest and the least busy engine far enough apart at most one move from the busiest begins, and otherwise none, and every home stays but that of the matching context that moves; before that, or in a tile that does not run, nothing happens. Inside a fence an item is held. The fence of the first move that began at least 2 us ago ends: the move leaves a tombstone, the items it held go back before the others in the hands of the new home engine, those looked up at the old one first, and every other held item stays; with no such move nothing happens. A tombstone of the matching context ends 52 us after its move began, and no other. The model's own choices that it rests on, with no rule behind them: log entry 69. (09 R242, 09 R247, 09 R248, 09 R249, 09 R252.) -/
def Obligations.EnginesAreBalanced : Prop :=
  (∀ (n : Nat) (s : State), (s.landFree n = 0 → after (s.et n).landZeroAt 1000000 s.etNow = true → (s.et n).landRec = false →
    ∃ t : State, exec (.landingExhausted n) s = .next t ∧ t.et n = { s.et n with landRec := true } ∧ (∀ j, j ≠ n → t.et j = s.et j) ∧
      t.faults.coming = s.faults.coming ++ [{ code := 0x0620, cls := corrected, tile := 8 + n }] ∧
      t = { s with ets := t.ets, faults := { s.faults with coming := t.faults.coming } }) ∧
    ((s.landFree n ≠ 0 ∨ after (s.et n).landZeroAt 1000000 s.etNow = false ∨ (s.et n).landRec = true) →
      exec (.landingExhausted n) s = .next s)) ∧
  (∀ (n : Nat) (s : State), (s.et n).balanceAt + bf (s.balanceCfg n) 16 16 * 1000 ≤ s.etNow → s.island (8 + n) = true →
    ∃ t : State, exec (.matchBalanceInterval n) s = .next t ∧
      t.et n = { s.et n with engOps := [0, 0, 0, 0], balanceAt := s.etNow, balanceOld := none,
                             moves := (t.et n).moves, mCounts := (t.et n).mCounts } ∧
      ((t.et n).moves = (s.et n).moves ∧ (t.et n).mCounts = (s.et n).mCounts ∧ (∀ f comm, t.homeOf f comm = s.homeOf f comm) ∨
        bitAt (s.balanceCfg n) 0 = true ∧
        bf (s.balanceCfg n) 16 16 * 1000 * bf (s.balanceCfg n) 8 8
          < 100 * (nth (s.et n).engOps (argMax (s.et n).engOps) - nth (s.et n).engOps (argMin (s.et n).engOps)) ∧
        ∃ f comm, (t.et n).moves = (s.et n).moves ++ [{ fn := f, comm := comm, src := argMax (s.et n).engOps, at_ := s.etNow }] ∧
          (t.et n).mCounts = bump (s.et n).mCounts 12 1 ∧
          ∀ g d, mkey g d ≠ mkey f comm → t.homeOf g d = s.homeOf g d) ∧
      (∀ e ∈ t.mctxs, etOf (e.1 / 2 ^ 16) = n → e.2.ops = 0) ∧
      (∀ j, j ≠ n → t.et j = s.et j) ∧ t = { s with ets := t.ets, mctxs := t.mctxs }) ∧
  (∀ (n : Nat) (s : State), (s.etNow < (s.et n).balanceAt + bf (s.balanceCfg n) 16 16 * 1000 ∨ s.island (8 + n) = false) →
    exec (.matchBalanceInterval n) s = .next s) ∧
  (∀ (h : Nat) (i : EngItem) (rest : List EngItem) (s : State), (s.et h).items = i :: rest → s.faults.checkstop = false →
    s.fenced i.key.1 i.key.2 = true →
    ∃ t : State, exec (.matchHeader h) s = .next t ∧ (t.et h).items = rest ∧ (t.et h).heldItems = (s.et h).heldItems ++ [i] ∧
      (∀ j, j ≠ h → t.et j = s.et j) ∧ t = { s with ets := t.ets }) ∧
  (∀ (n : Nat) (m : Move) (s : State), (s.et n).moves.find? (fun m => decide (m.at_ + 2000 ≤ s.etNow)) = some m →
    ∃ t : State, exec (.fenceEnd n) s = .next t ∧ (t.et n).moves = (s.et n).moves.erase m ∧
      (t.et n).tmoves = (s.et n).tmoves ++ [{ m with fenced := false }] ∧
      (∃ l : List EngItem, (t.et n).items = l.map (EngItem.to (s.homeOf m.fn m.comm)) ++ (s.et n).items ∧
        (∀ i, i ∈ l ↔ i ∈ (s.et n).heldItems ∧ i.key = (m.fn, m.comm)) ∧
        l = l.filter (EngItem.at m.src) ++ l.filter (fun i => !i.at m.src) ∧
        (t.et n).heldItems = (s.et n).heldItems.filter (fun i => i.key != (m.fn, m.comm)) ∧
        (t.et n).heldItems.length + l.length = (s.et n).heldItems.length) ∧
      (∀ j, j ≠ n → t.et j = s.et j) ∧ t = { s with ets := t.ets, mctxs := t.mctxs }) ∧
  (∀ (n : Nat) (s : State), (∀ m ∈ (s.et n).moves, s.etNow < m.at_ + 2000) → exec (.fenceEnd n) s = .next s) ∧
  (∀ (n f comm : Nat) (s : State), ∃ t : State, exec (.migrateTombExpiry n f comm) s = .next t ∧
    t.et n = { s.et n with tmoves := (s.et n).tmoves.filter (fun m =>
      !(m.fn == f && m.comm == comm && decide (m.at_ + 52000 ≤ s.etNow))) } ∧
    (∀ j, j ≠ n → t.et j = s.et j) ∧ t = { s with ets := t.ets })

/-- The oldest outstanding command, a REGISTER that no check refuses, gives the lowest free slot the window it describes under a key that names it, and queues the record with that key, whose issue admits the window; one that a check refuses writes MALFORMED, and one without a slot or over its quota writes KEY; REVOKE of a held key takes the window from lookup at once, raises the slot's TAG, drops the window's cached words, lets no read in flight cache one again and keeps its completion for when what passed under the key has ended; QUERY of a held key writes its image; REVOKE and QUERY of a key that is not held write KEY. REVOKE_COMPLETE writes the oldest revoke's record once what passed under its key has ended, and nothing before that. The model's own choices that it rests on, with no rule behind them: log entries 75, 76. (10 R254, 10 R255, 10 R256, 10 R257, 10 R258, 10 R265.) -/
def Obligations.WindowCommands : Prop :=
  (∀ (f : Nat) (b : BitVec 512) (rest : List (BitVec 512)) (s : State), (s.fn f).winCmds = b :: rest → s.faults.checkstop = false →
    (wcOp b.toNat = 0 →
      (s.badRegister f b.toNat = true → exec (.winRegister f) s = .next ((s.popWinCmd f).complete f (wcCompl b.toNat)
        (winRecord stMalformed 0 0 (wcToken b.toNat)))) ∧
      (s.badRegister f b.toNat = false → (s.winQuota f ≤ s.winUse f ∨ s.freeSlot (etOf f) = none) →
        exec (.winRegister f) s = .next ((s.popWinCmd f).complete f (wcCompl b.toNat) (winRecord stKey 0 0 (wcToken b.toNat)))) ∧
      (∀ k, s.badRegister f b.toNat = false → s.winUse f < s.winQuota f → s.freeSlot (etOf f) = some k →
        ∃ u : State, exec (.winRegister f) s = .next (u.flushWrites f) ∧
          (u.fn f).writes = (s.fn f).writes ++ [{ addr := wcCompl b.toNat, bytes := winRecord stOk 0 ((s.win (etOf f) k).tag * 65536 + k) (wcToken b.toNat), use := .bus, admits := some k }] ∧ u.admitted f k = false ∧
          (∀ j, j < k → (s.win (etOf f) j).reg = true) ∧
          u.win (etOf f) k = winOfCmd f b.toNat ((s.win (etOf f) k).tag * 65536 + k) (s.win (etOf f) k).tag ∧
          u.heldKey f ((s.win (etOf f) k).tag * 65536 + k) = true ∧ (s.win (etOf f) k).reg = false ∧
          (∀ j, j < 8192 → j ≠ k → u.win (etOf f) j = s.win (etOf f) j) ∧ (u.fn f).winCmds = rest ∧
          u = { s with wins := u.wins, fns := u.fns })) ∧
    (wcOp b.toNat = 1 →
      (s.heldKey f (wcRkey b.toNat) = true →
        ∃ u : State, exec (.winRevoke f) s = .next u ∧ (∀ c, u.winOf f c (wcRkey b.toNat) = none) ∧
          (u.win (etOf f) (wcRkey b.toNat % 65536)).tag = bumpTag (wcRkey b.toNat / 65536) ∧
          (∀ j, j < 8192 → j ≠ wcRkey b.toNat % 65536 → u.win (etOf f) j = s.win (etOf f) j) ∧
          (∀ a, a ∈ (u.et (etOf f)).atoms ↔ a ∈ (s.et (etOf f)).atoms ∧ ¬ (a.fn = f ∧
            (s.win (etOf f) (wcRkey b.toNat % 65536)).base ≤ a.va ∧
            a.va < (s.win (etOf f) (wcRkey b.toNat % 65536)).base + (s.win (etOf f) (wcRkey b.toNat % 65536)).len)) ∧
          (u.fn f).winCmds = rest ∧
          (u.fn f).revokes = (s.fn f).revokes ++ [{ rkey := wcRkey b.toNat, compl := wcCompl b.toNat, token := wcToken b.toNat, reads := s.keyReads f (wcRkey b.toNat) }] ∧
          (∀ k, Tbl.get? u.reads k = (Tbl.get? s.reads k).map (fun r => { r with noCache := ((Tbl.get? u.reads k).map (·.noCache)).getD false })) ∧
          u = { s with wins := u.wins, fns := u.fns, ets := u.ets, reads := u.reads }) ∧
      (s.heldKey f (wcRkey b.toNat) = false → exec (.winRevoke f) s = .next ((s.popWinCmd f).complete f (wcCompl b.toNat)
        (winRecord stKey 1 0 (wcToken b.toNat))))) ∧
    (wcOp b.toNat = 2 →
      (s.heldKey f (wcRkey b.toNat) = true → exec (.winQuery f) s = .next ((s.popWinCmd f).complete f (wcCompl b.toNat)
        (winRecord stOk 2 (wcRkey b.toNat) (wcToken b.toNat) ++ natLe 64 (s.win (etOf f) (wcRkey b.toNat % 65536)).img.toNat))) ∧
      (s.heldKey f (wcRkey b.toNat) = false → exec (.winQuery f) s = .next ((s.popWinCmd f).complete f (wcCompl b.toNat)
        (winRecord stKey 2 0 (wcToken b.toNat)))))) ∧
  (∀ (f : Nat) (r : RevokeWait) (rest : List RevokeWait) (s : State), (s.fn f).revokes = r :: rest →
    (s.revokeDone f r = true → ∃ u : State, exec (.revokeComplete f) s = .next (u.complete f r.compl (winRecord stOk 1 r.rkey r.token)) ∧
      u.fn f = { s.fn f with revokes := rest } ∧ u = { s with fns := u.fns }) ∧
    (s.revokeDone f r = false → exec (.revokeComplete f) s = .next s))

/-- A request passes only under a key that names a registered window of the function, bound to that context if bound, with the right its operation needs and a range that lies inside the window, and no atomic passes on a store window; the window's REGISTER record must have been issued and no REVOKE of it accepted; a refused request starts no host read, queues no host write, stores nothing and is counted under its cause; a duplicate of a request other than READ starts no host read, queues no host write, stores nothing and saves no response; the atomics give their word's new value; a word put into an atomic cache that is on is the only one for its address there and the cache holds at most 1,024. SAVE_RECORD_EXPIRY removes exactly the named records whose time is over and no other tile's; the watch notes a table of 16,384 records in use as full, and only that; SAVE_FULL after 1 ms of it records 0x0550 CORRECTED on the tile, once; an accepted packet's RACK releases the records below it and those alone. The model's own choices that it rests on, with no rule behind them: log entries 61, 159. (10 R254, 10 R262, 10 R264, 10 R265, 10 R266, 10 R267, 10 R277.) -/
def Obligations.RemoteAccessIsChecked : Prop :=
  ((∀ (f c : Nat) (p : Packet) (s : State), (s.rmaCheck f c p).1 = stOk →
    ∃ y, s.winOf f c (oRkey p) = some y ∧ (s.rmaCheck f c p).2 = y ∧ s.admitted f (oRkey p % 65536) = true ∧ y.reg = true ∧ y.fn = f ∧ (y.ctxb = true → y.bound = c) ∧
      y.base ≤ oRaddr p ∧ oRaddr p + rmaBytes p ≤ y.base + y.len ∧
      (oOpc p = opRead → y.rd = true) ∧ (oOpc p = opWrite → y.wr = true) ∧ (oOpc p = opWriteNotify → y.wr = true ∧ y.nt = true) ∧
      (oOpc p ≠ opRead → oOpc p ≠ opWrite → oOpc p ≠ opWriteNotify → y.atm = true ∧ y.store = false ∧ oRaddr p % 8 = 0)) ∧
  (∀ (f c : Nat) (p : Packet) (s : State), (s.rmaCheck f c p).1 ≠ stOk →
    (s.rmaTake f c p).fns = s.fns ∧ (s.rmaTake f c p).reads = s.reads ∧ (s.rmaTake f c p).out = s.out ∧
    (s.rmaTake f c p).store.staging = s.store.staging ∧ (s.rmaTake f c p).store.reads = s.store.reads ∧
    ∃ n, n ∈ [0, 1, 2] ∧ ((s.rmaTake f c p).et (etOf f)).rCounts =
      bump (bump (s.et (etOf f)).rCounts n 1) (refusalCtr (s.rmaCheck f c p).1) 1) ∧
  (∀ (f c : Nat) (p : Packet) (s : State), oOpc p ≠ opRead →
    (s.rmaDuplicate f c p).fns = s.fns ∧ (s.rmaDuplicate f c p).reads = s.reads ∧
    (s.rmaDuplicate f c p).store = { s.store with reads := (s.rmaDuplicate f c p).store.reads } ∧
    (s.rmaDuplicate f c p).store.reads.map (fun x => { x with op := { x.op with dups := 0 } }) =
      s.store.reads.map (fun x => { x with op := { x.op with dups := 0 } }) ∧
    (s.rmaDuplicate f c p).out = s.out ∧ ((s.rmaDuplicate f c p).et (etOf f)).saved = (s.et (etOf f)).saved) ∧
  (∀ a b old : Nat, atomicNew opFetchAdd a b old = some ((old + a) % 2 ^ 64) ∧ atomicNew opSwap a b old = some a ∧
    atomicNew opCswap a b old = (if old = a then some b else none)) ∧
  (∀ (h : Nat) (x : AtomWord) (s : State), s.cacheOn h = true → (s.et h).atoms.length ≤ 1024 →
    x ∈ ((s.cacheWord h x).et h).atoms ∧ ((s.cacheWord h x).et h).atoms.length ≤ 1024 ∧
    (∀ y ∈ ((s.cacheWord h x).et h).atoms, y.fn = x.fn → y.bus = x.bus → y = x))) ∧
  ((∀ (f c : Nat) (psn : U32) (s : State), ∃ u : State, exec (.saveRecordExpiry f c psn) s = .next (u.saveWatch (etOf f)) ∧
    (∀ r, r ∈ (u.et (etOf f)).saved ↔ r ∈ (s.et (etOf f)).saved ∧ ¬ (r.fn = f ∧ r.ctx = c ∧ r.psn = psn ∧ r.at_ + r.ttl ≤ s.etNow)) ∧
    (∀ j, j ≠ etOf f → u.et j = s.et j) ∧ u = { s with ets := u.ets }) ∧
  (∀ (h : Nat) (s : State), (((s.saveWatch h).et h).saveAt.isSome = true ↔ 16384 ≤ s.saveUse h) ∧
    ((s.saveWatch h).et h).saved = (s.et h).saved ∧ (s.saveWatch h) = { s with ets := (s.saveWatch h).ets }) ∧
  (∀ (h : Nat) (s : State),
    (after (s.et h).saveAt 1000000 s.etNow = true → (s.et h).saveRec = false →
      ∃ t : State, exec (.saveFull h) s = .next t ∧ t.et h = { s.et h with saveRec := true } ∧ (∀ j, j ≠ h → t.et j = s.et j) ∧
        t.faults.coming = s.faults.coming ++ [{ code := 0x0550, cls := corrected, tile := 8 + h }] ∧
        t = { s with ets := t.ets, faults := { s.faults with coming := t.faults.coming } }) ∧
    ((after (s.et h).saveAt 1000000 s.etNow = false ∨ (s.et h).saveRec = true) → exec (.saveFull h) s = .next s)) ∧
  (∀ (f c : Nat) (p : Packet) (r : Saved) (s : State), r ∈ (s.et (etOf f)).saved →
    (r ∈ ((s.rack f c p).et (etOf f)).saved ↔
      ¬ (r.fn = f ∧ r.ctx = c ∧ (xRackOff p = 0 ∨ (1 ≤ dist (xPsn p - BitVec.ofNat 32 (xRackOff p)) r.psn ∧
        dist (xPsn p - BitVec.ofNat 32 (xRackOff p)) r.psn < 2 ^ 31))))))

/-- A collective packet at the head of a port is taken off it and handed to its kind's action; a KEEPALIVE is counted. DATA for a tree that is not installed or of another INST is only counted stale, and an ABORT then does nothing; a packet of a broken tree does nothing; DATA of a reserved type or from a wrong edge breaks the tree with PROTOCOL and an ABORT from a right edge with ABORT_RX. In RUN a due keepalive puts one packet on CUP of every parent port and one on CDN of every child port, and none before it is due; an edge silent for COLL_TIMEOUT breaks the trees that use it, and one that is not does nothing. Breaking an installed, unbroken tree sets BROKEN and BREAK_CODE, drops its operations, finishes every entry of its members whose operation is not complete here, leaves every other tree as it was, records what R303 says for the code, and sends one ABORT from the tree's home tile to each edge but the one an ABORT arrived on; a packet the home tile sends to a port of its own joins that port's egress queue, one to another tile's port is offered to that tile. A tree that is broken or not installed does not break again; uninstalling leaves the reset entry. The model's own choices that it rests on, with no rule behind them: log entries 79, 151. (11 R296, 11 R297, 11 R298, 11 R300, 11 R280, 11 R303.) -/
def Obligations.CollectivePacketsArrive : Prop :=
  ((∀ (p : Nat) (q : QPkt) (rest : List QPkt) (s : State), (s.portq p).coll = q :: rest → s.faults.checkstop = false →
    ∃ u : State, (u.portq p).coll = rest ∧ (∀ j, j ≠ p → u.portq j = s.portq j) ∧
      u = { s with portqs := u.portqs, links := u.links, pts := u.pts, out := u.out } ∧
      (q.pkt.kind = kindCup → kCtype q.pkt ≠ 1 → kCtype q.pkt ≠ 2 → exec (.cupRx p) s = .next (u.takeCup p q.pkt)) ∧
      (q.pkt.kind = kindCdn → kCtype q.pkt ≠ 1 → kCtype q.pkt ≠ 2 → exec (.cdnRx p) s = .next (u.takeCdn p q.pkt)) ∧
      (kCtype q.pkt = 1 → exec (.collAbortRx p) s = .next (u.takeAbort p q.pkt)) ∧
      (kCtype q.pkt = 2 → exec (.keepaliveRx p) s = .next { u with collCounts := bump s.collCounts 7 1 })) ∧
  (∀ (p : Nat) (k : Packet) (s : State),
    (((s.tree (kTree k)).installed = false ∨ kInst k ≠ tInst (s.tree (kTree k)).entry.toNat) →
      s.takeCup p k = s.collCount 11 ∧ s.takeCdn p k = s.collCount 11 ∧ s.takeAbort p k = s) ∧
    ((s.tree (kTree k)).installed = true → kInst k = tInst (s.tree (kTree k)).entry.toNat → (s.tree (kTree k)).broken = true →
      s.takeCup p k = s ∧ s.takeCdn p k = s ∧ s.takeAbort p k = s) ∧
    ((s.tree (kTree k)).installed = true → kInst k = tInst (s.tree (kTree k)).entry.toNat → (s.tree (kTree k)).broken = false →
      ((2 < kCtype k ∨ tChild (s.tree (kTree k)).entry.toNat p = false) →
        s.takeCup p k = (s.collCount 12).breakTree (kTree k) 0x0A40 none (some p)) ∧
      ((2 < kCtype k ∨ tRoot (s.tree (kTree k)).entry.toNat = true ∨ p ≠ tParent (s.tree (kTree k)).entry.toNat) →
        s.takeCdn p k = (s.collCount 12).breakTree (kTree k) 0x0A40 none (some p)) ∧
      ((k.kind = kindCup ∧ tChild (s.tree (kTree k)).entry.toNat p = true ∨
        k.kind = kindCdn ∧ tRoot (s.tree (kTree k)).entry.toNat = false ∧ p = tParent (s.tree (kTree k)).entry.toNat) →
        s.takeAbort p k = (s.collCount 9).breakTree (kTree k) 0x0A70 (some p)))) ∧
  (∀ s : State, s.inMode .run = true → s.injectStopped = false → s.keepAt + s.cfg 0x7000 1 * 1000 / 4 ≤ s.now →
    ∃ t : State, exec .keepaliveTimer s = .next t ∧ t.keepAt = s.now ∧
      (∀ p, ∃ l, (t.portq p).egress = (s.portq p).egress ++ l ∧ (∀ q ∈ l, kCtype q.pkt = 2 ∧ kTree q.pkt = 0) ∧
        l.map (·.vc) = (if p ∈ s.parentPorts then [6] else []) ++ (if p ∈ s.childPorts then [7] else [])) ∧
      t = { s with portqs := t.portqs, collCounts := t.collCounts, keepAt := t.keepAt }) ∧
  (∀ s : State, (s.inMode .run = false ∨ s.injectStopped = true ∨ s.now < s.keepAt + s.cfg 0x7000 1 * 1000 / 4) → exec .keepaliveTimer s = .next s) ∧
  (∀ (p : Nat) (s : State),
    (s.inMode .run = true → s.faults.checkstop = false → s.treeEdge p = true → (s.portq p).collAt + s.cfg 0x7000 1 * 1000 ≤ s.now →
      exec (.edgeSilent p) s = .next (s.breakTrees (fun _ v => (tEdges v).contains p) 0x0A10 (some p))) ∧
    ((s.inMode .run = false ∨ s.treeEdge p = false ∨ s.now < (s.portq p).collAt + s.cfg 0x7000 1 * 1000) → exec (.edgeSilent p) s = .next s))) ∧
  ((∀ (t code : Nat) (arr port fn : Option Nat) (s : State), (s.tree t).installed = true → (s.tree t).broken = false →
    ∃ u : State, s.breakTree t code arr port fn = ((tEdges (s.tree t).entry.toNat).filter (fun p => arr != some p)).foldl (fun x p =>
        (x.sendColl (treeHome t (s.tree t).entry.toNat) p (!tRoot (s.tree t).entry.toNat && p == tParent (s.tree t).entry.toNat)
          (collHdr 1 t (s.tree t).oldest 0 0 0 false false 0 (tInst (s.tree t).entry.toNat) 0 0) []).collCount 8) u ∧
      u.tree t = { s.tree t with broken := true, breakCode := code, ops := [] } ∧ (∀ j, j ≠ t → u.tree j = s.tree j) ∧
      (∀ (f c n : Nat) (x : Entry), x ∈ (u.ctx f c).w.entries → wOpcode x.words.toNat = opCollective → wTree x.words.toNat = t →
        x.op = some n → s.opOver t n = false → x.open = false) ∧
      ((code = 0x0A10 ∨ code = 0x0A20 ∨ code = 0x0A40) → u.faults.coming = s.faults.coming ++
        [{ code := code, cls := deferred, tile := treeHome t (s.tree t).entry.toNat, info := collInfo t port }]) ∧
      (code = 0x0A30 → u.faults.coming = s.faults.coming ++
        [{ code := code, cls := corrected, tile := treeHome t (s.tree t).entry.toNat, fn := fn, info := collInfo t none }]) ∧
      ((code = 0x0A60 ∨ code = 0x0A70 ∨ code = 0x0A80) → u.faults.coming = s.faults.coming) ∧
      u = { s with trees := u.trees, ctxs := u.ctxs, collCounts := u.collCounts,
                   faults := { s.faults with coming := u.faults.coming } }) ∧
  (∀ (n p ext : Nat) (up : Bool) (bytes : List Byte) (s : State),
    (n = ptOf p → ((s.sendColl n p up ext bytes).portq p).egress = (s.portq p).egress ++
        [{ pkt := s.collPacket p up ext bytes, vc := if up then 6 else 7, ingress := 72, arr := s.now }] ∧
      (∀ j, j ≠ p → (s.sendColl n p up ext bytes).portq j = s.portq j) ∧
      s.sendColl n p up ext bytes = { s with portqs := (s.sendColl n p up ext bytes).portqs }) ∧
    (n ≠ ptOf p → s.sendColl n p up ext bytes = (s.offer n (ptOf p) (p % 8)
      (.egress p { pkt := s.collPacket p up ext bytes, vc := if up then 6 else 7, ingress := 72, arr := s.now })).noteDepth p (if up then 6 else 7))) ∧
  (∀ (t code : Nat) (arr port fn : Option Nat) (s : State), ((s.tree t).installed = false ∨ (s.tree t).broken = true) →
    s.breakTree t code arr port fn = s) ∧
  (∀ (t : Nat) (s : State), (s.uninstallTree t).tree t = {} ∧ ∀ j, j ≠ t → (s.uninstallTree t).tree j = s.tree j))

/-- Adding partials is commutative and associative; two finite partials whose sum fits give exactly it; an element of FP32, BF16 or FP16 that is no NaN and not minus zero comes back unchanged from conversion and rounding, and a NaN as the canonical one; every SUM, MIN or MAX of floating elements with a NaN among them gives the canonical NaN. (11 R286, 11 R290, 11 R291.) -/
def Obligations.ExactSumsAnyOrder : Prop :=
  (∀ a b c : Nat, addPartial a b = addPartial b a ∧ addPartial (addPartial a b) c = addPartial a (addPartial b c)) ∧
  (∀ a b : Nat, bf a 318 2 = 0 → bf b 318 2 = 0 → -(2 : Int) ^ 317 ≤ signed 318 a + signed 318 b → signed 318 a + signed 318 b < 2 ^ 317 →
    signed 318 (addPartial a b) = signed 318 a + signed 318 b ∧ bf (addPartial a b) 318 2 = 0) ∧
  (∀ d x : Nat, (d = 5 ∨ d = 6 ∨ d = 7) → x < 2 ^ fpWidth d →
    (isNaN d x = true → roundPartial d (toPartial d x) = fpNaN d) ∧
    (isNaN d x = false → x ≠ 2 ^ (fpWidth d - 1) → roundPartial d (toPartial d x) = x)) ∧
  (∀ d op a b : Nat, 4 ≤ d → d ≤ 7 → op ≤ 2 → (isNaN d a = true ∨ isNaN d b = true) → combine d op a b = fpNaN d) ∧
  fpNaN 4 = 0x7FF8000000000000 ∧ fpNaN 5 = 0x7FC00000 ∧ fpNaN 6 = 0x7FC0 ∧ fpNaN 7 = 0x7E00

/-- BARRIER takes 0 bytes each way, BROADCAST LENGTH each way, REDUCE and ALLREDUCE LENGTH each way in ordered mode and 40 times LENGTH over s upward in exact mode; what the unit folds and what the root rounds has these sizes. (11 R282.) -/
def Obligations.WireSizes : Prop :=
  (∀ (d len : Nat) (x : Bool), upWire 0 d x len = 0 ∧ downWire 0 len = 0 ∧ upWire 1 d x len = len ∧ downWire 1 len = len) ∧
  (∀ k d len : Nat, (k = 2 ∨ k = 3) → upWire k d false len = len ∧ upWire k d true len = 40 * len / dtSize d ∧ downWire k len = len) ∧
  (∀ (k d : Nat) (a : List Byte), (k = 2 ∨ k = 3) → a.length % dtSize d = 0 →
    (liftPartial d a).length = upWire k d true a.length ∧ (lowerPartial d (liftPartial d a)).length = downWire k a.length ∧
    (∀ b : List Byte, b.length = a.length → ∀ op, (foldNative d op a b).length = upWire k d false a.length ∧
      (foldPartial (liftPartial d a) (liftPartial d b)).length = upWire k d true a.length)) ∧
  (∀ (f w : Nat) (s : State), 256 * tUbuf (s.tree (wTree w)).entry.toNat < upWire (wKind w) (wDtype w) (wExact w) (wLength w) ∨
    256 * tDbuf (s.tree (wTree w)).entry.toNat < downWire (wKind w) (wLength w) → s.badCollective f w = true)

/-- A MAILBOX GO of a present function with no request outstanding puts its PDU, of the words its length says, at the end of its port's queue and sets GO; with a length of 0 or beyond 511 words it is answered BAD_PDU at once; without GO the buffer and the length are written; while a request is outstanding only the buffer is. With its frame buffer open to it, a datagram to an address of the device from an allowed source, in a frame of 1,518 B at most, joins the MGMT queue, one beyond 64 is counted UDP_DROPPED, and one from another source, or one that access control keeps from the buffer, is dropped without an answer; a longer frame is discarded. An MGT request joins the FABRIC queue. With its buffer open both ways the management port answers ARP, echo and solicitations for its own addresses in frames of 1,518 B at most, and no other frame. The SMBus answers a listed command to the device's address with the count, the value and the PEC over address, command, count and value, and does not acknowledge another. The model's own choices that it rests on, with no rule behind them: log entries 93, 97, 129. (00 R8, 02 R42, 12 R308, 12 R323, 12 R324, 12 R325, 12 R328, 17 R416, 17 R423.) -/
def Obligations.RequestsReachTheEngine : Prop :=
  (∀ (f : Nat) (ctrl : BitVec 32) (buf : List Byte) (s : State), s.present f = true → (s.fn f).mbGo = false → s.faults.checkstop = false →
    s.inMode .seat = false → bitAt ctrl.toNat 0 = true →
    (1 ≤ bf ctrl.toNat 1 11 → bf ctrl.toNat 1 11 ≤ 511 →
      ∃ (t : State) (x : DictReq), exec (.mailboxGo f ctrl buf) s = .next t ∧ t.dictQueue (3 + etOf f) = s.dictQueue (3 + etOf f) ++ [x] ∧
        x.r = { pr := .host f, src := 0, txid := dTxid (pduHdr buf) } ∧ x.pdu.length = 4 * bf ctrl.toNat 1 11 ∧
        (∀ k, k < buf.length → k < 4 * bf ctrl.toNat 1 11 → x.pdu[k]? = buf[k]?) ∧
        (∀ k, buf.length ≤ k → k < 4 * bf ctrl.toNat 1 11 → x.pdu[k]? = some 0) ∧
        (∀ q, q ≠ 3 + etOf f → t.dictQueue q = s.dictQueue q) ∧
        t.fn f = { s.fn f with mbReq := buf, mbLen := bf ctrl.toNat 1 11, mbGo := true } ∧
        t = { s with fns := t.fns, dict := { s.dict with queues := t.dict.queues } }) ∧
    ((bf ctrl.toNat 1 11 = 0 ∨ 511 < bf ctrl.toNat 1 11) →
      ∃ t : State, exec (.mailboxGo f ctrl buf) s = .next t ∧ (t.fn f).mbGo = false ∧
        (t.fn f).mbResp = respPdu (dService (pduHdr buf)) (dTxid (pduHdr buf)) 0 0 0 0x08010000 false true [] ∧
        t = { s with fns := t.fns, dict := { s.dict with counts := t.dict.counts }, ctrs := t.ctrs })) ∧
  (∀ (f : Nat) (ctrl : BitVec 32) (buf : List Byte) (s : State), (s.present f = false → exec (.mailboxGo f ctrl buf) s = .next s) ∧
    (s.present f = true → s.faults.checkstop = false → s.inMode .seat = false →
      ∃ t : State, exec (.mailboxGo f ctrl buf) s = .next t ∧
        ((s.fn f).mbGo = true → t.fn f = { s.fn f with mbReq := buf.take 2044 } ∧ t = { s with fns := t.fns }) ∧
        ((s.fn f).mbGo = false → bitAt ctrl.toNat 0 = false →
          t.fn f = { s.fn f with mbReq := buf, mbLen := bf ctrl.toNat 1 11, mbGo := false } ∧ t = { s with fns := t.fns }))) ∧
  (∀ (src dest : Nat) (v6 : Bool) (pdu : List Byte) (s : State) (u : State × Bool),
    s.pathOpen { pr := .mgmt, src := src + (if v6 then 2 ^ 144 else 0), txid := dTxid (pduHdr pdu) } = true →
    s.dict.mgmtLink = true → s.mgmtOwns v6 dest = true → datagramLen v6 pdu + 4 ≤ 1518 →
    u = State.transfer { s with dict := { s.dict with amberAt := some s.now } } 11 (datagramLen v6 pdu) true (s.frameBytes (if v6 then 62 else 42) pdu) →
    ∃ t : State, exec (.mgmtDatagramRx src v6 dest pdu) s = .next t ∧
      (u.2 = true → s.mgmtAllows v6 (src / 65536) = true → (s.dictQueue 1).length < 64 →
        t.dictQueue 1 = s.dictQueue 1 ++
        [{ r := { pr := .mgmt, src := src + (if v6 then 2 ^ 144 else 0), txid := dTxid (pduHdr pdu) }, pdu := pdu, dest := dest }] ∧
        t.dict.counts = s.dict.counts) ∧
      (u.2 = true → s.mgmtAllows v6 (src / 65536) = true → 64 ≤ (s.dictQueue 1).length →
        t.dict.queues = s.dict.queues ∧ t.dict.counts = bump s.dict.counts 5 1) ∧
      ((u.2 = false ∨ s.mgmtAllows v6 (src / 65536) = false) →
        t.dict.queues = s.dict.queues ∧ t.dict.counts = s.dict.counts) ∧
      (∀ q, q ≠ 1 → t.dictQueue q = s.dictQueue q) ∧
      t = { s with dict := { s.dict with queues := t.dict.queues, counts := t.dict.counts, amberAt := some s.now }, acu := t.acu, free := t.free,
                   priv := { s.priv with sram := t.priv.sram, bad := t.priv.bad }, faults := { s.faults with coming := t.faults.coming } }) ∧
  (∀ (src dest : Nat) (v6 : Bool) (pdu : List Byte) (s : State),
    (s.dict.mgmtLink = false ∨ s.mgmtOwns v6 dest = false ∨ 1518 < datagramLen v6 pdu + 4) →
    exec (.mgmtDatagramRx src v6 dest pdu) s = .next s) ∧
  (∀ (k : Packet) (s : State), s.dict.rx.find? isRequest = some k →
    ∃ t : State, exec .mgtRequestRx s = .next t ∧ t.dict.rx = s.dict.rx.erase k ∧
      t.dictQueue 2 = s.dictQueue 2 ++ [{ r := { pr := .fabric, src := fabricSrc k.sform k.srcDev, txid := dTxid k.ext }, pdu := natLe 16 k.ext ++ k.payload }] ∧
      (∀ q, q ≠ 2 → t.dictQueue q = s.dictQueue q) ∧ t = { s with dict := { s.dict with rx := t.dict.rx, queues := t.dict.queues } }) ∧
  (∀ (up mdix : Bool) (s : State),
    (s.island 12 = true → exec (.mgmtLinkChange up mdix) s = .next { s with dict := { s.dict with mgmtLink := up, mdix := up && mdix } }) ∧
    (s.island 12 = false → exec (.mgmtLinkChange up mdix) s = .next s)) ∧
  (∀ (x : MgmtFrame) (s : State) (u : State × Bool), s.island 12 = true → s.dict.mgmtLink = true →
    u = State.transfer { s with dict := { s.dict with amberAt := some s.now } } 11 x.size true (s.frameBytes x.size []) →
    ∃ t : State, exec (.mgmtFrameRx x) s = .next t ∧
      (u.2 = true → (u.1.transfer 11 x.size false).2 = true →
        t.out = (if u.1.frameAnswered x && decide (x.size + 4 ≤ 1518) then s.out ++ [.mgmtReply x] else s.out)) ∧
      (u.2 = false → t.out = s.out) ∧
      t = { s with out := t.out, dict := { s.dict with amberAt := some s.now }, acu := t.acu, free := t.free,
                   priv := { s.priv with sram := t.priv.sram, bad := t.priv.bad }, faults := { s.faults with coming := t.faults.coming } }) ∧
  (∀ s : State, s.frameAnswered .vlanTagged = false ∧ s.frameAnswered .oversize = false ∧ s.frameAnswered .other = false ∧
    (∀ a, s.frameAnswered (.arpRequest a) = s.mgmtOwns false a ∧ s.frameAnswered (.neighbourSolicit a) = s.mgmtOwns true a)) ∧
  (∀ (addr cmd : Nat) (o : Nat × Nat) (s : State), s.island 12 = true → addr = 0x58 + s.dict.smbAddr → smbObject cmd = some o →
    ∃ v, v = s.valueBytes 0 o.1 o.2 ∧ exec (.smbusBlockRead addr cmd) s = .next { s with out := s.out ++
      [.smbus (some (BitVec.ofNat 8 v.length :: v ++ [BitVec.ofNat 8 (crc8 ([BitVec.ofNat 8 (2 * addr), BitVec.ofNat 8 cmd,
        BitVec.ofNat 8 (2 * addr + 1), BitVec.ofNat 8 v.length] ++ v))]))] }) ∧
  (∀ (addr cmd : Nat) (s : State), (s.island 12 = false ∨ addr ≠ 0x58 + s.dict.smbAddr ∨ smbObject cmd = none) →
    exec (.smbusBlockRead addr cmd) s = .next { s with out := s.out ++ [.smbus none] }) ∧
  (∀ s : State, exec .smbusTimeout s = .next { s with out := s.out ++ [.smbus none] })

/-- At its queue's turn a command serves the request at the queue's head when the path is open and the service is the one named, and leaves the other queues; with the path closed, or another queue before it in the cycle, nothing happens. A served request is counted; one whose key matches a kept response is answered with that; a bad PDU is aborted with BAD_PDU; a READ of an object within reach whose value fits one segment is answered with the bytes as they stand, and one out of reach aborted; a WRITE in one segment is performed whole; DESCRIBE answers the descriptor; CANCEL ends the requester's open transfer, or is aborted without one; RELAY by a requester that may sends the inner PDU and keeps a record of it. A relay's answer, by its TXID and device or by its TXID from a name of the other form, goes to its requester and ends the relay, its timeout answers RELAY_TIMEOUT, not early; a segmented write with a gap beyond 1 s ends with SEG_TIMEOUT and is counted, a snapshot ends 1 s after its last read, kept responses after 10 s; the oldest waiting read of ACU_SYNC is answered with its epoch once the accesses checked before it have finished, and not before. The model's own choices that it rests on, with no rule behind them: log entries 90, 91, 92, 95, 160. (04 R94, 12 R308, 12 R317, 12 R318, 12 R319, 12 R320, 12 R322, 12 R326.) -/
def Obligations.TheEngineServes : Prop :=
  (∀ (q : Nat) (x : DictReq) (rest : List DictReq) (s : State), s.dictQueue q = x :: rest →
    (s.pathOpen x.r = true → s.dictTurn q = true → ∃ u : State, u.dictQueue q = rest ∧ (∀ j, j ≠ q → u.dictQueue j = s.dictQueue j) ∧
      u = { s with dict := { s.dict with queues := u.dict.queues } } ∧
      (dService (pduHdr x.pdu) = 0 → exec (.dictRead q) s = .next (u.serve x)) ∧
      (dService (pduHdr x.pdu) = 1 → exec (.dictWrite q) s = .next (u.serve x)) ∧
      (dService (pduHdr x.pdu) = 2 → exec (.dictDescribe q) s = .next (u.serve x)) ∧
      (dService (pduHdr x.pdu) = 3 → exec (.dictCancel q) s = .next (u.serve x)) ∧
      (dService (pduHdr x.pdu) = 4 → exec (.dictRelay q) s = .next (u.serve x))) ∧
    ((s.pathOpen x.r = false ∨ s.dictTurn q = false) → exec (.dictRead q) s = .next s ∧ exec (.dictWrite q) s = .next s ∧ exec (.dictDescribe q) s = .next s ∧
      exec (.dictCancel q) s = .next s ∧ exec (.dictRelay q) s = .next s)) ∧
  (∀ (x : DictReq) (s : State), ∃ u : State, u = { s with dict := { s.dict with counts := u.dict.counts }, ctrs := u.ctrs } ∧
    u.dict.counts = bump s.dict.counts 0 1 ∧
    (∀ k, s.keptFor x.r (pduHdr x.pdu) = some k → s.serve x = (u.dictCount 2).respond x.r x.dest k.pdu) ∧
    (s.keptFor x.r (pduHdr x.pdu) = none → badPdu x.r x.pdu = true → dService (pduHdr x.pdu) ≠ 4 → s.serve x = u.abortReq x .badPdu) ∧
    (s.keptFor x.r (pduHdr x.pdu) = none → badPdu x.r x.pdu = false →
      (dService (pduHdr x.pdu) = 0 → ∀ a, s.reach x.r (dIndex (pduHdr x.pdu)) (dSub (pduHdr x.pdu)) false = some a → s.serve x = u.abortReq x a) ∧
      (dService (pduHdr x.pdu) = 0 → s.reach x.r (dIndex (pduHdr x.pdu)) (dSub (pduHdr x.pdu)) false = none →
        ¬ (dIndex (pduHdr x.pdu) = 0x2020 ∧ dSub (pduHdr x.pdu) = 65) → dOffset (pduHdr x.pdu) = 0 →
        (u.valueBytes ((reqFn x.r).getD 0) (dIndex (pduHdr x.pdu)) (dSub (pduHdr x.pdu))).length ≤ segSize x.r →
        s.serve x = u.answerReq x.r x.dest (pduHdr x.pdu) (respPdu 0 (dTxid (pduHdr x.pdu)) (dIndex (pduHdr x.pdu)) (dSub (pduHdr x.pdu)) 0
          (u.valueBytes ((reqFn x.r).getD 0) (dIndex (pduHdr x.pdu)) (dSub (pduHdr x.pdu))).length true false
          (u.valueBytes ((reqFn x.r).getD 0) (dIndex (pduHdr x.pdu)) (dSub (pduHdr x.pdu))))) ∧
      (dService (pduHdr x.pdu) = 1 → dOffset (pduHdr x.pdu) = 0 → dLast (pduHdr x.pdu) = true → dLen (pduHdr x.pdu) = dTotal (pduHdr x.pdu) →
        s.serve x = u.finishWrite x (pduData x.pdu) false) ∧
      (∀ o, dService (pduHdr x.pdu) = 2 → s.reach x.r (dIndex (pduHdr x.pdu)) (dSub (pduHdr x.pdu)) false = none →
        s.obj? (dIndex (pduHdr x.pdu)) (dSub (pduHdr x.pdu)) = some o →
        s.serve x = u.answerReq x.r x.dest (pduHdr x.pdu)
          (respPdu 2 (dTxid (pduHdr x.pdu)) (dIndex (pduHdr x.pdu)) (dSub (pduHdr x.pdu)) 0 0 false false o.descriptor)) ∧
      (dService (pduHdr x.pdu) = 3 → s.segOf x.r = none → s.serve x = u.abortReq x .segSequence) ∧
      (∀ g, dService (pduHdr x.pdu) = 3 → s.segOf x.r = some g → ∃ v : State, s.serve x = v.answerReq x.r x.dest (pduHdr x.pdu) (okPdu (pduHdr x.pdu)) ∧
        (∀ y, y ∈ v.dict.segs ↔ y ∈ s.dict.segs ∧ y.id ≠ g.id) ∧
        v = { u with dict := { u.dict with segs := v.dict.segs, ended := v.dict.ended } }) ∧
      (dService (pduHdr x.pdu) = 4 → 24 ≤ (pduData x.pdu).length → s.mayRelay x.r = true → s.dict.relays.length < 64 →
        s.isSelf (bitAt (leNat ((pduData x.pdu).take 8)) 20) (bf (leNat ((pduData x.pdu).take 8)) 0 20) = false →
        ∃ (v : State) (y : Relay), s.serve x = v.sendMgt y.form y.dev ((pduData x.pdu).drop 8) ∧ v.dict.relays = s.dict.relays ++ [y] ∧
          y.r = x.r ∧ y.dev = bf (leNat ((pduData x.pdu).take 8)) 0 20 ∧ y.form = bitAt (leNat ((pduData x.pdu).take 8)) 20 ∧
          y.txid = dTxid (pduHdr ((pduData x.pdu).drop 8)) ∧ y.at_ = s.now ∧
          v = { u with dict := { u.dict with relays := v.dict.relays, nextId := v.dict.nextId, counts := v.dict.counts } }))) ∧
  (∀ (k : Packet) (s : State), s.dict.rx.find? (fun p => !isRequest p) = some k →
    (∀ y, s.relayOf k = some y →
      ∃ u : State, exec .relayResponseRx s = .next (u.respond y.r y.dest (respPdu 4 y.r.txid 0 0 0 0 false false (natLe 16 k.ext ++ k.payload))) ∧
        (∀ z, z ∈ u.dict.relays ↔ z ∈ s.dict.relays ∧ z.id ≠ y.id) ∧ u.dict.rx = s.dict.rx.erase k ∧
        u = { s with dict := { s.dict with relays := u.dict.relays, rx := u.dict.rx } }) ∧
    (s.relayOf k = none →
      exec .relayResponseRx s = .next { s with dict := { s.dict with rx := s.dict.rx.erase k } })) ∧
  (∀ (id : Nat) (y : Relay) (s : State), s.dict.relays.find? (fun y => y.id == id) = some y →
    (s.now < y.at_ + y.limit → exec (.relayTimeout id) s = .next s) ∧
    (y.at_ + y.limit ≤ s.now → ∃ u : State, exec (.relayTimeout id) s = .next (u.respond y.r y.dest (respPdu 4 y.r.txid 0 0 0 0x06060004 false true [])) ∧
      (∀ z, z ∈ u.dict.relays ↔ z ∈ s.dict.relays ∧ z.id ≠ id) ∧ u.dict.counts = bump s.dict.counts 4 1 ∧
      u = { s with dict := { s.dict with relays := u.dict.relays, counts := u.dict.counts } })) ∧
  (∀ (id : Nat) (g : Seg) (s : State), s.dict.segs.find? (fun g => g.id == id && g.write) = some g →
    (s.now ≤ g.at_ + 1000000000 → exec (.segTimeout id) s = .next s) ∧
    (g.at_ + 1000000000 < s.now → ∃ t : State, exec (.segTimeout id) s = .next t ∧ (∀ y, y ∈ t.dict.segs ↔ y ∈ s.dict.segs ∧ y.id ≠ id) ∧
      (g.r, .segTimeout) ∈ t.dict.ended ∧ t.dict.counts = bump s.dict.counts 6 1 ∧
      t = { s with dict := { s.dict with segs := t.dict.segs, ended := t.dict.ended, counts := t.dict.counts } })) ∧
  (∀ (id : Nat) (g : Seg) (s : State), s.dict.segs.find? (fun g => g.id == id && !g.write) = some g →
    (s.now < g.at_ + 1000000000 → exec (.snapshotExpiry id) s = .next s) ∧
    (g.at_ + 1000000000 ≤ s.now → ∃ t : State, exec (.snapshotExpiry id) s = .next t ∧ (∀ y, y ∈ t.dict.segs ↔ y ∈ s.dict.segs ∧ y.id ≠ id) ∧
      t = { s with dict := { s.dict with segs := t.dict.segs } })) ∧
  (∀ s : State, ∃ t : State, exec .keptResponseExpiry s = .next t ∧ (∀ k, k ∈ t.dict.kept ↔ k ∈ s.dict.kept ∧ s.now < k.at_ + 10000000000) ∧
    t = { s with dict := { s.dict with kept := t.dict.kept } }) ∧
  (∀ (y : SyncRead) (rest : List SyncRead) (s : State), s.acu.syncs = y :: rest →
    (s.now < y.ahead → exec .acuSyncReturn s = .next s) ∧
    (y.ahead ≤ s.now → ∃ (u : State) (h : Nat), dIndex h = 0x2020 ∧ dSub h = 65 ∧ dTxid h = y.r.txid % 65536 ∧
      (y.bus = none → exec .acuSyncReturn s = .next (u.answerReq y.r y.dest h (readPdu y.r h (natLe 4 y.epoch.toNat)))) ∧
      (∀ who n, y.bus = some (who, n) → exec .acuSyncReturn s = .next { u with out := s.out ++
        [.accessResp who stOk ((natLe 4 y.epoch.toNat ++ List.replicate 60 0).take n)] }) ∧
      u.acu.syncs = rest ∧ (∀ x, x ∈ u.acu.flying ↔ x ∈ s.acu.flying ∧ s.now < x.fin) ∧
      u = { s with acu := { s.acu with flying := u.acu.flying, syncs := u.acu.syncs } }))

/-- A write passes exactly when its object exists, the requester has the right, scope and authority, the class, length and, for a BOOL, the value allow it, its tile runs, the mode and its block allow it, and no state, capacity, range or conflict forbids it. Firmware uploads and FW_CONFIRM apart, a refused write changes nothing but the faults it records, and an accepted one is journalled if it persists and taken in the same step. Setting an object's value makes it that and leaves every other object's; for the objects listed, taking a write does that alone. A write that nothing waits before is served at once, a retry among them from the kept response; another joins its requester's path where one segment holds it, and one by a closed path is not taken. The model's own choices that it rests on, with no rule behind them: log entries 82, 89. (12 R305, 12 R307, 12 R308, 12 R310, 12 R312, 12 R315, 12 R322, 12 R327.) -/
def Obligations.WritesAreDecidedInOneStep : Prop :=
  (∀ (r : Req) (idx sub len v : Nat) (s : State), s.writeCheck r idx sub len v = none ↔
    (∃ o, s.obj? idx sub = some o ∧ s.hasRight r o idx true = true ∧ inScope r o idx sub true = true ∧ s.noAuthority r idx sub = false ∧
      o.acc.writable = true ∧ o.lenOk len = true ∧ (o.ty = 0 → v ≤ 1)) ∧
    s.unavailable ((reqFn r).getD 0) idx sub = false ∧ s.wrongMode idx sub v = false ∧ s.blockRuns idx sub v = false ∧
    s.blockBusy ((reqFn r).getD 0) idx sub = false ∧ s.stateClash ((reqFn r).getD 0) idx sub v = false ∧
    s.noRoom ((reqFn r).getD 0) idx v = false ∧ badValue ((reqFn r).getD 0) idx sub v = false ∧ s.badRange idx sub v = false ∧
    s.valueClash idx sub v = false) ∧
  (∀ (r : Req) (idx sub : Nat) (bytes : List Byte) (a : Abort) (s : State), idx ≠ 0xC001 → ¬ (idx = 0xC002 ∧ sub = 2) →
    (s.writeStep r idx sub bytes).2 = some a →
    (s.writeStep r idx sub bytes).1 = { s with faults := { s.faults with coming := (s.writeStep r idx sub bytes).1.faults.coming } }) ∧
  (∀ (r : Req) (idx sub : Nat) (bytes : List Byte) (o : Obj) (s : State), idx ≠ 0xC001 → ¬ (idx = 0xC002 ∧ sub = 2) → s.obj? idx sub = some o →
    s.openCheck r idx sub bytes.length = none → s.valueCheck r idx sub (o.valueOf bytes) = none →
    (o.persist = true → s.journalTakes (s.allRecs idx sub (o.valueOf bytes)) = true) →
    ∃ u : State, s.writeStep r idx sub bytes = (u.takeWrite ((reqFn r).getD 0) idx sub (o.valueOf bytes), none) ∧
      u.dict.vals = s.dict.vals ∧ (o.persist = false → u = s) ∧
      (o.persist = true → StageItem.journal (okey idx sub) (keptValue idx (o.valueOf bytes)) ∈ u.store.staging) ∧
      u = { s with store := u.store, dict := { s.dict with counts := u.dict.counts, journal := u.dict.journal, journal2 := u.dict.journal2 }, ctrs := u.ctrs }) ∧
  (∀ (idx sub v : Nat) (s : State), (s.setCfg idx sub v).cfg idx sub = v ∧
    (∀ i j, okey i j ≠ okey idx sub → (s.setCfg idx sub v).cfg i j = s.cfg i j) ∧
    s.setCfg idx sub v = { s with dict := { s.dict with vals := (s.setCfg idx sub v).dict.vals } }) ∧
  (∀ (f idx sub v : Nat) (s : State), idx ∈ [0x1010, 0x1032, 0x2023, 0x3003, 0x3004, 0x3005, 0x3006, 0x3007, 0x300A, 0x300B, 0x300D, 0x4001,
      0x4003, 0x4006, 0x5000, 0x5014, 0x5033, 0x6000, 0x6010, 0x7000] →
    (idx = 0x6000 → sub ≠ 4) → s.takeWrite f idx sub v = s.setCfg idx sub v) ∧
  (∀ (r : Req) (idx sub : Nat) (bytes : List Byte) (s : State),
    (s.atOnce r = false → segSize r < bytes.length → s.acceptWrite r idx sub bytes = s) ∧
    (s.atOnce r = false → bytes.length ≤ segSize r → (∀ f, r.pr ≠ .host f) →
      (s.pathOpen r = false → s.acceptWrite r idx sub bytes = s) ∧
      (s.pathOpen r = true → s.acceptWrite r idx sub bytes =
        s.enqueue { r := r, pdu := natLe 16 (writeHdr r idx sub bytes.length) ++ bytes })) ∧
    (∀ f, s.atOnce r = false → bytes.length ≤ segSize r → r.pr = .host f →
      exec (.mailboxGo f (BitVec.ofNat 32 (1 + 2 * ((16 + bytes.length + 3) / 4))) (natLe 16 (writeHdr r idx sub bytes.length) ++ bytes)) s
        = .next (s.acceptWrite r idx sub bytes)) ∧
    (s.atOnce r = true → ∃ u : State, u = { s with dict := { s.dict with counts := u.dict.counts }, ctrs := u.ctrs } ∧
      (∀ k, s.keptFor r (writeHdr r idx sub bytes.length) = some k → s.acceptWrite r idx sub bytes = (u.dictCount 2).respond r 0 k.pdu) ∧
      (s.keptFor r (writeHdr r idx sub bytes.length) = none →
        s.acceptWrite r idx sub bytes = (u.writeStep r idx sub bytes).1.answerReq r 0 (writeHdr r idx sub bytes.length)
          (match (u.writeStep r idx sub bytes).2 with
            | some a => abortPdu (writeHdr r idx sub bytes.length) a
            | none => okPdu (writeHdr r idx sub bytes.length)))))

/-- EQ_CREATE, EQ_DESTROY, XLATE_INVALIDATE, ACU_REGION_WRITE, SEM_CFG_WRITE, the port, route, time, gate, cache, tree and dictionary requests are each the acceptance of one write of the object and value named, which, when the path is open and nothing waits before it, the request is no retry and every check of R327 passes, takes the value and answers the requester. Taking the value creates or destroys the queue, starts the invalidation, sets the region and raises the epoch, configures the semaphore, starts or stops the port, asks for or leaves its low-power state, clears its lanes' error counts when the checker turns on, changes the generation and quiets the one left, steps root time to the value, makes the schedule pending, empties the cache, installs or uninstalls the tree, defines or deletes the object, or empties the journal. ACU_SYNC_READ by an open path with nothing waiting before it, no retry and within reach, waits with the epoch at its arrival for the accesses in flight. The model's own choices that it rests on, with no rule behind them: log entries 86, 87, 96. (02 R55, 03 R82, 04 R91, 04 R94, 04 R105, 05 R137, 06 R159, 07 R164, 07 R180, 10 R265, 11 R280, 12 R316.) -/
def Obligations.TypedRequests : Prop :=
  (∀ (r : Req) (idx sub len v w : Nat) (s : State), idx ≠ 0xC001 → ¬ (idx = 0xC002 ∧ sub = 2) → Safety.passes s r idx sub len v w →
    Safety.taken s (s.acceptNat r idx sub len v) r idx sub len w) ∧
  (∀ (r : Req) (s : State),
    (∀ (q : Nat) (d : BitVec 256), exec (.eqCreate r q d) s = .next (s.acceptNat r (0x2110 + q / 256) (q % 256) 32 (d ||| 1).toNat)) ∧
    (∀ q : Nat, exec (.eqDestroy r q) s = .next (s.acceptNat r (0x2110 + q / 256) (q % 256) 32 0)) ∧
    (∀ d : BitVec 256, exec (.xlateInvalidate r d) s = .next (s.acceptNat r 0x201A ((reqFn r).getD 0) 32 d.toNat)) ∧
    (∀ (k : Nat) (d : BitVec 128), exec (.acuRegionWrite r k d) s = .next (s.acceptNat r 0x2020 (k + 1) 16 d.toNat)) ∧
    (∀ (n : Nat) (d : BitVec 32), exec (.semCfgWrite r n d) s = .next (s.acceptNat r 0x2021 n 4 d.toNat)) ∧
    (∀ p x : Nat, exec (.portLpsEnterReq r p x) s = .next (s.acceptNat r 0x300C (p + 1) 1 x) ∧
      exec (.portLpsExit (some r) p) s = .next (s.acceptNat r 0x300C (p + 1) 1 0) ∧
      exec (.portEnableWrite r p x) s = .next (s.acceptNat r 0x3002 (p + 1) 1 x) ∧
      exec (.atomicCacheWrite r p x) s = .next (s.acceptNat r 0x5034 (p + 1) 1 x) ∧
      exec (.routeGenActiveWrite r x) s = .next (s.acceptNat r 0x4000 1 1 x)) ∧
    (∀ (p : Nat) (d : BitVec 32), exec (.portTestWrite r p d) s = .next (s.acceptNat r 0x300E (p + 1) 4 d.toNat) ∧
      exec (.dictFactoryWrite r d) s = .next (s.acceptNat r 0x1031 1 4 d.toNat)) ∧
    (∀ d : BitVec 64, exec (.ftSetWrite r d) s = .next (s.acceptNat r 0xD000 9 8 d.toNat)) ∧
    (∀ (p : Nat) (d : BitVec 2176), exec (.gateSchedWrite r p d) s = .next (s.acceptNat r 0xD010 (p + 1) 272 d.toNat)) ∧
    (∀ (t : Nat) (d : BitVec 512), exec (.treeInstall r t d) s = .next (s.acceptNat r (0x7100 + t / 256) (t % 256) 64 (d ||| 1).toNat) ∧
      exec (.treeUninstall r t d) s = .next (s.acceptNat r (0x7100 + t / 256) (t % 256) 64 (d &&& ~~~1).toNat)) ∧
    (∀ d : BitVec 128, exec (.dictUserDefineWrite r d) s = .next (s.acceptNat r 0x1030 1 16 d.toNat)) ∧
    (s.atOnce r = true → s.keptFor r (readHdr r 0x2020 65) = none → s.reach r 0x2020 65 false = none →
      ∃ t : State, exec (.acuSyncRead r) s = .next t ∧
        t.acu = { s.acu with syncs := s.acu.syncs ++ [{ r := r, epoch := s.acu.epoch, ahead := s.acu.settled }] } ∧
        t = { s with acu := t.acu, dict := { s.dict with counts := t.dict.counts }, ctrs := t.ctrs })) ∧
  (∀ (f q v : Nat) (s : State), q < 4096 → ∃ t : State, s.takeWrite f (0x2110 + q / 256) (q % 256) v = t ∧
    (bitAt v 0 = true → t.eq? f q = some { log2 := bf v 1 5, vector := bf v 16 16, base := bf v 64 64, modCount := bf v 128 16, modTime := bf v 144 16 }) ∧
    (bitAt v 0 = false → t.eq? f q = none) ∧ (∀ g j, j < 4096 → (g, j) ≠ (f, q) → t.eq? g j = s.eq? g j) ∧
    t = { s with eqs := t.eqs, fns := t.fns }) ∧
  (∀ (f k v : Nat) (s : State), s.takeWrite f 0x201A k v = s.startInval f v) ∧
  (∀ (f k v : Nat) (s : State), ∃ t : State, s.takeWrite f 0x2020 (k + 1) v = t ∧ t.acu.epoch = s.acu.epoch + 1 ∧
    t.acu.regions = s.acu.regions.set k (regionOf v) ∧
    t = { s with acu := t.acu, sems := t.sems, out := t.out, fw := t.fw, dict := { s.dict with vals := t.dict.vals } }) ∧
  (∀ (f n v : Nat) (s : State), s.takeWrite f 0x2021 n v = (s.setCfg 0x2021 n (v % 2 ^ 17)).semConfigure n v) ∧
  (∀ (f p v : Nat) (s : State),
    (v = 1 → (s.link p).stage = 0 → s.takeWrite f 0x3002 (p + 1) v = (s.setCfg 0x3002 (p + 1) v).portStart p) ∧
    (v = 1 → (s.link p).stage ≠ 0 → s.takeWrite f 0x3002 (p + 1) v = s.setCfg 0x3002 (p + 1) v) ∧
    (v = 0 → (s.link p).stage ≠ 0 → s.takeWrite f 0x3002 (p + 1) v = (s.setCfg 0x3002 (p + 1) v).portOff p) ∧
    (v ≠ 0 → s.takeWrite f 0x300C (p + 1) v = (s.setCfg 0x300C (p + 1) v).lpsRequest p v false) ∧
    (v = 0 → 1 ≤ (s.link p).lps → (s.link p).lps ≤ 3 → s.takeWrite f 0x300C (p + 1) v = (s.setCfg 0x300C (p + 1) v).lpsExit p) ∧
    (bitAt v 7 = true → bitAt (s.cfg 0x300E (p + 1)) 7 = false → ∃ t : State, s.takeWrite f 0x300E (p + 1) v = t ∧
      (∀ x ∈ (t.link p).lanes, x.pattern = 0) ∧ t = { s with links := t.links, free := t.free, dict := { s.dict with vals := t.dict.vals } })) ∧
  (∀ (f v : Nat) (s : State), v ≤ 1 → s.cfg 0x4000 1 ≤ 1 → s.quiet.length = 2 → v ≠ s.cfg 0x4000 1 → s.arch.islands &&& 0xFF ≠ 0 →
    ∃ t : State, s.takeWrite f 0x4000 1 v = t ∧ t.cfg 0x4000 1 = v ∧ t.quiet.getD v none = none ∧
      t.quiet.getD (s.cfg 0x4000 1) none = some (s.now + 2000000) ∧ t = { s with quiet := t.quiet, dict := { s.dict with vals := t.dict.vals } }) ∧
  (∀ (f v : Nat) (s : State), s.takeWrite f 0xD000 9 v =
    (s.setCfg 0xD000 9 v).ftStep (((v * 65536 : Nat) : Int) - (s.time.ft.toNat : Int))) ∧
  (∀ (f p v : Nat) (s : State), ∃ t : State, s.takeWrite f 0xD010 (p + 1) v = t ∧ (∃ x, (t.gate p).pend = some (BitVec.ofNat 2176 v, x)) ∧
    (t.gate p).sched = (s.gate p).sched ∧ (∀ q, q ≠ p → t.gate q = s.gate q) ∧ t = { s with gates := t.gates, dict := { s.dict with vals := t.dict.vals } }) ∧
  (∀ (f n : Nat) (s : State), ∃ t : State, s.takeWrite f 0x5034 (n + 1) 0 = t ∧ (t.et n).atoms = [] ∧ (∀ j, j ≠ n → t.et j = s.et j) ∧
    t = { s with ets := t.ets, reads := t.reads, dict := { s.dict with vals := t.dict.vals } }) ∧
  (∀ (f t v : Nat) (s : State), t < 4096 →
    (bitAt v 0 = true → s.takeWrite f (0x7100 + t / 256) (t % 256) v = (s.setCfg (0x7100 + t / 256) (t % 256) v).installTree t v ∧
      ((s.setCfg (0x7100 + t / 256) (t % 256) v).installTree t v).tree t = { entry := BitVec.ofNat 512 v, installed := true, units := treeUnits v }) ∧
    (bitAt v 0 = false → s.takeWrite f (0x7100 + t / 256) (t % 256) v = (s.setCfg (0x7100 + t / 256) (t % 256) v).uninstallTree t)) ∧
  (∀ (f v : Nat) (s : State), ∃ t : State, s.takeWrite f 0x1030 1 v = t ∧
    (bitAt v 28 = true → Tbl.get? t.dict.users (descKey v) = some { type := bf v 24 4, len := userLen v, dflt := descDefault v }) ∧
    (bitAt v 28 = false → Tbl.get? t.dict.users (descKey v) = none) ∧
    t = { s with dict := { s.dict with users := t.dict.users, vals := t.dict.vals } }) ∧
  (∀ (f v : Nat) (s : State), ∃ t : State, s.takeWrite f 0x1031 1 v = t ∧ t.dict.journal = [] ∧ t.dict.journal2 = [] ∧ t.store.pages = [] ∧
    (∀ i, i ∈ t.store.staging ↔ i ∈ s.store.staging ∧ ∃ x, i = .log x) ∧
    t = { s with store := { s.store with pages := [], staging := t.store.staging }, dict := { s.dict with vals := t.dict.vals, journal := [], journal2 := [] } })

/-- The six mode requests are writes of MODE_REQ, which, when the path is open and nothing waits before it, the request is no retry and every check of R327 passes, take the value and answer the requester. During a change the value is BUSY, one for a change not in the table CONFLICT_STATE, a code outside 2 to 7 VALUE_RANGE, any other passes. Taking the value of another mode starts the change with cause 1, taking the current mode's changes nothing more; a change from RUN to TRAIN breaks every installed tree. 100 us after a quiesce began, with no power-fail flush running, every packet that the port tiles still hold or that still waits for injection is dropped and counted, not before, and on the way to HOLD the ports then go to IDLE-HELD. A change whose quiesce has drained, or that has none, and whose ports have settled ends in its target while no flush runs, and no other does. A FATAL_DEVICE record in RUN or PASS changes to the mode its area selects as it latches unless that is the mode, waits in order behind a change in progress, and does nothing in another mode. The model's own choices that it rests on, with no rule behind them: log entries 64, 149. (11 R298, 13 R332, 13 R334, 13 R335, 13 R336, 13 R339.) -/
def Obligations.ModeChanges : Prop :=
  (∀ (r : Req) (s : State), exec (.modeReqStandby r) s = .next (s.acceptNat r 0x8000 1 1 2) ∧ exec (.modeReqTrain r) s = .next (s.acceptNat r 0x8000 1 1 3) ∧
    exec (.modeReqRun r) s = .next (s.acceptNat r 0x8000 1 1 4) ∧ exec (.modeReqHold r) s = .next (s.acceptNat r 0x8000 1 1 5) ∧
    exec (.modeReqPass r) s = .next (s.acceptNat r 0x8000 1 1 6) ∧ exec (.modeReqTest r) s = .next (s.acceptNat r 0x8000 1 1 7)) ∧
  (∀ (r : Req) (v w : Nat) (s : State), Safety.passes s r 0x8000 1 1 v w → Safety.taken s (s.acceptNat r 0x8000 1 1 v) r 0x8000 1 1 w) ∧
  (∀ (r : Req) (v : Nat) (s : State), s.faults.checkstop = false →
    (s.mode.changing = true → s.valueCheck r 0x8000 1 v = some .busy) ∧
    (s.mode.changing = false → (v < 2 ∨ 7 < v) → s.valueCheck r 0x8000 1 v = some .valueRange) ∧
    (∀ m, s.mode.changing = false → 2 ≤ v → modeOf v = some m →
      s.valueCheck r 0x8000 1 v = (if m = s.mode.mode ∨ modeAllowed s.mode.mode m = true then none else some .conflictState))) ∧
  (∀ (f v : Nat) (m : Mode) (s : State), modeOf v = some m →
    (m = s.mode.mode → s.takeWrite f 0x8000 1 v = s.setCfg 0x8000 1 v) ∧
    (m ≠ s.mode.mode → s.takeWrite f 0x8000 1 v = (s.setCfg 0x8000 1 v).beginChange m 1)) ∧
  (∀ (m : Mode) (k : Nat) (s : State), (s.beginChange m k).mode = { s.mode with
    target := m, changing := true, cause := k, changeAt := s.now, quiesced := quiesces s.mode.mode m, drained := false }) ∧
  (∀ (k : Nat) (s : State), s.mode.mode = .run → s.beginChange .train k = ({ s with mode := { s.mode with
      target := .train, changing := true, cause := k, changeAt := s.now, quiesced := true, drained := false } }).breakTrees (fun _ _ => true) 0x0A80) ∧
  (∀ (t : Nat) (s : State), (s.tree t).installed = true → ((s.breakTrees (fun _ _ => true) 0x0A80).tree t).broken = true) ∧
  (∀ s : State, s.mode.quiesced = true → s.mode.drained = false →
    (s.mode.changeAt + 100000 ≤ s.now → s.sup.flushAt = none → ∃ u : State, (s.mode.target ≠ .hold → exec .quiesceDrainEnd s = .next u) ∧
      (s.mode.target = .hold → exec .quiesceDrainEnd s = .next u.portsHold) ∧ u.mode = { s.mode with drained := true } ∧
      (∀ p, (u.portq p).ingress = [] ∧ (u.portq p).coll = [] ∧ (u.portq p).egress = []) ∧
      (∀ n, n < 8 → (u.pt n).modeDrops = satAdd 64 (s.pt n).modeDrops (s.heldIn n)) ∧
      u = { s with mode := u.mode, portqs := u.portqs, links := u.links, pts := u.pts, arch := u.arch, out := u.out }) ∧
    ((s.now < s.mode.changeAt + 100000 ∨ s.sup.flushAt ≠ none) → exec .quiesceDrainEnd s = .next s)) ∧
  (∀ s : State, s.mode.changing = true → (s.mode.quiesced = false ∨ s.mode.drained = true) → s.portsSettled = true → s.sup.flushAt = none →
    (s.mode.react = [] ∨ s.mode.target ≠ .run ∧ s.mode.target ≠ .pass) →
    ∃ t : State, exec .modeChangeComplete s = .next t ∧ t.mode = { s.mode with
      mode := s.mode.target, changing := false, quiesced := false, drained := false, react := [] }) ∧
  (∀ s : State, (s.mode.changing = false ∨ s.mode.quiesced = true ∧ s.mode.drained = false ∨ s.portsSettled = false ∨ s.sup.flushAt ≠ none) → exec .modeChangeComplete s = .next s) ∧
  (∀ (a : Nat) (s : State),
    (s.mode.changing = false → (s.mode.mode = .run ∨ s.mode.mode = .pass) →
      s.react a = (if s.reaction a = s.mode.mode then s else s.beginChange (s.reaction a) 2)) ∧
    (s.mode.changing = false → s.mode.mode ≠ .run → s.mode.mode ≠ .pass → s.react a = s) ∧
    (s.mode.changing = true → s.react a = { s with mode := { s.mode with react := s.mode.react ++ [s.reaction a] } }) ∧
    s.reaction a = (if s.cfg 0x8001 a = 1 then .pass else .hold))

/-- A high seat pin ends the debounce and notes its instant, and once it has been high for two samples, 1 us apart, it opens a closed switch with a flush; both pins low start the debounce; after 100 ms, not before, the seating is counted and the ramp starts if every condition of R341 holds, and with any listed one missing it does not; a complete ramp starts the first converter, and each of the others at most 1 ms after the one before; POWER_GOOD after that finds every rail within 3 % of its value and enters BOOT unless RESET_N is low, and does nothing while the fault timer runs or a converter is still to start; RESET_N low resets every island, keeping the staging buffer, and of a latched or flushing device it is only noted; its release enters BOOT when POWER_GOOD is high and no flush runs, or clears the latch after 10 ms and not before; a sample is kept, its energy added, and below 42 V it warns, which notes the warning, counts it and tells every present function unless in a checkstop; the supervisor's power brings it up clear, and its loss takes the latch, its causes, the energy and the event counts, and the staging buffer with the device's power unless a flush runs, which goes on; a reading at THERMAL_WARN is recorded, once until every reading has been 5 °C below for 1 s. The model's own choices that it rests on, with no rule behind them: log entries 99, 102, 104, 161. (13 R333, 13 R340, 13 R341, 13 R343, 13 R346, 13 R347, 13 R348, 13 R352, 17 R421.) -/
def Obligations.SeatingAndPower : Prop :=
  (∀ (pin : Nat) (s : State), ∃ t : State, exec (.seatPinChange pin true) s = .next t ∧ t = { s with sup := t.sup } ∧
    t.sup.debounced = false ∧ t.sup.seatLowAt = none ∧ t.sup.latched = s.sup.latched ∧ t.sup.switch = s.sup.switch ∧
    (pin = 0 → t.sup.seatA = true ∧ t.sup.seatHighA = some (s.sup.seatHighA.getD s.now) ∧ t.sup.seatB = s.sup.seatB) ∧
    (pin ≠ 0 → t.sup.seatB = true ∧ t.sup.seatHighB = some (s.sup.seatHighB.getD s.now) ∧ t.sup.seatA = s.sup.seatA)) ∧
  (∀ (a : Nat) (s : State), s.sup.switch = true → (s.sup.seatHighA = some a ∨ s.sup.seatHighB = some a) → a + 1000 ≤ s.now →
    s.seatTrip = s.startFlush) ∧
  (∀ (pin : Nat) (s : State), ∃ t : State, exec (.seatPinChange pin false) s = .next t ∧ t = { s with sup := t.sup } ∧
    (pin = 0 → t.sup.seatA = false ∧ t.sup.seatB = s.sup.seatB ∧ (s.sup.seatB = false → s.sup.seatLowAt = none → t.sup.seatLowAt = some s.now)) ∧
    (pin ≠ 0 → t.sup.seatB = false ∧ t.sup.seatA = s.sup.seatA ∧ (s.sup.seatA = false → s.sup.seatLowAt = none → t.sup.seatLowAt = some s.now)) ∧
    (s.sup.seatHighA = none → s.sup.seatHighB = none → t.sup.latched = s.sup.latched) ∧
    (∀ a, (s.sup.seatHighA = some a ∨ s.sup.seatHighB = some a) → a + 10000000 ≤ s.now → t.sup.latched = false)) ∧
  (∀ (a : Nat) (s : State), s.sup.seatLowAt = some a →
    (s.sup.powered = true → s.sup.debounced = false → a + 100000000 ≤ s.now → exec .seatDebounceEnd s = .next (({ s with sup := { s.sup with
      debounced := true, events := bump s.sup.events 0 1 } } : State).tryRamp)) ∧
    (s.now < a + 100000000 → exec .seatDebounceEnd s = .next s)) ∧
  (∀ s : State,
    (s.sup.powered = true → s.sup.debounced = true → s.sup.latched = false → s.sup.seatA = false → s.sup.seatB = false → 40000 ≤ s.sup.mv →
      s.sup.mv ≤ 60000 → s.sup.switch = false → s.sup.flushAt = none →
      s.tryRamp = { s with sup := { s.sup with switch := true, ramping := true, events := bump s.sup.events 1 1 } }) ∧
    ((s.sup.debounced = false ∨ s.sup.latched = true ∨ s.sup.seatA = true ∨ s.sup.seatB = true ∨ s.sup.mv < 40000 ∨ 60000 < s.sup.mv ∨
      s.sup.switch = true) → s.tryRamp = s)) ∧
  (∀ s : State, (s.sup.ramping = true → ∃ t : State, exec .rampComplete s = .next t ∧ t.sup = { s.sup with
      ramping := false, rampDone := true, converters := true, rails := t.sup.rails, convAt := t.sup.convAt } ∧ t = { s with sup := t.sup, free := s.free + 2 } ∧
      ∃ a b, t.sup.convAt = [s.now, a, b] ∧ s.now ≤ a ∧ a ≤ s.now + 1000000 ∧ a ≤ b ∧ b ≤ a + 1000000) ∧
    (s.sup.ramping = false → exec .rampComplete s = .next s)) ∧
  (∀ s : State, s.sup.rampDone = true → s.sup.converters = true → s.sup.powerGood = false →
    (s.sup.timerAt = none → (∀ a ∈ s.sup.convAt, a ≤ s.now) → ∃ t : State, exec .powerGoodAssert s = .next t ∧ t.sup.powerGood = true ∧ t.sup.warnHeld = false ∧
      (873 ≤ bf t.sup.rails 0 16 ∧ bf t.sup.rails 0 16 ≤ 927 ∧ 1164 ≤ bf t.sup.rails 16 16 ∧ bf t.sup.rails 16 16 ≤ 1236 ∧
        1746 ≤ bf t.sup.rails 32 16 ∧ bf t.sup.rails 32 16 ≤ 1854) ∧
      (s.sup.resetAt = none → t.mode = { mode := .boot, target := .boot } ∧ t.arch.islands = 0x7F00 ∧
        t = { s with sup := t.sup, mode := t.mode, arch := t.arch, dict := t.dict, hosts := t.hosts, free := s.free + 1 }) ∧
      (s.sup.resetAt ≠ none → t = { s with sup := t.sup, free := s.free + 1 })) ∧
    ((s.sup.timerAt ≠ none ∨ ∃ a ∈ s.sup.convAt, s.now < a) → exec .powerGoodAssert s = .next s)) ∧
  (∀ s : State, ∃ t : State, exec .resetNAssert s = .next t ∧ t.sup = { s.sup with resetAt := some (s.sup.resetAt.getD s.now) } ∧
    ((s.sup.latched = true ∨ s.sup.flushAt.isSome = true) → t = { s with sup := t.sup }) ∧
    (s.sup.latched = false → s.sup.flushAt = none → t.mode.mode = .seat ∧ t.arch.islands = 0 ∧ t.store.staging = s.store.staging ∧
      t.store.pages = s.store.pages ∧ t.dict.journal = s.dict.journal ∧ t.dict.vals = [] ∧ t.ctxs = [] ∧ t.fns = [] ∧ t.pending = s.pending ∧ t.out = s.out)) ∧
  (∀ (a : Nat) (s : State), s.sup.resetAt = some a → ∃ u : State, u = { s with sup := u.sup } ∧ u.sup.resetAt = none ∧
    (s.sup.latched = false → s.sup.powerGood = true → s.sup.flushAt = none → exec .resetNRelease s = .next u.enterBoot ∧ u.enterBoot.mode.mode = .boot) ∧
    (s.sup.latched = true → a + 10000000 ≤ s.now → exec .resetNRelease s = .next u.tryRamp ∧ u.sup.latched = false) ∧
    (s.sup.latched = true → s.now < a + 10000000 → exec .resetNRelease s = .next u ∧ u.sup.latched = true)) ∧
  (∀ (mv ma : Nat) (s : State), s.sup.powered = true → ∃ u : State, u = { s with sup := u.sup } ∧ u.sup.mv = mv % 2 ^ 32 ∧ u.sup.ma = ma % 2 ^ 32 ∧
    u.sup.mw = mv * ma / 1000 % 2 ^ 32 ∧ u.sup.energy = s.sup.energy + mv * ma ∧ u.sup.latched = s.sup.latched ∧
    (mv < 42000 → exec (.inputSample mv ma) s = .next u.warn.tryRamp) ∧ (42000 ≤ mv → exec (.inputSample mv ma) s = .next u.tryRamp)) ∧
  (∀ s : State, (s.sup.pwrWarn = true → s.warn = s) ∧ (s.sup.pwrWarn = false → ∃ u : State, u.sup.pwrWarn = true ∧ u.sup.events = bump s.sup.events 5 1 ∧
    u = { s with sup := u.sup } ∧ (s.faults.checkstop = true → s.warn = u) ∧
    (s.faults.checkstop = false → s.warn = ((s.fns.filter (fun e => e.2.state == 1)).map (·.1)).foldl
      (fun v f => v.postAsync f { type := evPwrWarn, info := s.sup.mv % 2 ^ 32 }) u))) ∧
  (∀ s : State, ∃ t : State, exec .supervisorPowerLoss s = .next t ∧ t.sup.powered = false ∧ t.sup.latched = false ∧ t.sup.causes = 0 ∧ t.sup.energy = 0 ∧
    t.sup.events = List.replicate 8 0 ∧ t.sup.switch = false ∧ t.store.flush = s.store.flush ∧ t.dict.journal = s.dict.journal ∧ t.pending = s.pending ∧
    ((s.sup.powered = false ∨ s.sup.flushAt = none) → t.mode.mode = .seat ∧ t.arch.islands = 0 ∧ t.store.staging = [] ∧ t.sup.flushAt = none) ∧
    (s.sup.powered = true → s.sup.flushAt ≠ none → t.sup.flushAt = s.sup.flushAt ∧ t = { s with sup := t.sup })) ∧
  (∀ s : State, (s.sup.powered = false → ∃ t : State, exec .supervisorPowerOn s = .next t ∧ t.sup.powered = true ∧ t.sup.latched = false ∧
      t.sup.debounced = false ∧ t.sup.faultTimer = 8 ∧ t = { s with sup := t.sup }) ∧
    (s.sup.powered = true → exec .supervisorPowerOn s = .next s)) ∧
  (∀ (l : List Int) (s : State), ∃ t : State, exec (.tempRead l) s = .next t ∧ t.sup.temps = l ∧
    ((∃ x ∈ l, ((s.cfg 0x8020 2 : Nat) : Int) * 1000 ≤ x) → t.sup.warnRec = true ∧ t.faults.coming = (if s.sup.warnRec then s.faults.coming
      else s.faults.coming ++ [{ code := 0x0860, cls := corrected, tile := 15 }])) ∧
    ((∀ x ∈ l, x < ((s.cfg 0x8020 2 : Nat) : Int) * 1000) → t.faults.coming = s.faults.coming ∧
      (s.sup.warnRec = true → (t.sup.warnRec = false ↔ (∀ x ∈ l, x ≤ ((s.cfg 0x8020 2 : Nat) : Int) * 1000 - 5000) ∧
        ∃ a, s.sup.coolAt = some a ∧ a + 1000000000 ≤ s.now))) ∧
    t = { s with sup := t.sup, faults := { s.faults with coming := t.faults.coming } })

/-- The fault timer of a closed switch starts with the value FAULT_TIMER then holds, ends with one CURRENT_LIMIT, and trips at that value, not before; each trip of a powered supervisor whose seat pins are low sets the latch and its cause, the first one FIRST (of those in one 1 us cycle the first in the table), stops the timer and is a flush trigger; a flush trigger outside SEAT opens the switch, keeps in the flush area what staging holds or the image that waits there, holds the port and endpoint tiles in reset and turns every port off; one in SEAT opens the switch and turns the rails off, and one during a flush does nothing. The flush's end marks it complete with what staging held and leaves the device in SEAT without power, its journal, pages, latch and causes kept. The model's own choices that it rests on, with no rule behind them: log entries 100, 101, 103, 161. (13 R344, 13 R345, 13 R346, 13 R349, 13 R351, 13 R354, 15 R376.) -/
def Obligations.TripsAndFlush : Prop :=
  (∀ s : State, s.sup.switch = true → s.sup.timerAt = none → exec .faultTimerStart s = .next { s with sup := { s.sup with
    timerAt := some s.now, timerLimit := s.sup.faultTimer * 1000000, events := bump s.sup.events 2 1 } }) ∧
  (∀ s : State, (s.sup.switch = false ∨ s.sup.timerAt ≠ none) → exec .faultTimerStart s = .next s) ∧
  (∀ s : State, (s.sup.timerAt ≠ none → ∃ t : State, exec .faultTimerEnd s = .next t ∧ t.sup.timerAt = none ∧
      ((s.inMode .seat = true ∨ s.inMode .boot = true) → t.sup.bootFaults = s.sup.bootFaults ++ [0x0870] ∧ t.faults = s.faults) ∧
      (s.inMode .seat = false → s.inMode .boot = false → t.sup.bootFaults = s.sup.bootFaults ∧
        t.faults.coming = s.faults.coming ++ [{ code := 0x0870, cls := corrected, tile := 15 }]) ∧
      t = { s with sup := t.sup, faults := { s.faults with coming := t.faults.coming } }) ∧
    (s.sup.timerAt = none → exec .faultTimerEnd s = .next s ∧ exec .breaker s = .next s)) ∧
  (∀ (a : Nat) (s : State), s.sup.timerAt = some a → (a + s.sup.timerLimit ≤ s.now → exec .breaker s = .next ((s.pwrCount 3).trip 2)) ∧
    (s.now < a + s.sup.timerLimit → exec .breaker s = .next s)) ∧
  (∀ s : State, (s.sup.powered = true → exec .fastTrip s = .next ((s.pwrCount 4).trip 0)) ∧ exec .overvoltage s = .next (s.trip 1) ∧
    (s.sup.powerGood = true → exec .railFault s = .next (s.trip 3)) ∧ (s.sup.powerGood = false → exec .railFault s = .next s) ∧
    (∀ k, k < 15 → exec (.thermalTrip k) s = .next (s.trip 4))) ∧
  (∀ (k : Nat) (s : State), s.sup.powered = true → k < 5 → s.sup.seatHighA = none → s.sup.seatHighB = none →
    ∃ u : State, s.trip k = u.startFlush ∧ u = { s with sup := u.sup } ∧ u.sup.latched = true ∧ u.sup.timerAt = none ∧
      (s.sup.latched = false → u.sup.causes = 1#5 <<< k ∧ u.sup.first = k + 1 ∧ u.sup.latches = satAdd 16 s.sup.latches 1 ∧
        u.sup.bootFaults = s.sup.bootFaults ++ [[0x0820, 0x0830, 0x0810, 0x0840, 0x0850].getD k 0]) ∧
      (s.sup.latched = true → (∀ j, u.sup.causes.getLsbD j = (s.sup.causes.getLsbD j || decide (j = k))) ∧ u.sup.latches = s.sup.latches ∧
        (s.sup.latchAt / 1000 = s.now / 1000 → u.sup.first = min s.sup.first (k + 1)) ∧
        (s.sup.latchAt / 1000 ≠ s.now / 1000 → u.sup.first = s.sup.first))) ∧
  (∀ s : State, s.sup.powered = false → ∀ k, s.trip k = s) ∧
  (∀ s : State, s.sup.flushAt.isSome = true → s.startFlush = s) ∧
  (∀ s : State, s.sup.flushAt = none → s.inMode .seat = true → s.startFlush.sup.switch = false ∧ s.startFlush.sup.powerGood = false ∧
    s.startFlush.sup.converters = false ∧ s.startFlush.sup.ramping = false ∧ s.startFlush.sup.flushAt = none ∧ s.startFlush.mode.mode = .seat) ∧
  (∀ s : State, s.sup.flushAt = none → s.inMode .seat = false → ∃ w : State, w = s.warn ∧ s.startFlush.sup.switch = false ∧
    s.startFlush.sup.flushAt = some s.now ∧ s.startFlush.sup.flushOk = false ∧ s.startFlush.mode = s.mode ∧
    s.startFlush.store.flush = some (w.store.flush.getD (w.store.staging, false)) ∧
    s.startFlush.store.staging = w.store.staging ∧ s.startFlush.store.pages = w.store.pages ∧
    s.startFlush.sup.bootFaults = w.sup.bootFaults ++ [0x0880] ∧ s.startFlush.sup.events = bump w.sup.events 6 1 ∧
    s.startFlush.arch.islands = w.arch.islands &&& 0x7000 ∧ (∀ p, (s.startFlush.link p).stage = 0)) ∧
  (∀ s : State, (s.inMode .seat = true → exec .inputUndervoltage s = .next s) ∧
    (s.inMode .seat = false → exec .inputUndervoltage s = .next s.startFlush)) ∧
  (∀ s : State, (s.sup.flushAt.isSome = true → ∃ t : State, exec .flushComplete s = .next t ∧ t.store.flush = s.store.flushed ∧ t.store.staging = [] ∧
      t.store.pages = s.store.pages ∧ t.dict.journal = s.dict.journal ∧ t.sup.flushOk = true ∧ t.sup.powerGood = false ∧
      t.sup.converters = false ∧ t.sup.flushAt = none ∧ t.sup.latched = s.sup.latched ∧ t.sup.causes = s.sup.causes ∧ t.mode.mode = .seat ∧
      t.arch.islands = 0 ∧ t.pending = s.pending) ∧
    (s.sup.flushAt = none → exec .flushComplete s = .next s)) ∧
  (∀ x : Store, (x.staging ≠ [] ∨ x.flush = none) → x.flushed = some (x.staging, true))

/-- FAULT_REPORT collects in one cycle the faults on their way and the report it brings, if a chapter's table gives its code its class, each class's in the order of TILE and UNIT; with ENGINE_ERROR the request whose turn it is ends with INTERNAL. A fault alone that meets no LATCHED record is handled; one that meets a LATCHED record is handled and raises a fault of the next class with code 0x0910, which is collected in the same way, or stops the machine for FATAL_DEVICE. A handled fault that meets an EMPTY record latches (ACKED at once when its class is auto-acknowledged and the queue has room), any other sets OVERFLOW; every record takes the next SEQ and goes to the fault queue or is counted LOG_LOST. A checkstop turns ports and host links off and ends a mode change; in it only COUNT, SEQ and the log go on. FAULT_N follows the unmasked records. The three counter requests are writes of their objects, which, when they pass, clear the counter or start or stop the reader; a count past 2^48 - 1 wraps or saturates by mode; a snapshot of the counters is offered when it is due and not before. The model's own choices that it rests on, with no rule behind them: log entries 88, 105, 107, 108. (01 R27, 14 R357, 14 R358, 14 R359, 14 R361, 14 R363, 14 R364, 14 R365, 14 R367, 17 R420.) -/
def Obligations.FaultsAndCounters : Prop :=
  (∀ (ext : Option FaultReport) (s : State),
    (exec (.faultReport ext) s = exec (.faultReport (ext.filter (fun f => faultClass f.code == some f.cls))) s) ∧
    ((∀ f, ext = some f → f.code ≠ 0x0130) →
      exec (.faultReport ext) s = .next (s.collectCycle (ext.toList.filter (fun f => faultClass f.code == some f.cls))))) ∧
  (∀ (f : FaultReport) (s : State), f.code = 0x0130 → f.cls = deferred →
    ((∀ q, q < 7 → s.queueReady q = false) → exec (.faultReport (some f)) s = .next (s.collectCycle [f])) ∧
    (∀ (q : Nat) (x : DictReq) (rest : List DictReq), q < 7 → s.dictQueue q = x :: rest → s.pathOpen x.r = true → s.dictTurn q = true →
      ∃ u : State, u.dictQueue q = rest ∧ (∀ j, j ≠ q → u.dictQueue j = s.dictQueue j) ∧ u.dict.counts = bump s.dict.counts 0 1 ∧
        u = { s with dict := { s.dict with queues := u.dict.queues, counts := u.dict.counts }, ctrs := u.ctrs } ∧
        exec (.faultReport (some f)) s = .next ((u.answerReq x.r x.dest (pduHdr x.pdu) (abortPdu (pduHdr x.pdu) .internal)).collectCycle [f]))) ∧
  (faultClass 0x0130 = some deferred ∧ faultClass 0x0250 = some fatalPort ∧ faultClass 0x0415 = some deferred ∧ faultClass 0x0B60 = some fatalDevice ∧
    faultClass 0x0910 = none ∧ ∀ c, faultClass c ≠ some fatalFunction) ∧
  (∀ (c : Nat) (l : List FaultReport), (classFaults c l).Pairwise (fun a b => 256 * a.tile + a.unit ≤ 256 * b.tile + b.unit) ∧
    ∀ f, f ∈ classFaults c l ↔ f ∈ l ∧ f.cls = c) ∧
  (∀ s : State, s.faults.coming = [] → exec (.faultReport none) s = .next s ∧
    ∀ f : FaultReport, faultClass f.code ≠ some f.cls → exec (.faultReport (some f)) s = .next s) ∧
  (∀ (f : FaultReport) (s : State), s.faults.checkstop = false → faultClass f.code = some f.cls → f.code ≠ 0x0130 →
    ((s.classRec f.cls).st ≠ .latched → s.faults.coming = [] → exec (.faultReport (some f)) s = .next (s.handleOne f false)) ∧
    ((s.classRec f.cls).st ≠ .latched → s.faults.coming = [f] →
      exec (.faultReport none) s = .next (({ s with faults := { s.faults with coming := [] } } : State).handleOne f false)) ∧
    ((s.classRec f.cls).st = .latched → f.cls = 4 → s.faults.coming = [] →
      exec (.faultReport (some f)) s = .next (s.handleOne f false).checkstop) ∧
    ((s.classRec f.cls).st = .latched → f.cls ≠ 4 → s.faults.coming = [] →
      exec (.faultReport (some f)) s = .next (State.collectFrom (4 - f.cls) (f.cls + 1) (s.handleOne f false) [f] [escalated f]))) ∧
  (∀ (n : Nat) (f g : FaultReport) (s : State), s.faults.checkstop = false → f.cls < g.cls → g.cls + n = 4 →
    ((s.classRec g.cls).st ≠ .latched → State.collectFrom (n + 1) g.cls s [f] [g] = s.handleOne g true) ∧
    ((s.classRec g.cls).st = .latched → g.cls = 4 → State.collectFrom (n + 1) g.cls s [f] [g] = (s.handleOne g true).checkstop) ∧
    ((s.classRec g.cls).st = .latched → g.cls ≠ 4 →
      State.collectFrom (n + 1) g.cls s [f] [g] = State.collectFrom n (g.cls + 1) (s.handleOne g true) [f] [escalated g])) ∧
  (∀ f : FaultReport, f.code < 65536 → f.cls < 8 → escalated f = { f with code := 0x0910, cls := f.cls + 1, info := f.code + f.cls * 65536 }) ∧
  (∀ (f : FaultReport) (esc : Bool) (s : State), s.faults.classes.length = 5 → f.cls ≤ 4 → ∃ t : State, s.handleOne f esc = t ∧
    t.faults.seq = s.faults.seq + 1 ∧
    ((s.classRec f.cls).st = .empty → t.classRec f.cls =
      { s.classRec f.cls with
        st := if s.faults.queue.length < 4096 ∧ bitAt (s.cfg 0x9001 4) f.cls = true then .acked else .latched,
        count := satAdd 32 (s.classRec f.cls).count 1, record := some (s.makeRec f esc) }) ∧
    ((s.classRec f.cls).st ≠ .empty → t.classRec f.cls = { s.classRec f.cls with
      overflow := true, count := satAdd 32 (s.classRec f.cls).count 1 }) ∧
    (∀ c, c ≠ f.cls → t.classRec c = s.classRec c) ∧
    (s.faults.queue.length < 4096 → t.faults.queue = s.faults.queue ++ [s.makeRec f esc] ∧ t.faults.logLost = s.faults.logLost ∧
      t.faults.recent = (s.makeRec f esc :: s.faults.recent).take 64) ∧
    (4096 ≤ s.faults.queue.length → t.faults.queue = s.faults.queue ∧ t.faults.logLost = satAdd 32 s.faults.logLost 1 ∧
      t.faults.recent = s.faults.recent) ∧ t.pending = s.pending ∧ t.now = s.now) ∧
  (∀ (f : FaultReport) (esc : Bool) (s : State), s.makeRec f esc =
      { ft := (s.makeRec f esc).ft, code := f.code, cls := f.cls, esc := esc,
        tile := f.tile, unit := f.unit, fn := f.fn, ctx := f.ctx, mode := s.mode.mode.code, info := f.info, seq := s.faults.seq } ∧
    (s.island 14 = true → (s.makeRec f esc).ft = s.ftNs) ∧ (s.island 14 = false → (s.makeRec f esc).ft = 0)) ∧
  (∀ s : State, ∃ t : State, s.checkstop = t ∧ t.faults.checkstop = true ∧ t.mode.mode = s.mode.mode ∧ t.mode.changing = false ∧
    (∀ p, (t.link p).stage = 0) ∧ (∀ h, (t.hostPort h).train = .detect) ∧ t.sup = s.sup ∧ t.islandWord % 4096 = 0 ∧ bitAt t.islandWord 14 = false ∧
    t.faults.classes = s.faults.classes ∧ t.faults.queue = s.faults.queue ∧ t.store.pages = s.store.pages) ∧
  (∀ (f : FaultReport) (s : State), s.faults.checkstop = true → s.faults.classes.length = 5 → faultClass f.code = some f.cls → f.code ≠ 0x0130 → s.faults.coming = [] →
    ∃ t : State, exec (.faultReport (some f)) s = .next t ∧ t.faults.seq = s.faults.seq + 1 ∧
      t.classRec f.cls = { s.classRec f.cls with count := satAdd 32 (s.classRec f.cls).count 1 } ∧
      (s.faults.queue.length < 4096 → t.faults.queue = s.faults.queue ++ [s.makeRec f false]) ∧
      (4096 ≤ s.faults.queue.length → t.faults.queue = s.faults.queue ∧ t.faults.logLost = satAdd 32 s.faults.logLost 1) ∧
      (∀ c, c ≠ f.cls → t.classRec c = s.classRec c) ∧ t.faults.coming = s.faults.coming ∧ t = { s with faults := t.faults }) ∧
  (∀ s : State, s.faultN = true ↔ s.island 12 = true ∧ (s.faults.checkstop = true ∨ s.mode.bootHeld = true ∨
    ∃ c, c < 5 ∧ (s.classRec c).st ≠ .empty ∧ bitAt (s.cfg 0x9001 3) c = false)) ∧
  (∀ (r : Req) (idx sub len v w : Nat) (s : State), idx ≠ 0xC001 → ¬ (idx = 0xC002 ∧ sub = 2) → Safety.passes s r idx sub len v w →
    Safety.taken s (s.acceptNat r idx sub len v) r idx sub len w) ∧
  (∀ (r : Req) (s : State),
    (∀ (k : Nat) (v : BitVec 32), exec (.ctrCfgWrite r k v) s = .next (s.acceptNat r 0xA000 k 4 v.toNat)) ∧
    (∀ (k : Nat) (v : BitVec 64), exec (.ctrValueWrite r k v) s = .next (s.acceptNat r 0xA001 k 8 v.toNat)) ∧
    (∀ v : Nat, exec (.ctrReaderEnableWrite r v) s = .next (s.acceptNat r 0xA002 1 1 v))) ∧
  (∀ (g k v : Nat) (s : State),
    (∃ t : State, s.takeWrite g 0xA000 k v = t ∧ Tbl.get? t.ctrs.cfg k = some v ∧ Tbl.get? t.ctrs.val k = none ∧
      (∀ j, j ≠ k → Tbl.get? t.ctrs.cfg j = Tbl.get? s.ctrs.cfg j ∧ Tbl.get? t.ctrs.val j = Tbl.get? s.ctrs.val j) ∧
      t = { s with ctrs := { s.ctrs with cfg := t.ctrs.cfg, val := t.ctrs.val } }) ∧
    (∃ t : State, s.takeWrite g 0xA001 k v = t ∧ Tbl.get? t.ctrs.val k = none ∧ (∀ j, j ≠ k → Tbl.get? t.ctrs.val j = Tbl.get? s.ctrs.val j) ∧
      t = { s with ctrs := { s.ctrs with val := t.ctrs.val } }) ∧
    (v = 1 → s.cfg 0xA002 1 = 0 → s.present (bf (s.cfg 0xA002 3) 0 8) = true → ∃ u : State, s.takeWrite g 0xA002 1 v = u.readerStep ∧
      u.cfg 0xA002 1 = 1 ∧ u.ctrs.producer = s.ctrs.wrote ∧ u.ctrs.waitRec = none ∧
      u = { s with ctrs := u.ctrs, dict := { s.dict with vals := u.dict.vals } }) ∧
    (v = 0 → s.takeWrite g 0xA002 1 v = s.setCfg 0xA002 1 0)) ∧
  (∀ (wraps : Bool) (w n : Nat), w < 2 ^ 50 → n ≤ 4096 → ctrAdd wraps w n < 2 ^ 50 ∧
    (w % 2 ^ 48 + n < 2 ^ 48 → ctrAdd wraps w n = w + n) ∧
    (2 ^ 48 ≤ w % 2 ^ 48 + n → wraps = true → ctrAdd wraps w n % 2 ^ 48 = w % 2 ^ 48 + n - 2 ^ 48 ∧ bitAt (ctrAdd wraps w n) 48 = true ∧
      bitAt (ctrAdd wraps w n) 49 = bitAt w 49) ∧
    (2 ^ 48 ≤ w % 2 ^ 48 + n → wraps = false → ctrAdd wraps w n % 2 ^ 48 = 2 ^ 48 - 1 ∧ bitAt (ctrAdd wraps w n) 49 = true ∧
      bitAt (ctrAdd wraps w n) 48 = bitAt w 48)) ∧
  (∀ s : State, s.readerOn = true → bitAt s.ring 16 = true →
    ((if s.ftUsable = true then s.ftNs % (s.cfg 0xA002 2 * 1000) < 2 ∧
          (s.ftNs / (s.cfg 0xA002 2 * 1000) ≠ s.ctrs.snapFt / (s.cfg 0xA002 2 * 1000) ∨ s.ctrs.snapAt + 4 ≤ s.now)
        else s.ctrs.snapAt + s.cfg 0xA002 2 * 1000 ≤ s.now) →
      ∃ (u : State) (bytes : List Byte), exec .counterSnapshot s = .next u.readerStep ∧ (1, bytes) ∈ u.ctrs.offered ∧ bytes.length = 960 ∧
        (∀ k, k < 108 → leNat ((bytes.drop (64 + 8 * k)).take 8) = Tbl.getD s.ctrs.val (k + 1) 0 % 2 ^ 64) ∧
        bitAt (leNat (bytes.take 16)) 16 = s.ftUsable ∧ u.ctrs.snapAt = s.now ∧ u.ctrs.snapFt = s.ftNs ∧ u.ctrs.lostSnap = false ∧
        u = { s with ctrs := u.ctrs }) ∧
    ((if s.ftUsable = true then 2 ≤ s.ftNs % (s.cfg 0xA002 2 * 1000) ∨
          s.ftNs / (s.cfg 0xA002 2 * 1000) = s.ctrs.snapFt / (s.cfg 0xA002 2 * 1000) ∧ s.now < s.ctrs.snapAt + 4
        else s.now < s.ctrs.snapAt + s.cfg 0xA002 2 * 1000) → exec .counterSnapshot s = .next s)) ∧
  (∀ s : State, (s.readerOn = false ∨ bitAt s.ring 16 = false) → exec .counterSnapshot s = .next s)

/-- FAULT_ACK and FAULT_CLEAR are writes that take the class in bits 2 to 0 and SEQ bits 55 to 0 in bits 63 to 8; such a write is refused with CONFLICT_STATE exactly when the class record is EMPTY or its SEQ differs, and with nothing else; an accepted acknowledge turns LATCHED into ACKED and leaves ACKED, an accepted clear of a LATCHED or ACKED record leaves it EMPTY with OVERFLOW and COUNT at 0, and neither touches another class. (14 R360.) -/
def Obligations.AcknowledgesAndClears : Prop :=
  (∀ (r : Req) (k v w : Nat) (s : State), Safety.passes s r 0x9001 k 8 v w → Safety.taken s (s.acceptNat r 0x9001 k 8 v) r 0x9001 k 8 w) ∧
  (∀ (r : Req) (v : BitVec 64) (s : State), exec (.faultAck r v) s = .next (s.acceptNat r 0x9001 1 8 v.toNat) ∧
    exec (.faultClear r v) s = .next (s.acceptNat r 0x9001 2 8 v.toNat)) ∧
  (∀ (r : Req) (k v : Nat) (s : State), (k = 1 ∨ k = 2) → v % 8 ≤ 4 → s.faults.checkstop = false →
    s.valueCheck r 0x9001 k v = (if (s.classRec (v % 8)).st ≠ .empty ∧
      ((s.classRec (v % 8)).record.map (fun x => x.seq % 2 ^ 56)) = some (v / 256 % 2 ^ 56) then none else some .conflictState)) ∧
  (∀ (g v : Nat) (s : State), s.faults.classes.length = 5 → v % 8 ≤ 4 →
    (∃ t : State, s.takeWrite g 0x9001 1 v = t ∧ ((s.classRec (v % 8)).st = .latched → t.classRec (v % 8) = { s.classRec (v % 8) with st := .acked }) ∧
      ((s.classRec (v % 8)).st = .acked → t.classRec (v % 8) = s.classRec (v % 8)) ∧
      (∀ c, c ≠ v % 8 → t.classRec c = s.classRec c) ∧ t.cfg 0x9001 1 = v ∧
      t = { s with faults := { s.faults with classes := t.faults.classes }, dict := { s.dict with vals := t.dict.vals } }) ∧
    (∃ t : State, s.takeWrite g 0x9001 2 v = t ∧ (t.classRec (v % 8)).st = .empty ∧ (t.classRec (v % 8)).overflow = false ∧ (t.classRec (v % 8)).count = 0 ∧
      (t.classRec (v % 8)).record = none ∧ (∀ c, c ≠ v % 8 → t.classRec c = s.classRec c) ∧ t.cfg 0x9001 2 = v ∧
      t = { s with faults := { s.faults with classes := t.faults.classes }, dict := { s.dict with vals := t.dict.vals } }))

/-- The oldest staged item, once access control lets its move pass, goes to its destination and frees its space, in a running store, to a block not retired, and not otherwise; a failed program retires the block and keeps the data; a window READ's flash read is answered with the bytes it noted, and with REMOTE_ACCESS when unreadable or the store has failed; a scrubbed codeword that needs more than the set part of the hard capability, or a retry, asks once for a refresh of its block, and the site of an uncorrectable one is lost: a journal or log record goes, a page becomes UNREADABLE; the flush area is read in BOOT, and uncorrectable leaves its image incomplete. A refresh, or a levelling move of a block whose wear allows it, ends with the block erased or retired; a late pass is recorded once; a failed die fails the store with a FATAL_DEVICE fault. The allotment, trim and cursor requests are writes of their objects, which take their values when they pass, and erase and trim free exactly their pages. Space can be had for a write in a running store when it needs no new page, when its pages stay within the guarantee, or when the free pool holds what goes beyond. The model's own choices that it rests on, with no rule behind them: log entries 81, 110, 112, 113, 150, 162. (15 R373, 15 R374, 15 R377, 15 R378, 15 R379, 15 R380, 15 R381, 15 R382, 15 R383, 15 R384.) -/
def Obligations.StoreEvents : Prop :=
  (∀ (b : Nat) (s : State),
    (s.flashRuns = true → b ∉ s.store.grown → ∀ (i : StageItem) (rest : List StageItem), s.store.staging = i :: rest →
      ((s.transfer 10 i.size false).2 = false → exec (.stagingProgramDone b) s = .next (s.transfer 10 i.size false).1) ∧
      (s.transfer 10 i.size false).1 = { s with
        acu := (s.transfer 10 i.size false).1.acu, priv := (s.transfer 10 i.size false).1.priv, free := (s.transfer 10 i.size false).1.free,
        faults := { s.faults with coming := (s.transfer 10 i.size false).1.faults.coming } } ∧
      ((s.transfer 10 i.size false).2 = true →
      ∃ t : State, exec (.stagingProgramDone b) s = .next t ∧ t.store.staging = rest ∧ t.store.programmed = s.store.programmed + i.size ∧
        t.out = s.out ++ [.flashProgram b] ∧
        (∀ (f page off : Nat) (bs : List Byte) (g : FlashPage), i = .window f page off bs → Tbl.get? s.store.pages (f * 2 ^ 28 + page) = some g →
          Tbl.get? t.store.pages (f * 2 ^ 28 + page) = some { g with
            bytes := Mem.write g.bytes off bs, block := b, flashed := true, unreadable := g.unreadable && bs.length != 4096 } ∧
          (∀ k, k ≠ f * 2 ^ 28 + page → Tbl.get? t.store.pages k = Tbl.get? s.store.pages k)) ∧
        (∀ k v : Nat, i = .journal k v → t.store.pages = s.store.pages ∧
          (k < 2 ^ 26 → Tbl.get? t.dict.journal k = some v ∧ t.dict.journal2 = s.dict.journal2) ∧
          (2 ^ 26 ≤ k → Tbl.get? t.dict.journal2 (k - 2 ^ 26) = some v ∧ t.dict.journal = s.dict.journal)) ∧
        (∀ x : FaultRec, i = .log x → t.store.pages = s.store.pages ∧
          (s.store.log.length < 134217728 → t.store.log = s.store.log ++ [x])) ∧
        t = { (s.transfer 10 i.size false).1 with
          store := t.store, out := t.out, ctrs := t.ctrs, dict := { s.dict with journal := t.dict.journal, journal2 := t.dict.journal2 } })) ∧
    ((s.flashRuns = false ∨ b ∈ s.store.grown) → exec (.stagingProgramDone b) s = .next s)) ∧
  (∀ (b : Nat) (s : State), (s.flashRuns = true → b ∉ s.store.grown → ∃ t : State, exec (.programFail b) s = .next t ∧
      t.store.grown = s.store.grown ++ [b] ∧ t.store.spare = s.store.spare - 1 ∧ t.store.staging = s.store.staging ∧ t.store.pages = s.store.pages ∧
      (1025 ≤ s.store.usable → t.store.st = s.store.st ∧
        t.faults.coming = s.faults.coming ++ [{ code := 0x0B20, cls := corrected, tile := 12, info := b }]) ∧
      (s.store.usable < 1025 → 1 ≤ t.store.st ∨ s.store.lowRec = true) ∧ t = { s with store := t.store, faults := { s.faults with coming := t.faults.coming } }) ∧
    ((s.flashRuns = false ∨ b ∈ s.store.grown) → exec (.programFail b) s = .next s)) ∧
  (∀ (k : Nat) (x : StoreRead) (s : State), s.island 13 = true → s.store.reads.find? (fun y => y.id == k) = some x → ∀ res : FlashRead,
    ∃ u : State, (∀ y, y ∈ u.store.reads ↔ y ∈ s.store.reads ∧ y.id ≠ x.id) ∧ u.store.staging = s.store.staging ∧
      u = { s with store := u.store, ctrs := u.ctrs, faults := { s.faults with coming := u.faults.coming } } ∧
      (s.store.st ≠ 3 → ∀ (n : Nat) (retried : Bool), res = .good n retried →
        exec (.storeReadDone k res) s = .next (u.answer x.op 0 x.bytes) ∧ u.faults = s.faults ∧ u.store.pages = s.store.pages) ∧
      ((s.store.st = 3 ∨ res = .unreadable) → exec (.storeReadDone k res) s = .next ((u.answer x.op 8 []).rCount (etOf x.op.fn) 6)) ∧
      (∀ page b, s.store.st ≠ 3 → res = .unreadable → s.flashPageOf x.op.fn x.op.raddr x.op.len = some (page, b) →
        (∃ g, Tbl.get? u.store.pages (x.op.fn * 2 ^ 28 + page) = some g ∧ g.unreadable = true) ∧ (b ∈ u.store.refreshing ∨ b ∈ u.store.grown) ∧
        u.faults.coming = s.faults.coming ++ [{ code := 0x0B10, cls := deferred, tile := 12, fn := some x.op.fn }])) ∧
  (∀ (k : Nat) (res : FlashRead) (s : State), (s.island 13 = false ∨ s.store.reads.find? (fun y => y.id == k) = none) →
    exec (.storeReadDone k res) s = .next s) ∧
  (∀ (b : Nat) (site : FlashSite) (res : FlashRead) (s : State),
    (s.flashRuns = true → s.store.scrubbing = true → site ∈ s.flashSites → ∃ u : State, u = (s.decodeRead b res).scrubMark site ∧
      (res ≠ .unreadable → exec (.storeScrubPage b site res) s = .next u) ∧
      (res = .unreadable → exec (.storeScrubPage b site res) s = .next (u.loseSite site)) ∧
      (b ∉ s.store.refreshing → b ∉ s.store.grown → ∀ (n : Nat) (retried : Bool), res = .good n retried →
        u.store.refreshing = (if retried = true ∨ s.cfg 0xB000 6 * 120 < n * 100 then s.store.refreshing ++ [b] else s.store.refreshing)) ∧
      u = { s with store := u.store, ctrs := u.ctrs }) ∧
    ((s.flashRuns = false ∨ site ≠ .flush ∧ (s.store.scrubbing = false ∨ site ∉ s.flashSites) ∨ site = .flush ∧ s.inMode .boot = false) →
      exec (.storeScrubPage b site res) s = .next s) ∧
    (s.flashRuns = true → s.inMode .boot = true → ∃ t : State, exec (.storeScrubPage b .flush res) s = .next t ∧
      t.store.flush = (if res = .unreadable then s.store.flush.map (fun e => (e.1, false)) else s.store.flush) ∧
      t = { s with store := { s.store with flush := t.store.flush, counts := t.store.counts }, ctrs := t.ctrs })) ∧
  (∀ s : State, (∀ k, k < 2 ^ 26 → ∃ t : State, s.loseSite (.journal k) = t ∧ Tbl.get? t.dict.journal k = none ∧
      (∀ j, j ≠ k → Tbl.get? t.dict.journal j = Tbl.get? s.dict.journal j) ∧ t = { s with dict := { s.dict with journal := t.dict.journal } }) ∧
    (∀ q, ∃ t : State, s.loseSite (.log q) = t ∧ (∀ x, x ∈ t.store.log ↔ x ∈ s.store.log ∧ x.seq ≠ q) ∧
      t = { s with store := { s.store with log := t.store.log } }) ∧
    (∀ (f page : Nat) (g : FlashPage), Tbl.get? s.store.pages (f * 2 ^ 28 + page) = some g → ∃ t : State, s.loseSite (.pool f page) = t ∧
      Tbl.get? t.store.pages (f * 2 ^ 28 + page) = some { g with unreadable := true } ∧
      t.faults.coming = s.faults.coming ++ [{ code := 0x0B10, cls := deferred, tile := 12, fn := some f }] ∧
      t = { s with store := { s.store with pages := t.store.pages }, faults := { s.faults with coming := t.faults.coming } })) ∧
  (∀ (b : Nat) (s : State),
    (s.flashRuns = true → (b ∈ s.store.refreshing ∨ s.mayLevel b = true) → ∃ (u : State) (n : Nat), n = (if b ∈ s.store.refreshing then 1 else 0) ∧ u.store.refreshing = s.store.refreshing.filter (· != b) ∧
      u.store.pages.map (·.1) = s.store.pages.map (·.1) ∧ u.store.staging = s.store.staging ∧
      (∀ k v, (k, v) ∈ s.store.pages → (v.block ≠ b ∨ v.flashed = false) → (k, v) ∈ u.store.pages) ∧
      u = { s with store := u.store, free := s.free + 1, ctrs := u.ctrs } ∧
      exec (.blockRefreshDone b false) s = .next (u.retire b) ∧
      exec (.blockRefreshDone b true) s = .next ((u.storeCount 11 n).eraseBlock b) ∧
      Tbl.getD ((u.storeCount 11 n).eraseBlock b).store.erases b 0 = Tbl.getD s.store.erases b 0 + 1) ∧
    (∀ done, (s.flashRuns = false ∨ b ∉ s.store.refreshing ∧ s.mayLevel b = false) → exec (.blockRefreshDone b done) s = .next s)) ∧
  (∀ s : State,
    (s.flashRuns = true → s.store.scrubbing = true → s.store.scrubBehind = false → s.store.scrubAt + s.cfg 0xB000 5 * 3600000000000 < s.now →
      exec .scrubBehind s = .next { s with
        store := { s.store with scrubBehind := true }
        faults := { s.faults with coming := s.faults.coming ++ [{ code := 0x0B50, cls := corrected, tile := 12 }] } }) ∧
    ((s.store.scrubBehind = true ∨ s.now ≤ s.store.scrubAt + s.cfg 0xB000 5 * 3600000000000) → exec .scrubBehind s = .next s)) ∧
  (∀ (d : Nat) (s : State), (s.island 13 = true → exec (.dieFailed d) s = .next { s with
        store := { s.store with st := 3 }
        faults := { s.faults with coming := s.faults.coming ++ [{ code := 0x0B60, cls := fatalDevice, tile := 12, info := d }] } }) ∧
    (s.island 13 = false → exec (.dieFailed d) s = .next s)) ∧
  (∀ (r : Req) (idx sub len v w : Nat) (s : State), idx ≠ 0xC001 → ¬ (idx = 0xC002 ∧ sub = 2) → Safety.passes s r idx sub len v w →
    Safety.taken s (s.acceptNat r idx sub len v) r idx sub len w) ∧
  (∀ (r : Req) (f : Nat) (s : State),
    (∀ v : BitVec 64, exec (.fnStoreAllotWrite r f v) s = .next (s.acceptNat r 0xB010 f 8 v.toNat) ∧
      exec (.fnStoreErase r f v) s = .next (s.acceptNat r 0xB010 f 8 (v ||| 0x100000000).toNat) ∧
      exec (.storeLogCursorWrite r v) s = .next (s.acceptNat r 0xB000 7 8 v.toNat)) ∧
    (∀ v : BitVec 128, exec (.fnStoreTrimWrite r f v) s = .next (s.acceptNat r 0xB013 f 16 v.toNat))) ∧
  (∀ (g f v : Nat) (s : State),
    (∃ t : State, s.takeWrite g 0xB010 f v = t ∧ t.cfg 0xB010 f = v % 2 ^ 32 ∧
      (∀ e, e ∈ t.store.pages ↔ e ∈ s.store.pages ∧ ¬ (bitAt v 32 = true ∧ e.1 / 2 ^ 28 = f)) ∧
      t = { s with store := { s.store with pages := t.store.pages, staging := t.store.staging }, dict := { s.dict with vals := t.dict.vals } }) ∧
    (∃ t : State, s.takeWrite g 0xB013 f v = t ∧
      (∀ e, e ∈ t.store.pages ↔ e ∈ s.store.pages ∧ ¬ (e.1 / 2 ^ 28 = f ∧ bf v 0 64 / 4096 ≤ e.1 % 2 ^ 28 ∧ e.1 % 2 ^ 28 < (bf v 0 64 + bf v 64 64) / 4096)) ∧
      t = { s with store := { s.store with pages := t.store.pages, staging := t.store.staging }, dict := { s.dict with vals := t.dict.vals } }) ∧
    s.takeWrite g 0xB000 7 v = s.setCfg 0xB000 7 v) ∧
  (∀ (f off len : Nat) (s : State), s.storeSpace f off len = true ↔ s.store.st = 0 ∧
    ((s.newPages f off len).length = 0 ∨ s.usedPages f + (s.newPages f off len).length ≤ s.guarPages f ∨
      s.usedPages f + (s.newPages f off len).length - max (s.usedPages f) (s.guarPages f) ≤ 201326592 - s.claimed))

/-- BOOT boots the first slot in the order of R391 that verifies, confirms it, replays or discards the flush image and ends in STANDBY, and with none holds the device. An image verifies only unread-free, whole, with its fuse counter in range, its key not revoked and both signatures good. The firmware requests are writes of their objects; those that nothing waits before and that pass, uploads apart, take their values and answer, FW_CONFIRM in a trial whose time is not over; an upload that passes acts and answers, with an abort when its own check fails. An upload opens the slot that is not CONFIRMED, adds 65,536 to its offset with each chunk, is refused with the failing code and left EMPTY, or committed VALID; an abort leaves it EMPTY. An activation loads the slot or is abandoned, as it is after 60 s of LOADING; READY, handover, self-test, confirmation and each fallback move control and the slots as the clauses say, and a fallback during a mode change waits; a confirmation raises the fuse counter to the image's and never lowers it; a revocation sets one bit; a quote is being signed until it is done. The model's own choices that it rests on, with no rule behind them: log entries 115, 121, 122, 123, 124, 126, 162. (16 R390, 16 R391, 16 R392, 16 R395, 16 R396, 16 R397, 16 R398, 16 R399, 16 R400, 16 R401, 16 R403, 16 R407.) -/
def Obligations.FirmwareAndTrust : Prop :=
  (∀ (pre : List Nat) (k : Nat) (rest : List Nat) (s : State), s.inMode .boot = true → s.mode.bootHeld = false → s.sup.flushAt = none →
    s.fw.bootOrder = pre ++ k :: rest → (∀ j, j ∈ pre → s.fw.verify (s.fw.slot j) ≠ 0) → s.fw.verify (s.fw.slot k) = 0 →
    ∃ t : State, exec .bootEnd s = .next t ∧ t.mode = { mode := .standby, target := .standby } ∧ t.fw.running = k ∧
      t.dict.fwVersion = iVersion (s.fw.slot k).hdr ∧ (t.fw.slot k).st = .confirmed ∧ t.sup.bootFaults = [] ∧ t.faults.stopSeq = none ∧
      t.store.flush = none ∧ (1024 ≤ s.store.usable → t.store.st = 0) ∧
      (∀ items, s.store.flush = some (items, true) → t.store.replayed = true) ∧
      (∀ items, s.store.flush = some (items, false) → t.store.discarded = true) ∧ t.fw.arb = s.fw.arb ∧ t.fw.revoked = s.fw.revoked ∧
      t.pending = s.pending ∧ t.now = s.now) ∧
  (∀ s : State, s.inMode .boot = true → s.mode.bootHeld = false → s.sup.flushAt = none →
    (∀ j, j ∈ s.fw.bootOrder → s.fw.verify (s.fw.slot j) ≠ 0) →
    ∃ t : State, exec .bootEnd s = .next t ∧ t.mode = { s.mode with bootHeld := true } ∧ t.pending = s.pending ∧ t.now = s.now) ∧
  (∀ s : State, (s.inMode .boot = false ∨ s.mode.bootHeld = true ∨ s.sup.flushAt.isSome = true) → exec .bootEnd s = .next s) ∧
  (∀ (x : Firmware) (y : Slot), (y.unread = true → x.verify y = 10) ∧
    (x.verify y = 0 → y.image.length = imageLen y.hdr ∧ x.arb ≤ iArb y.hdr ∧ iArb y.hdr ≤ 128 ∧ x.revoked.getLsbD (iKey y.hdr) = false ∧
      Config.rsaVerify (bf y.hdr 896 3072) (y.image.take 4096) (((y.image.drop (4096 + iBodyLen y.hdr))).take 384) = true ∧
      Config.slhVerify (bf y.hdr 3968 384) (y.image.take 4096) (((y.image.drop (4096 + iBodyLen y.hdr))).drop 384) = true)) ∧
  (∀ (r : Req) (idx sub len v w : Nat) (s : State), idx ≠ 0xC001 → ¬ (idx = 0xC002 ∧ sub = 2) → Safety.passes s r idx sub len v w →
    Safety.taken s (s.acceptNat r idx sub len v) r idx sub len w) ∧
  (∀ (r : Req) (v w : Nat) (s : State), s.trialOver = false → Safety.passes s r 0xC002 2 4 v w →
    Safety.taken s (s.acceptNat r 0xC002 2 4 v) r 0xC002 2 4 w) ∧
  (∀ (r : Req) (sub v : Nat) (b : List Byte) (o : Obj) (s : State), s.atOnce r = true → s.keptFor r (writeHdr r 0xC001 sub b.length) = none →
    s.openCheck r 0xC001 sub b.length = none → s.obj? 0xC001 sub = some o → o.persist = false →
    v = (if sub = 2 then 0 else o.valueOf b) → s.valueCheck r 0xC001 sub v = none →
    ∃ u : State, u = { s with dict := { s.dict with counts := u.dict.counts }, ctrs := u.ctrs } ∧ s.acceptWrite r 0xC001 sub b =
      (u.upload sub v b).1.answerReq r 0 (writeHdr r 0xC001 sub b.length) (match (u.upload sub v b).2 with
        | some a => abortPdu (writeHdr r 0xC001 sub b.length) a
        | none => okPdu (writeHdr r 0xC001 sub b.length))) ∧
  (∀ (r : Req) (s : State), exec (.fwUploadOpen r) s = .next (s.acceptNat r 0xC001 1 1 1) ∧ exec (.fwUploadCommit r) s = .next (s.acceptNat r 0xC001 1 1 2) ∧
    exec (.fwUploadAbort r) s = .next (s.acceptNat r 0xC001 1 1 3) ∧ (∀ b, exec (.fwUploadData r b) s = .next (s.acceptWrite r 0xC001 2 b)) ∧
    (∀ v, exec (.fwActivate r v) s = .next (s.acceptNat r 0xC002 1 1 v) ∧ exec (.fwFallback r v) s = .next (s.acceptNat r 0xC002 3 1 v) ∧
      exec (.fwKeyRevoke r v) s = .next (s.acceptNat r 0xC010 3 1 v)) ∧
    (∀ v : BitVec 32, exec (.fwConfirm r v) s = .next (s.acceptNat r 0xC002 2 4 v.toNat)) ∧
    (∀ (k : Nat) (v : BitVec 256), exec (.attestReq r k v) s = .next (s.acceptNat r 0xC021 k 32 v.toNat))) ∧
  (∀ (b : List Byte) (s : State),
    (∃ t : State, s.upload 1 1 b = (t.setCfg 0xC001 1 1, none) ∧ t.fw.upSlot = some (if s.fw.s0.st = .confirmed then 1 else 0) ∧ t.fw.upOff = 0 ∧ t.fw.phase = 1 ∧
      t.fw.slot (if s.fw.s0.st = .confirmed then 1 else 0) = {} ∧
      t.fw.slot (if s.fw.s0.st = .confirmed then 0 else 1) = s.fw.slot (if s.fw.s0.st = .confirmed then 0 else 1) ∧ t.fw.srec = s.fw.srec ∧
      t = { s with fw := t.fw }) ∧
    (∀ k, k < 2 → s.fw.upSlot = some k → ∃ t : State, s.upload 1 3 b = (t.setCfg 0xC001 1 3, none) ∧ t.fw.upSlot = none ∧ t.fw.phase = 0 ∧ t.fw.slot k = {} ∧
      t = { s with fw := t.fw }) ∧
    (∀ k, k < 2 → s.fw.upSlot = some k →
      (s.fw.verify { s.fw.slot k with image := (s.fw.slot k).image.take (imageLen (s.fw.slot k).hdr) } = 0 →
        ∃ t : State, s.upload 1 2 b = (t.setCfg 0xC001 1 2, none) ∧ t.fw.upSlot = none ∧ t.fw.phase = 2 ∧ (t.fw.slot k).st = .valid ∧ t = { s with fw := t.fw }) ∧
      (s.fw.verify { s.fw.slot k with image := (s.fw.slot k).image.take (imageLen (s.fw.slot k).hdr) } ≠ 0 →
        ∃ t : State, s.upload 1 2 b = (t, some .conflictValue) ∧ t.fw.upSlot = none ∧ t.fw.phase = 0 ∧ (t.fw.slot k).st = .empty ∧
          t.fw.result = s.fw.verify { s.fw.slot k with image := (s.fw.slot k).image.take (imageLen (s.fw.slot k).hdr) } ∧ t = { s with fw := t.fw })) ∧
    (∀ k, k < 2 → s.fw.upSlot = some k →
      ((s.fw.upOff ≠ 0 ∨ s.fw.headerCheck (((s.fw.slot k).image ++ b).take 4096) = 0) → ∃ t : State, s.upload 2 0 b = (t, none) ∧
        t.fw.upOff = s.fw.upOff + 65536 ∧ (t.fw.slot k).image = (s.fw.slot k).image ++ b ∧ t.fw.upSlot = some k ∧ t = { s with fw := t.fw }) ∧
      (s.fw.upOff = 0 → s.fw.headerCheck (((s.fw.slot k).image ++ b).take 4096) ≠ 0 → ∃ t : State, s.upload 2 0 b = (t, some .conflictValue) ∧
        t.fw.upSlot = none ∧ t.fw.phase = 0 ∧ (t.fw.slot k).st = .empty ∧ t.fw.result = s.fw.headerCheck (((s.fw.slot k).image ++ b).take 4096) ∧
        t = { s with fw := t.fw }))) ∧
  (∀ (g k : Nat) (s : State), k < 2 → ∃ t : State, s.takeWrite g 0xC002 1 k = t ∧
    (s.fw.verify (s.fw.slot k) = 0 → t.fw = { s.fw with
        other := .loading, phase := 3, newSlot := k, oldSlot := s.fw.running, loadAt := s.now, selftest := false, meas := t.fw.meas } ∧
      t = { s with fw := t.fw, dict := { s.dict with vals := t.dict.vals } }) ∧
    (s.fw.verify (s.fw.slot k) ≠ 0 → t.fw.phase = 0 ∧ t.fw.other = .idle ∧ (t.fw.slot k).st = (s.fw.slot k).st ∧
      t.fw.result = s.fw.verify (s.fw.slot k) ∧ t.faults.coming = s.faults.coming ++
        [{ code := 0x0C10 + s.fw.verify (s.fw.slot k), cls := deferred, tile := 13, unit := b2n s.fw.onB },
          { code := 0x0C40, cls := corrected, tile := 13, unit := b2n s.fw.onB }])) ∧
  (∀ s : State,
    (s.fw.phase = 3 → s.fw.loadAt + 60000000000 ≤ s.now → ∃ t : State, exec .fwLoadingTimeout s = .next t ∧ t.fw.phase = 0 ∧ t.fw.other = .idle ∧
      t.fw.s0 = s.fw.s0 ∧ t.fw.s1 = s.fw.s1 ∧ t.fw.running = s.fw.running ∧ t.fw.onB = s.fw.onB ∧ t.dict.journal = s.dict.journal ∧ t.dict.journal2 = [] ∧
      t.faults.coming = s.faults.coming ++ [{ code := 0x0C40, cls := corrected, tile := 13, unit := b2n s.fw.onB }]) ∧
    ((s.fw.phase ≠ 3 ∨ s.now < s.fw.loadAt + 60000000000) → exec .fwLoadingTimeout s = .next s) ∧
    (s.fw.phase = 3 → ∃ t : State, exec .fwReady s = .next t ∧ t.fw = { s.fw with other := .ready, phase := 4 } ∧
      t.dict = { s.dict with journal2 := t.dict.journal2 } ∧
      (iCfg (s.fw.slot s.fw.newSlot).hdr = iCfg (s.fw.slot s.fw.oldSlot).hdr → t.dict = s.dict) ∧
      (iCfg (s.fw.slot s.fw.newSlot).hdr ≠ iCfg (s.fw.slot s.fw.oldSlot).hdr → t.dict.journal2 = s.journalNow false) ∧
      t = { s with fw := t.fw, dict := t.dict }) ∧
    (s.fw.phase ≠ 3 → exec .fwReady s = .next s)) ∧
  (∀ s : State, (s.mode.changing = true → exec .handover s = .next s) ∧
    (s.mode.changing = false → s.fw.fallDue = none → s.fw.phase ≠ 4 → exec .handover s = .next s) ∧
    (s.mode.changing = false → ∀ k, s.fw.fallDue = some k → exec .handover s = .next (s.fallBackNow k)) ∧
    (s.mode.changing = false → s.fw.fallDue = none → s.fw.phase = 4 → ∃ t : State, exec .handover s = .next t ∧ t.fw.onB = !s.fw.onB ∧ t.fw.other = .warm ∧
      t.fw.phase = 5 ∧ t.fw.trialAt = some s.now ∧ t.fw.running = s.fw.newSlot ∧ (t.fw.slot s.fw.newSlot).st = .trial ∧
      t.dict.fwVersion = iVersion (s.fw.slot s.fw.newSlot).hdr ∧ t.sems.map (·.1) = s.sems.map (·.1) ∧
      t = { s with fw := t.fw, sems := t.sems, dict := { s.dict with fwVersion := t.dict.fwVersion } })) ∧
  (∀ s : State, (s.fw.phase ≠ 5 → exec (.fwSelftestResult true) s = .next s ∧ exec (.fwSelftestResult false) s = .next s ∧
      exec .fwWatchdogTimeout s = .next s) ∧
    (s.fw.phase = 5 → exec (.fwSelftestResult true) s = .next { s with fw := { s.fw with selftest := true } } ∧
      exec (.fwSelftestResult false) s = .next (s.fallBack 2) ∧ exec .fwWatchdogTimeout s = .next (s.fallBack 3)) ∧
    (∀ a, s.fw.trialAt = some a → (a + 600000000000 ≤ s.now → exec .fwTrialExpiry s = .next (s.fallBack 1)) ∧
      (s.now < a + 600000000000 → exec .fwTrialExpiry s = .next s)) ∧
    (s.fw.trialAt = none → exec .fwTrialExpiry s = .next s)) ∧
  (∀ (k : Nat) (s : State), (s.fw.phase ≠ 5 → s.fallBack k = s) ∧
    (s.fw.phase = 5 → s.mode.changing = true → s.fallBack k = { s with fw := { s.fw with fallDue := some (s.fw.fallDue.getD k) } }) ∧
    (s.fw.phase = 5 → s.mode.changing = false → s.fallBack k = s.fallBackNow k) ∧
    ∃ t : State, s.fallBackNow k = t ∧ t.fw.onB = !s.fw.onB ∧ t.fw.running = s.fw.oldSlot ∧ (t.fw.slot s.fw.newSlot).st = .valid ∧ t.fw.other = .idle ∧
      t.fw.phase = 0 ∧ t.fw.trialAt = none ∧ t.fw.fallDue = none ∧ t.fw.arb = s.fw.arb ∧ t.dict.journal = s.dict.journal ∧ t.dict.journal2 = [] ∧
      { code := 0x0C50 + k, cls := deferred, tile := 13, unit := b2n (!s.fw.onB) } ∈ t.faults.coming ∧ t.mode = s.mode) ∧
  (∀ (g v : Nat) (s : State), s.stateClash g 0xC002 2 v = (s.fw.phase != 5 || !s.fw.selftest) ∧
    s.valueClash 0xC002 2 v = (v != s.dict.fwVersion) ∧
    (s.fw.oldSlot ≠ s.fw.newSlot → s.fw.oldSlot < 3 → s.fw.newSlot < 2 → ∃ t : State, s.takeWrite g 0xC002 2 v = t ∧ (t.fw.slot s.fw.newSlot).st = .confirmed ∧
      (t.fw.slot s.fw.oldSlot).st = .valid ∧ t.fw.arb = max s.fw.arb (iArb (s.fw.slot s.fw.newSlot).hdr) ∧ t.fw.phase = 0 ∧ t.fw.trialAt = none ∧
      t.fw.other = .idle ∧ t.fw.onB = s.fw.onB ∧ t.fw.running = s.fw.running) ∧
    s.takeWrite g 0xC002 3 1 = s.fallBack 4 ∧ s.takeWrite g 0xC002 3 0 = s) ∧
  (∀ (g k : Nat) (s : State), k < 4 →
    (s.stateClash g 0xC010 3 k = true ↔ s.fw.phase = 5 ∨ s.fw.keyUsed k = true) ∧
    ∃ t : State, s.takeWrite g 0xC010 3 k = t ∧ (∀ j, t.fw.revoked.getLsbD j = (s.fw.revoked.getLsbD j || decide (j = k))) ∧
      t.fw = { s.fw with revoked := t.fw.revoked, meas := t.fw.meas } ∧ (∀ j, j ≠ 3 → t.fw.meas[j]? = s.fw.meas[j]?) ∧
      t = { s with fw := t.fw, free := s.free + 1, dict := { s.dict with vals := t.dict.vals } }) ∧
  (∀ (g k v : Nat) (s : State),
    (∃ t : State, s.takeWrite g 0xC021 k v = t ∧ Tbl.get? t.fw.nonce k = some v ∧ Tbl.get? t.fw.quotes k = none ∧ k ∈ t.fw.signing ∧
      (∀ j, j ≠ k → Tbl.get? t.fw.nonce j = Tbl.get? s.fw.nonce j ∧ Tbl.get? t.fw.quotes j = Tbl.get? s.fw.quotes j ∧ (j ∈ t.fw.signing ↔ j ∈ s.fw.signing)) ∧
      t = { s with fw := { s.fw with nonce := t.fw.nonce, quotes := t.fw.quotes, signing := t.fw.signing } }) ∧
    (k ∈ s.fw.signing → ∃ t : State, exec (.attestQuoteDone k) s = .next t ∧ Tbl.get? t.fw.quotes k = some (s.quote k) ∧ k ∉ t.fw.signing ∧
      (∀ j, j ≠ k → Tbl.get? t.fw.quotes j = Tbl.get? s.fw.quotes j ∧ (j ∈ t.fw.signing ↔ j ∈ s.fw.signing)) ∧
      t = { s with fw := { s.fw with quotes := t.fw.quotes, signing := t.fw.signing } }) ∧
    (k ∉ s.fw.signing → exec (.attestQuoteDone k) s = .next s))
end

