-- ==== Sys2Proof/Laws/Calm.lean ====
section
/-! SUPPORT. What most operations leave alone: the queue of waiting commands, the clock and the operating mode. -/

namespace Sys2Proof.Machine

/-- The queue, the clock and the mode. -/
def State.calm (s : State) : List Instr × Nat × ModeSt := (s.pending, s.now, s.mode)

@[simp] theorem calm_fold (s : State) : (s.pending, s.now, s.mode) = s.calm := rfl

@[simp] theorem calm_mk (pending now etNow free nextTag arch hosts fns eqs ctxs ets reads walks mctxs wins acu priv sems nextTicket links portqs
    tports gates pts quiet time trees collCounts keepAt dict mode sup faults ctrs store fw out) :
    State.calm ⟨pending, now, etNow, free, nextTag, arch, hosts, fns, eqs, ctxs, ets, reads, walks, mctxs, wins, acu, priv, sems, nextTicket, links, portqs,
      tports, gates, pts, quiet, time, trees, collCounts, keepAt, dict, mode, sup, faults, ctrs, store, fw, out⟩ = (pending, now, mode) := rfl

@[simp] theorem foldl_calm {α : Type} (g : State → α → State) (l : List α) (s : State) (h : ∀ s a, (g s a).calm = s.calm) :
    (l.foldl g s).calm = s.calm := by
  induction l generalizing s with
  | nil => rfl
  | cons a l ih => rw [List.foldl_cons, ih, h]

end Sys2Proof.Machine
end

