-- ==== Sys2Proof/Laws/CalmOps.lean ====
section
/-! SUPPORT. What the operations of Machine/Ops.lean leave alone. -/

namespace Sys2Proof.Machine

@[simp] theorem State.modHost_calm (s : State) (h : Nat) (f : HostPort → HostPort) : (State.modHost s h f).calm = s.calm := by
  rfl

@[simp] theorem State.modFn_calm (s : State) (f : Nat) (g : Fn → Fn) : (State.modFn s f g).calm = s.calm := by
  rfl

@[simp] theorem State.modCtx_calm (s : State) (f c : Nat) (g : CtxAll → CtxAll) : (State.modCtx s f c g).calm = s.calm := by
  rfl

@[simp] theorem State.modC_calm (s : State) (f c : Nat) (g : Ctx → Ctx) : (State.modC s f c g).calm = s.calm := by
  rfl

@[simp] theorem State.modW_calm (s : State) (f c : Nat) (g : CtxWork → CtxWork) : (State.modW s f c g).calm = s.calm := by
  rfl

@[simp] theorem State.modM_calm (s : State) (f c : Nat) (g : CtxMatch → CtxMatch) : (State.modM s f c g).calm = s.calm := by
  rfl

@[simp] theorem State.modEq_calm (s : State) (f q : Nat) (g : EventQ → EventQ) : (State.modEq s f q g).calm = s.calm := by
  rfl

@[simp] theorem State.modEt_calm (s : State) (n : Nat) (g : EtTile → EtTile) : (State.modEt s n g).calm = s.calm := by
  rfl

@[simp] theorem State.modLink_calm (s : State) (p : Nat) (g : Link → Link) : (State.modLink s p g).calm = s.calm := by
  rfl

@[simp] theorem State.modPortq_calm (s : State) (p : Nat) (g : PortQ → PortQ) : (State.modPortq s p g).calm = s.calm := by
  rfl

@[simp] theorem State.modTport_calm (s : State) (p : Nat) (g : TimePort → TimePort) : (State.modTport s p g).calm = s.calm := by
  rfl

@[simp] theorem State.modGate_calm (s : State) (p : Nat) (g : Gate → Gate) : (State.modGate s p g).calm = s.calm := by
  rfl

@[simp] theorem State.modPt_calm (s : State) (n : Nat) (g : PtTile → PtTile) : (State.modPt s n g).calm = s.calm := by
  rfl

@[simp] theorem State.setSem_calm (s : State) (n : Nat) (x : Sem) : (State.setSem s n x).calm = s.calm := by
  rfl

@[simp] theorem State.modMctx_calm (s : State) (f comm : Nat) (g : MatchCtx → MatchCtx) : (State.modMctx s f comm g).calm = s.calm := by
  rfl

@[simp] theorem State.modWin_calm (s : State) (n k : Nat) (g : Win → Win) : (State.modWin s n k g).calm = s.calm := by
  rfl

@[simp] theorem State.modTree_calm (s : State) (t : Nat) (g : Tree → Tree) : (State.modTree s t g).calm = s.calm := by
  rfl

@[simp] theorem State.setCfg_calm (s : State) (idx sub v : Nat) : (State.setCfg s idx sub v).calm = s.calm := by
  rfl

@[simp] theorem State.emit_calm (s : State) (o : Out) : (State.emit s o).calm = s.calm := by
  rfl

@[simp] theorem State.nextFree_calm (s : State) : (State.nextFree s).calm = s.calm := by
  rfl

@[simp] theorem State.report_calm (s : State) (f : FaultReport) : (State.report s f).calm = s.calm := by
  rfl

@[simp] theorem State.portFault_calm (s : State) (code cls p : Nat) (info : Nat) : (State.portFault s code cls p info).calm = s.calm := by
  rfl

@[simp] theorem State.fnFault_calm (s : State) (code cls f : Nat) (ctx : Option Nat) (info : Nat) : (State.fnFault s code cls f ctx info).calm = s.calm := by
  rfl

@[simp] theorem State.mtFault_calm (s : State) (code cls : Nat) (info : Nat) : (State.mtFault s code cls info).calm = s.calm := by
  rfl

@[simp] theorem State.stFault_calm (s : State) (code cls : Nat) (info : Nat) : (State.stFault s code cls info).calm = s.calm := by
  rfl

@[simp] theorem State.hostWrite_calm (s : State) (f addr : Nat) (bytes : List Byte) : (State.hostWrite s f addr bytes).calm = s.calm := by
  simp [State.hostWrite]

@[simp] theorem State.loseCrossing_calm (s : State) (f : Cross → Bool) : (State.loseCrossing s f).calm = s.calm := by
  rfl

end Sys2Proof.Machine
end

