-- ==== Sys2Proof/Laws/CalmPhys.lean ====
section
/-! SUPPORT. What the operations of Machine/Phys.lean leave alone. -/

namespace Sys2Proof.Machine

@[simp] theorem State.ctl_calm (s : State) (p : Nat) (l : List Block) : (State.ctl s p l).calm = s.calm := by
  rfl

@[simp] theorem State.ctlFirst_calm (s : State) (p : Nat) (l : List Block) : (State.ctlFirst s p l).calm = s.calm := by
  rfl

@[simp] theorem State.ctlLast_calm (s : State) (p : Nat) (l : List Block) : (State.ctlLast s p l).calm = s.calm := by
  rfl

end Sys2Proof.Machine
end

