-- ==== Sys2Proof/Laws/CalmFlags.lean ====
section
/-! SUPPORT. What the operations of Machine/Flags.lean leave alone. -/

namespace Sys2Proof.Machine

@[simp] theorem State.perf_calm (s : State) (t ev unit : Nat) (fn : Option Nat) (n : Nat) : (State.perf s t ev unit fn n).calm = s.calm := by
  rfl

@[simp] theorem State.fnCtr_calm (s : State) (f k n : Nat) : (State.fnCtr s f k n).calm = s.calm := by
  rfl

@[simp] theorem State.tCount_calm (s : State) (n k : Nat) (c : Nat) : (State.tCount s n k c).calm = s.calm := by
  rfl

@[simp] theorem State.mCount_calm (s : State) (n k : Nat) (c : Nat) : (State.mCount s n k c).calm = s.calm := by
  rfl

@[simp] theorem State.rCount_calm (s : State) (n k : Nat) (c : Nat) : (State.rCount s n k c).calm = s.calm := by
  rfl

@[simp] theorem State.linkCount_calm (s : State) (p k : Nat) : (State.linkCount s p k).calm = s.calm := by
  rfl

@[simp] theorem State.dropCount_calm (s : State) (n k : Nat) (unit : Nat) : (State.dropCount s n k unit).calm = s.calm := by
  rfl

@[simp] theorem State.collCount_calm (s : State) (k : Nat) : (State.collCount s k).calm = s.calm := by
  rfl

@[simp] theorem State.dictCount_calm (s : State) (k : Nat) : (State.dictCount s k).calm = s.calm := by
  rfl

@[simp] theorem State.storeCount_calm (s : State) (k n : Nat) : (State.storeCount s k n).calm = s.calm := by
  rfl

@[simp] theorem State.pwrCount_calm (s : State) (k : Nat) : (State.pwrCount s k).calm = s.calm := by
  rfl

@[simp] theorem State.modeDrop_calm (s : State) (n : Nat) : (State.modeDrop s n).calm = s.calm := by
  rfl

end Sys2Proof.Machine
end

