-- ==== Sys2Proof/Laws/CalmAcu.lean ====
section
/-! SUPPORT. What the operations of Machine/Acu.lean leave alone. -/

namespace Sys2Proof.Machine

@[simp] theorem State.acuDeny_calm (s : State) (m addr len : Nat) (wr : Bool) (code : Nat) : (State.acuDeny s m addr len wr code).calm = s.calm := by
  simp [State.acuDeny, apply_ite State.calm]

@[simp] theorem State.fly_calm (s : State) (m addr : Nat) : (State.fly s m addr).calm = s.calm := by
  rfl

@[simp] theorem State.land_calm (s : State) : (State.land s).calm = s.calm := by
  rfl

end Sys2Proof.Machine
end

