-- ==== Sys2Proof/Laws/CalmPackets.lean ====
section
/-! SUPPORT. What the operations of Machine/Packets.lean leave alone. -/

namespace Sys2Proof.Machine

@[simp] theorem State.offer_calm (s : State) (src dst k : Nat) (x : Cross) : (State.offer s src dst k x).calm = s.calm := by
  rfl

@[simp] theorem State.injectFrom_calm (s : State) (src : Nat) (p : Packet) (k : Nat) : (State.injectFrom s src p k).calm = s.calm := by
  rfl

@[simp] theorem State.sendCtx_calm (s : State) (f : Nat) (p : Packet) : (State.sendCtx s f p).calm = s.calm := by
  simp [State.sendCtx, apply_ite State.calm]

@[simp] theorem State.sendAck_calm (s : State) (f c : Nat) : (State.sendAck s f c).calm = s.calm := by
  simp [State.sendAck]

@[simp] theorem State.ackNow_calm (s : State) (f c : Nat) : (State.ackNow s f c).calm = s.calm := by
  simp [State.ackNow, apply_ite State.calm]

@[simp] theorem State.ackIfDue_calm (s : State) (f c : Nat) : (State.ackIfDue s f c).calm = s.calm := by
  simp [State.ackIfDue, apply_ite State.calm]

@[simp] theorem State.sendResyncAck_calm (s : State) (f c ts : Nat) : (State.sendResyncAck s f c ts).calm = s.calm := by
  simp [State.sendResyncAck]

@[simp] theorem State.sendRnr_calm (s : State) (f c : Nat) (psn : U32) (ts : Nat) : (State.sendRnr s f c psn ts).calm = s.calm := by
  simp [State.sendRnr]

@[simp] theorem State.sendStale_go_calm (et : Nat) (p : Packet) (s : State) : (State.sendStale.go et p s).calm = s.calm := by
  unfold State.sendStale.go; repeat' split
  all_goals simp

@[simp] theorem State.sendStale_calm (s : State) (et : Nat) (p : Packet) : (State.sendStale s et p).calm = s.calm := by
  unfold State.sendStale; repeat' split
  all_goals simp

@[simp] theorem State.sendResync_calm (s : State) (f c : Nat) : (State.sendResync s f c).calm = s.calm := by
  simp [State.sendResync]

@[simp] theorem State.sendResp_calm (s : State) (f c : Nat) (psn : U32) (hdr : Nat) (payload : List Byte) : (State.sendResp s f c psn hdr payload).calm = s.calm := by
  simp [State.sendResp]

@[simp] theorem State.modEntry_calm (s : State) (f c : Nat) (idx : U32) (g : Entry → Entry) : (State.modEntry s f c idx g).calm = s.calm := by
  rfl

@[simp] theorem State.replayWatch_calm (s : State) (h : Nat) : (State.replayWatch s h).calm = s.calm := by
  simp only [State.replayWatch]; repeat' split
  all_goals simp

end Sys2Proof.Machine
end

