-- ==== Sys2Proof/Laws/CalmMatchCore.lean ====
section
/-! SUPPORT. What the operations of Machine/MatchCore.lean leave alone. -/

namespace Sys2Proof.Machine

@[simp] theorem State.modMsg_calm (s : State) (f c msn : Nat) (g : Msg → Msg) : (State.modMsg s f c msn g).calm = s.calm := by
  rfl

@[simp] theorem State.tidyMctx_calm (s : State) (f comm : Nat) : (State.tidyMctx s f comm).calm = s.calm := by
  simp [State.tidyMctx, apply_ite State.calm]

@[simp] theorem State.dropMsg_calm (s : State) (f c msn : Nat) : (State.dropMsg s f c msn).calm = s.calm := by
  simp only [State.dropMsg]; repeat' split
  all_goals simp

@[simp] theorem State.engOp_calm (s : State) (f comm : Nat) : (State.engOp s f comm).calm = s.calm := by
  rfl

@[simp] theorem State.firstMatch_calm (n : Nat) (s : State) (a0 : Nat) (a1 : Nat) (a2 : Nat) : (State.firstMatch n s a0 a1 a2).calm = s.calm := by
  induction n generalizing s a0 a1 a2 with
  | zero => rfl
  | succ n ih =>
    unfold State.firstMatch; repeat' split
    all_goals simp [ih]

@[simp] theorem State.recvEnd_calm (s : State) (f c : Nat) (m : Msg) (status len : Nat) : (State.recvEnd s f c m status len).calm = s.calm := by
  simp only [State.recvEnd]; repeat' split
  all_goals simp

@[simp] theorem State.releaseClaim_calm (s : State) (f c : Nat) (m : Msg) : (State.releaseClaim s f c m).calm = s.calm := by
  rfl

@[simp] theorem State.returnSlots_calm (s : State) (f c n : Nat) : (State.returnSlots s f c n).calm = s.calm := by
  simp [State.returnSlots, apply_ite State.calm]

@[simp] theorem State.landWatch_calm (s : State) (h : Nat) : (State.landWatch s h).calm = s.calm := by
  simp only [State.landWatch]; repeat' split
  all_goals simp

@[simp] theorem State.returnFor_calm (s : State) (f c msn n : Nat) : (State.returnFor s f c msn n).calm = s.calm := by
  simp [State.returnFor, apply_ite State.calm]

@[simp] theorem State.queueFin_calm (s : State) (f c msn n : Nat) : (State.queueFin s f c msn n).calm = s.calm := by
  rfl

@[simp] theorem State.tryEnd_calm (s : State) (f c msn : Nat) : (State.tryEnd s f c msn).calm = s.calm := by
  simp only [State.tryEnd]; repeat' split
  all_goals simp

@[simp] theorem State.discardMsg_calm (s : State) (f c : Nat) (m : Msg) : (State.discardMsg s f c m).calm = s.calm := by
  simp [State.discardMsg]

@[simp] theorem State.closeMsg_calm (s : State) (f c : Nat) (m : Msg) : (State.closeMsg s f c m).calm = s.calm := by
  simp only [State.closeMsg]; repeat' split
  all_goals simp

@[simp] theorem State.closePosted_calm (s : State) (f : Nat) (r : Posted) : (State.closePosted s f r).calm = s.calm := by
  simp only [State.closePosted]; repeat' split
  all_goals simp

@[simp] theorem State.dropItem_calm (s : State) (i : EngItem) : (s.dropItem i).calm = s.calm := by
  unfold State.dropItem; split <;> simp

@[simp] theorem State.closeMatching_calm (s : State) (f c : Nat) : (State.closeMatching s f c).calm = s.calm := by
  simp [State.closeMatching]

end Sys2Proof.Machine
end

