-- ==== Sys2Proof/Laws/CalmXlate.lean ====
section
/-! SUPPORT. What the operations of Machine/Xlate.lean leave alone. -/

namespace Sys2Proof.Machine

@[simp] theorem State.xlateFault_calm (s : State) (f va code level : Nat) (k : AccKind) : (State.xlateFault s f va code level k).calm = s.calm := by
  simp [State.xlateFault, apply_ite State.calm]

@[simp] theorem State.issueRead_calm (s : State) (num : Nat) (r : HostRead) (l : List (Nat × Nat)) : (State.issueRead s num r l).calm = s.calm := by
  rfl

@[simp] theorem State.issueTable_calm (s : State) (w : Walk) : (State.issueTable s w).calm = s.calm := by
  simp [State.issueTable, apply_ite State.calm]

@[simp] theorem State.nextWalk_calm (s : State) (et : Nat) : (State.nextWalk s et).calm = s.calm := by
  simp only [State.nextWalk]; repeat' split
  all_goals simp

@[simp] theorem State.startWalks_calm (n : Nat) (s : State) (a0 : Nat) : (State.startWalks n s a0).calm = s.calm := by
  induction n generalizing s a0 with
  | zero => rfl
  | succ n ih =>
    simp [State.startWalks, ih]

@[simp] theorem State.beginWalk_calm (s : State) (ex : List Nat) (f va : Nat) (k : AccKind) (tag : Option Nat) : (State.beginWalk s ex f va k tag).1.calm = s.calm := by
  simp only [State.beginWalk]; repeat' split
  all_goals simp

@[simp] theorem State.readFault_calm (s : State) (tag : Nat) (r : HostRead) (va code level : Nat) : (State.readFault s tag r va code level).calm = s.calm := by
  simp only [State.readFault]; repeat' split
  all_goals simp

@[simp] theorem State.readTranslated_calm (s : State) (tag : Nat) (r : HostRead) (l : List (Nat × Nat)) : (State.readTranslated s tag r l).calm = s.calm := by
  simp only [State.readTranslated]; repeat' split
  all_goals simp

@[simp] theorem State.tryRead_calm (s : State) (tag : Nat) : (State.tryRead s tag).calm = s.calm := by
  unfold State.tryRead; dsimp only; repeat' split
  all_goals first | (simp [apply_ite State.calm]; done) | (rename_i h; have h' := congrArg (fun x => State.calm x.1) h; simp [apply_ite State.calm] at h'; simp [h', apply_ite State.calm]) | (rename_i h; have h' := congrArg (fun x => State.calm x.2) h; simp [apply_ite State.calm] at h'; simp [h', apply_ite State.calm])

@[simp] theorem State.hostReadReq_calm (s : State) (f va len : Nat) (use : ReadFor) (kind : AccKind) : (State.hostReadReq s f va len use kind).calm = s.calm := by
  simp [State.hostReadReq]

@[simp] theorem State.cacheLeaf_calm (s : State) (l : Leaf) : (State.cacheLeaf s l).calm = s.calm := by
  simp [State.cacheLeaf, apply_ite State.calm]

@[simp] theorem State.cachePtr_calm (s : State) (p : WalkPtr) : (State.cachePtr s p).calm = s.calm := by
  simp [State.cachePtr, apply_ite State.calm]

@[simp] theorem State.invalidate_calm (s : State) (f lo hi : Nat) : (State.invalidate s f lo hi).calm = s.calm := by
  rfl

end Sys2Proof.Machine
end

