-- ==== Sys2Proof/Laws/CalmPriv.lean ====
section
/-! SUPPORT. What the operations of Machine/Priv.lean leave alone. -/

namespace Sys2Proof.Machine

@[simp] theorem State.sramWrite_calm (s : State) (a : Nat) (l : List Byte) : (s.sramWrite a l).calm = s.calm := by
  induction l generalizing s a with
  | nil => rfl
  | cons b l ih => rw [State.sramWrite, ih]; rfl

@[simp] theorem State.sramMend_calm (s : State) (a len : Nat) : (State.sramMend s a len).calm = s.calm := by
  rfl

@[simp] theorem State.modPriv_calm (s : State) (m : Nat) (g : PrivTile → PrivTile) : (State.modPriv s m g).calm = s.calm := by
  rfl

@[simp] theorem State.privLeaf_calm (s : State) (m : Nat) (l : Leaf) : (State.privLeaf s m l).calm = s.calm := by
  simp [State.privLeaf, apply_ite State.calm]

@[simp] theorem State.privPtr_calm (s : State) (m : Nat) (p : WalkPtr) : (State.privPtr s m p).calm = s.calm := by
  simp [State.privPtr, apply_ite State.calm]

@[simp] theorem State.privXlate_calm (s : State) (m va : Nat) (k : AccKind) : (State.privXlate s m va k).1.calm = s.calm := by
  simp only [State.privXlate]; repeat' split
  all_goals simp

@[simp] theorem State.privAll_calm (s : State) (m : Nat) (k : AccKind) (l : List (Nat × Nat)) : (s.privAll m k l).1.calm = s.calm := by
  induction l generalizing s with
  | nil => rfl
  | cons x l ih =>
    obtain ⟨a, n⟩ := x
    have hx := State.privXlate_calm s m a k
    unfold State.privAll
    split
    · rename_i t b h
      rw [h] at hx
      have ht := ih t
      split
      · rename_i u l' h'
        rw [h'] at ht
        exact ht.trans hx
      · exact ht.trans hx
    · rename_i h; rw [h] at hx; exact hx
    · rename_i h; rw [h] at hx; exact hx

@[simp] theorem State.privRecord_calm (s : State) (m code : Nat) (k : AccKind) : (State.privRecord s m code k).calm = s.calm := by
  rfl

@[simp] theorem State.transferPieces_calm (s : State) (m a len : Nat) (wr : Bool) : (State.transferPieces s m a len wr).1.calm = s.calm := by
  simp only [State.transferPieces]; repeat' split
  all_goals simp

@[simp] theorem State.fillPieces_calm (s : State) (l : List (Nat × Nat)) (d : List Byte) : (s.fillPieces l d).calm = s.calm := by
  induction l generalizing s d with
  | nil => rfl
  | cons x l ih => obtain ⟨a, n⟩ := x; simp [State.fillPieces, ih]

@[simp] theorem State.transfer_calm (s : State) (m len : Nat) (wr : Bool) (data : List Byte) : (s.transfer m len wr data).1.calm = s.calm := by
  have hx := State.transferPieces_calm s m (s.bufferAddr m) len wr
  unfold State.transfer
  dsimp only
  split
  · rename_i h; rw [h] at hx; simpa using hx
  · rename_i t l h
    rw [h] at hx
    split
    · cases wr <;> simpa using hx
    · simpa using hx

end Sys2Proof.Machine
end

