-- ==== Sys2Proof/Laws/CalmEvents.lean ====
section
/-! SUPPORT. What the operations of Machine/Events.lean leave alone. -/

namespace Sys2Proof.Machine

@[simp] theorem State.queueWrite_calm (s : State) (f addr : Nat) (bytes : List Byte) (use : AddrUse) (land : Option Landing) : (State.queueWrite s f addr bytes use land).calm = s.calm := by
  rfl

@[simp] theorem State.queueEvent_calm (s : State) (f q : Nat) (e : Event) : (State.queueEvent s f q e).calm = s.calm := by
  rfl

@[simp] theorem State.settle_calm (s : State) (f c : Nat) : (State.settle s f c).calm = s.calm := by
  rfl

@[simp] theorem State.startFill_calm (s : State) (f c : Nat) : (State.startFill s f c).calm = s.calm := by
  simp [State.startFill, apply_ite State.calm]

@[simp] theorem State.atHome_calm (s : State) (f c : Nat) (go : State → State) (h : ∀ s, (go s).calm = s.calm) :
    (s.atHome f c go).calm = s.calm := by
  unfold State.atHome; split <;> simp [h]

@[simp] theorem State.queueHead_calm (s : State) (f c : Nat) : (State.queueHead s f c).calm = s.calm := by
  rfl

@[simp] theorem State.advanceHead_calm (s : State) (f c : Nat) : (State.advanceHead s f c).calm = s.calm := by
  simp [State.advanceHead, apply_ite State.calm]

@[simp] theorem State.entryFinished_calm (s : State) (f c : Nat) (idx : U32) : (State.entryFinished s f c idx).calm = s.calm := by
  simp [State.entryFinished]

@[simp] theorem State.saveResp_calm (s : State) (f c : Nat) (psn : U32) (opc rkey raddr status : Nat) (data : List Byte) : (State.saveResp s f c psn opc rkey raddr status data).calm = s.calm := by
  rfl

@[simp] theorem State.sendResps_calm (n : Nat) (s : State) (a0 : Nat) (a1 : Nat) (a2 : U32) (a3 : Nat) (a4 : List Byte) : (State.sendResps n s a0 a1 a2 a3 a4).calm = s.calm := by
  induction n generalizing s a0 a1 a2 a3 a4 with
  | zero => rfl
  | succ n ih =>
    simp [State.sendResps, ih]

@[simp] theorem State.lastDone_calm (s : State) (f c : Nat) (l : LastPkt) : (State.lastDone s f c l).calm = s.calm := by
  simp [State.lastDone]

@[simp] theorem State.completeLasts_calm (n : Nat) (s : State) (a0 : Nat) (a1 : Nat) : (State.completeLasts n s a0 a1).calm = s.calm := by
  induction n generalizing s a0 a1 with
  | zero => rfl
  | succ n ih =>
    unfold State.completeLasts; repeat' split
    all_goals simp [ih]

@[simp] theorem State.completeAll_calm (s : State) (f c : Nat) : (State.completeAll s f c).calm = s.calm := by
  simp [State.completeAll]

@[simp] theorem State.msixSend_calm (s : State) (f v : Nat) : (State.msixSend s f v).calm = s.calm := by
  simp [State.msixSend, apply_ite State.calm]

@[simp] theorem State.moderate_calm (s : State) (f q : Nat) : (State.moderate s f q).calm = s.calm := by
  simp only [State.moderate]; repeat' split
  all_goals simp

@[simp] theorem State.eventWritten_calm (s : State) (f q : Nat) (e : Event) : (State.eventWritten s f q e).calm = s.calm := by
  simp only [State.eventWritten]; repeat' split
  all_goals simp

@[simp] theorem State.asyncDrop_calm (s : State) (f : Nat) : (State.asyncDrop s f).calm = s.calm := by
  rfl

@[simp] theorem State.eventWaits_calm (s : State) (f q : Nat) (e : Event) : (State.eventWaits s f q e).calm = s.calm := by
  rfl

@[simp] theorem State.endContext_calm (s : State) (f c : Nat) (one : Option U32) (st : Nat) : (State.endContext s f c one st).calm = s.calm := by
  simp [State.endContext]

@[simp] theorem State.loseContext_calm (s : State) (f c : Nat) : (State.loseContext s f c).calm = s.calm := by
  simp [State.loseContext]

@[simp] theorem State.recvFault_calm (s : State) (f c : Nat) (idx : U32) (n : Nat) : (State.recvFault s f c idx n).calm = s.calm := by
  rfl

@[simp] theorem State.written_calm (s : State) (f : Nat) (h : HeldWrite) : (State.written s f h).calm = s.calm := by
  simp only [State.written]; repeat' split
  all_goals simp

@[simp] theorem State.recordLost_calm (s : State) (rtype port : Nat) : (State.recordLost s rtype port).calm = s.calm := by
  simp [State.recordLost, apply_ite State.calm]

@[simp] theorem State.ringLost_calm (s : State) : (State.ringLost s).calm = s.calm := by
  simp [State.ringLost]

@[simp] theorem State.dropPieces_calm (s : State) (f : Nat) : (State.dropPieces s f).calm = s.calm := by
  rfl

@[simp] theorem State.writeFault_calm (s : State) (f : Nat) (h : HeldWrite) (code level va : Nat) : (State.writeFault s f h code level va).calm = s.calm := by
  simp only [State.writeFault]; repeat' split
  all_goals simp

@[simp] theorem State.writeIssued_calm (s : State) (f : Nat) (h : HeldWrite) : (State.writeIssued s f h).calm = s.calm := by
  simp only [State.writeIssued]; repeat' split
  all_goals simp

@[simp] theorem State.uncache_calm (s : State) (is_ : HostRead → Bool) : (State.uncache s is_).calm = s.calm := by
  rfl

@[simp] theorem State.dropAtoms_calm (s : State) (h bus len : Nat) : (State.dropAtoms s h bus len).calm = s.calm := by
  rfl

@[simp] theorem State.popWrite_calm (s : State) (f : Nat) : (State.popWrite s f).calm = s.calm := by
  rfl

@[simp] theorem State.writeExcl_calm (s : State) (f : Nat) (ex : List Nat) : (State.writeExcl s f ex).calm = s.calm := by
  rfl

@[simp] theorem State.drain_calm (n : Nat) (s : State) (a0 : Nat) : (State.drain n s a0).calm = s.calm := by
  induction n generalizing s a0 with
  | zero => rfl
  | succ n ih =>
    simp only [State.drain]; repeat' split
    all_goals first | (simp [ih, apply_ite State.calm]; done) | (rename_i h; have h' := congrArg (fun x => State.calm x.1) h; simp [apply_ite State.calm] at h'; simp [ih, h', apply_ite State.calm]) | (rename_i h; have h' := congrArg (fun x => State.calm x.2) h; simp [apply_ite State.calm] at h'; simp [ih, h', apply_ite State.calm])

@[simp] theorem State.flushWrites_calm (s : State) (f : Nat) : (State.flushWrites s f).calm = s.calm := by
  simp [State.flushWrites, apply_ite State.calm]

@[simp] theorem State.put_calm (s : State) (f addr : Nat) (bytes : List Byte) (use : AddrUse) (land : Option Landing) : (State.put s f addr bytes use land).calm = s.calm := by
  simp [State.put]

@[simp] theorem State.post_calm (s : State) (f q : Nat) (e : Event) : (State.post s f q e).calm = s.calm := by
  simp [State.post]

@[simp] theorem State.postAsync_calm (s : State) (f : Nat) (e : Event) : (State.postAsync s f e).calm = s.calm := by
  simp [State.postAsync]

@[simp] theorem State.retryEvents_calm (s : State) (f q : Nat) : (State.retryEvents s f q).calm = s.calm := by
  simp only [State.retryEvents]; repeat' split
  all_goals simp

end Sys2Proof.Machine
end

