-- ==== Sys2Proof/Laws/CalmContexts.lean ====
section
/-! SUPPORT. What the operations of Machine/Contexts.lean leave alone. -/

namespace Sys2Proof.Machine

@[simp] theorem State.evict_calm (s : State) (f c : Nat) : (State.evict s f c).calm = s.calm := by
  simp [State.evict]

theorem State.makeRoom_calm (s t : State) (f : Nat) (h : s.makeRoom f = some t) : t.calm = s.calm := by
  unfold State.makeRoom at h
  split at h
  · cases h; rfl
  · cases hv : s.victim f <;> simp [hv] at h
    subst h; simp

@[simp] theorem State.startFetch_calm (s : State) (f c : Nat) : (State.startFetch s f c).calm = s.calm := by
  simp [State.startFetch, apply_ite State.calm]

end Sys2Proof.Machine
end

