-- ==== Sys2Proof/Laws/CalmRoutes.lean ====
section
/-! SUPPORT. What the operations of Machine/Routes.lean leave alone. -/

namespace Sys2Proof.Machine

@[simp] theorem State.traceDrop_calm (s : State) : (State.traceDrop s).calm = s.calm := by
  rfl

@[simp] theorem State.traceEt_calm (s : State) (n r : Nat) : (State.traceEt s n r).calm = s.calm := by
  simp [State.traceEt, apply_ite State.calm]

@[simp] theorem State.tracePt_calm (s : State) (n r : Nat) : (State.tracePt s n r).calm = s.calm := by
  simp [State.tracePt, apply_ite State.calm]

@[simp] theorem State.tracePkt_calm (s : State) (n stage : Nat) (p : Packet) : (State.tracePkt s n stage p).calm = s.calm := by
  simp [State.tracePkt, apply_ite State.calm]

@[simp] theorem State.traceEntry_calm (s : State) (f c : Nat) (e : Entry) (stage : Nat) : (State.traceEntry s f c e stage).calm = s.calm := by
  simp [State.traceEntry, apply_ite State.calm]

@[simp] theorem State.tagEntry_calm (s : State) (f c : Nat) (idx : U32) : (State.tagEntry s f c idx).calm = s.calm := by
  simp [State.tagEntry, apply_ite State.calm]

end Sys2Proof.Machine
end

