-- ==== Sys2Proof/Laws/CalmTransport.lean ====
section
/-! SUPPORT. What the operations of Machine/Transport.lean leave alone. -/

namespace Sys2Proof.Machine

@[simp] theorem State.restartRto_calm (s : State) (f c : Nat) : (State.restartRto s f c).calm = s.calm := by
  rfl

@[simp] theorem State.pace_calm (s : State) (f c l : Nat) : (State.pace s f c l).calm = s.calm := by
  rfl

@[simp] theorem State.countTx_calm (s : State) (f plen : Nat) : (State.countTx s f plen).calm = s.calm := by
  rfl

@[simp] theorem State.sendNew_calm (s : State) (f c : Nat) (n : NewPkt) : (State.sendNew s f c n).calm = s.calm := by
  simp [State.sendNew]

@[simp] theorem State.resend_calm (s : State) (f c : Nat) (r : Replay) (payload : List Byte) : (State.resend s f c r payload).calm = s.calm := by
  simp [State.resend]

@[simp] theorem State.resendNext_calm (s : State) (f c : Nat) : (State.resendNext s f c).calm = s.calm := by
  simp only [State.resendNext]; repeat' split
  all_goals simp

@[simp] theorem State.resendRun_calm (n : Nat) (s : State) (a0 : Nat) (a1 : Nat) : (State.resendRun n s a0 a1).calm = s.calm := by
  induction n generalizing s a0 a1 with
  | zero => rfl
  | succ n ih =>
    unfold State.resendRun; repeat' split
    all_goals simp [ih, apply_ite State.calm]

@[simp] theorem State.resends_calm (s : State) (f c : Nat) : (State.resends s f c).calm = s.calm := by
  simp [State.resends]

@[simp] theorem State.resendReady_calm (s : State) (f c : Nat) (psn : U32) (payload : List Byte) : (State.resendReady s f c psn payload).calm = s.calm := by
  simp [State.resendReady]

@[simp] theorem State.retransmit_calm (s : State) (f c : Nat) (psn : U32) : (State.retransmit s f c psn).calm = s.calm := by
  simp only [State.retransmit]; repeat' split
  all_goals simp

@[simp] theorem State.noteSent_calm (s : State) (f c : Nat) (idx psn : U32) : (State.noteSent s f c idx psn).calm = s.calm := by
  rfl

@[simp] theorem State.askData_calm (s : State) (f c : Nat) (e : Entry) (off len : Nat) : (State.askData s f c e off len).calm = s.calm := by
  simp only [State.askData]; repeat' split
  all_goals simp

@[simp] theorem State.sendPayload_calm (s : State) (f c : Nat) (e : Entry) : (State.sendPayload s f c e).calm = s.calm := by
  simp only [State.sendPayload]; repeat' split
  all_goals simp

@[simp] theorem State.sendRts_calm (s : State) (f c : Nat) (e : Entry) : (State.sendRts s f c e).calm = s.calm := by
  simp [State.sendRts, apply_ite State.calm]

@[simp] theorem State.entryXlate_calm (s : State) (f c : Nat) (e : Entry) : (State.entryXlate s f c e).calm = s.calm := by
  simp [State.entryXlate, apply_ite State.calm]

@[simp] theorem State.requestFault_calm (s : State) (f c : Nat) (e : Entry) (a code level : Nat) : (State.requestFault s f c e a code level).calm = s.calm := by
  simp [State.requestFault]

@[simp] theorem State.sendRequest_calm (s : State) (f c : Nat) (e : Entry) : (State.sendRequest s f c e).calm = s.calm := by
  unfold State.sendRequest; repeat' split
  all_goals first | (simp [apply_ite State.calm]; done) | (rename_i h; have h' := congrArg (fun x => State.calm x.1) h; simp [apply_ite State.calm] at h'; simp [h', apply_ite State.calm])

@[simp] theorem State.sendOwed_calm (s : State) (f c : Nat) (o : Owed) : (State.sendOwed s f c o).calm = s.calm := by
  simp [State.sendOwed, apply_ite State.calm]

@[simp] theorem State.ccRate_calm (s : State) (f c d : Nat) : (State.ccRate s f c d).calm = s.calm := by
  simp [State.ccRate, apply_ite State.calm]

@[simp] theorem State.ccAck_calm (s : State) (f c : Nat) (echoTs hold : Nat) (owd : Option Nat) : (State.ccAck s f c echoTs hold owd).calm = s.calm := by
  simp only [State.ccAck]; repeat' split
  all_goals simp

@[simp] theorem State.respDelay_calm (s : State) (p : Packet) : (State.respDelay s p).calm = s.calm := by
  simp only [State.respDelay]; repeat' split
  all_goals simp

@[simp] theorem State.advanceUna_calm (s : State) (f c : Nat) (psn : U32) : (State.advanceUna s f c psn).calm = s.calm := by
  simp [State.advanceUna]

@[simp] theorem State.takeLimit_calm (s : State) (f c : Nat) (lim : U16) (force : Bool) : (State.takeLimit s f c lim force).calm = s.calm := by
  rfl

@[simp] theorem State.takeAck_calm (s : State) (p : Packet) (force : Bool) : (State.takeAck s p force).calm = s.calm := by
  simp [State.takeAck, apply_ite State.calm]

@[simp] theorem State.openRound_calm (s : State) (f c : Nat) : (State.openRound s f c).calm = s.calm := by
  simp [State.openRound, apply_ite State.calm]

@[simp] theorem State.takeRnr_calm (s : State) (f c : Nat) (psn : U32) : (State.takeRnr s f c psn).calm = s.calm := by
  simp only [State.takeRnr]; repeat' split
  all_goals simp

end Sys2Proof.Machine
end

