-- ==== Sys2Proof/Laws/CalmMatch.lean ====
section
/-! SUPPORT. What the operations of Machine/Match.lean leave alone. -/

namespace Sys2Proof.Machine

@[simp] theorem State.takeShadow_calm (s : State) (f c n : Nat) : (State.takeShadow s f c n).1.calm = s.calm := by
  simp only [State.takeShadow]; repeat' split
  all_goals simp

@[simp] theorem State.matchTake_calm (s : State) (f c : Nat) (p : Packet) : (State.matchTake s f c p).1.calm = s.calm := by
  simp only [State.matchTake]; repeat' split
  all_goals simp

@[simp] theorem State.traceWrite_calm (s : State) (f : Nat) (r : Posted) (written : Nat) : (State.traceWrite s f r written).calm = s.calm := by
  simp only [State.traceWrite]; repeat' split
  all_goals simp

@[simp] theorem State.deliverPiece_calm (s : State) (f c msn : Nat) (r : Posted) (q : Piece) : (State.deliverPiece s f c msn r q).calm = s.calm := by
  simp only [State.deliverPiece]; repeat' split
  all_goals simp

@[simp] theorem State.deliver_calm (s : State) (f c msn : Nat) : (State.deliver s f c msn).calm = s.calm := by
  unfold State.deliver; repeat' split
  all_goals simp [apply_ite State.calm]

@[simp] theorem State.startPull_calm (s : State) (f c : Nat) (m : Msg) (r : Posted) : (State.startPull s f c m r).calm = s.calm := by
  simp [State.startPull, apply_ite State.calm]

@[simp] theorem State.releaseBlocks_calm (s : State) (f : Nat) : (State.releaseBlocks s f).calm = s.calm := by
  simp [State.releaseBlocks]

@[simp] theorem State.releaseHeld_calm (s : State) (f q : Nat) : (State.releaseHeld s f q).calm = s.calm := by
  unfold State.releaseHeld; refine foldl_calm _ _ _ (fun s a => ?_); repeat' split
  all_goals simp [apply_ite State.calm]

@[simp] theorem State.endFailed_calm (s : State) (f : Nat) : (State.endFailed s f).calm = s.calm := by
  simp [State.endFailed]

@[simp] theorem State.commitMatched_calm (s : State) (f c : Nat) (m : Msg) (r : Posted) : (State.commitMatched s f c m r).calm = s.calm := by
  simp only [State.commitMatched]; repeat' split
  all_goals simp

@[simp] theorem State.commitUnexpected_calm (s : State) (f c : Nat) (m : Msg) : (State.commitUnexpected s f c m).calm = s.calm := by
  simp [State.commitUnexpected, apply_ite State.calm]

@[simp] theorem State.holdCommit_calm (s : State) (f c comm : Nat) : (State.holdCommit s f c comm).calm = s.calm := by
  simp [State.holdCommit, apply_ite State.calm]

@[simp] theorem State.commitReady_calm (n : Nat) (s : State) (a0 : Nat) (a1 : Nat) : (State.commitReady n s a0 a1).calm = s.calm := by
  induction n generalizing s a0 a1 with
  | zero => rfl
  | succ n ih =>
    unfold State.commitReady; dsimp only; repeat' split
    all_goals simp_all [apply_ite State.calm]

@[simp] theorem State.matchFormat_calm (s : State) (f c comm : Nat) : (State.matchFormat s f c comm).calm = s.calm := by
  rfl

@[simp] theorem State.attach_calm (s : State) (f c : Nat) (p : Packet) (dest : PayloadDest) : (State.attach s f c p dest).calm = s.calm := by
  simp only [State.attach]; repeat' split
  all_goals simp

@[simp] theorem State.deliverStraight_calm (s : State) (f c : Nat) (p : Packet) (dest : PayloadDest) : (State.deliverStraight s f c p dest).calm = s.calm := by
  simp only [State.deliverStraight]; repeat' split
  all_goals simp

@[simp] theorem State.header_calm (s : State) (f c : Nat) (p : Packet) (dest : PayloadDest) : (State.header s f c p dest).calm = s.calm := by
  simp only [State.header]; repeat' split
  all_goals simp

@[simp] theorem State.posting_calm (s : State) (f c : Nat) (e : Entry) : (State.posting s f c e).calm = s.calm := by
  simp only [State.posting]; repeat' split
  all_goals simp

@[simp] theorem State.pullResp_calm (s : State) (f c : Nat) (psn : U32) (msn off len status : Nat) (data : List Byte) : (State.pullResp s f c psn msn off len status data).calm = s.calm := by
  simp [State.pullResp]

@[simp] theorem State.takePull_calm (s : State) (f c : Nat) (p : Packet) : (State.takePull s f c p).calm = s.calm := by
  simp only [State.takePull]; repeat' split
  all_goals simp

@[simp] theorem State.takeFin_calm (s : State) (f c : Nat) (p : Packet) : (State.takeFin s f c p).calm = s.calm := by
  simp only [State.takeFin]; repeat' split
  all_goals simp

@[simp] theorem State.responded_calm (s : State) (f c : Nat) (psn : U32) : (State.responded s f c psn).calm = s.calm := by
  simp [State.responded]

@[simp] theorem State.takePullResp_calm (s : State) (p : Packet) : (State.takePullResp s p).calm = s.calm := by
  simp only [State.takePullResp]; repeat' split
  all_goals simp

@[simp] theorem State.balanceHold_calm (s : State) (old : Nat) : (State.balanceHold s old).calm = s.calm := by
  rfl

@[simp] theorem State.balance_calm (s : State) (h : Nat) : (State.balance s h).calm = s.calm := by
  simp only [State.balance]; repeat' split
  all_goals simp

@[simp] theorem State.endFence_calm (s : State) (h : Nat) (m : Move) : (State.endFence s h m).calm = s.calm := by
  simp [State.endFence]

end Sys2Proof.Machine
end

