-- ==== Sys2Proof/Laws/CalmStore.lean ====
section
/-! SUPPORT. What the operations of Machine/Store.lean leave alone. -/

namespace Sys2Proof.Machine

@[simp] theorem State.stage_calm (s : State) (i : StageItem) : (State.stage s i).calm = s.calm := by
  rfl

@[simp] theorem State.stagePage_calm (s : State) (f a : Nat) (bytes : List Byte) : (State.stagePage s f a bytes).calm = s.calm := by
  rfl

@[simp] theorem State.storeWrite_calm (s : State) (f off : Nat) (bytes : List Byte) : (State.storeWrite s f off bytes).calm = s.calm := by
  simp [State.storeWrite, apply_ite State.calm]

@[simp] theorem State.spareWatch_calm (s : State) : (State.spareWatch s).calm = s.calm := by
  simp [State.spareWatch, apply_ite State.calm]

@[simp] theorem State.retire_calm (s : State) (b : Nat) : (State.retire s b).calm = s.calm := by
  simp [State.retire, apply_ite State.calm]

@[simp] theorem State.wearWatch_calm (s : State) : (State.wearWatch s).calm = s.calm := by
  simp [State.wearWatch, apply_ite State.calm]

@[simp] theorem State.eraseBlock_calm (s : State) (b : Nat) : (State.eraseBlock s b).calm = s.calm := by
  simp [State.eraseBlock]

@[simp] theorem State.refresh_calm (s : State) (b : Nat) : (State.refresh s b).calm = s.calm := by
  simp [State.refresh, apply_ite State.calm]

theorem State.programItem_log (s : State) (block : Nat) (r : FaultRec) : s.programItem block (.log r) =
    { s with store := { s.store with log := newest 134217728 (s.store.log ++ [r]) } } := rfl

@[simp] theorem State.programItem_calm (s : State) (block : Nat) (i : StageItem) : (s.programItem block i).calm = s.calm := by
  cases i with
  | window =>
    simp only [State.programItem]
    split <;> simp
  | journal =>
    simp only [State.programItem]
    split <;> simp
  | log r => rw [State.programItem_log]; exact calm_fold s

@[simp] theorem State.programFirst_calm (s : State) (block : Nat) : (State.programFirst s block).calm = s.calm := by
  unfold State.programFirst; split
  · rfl
  · rw [State.emit_calm, State.perf_calm, State.storeCount_calm, State.programItem_calm]; exact calm_fold s

@[simp] theorem State.logDrain_calm (n : Nat) (s : State)  : (State.logDrain n s ).calm = s.calm := by
  induction n generalizing s  with
  | zero => rfl
  | succ n ih =>
    unfold State.logDrain; repeat' split
    all_goals simp [ih]

@[simp] theorem State.freePages_calm (s : State) (f lo hi : Nat) : (State.freePages s f lo hi).calm = s.calm := by
  rfl

end Sys2Proof.Machine
end

