-- ==== Sys2Proof/Laws/CalmRma.lean ====
section
/-! SUPPORT. What the operations of Machine/Rma.lean leave alone. -/

namespace Sys2Proof.Machine

@[simp] theorem State.winAccept_calm (s : State) (f v : Nat) : (State.winAccept s f v).calm = s.calm := by
  simp [State.winAccept, apply_ite State.calm]

@[simp] theorem State.revokeSlot_calm (s : State) (h k : Nat) : (State.revokeSlot s h k).calm = s.calm := by
  rfl

@[simp] theorem State.saveWatch_calm (s : State) (h : Nat) : (State.saveWatch s h).calm = s.calm := by
  simp only [State.saveWatch]; repeat' split
  all_goals simp

@[simp] theorem State.rack_calm (s : State) (f c : Nat) (p : Packet) : (State.rack s f c p).calm = s.calm := by
  simp [State.rack]

@[simp] theorem State.answer_calm (s : State) (o : TargetOp) (status : Nat) (data : List Byte) : (State.answer s o status data).calm = s.calm := by
  simp [State.answer, apply_ite State.calm]

@[simp] theorem State.dropTarget_calm (s : State) (o : TargetOp) : (State.dropTarget s o).calm = s.calm := by
  rfl

@[simp] theorem State.cacheWord_calm (s : State) (h : Nat) (x : AtomWord) : (State.cacheWord s h x).calm = s.calm := by
  simp [State.cacheWord, apply_ite State.calm]

@[simp] theorem State.performAtomic_calm (s : State) (o : TargetOp) (bus old : Nat) (spans : List (Nat × Nat)) (keep : Bool) : (State.performAtomic s o bus old spans keep).calm = s.calm := by
  simp only [State.performAtomic]; repeat' split
  all_goals simp

@[simp] theorem State.startAtomic_calm (s : State) (o : TargetOp) : (State.startAtomic s o).calm = s.calm := by
  simp only [State.startAtomic]; repeat' split
  all_goals simp

@[simp] theorem State.retryAtomics_calm (s : State) (h : Nat) : (State.retryAtomics s h).calm = s.calm := by
  simp [State.retryAtomics]

@[simp] theorem State.keepStatus_calm (s : State) (f c st : Nat) : (State.keepStatus s f c st).calm = s.calm := by
  rfl

@[simp] theorem State.windowStore_calm (s : State) (f c : Nat) (p : Packet) : (State.windowStore s f c p).calm = s.calm := by
  unfold State.windowStore; repeat' split
  all_goals first | (simp [apply_ite State.calm]; done) | (rename_i h; have h' := congrArg (fun x => State.calm x.1) h; simp [apply_ite State.calm] at h'; simp [h', apply_ite State.calm])

@[simp] theorem State.startRead_calm (s : State) (o : TargetOp) (w : Win) : (State.startRead s o w).calm = s.calm := by
  unfold State.startRead
  dsimp only
  split
  · simp
  · split
    · simp
    · have ht := State.transfer_calm (s.storeCount 4 1) 10 o.len false []
      rw [State.storeCount_calm] at ht
      split
      · rename_i h; rw [h] at ht; simpa using ht
      · rename_i h; rw [h] at ht
        split
        · simpa using ht
        · split
          · exact ht
          · simpa using ht

@[simp] theorem State.takeRead_calm (s : State) (f c : Nat) (p : Packet) : (State.takeRead s f c p).calm = s.calm := by
  simp [State.takeRead, apply_ite State.calm]

@[simp] theorem State.rmaTake_calm (s : State) (f c : Nat) (p : Packet) : (State.rmaTake s f c p).calm = s.calm := by
  simp [State.rmaTake, apply_ite State.calm]

@[simp] theorem State.targetRead_calm (s : State) (f c : Nat) (psn : U32) (r : HostRead) (res : ReadResult) : (State.targetRead s f c psn r res).calm = s.calm := by
  simp only [State.targetRead]; repeat' split
  all_goals simp

@[simp] theorem State.rmaDuplicate_calm (s : State) (f c : Nat) (p : Packet) : (State.rmaDuplicate s f c p).calm = s.calm := by
  simp only [State.rmaDuplicate]; repeat' split
  all_goals simp

@[simp] theorem State.putHeld_calm (s : State) (f c : Nat) (i : U32) (l : List (Nat × Nat)) (b : List Byte) : (s.putHeld f c i l b).calm = s.calm := by
  induction l generalizing s b with
  | nil => rfl
  | cons x l ih => obtain ⟨a, n⟩ := x; simp [State.putHeld, ih]

@[simp] theorem State.takeResponse_calm (s : State) (p : Packet) : (State.takeResponse s p).calm = s.calm := by
  simp only [State.takeResponse]; repeat' split
  all_goals simp

end Sys2Proof.Machine
end

