-- ==== Sys2Proof/Laws/CalmColls.lean ====
section
/-! SUPPORT. What the operations of Machine/Colls.lean leave alone. -/

namespace Sys2Proof.Machine

@[simp] theorem State.installTree_calm (s : State) (t v : Nat) : (State.installTree s t v).calm = s.calm := by
  simp [State.installTree]

@[simp] theorem State.noteDepth_calm (s : State) (p v : Nat) : (State.noteDepth s p v).calm = s.calm := by
  rfl

@[simp] theorem State.queueAt_calm (s : State) (n p : Nat) (q : QPkt) : (State.queueAt s n p q).calm = s.calm := by
  simp [State.queueAt, apply_ite State.calm]

@[simp] theorem State.sendColl_calm (s : State) (n p : Nat) (up : Bool) (ext : Nat) (payload : List Byte) : (State.sendColl s n p up ext payload).calm = s.calm := by
  simp [State.sendColl]

@[simp] theorem State.sendOp_calm (s : State) (p t : Nat) (up : Bool) (num : Nat) (x : CollIn) (hasRoot : Bool) (status : Nat) (bytes : List Byte) : (State.sendOp s p t up num x hasRoot status bytes).calm = s.calm := by
  simp [State.sendOp]

@[simp] theorem State.breakFault_calm (s : State) (t code : Nat) (port fn : Option Nat) : (State.breakFault s t code port fn).calm = s.calm := by
  simp [State.breakFault, apply_ite State.calm]

@[simp] theorem State.breakTree_calm (s : State) (t code : Nat) (arrived : Option Nat) (port : Option Nat) (fn : Option Nat) : (State.breakTree s t code arrived port fn).calm = s.calm := by
  simp [State.breakTree, apply_ite State.calm]

@[simp] theorem State.breakTrees_calm (s : State) (pick : Nat → Nat → Bool) (code : Nat) (port : Option Nat) (fn : Option Nat) : (State.breakTrees s pick code port fn).calm = s.calm := by
  simp [State.breakTrees]

@[simp] theorem State.uninstallTree_calm (s : State) (t : Nat) : (State.uninstallTree s t).calm = s.calm := by
  simp [State.uninstallTree]

@[simp] theorem State.reinstallTrees_calm (s : State) : (State.reinstallTrees s).calm = s.calm := by
  simp [State.reinstallTrees, apply_ite State.calm]

@[simp] theorem State.modOp_calm (s : State) (t num : Nat) (g : CollOp → CollOp) : (State.modOp s t num g).calm = s.calm := by
  rfl

@[simp] theorem State.finishMember_calm (s : State) (t f num status : Nat) (bytes : List Byte) : (State.finishMember s t f num status bytes).calm = s.calm := by
  simp only [State.finishMember]; repeat' split
  all_goals simp

@[simp] theorem State.collSettle_calm (s : State) (t : Nat) : (State.collSettle s t).calm = s.calm := by
  rfl

@[simp] theorem State.deliverOp_calm (s : State) (t num status : Nat) (bytes : List Byte) : (State.deliverOp s t num status bytes).calm = s.calm := by
  simp only [State.deliverOp]; repeat' split
  all_goals simp

@[simp] theorem State.foldOp_calm (s : State) (t num : Nat) : (State.foldOp s t num).calm = s.calm := by
  simp only [State.foldOp]; repeat' split
  all_goals simp

@[simp] theorem State.sendLocals_calm (s : State) (t num : Nat) : (State.sendLocals s t num).calm = s.calm := by
  unfold State.sendLocals
  dsimp only
  split
  · rfl
  · refine foldl_calm _ _ _ (fun s a => ?_)
    split <;> simp

@[simp] theorem State.takeOperand_calm (s : State) (t num : Nat) (x : CollIn) : (State.takeOperand s t num x).calm = s.calm := by
  simp [State.takeOperand, apply_ite State.calm]

@[simp] theorem State.contribute_calm (s : State) (t f num status : Nat) (w : Nat) (bytes : List Byte) : (State.contribute s t f num status w bytes).calm = s.calm := by
  simp [State.contribute]

@[simp] theorem State.startCollective_calm (s : State) (f c : Nat) (e : Entry) (num : Nat) : (State.startCollective s f c e num).calm = s.calm := by
  simp [State.startCollective, apply_ite State.calm]

@[simp] theorem State.operandRead_calm (s : State) (f c : Nat) (idx : U32) (r : HostRead) (res : ReadResult) : (State.operandRead s f c idx r res).calm = s.calm := by
  simp only [State.operandRead]; repeat' split
  all_goals simp

@[simp] theorem State.collPop_calm (s : State) (p : Nat) : (State.collPop s p).calm = s.calm := by
  rfl

@[simp] theorem State.collNext_calm (s : State) (t : Nat) : (State.collNext s t).calm = s.calm := by
  simp [State.collNext]

@[simp] theorem State.takeCup_calm (s : State) (p : Nat) (k : Packet) : (State.takeCup s p k).calm = s.calm := by
  simp [State.takeCup, apply_ite State.calm]

@[simp] theorem State.takeCdn_calm (s : State) (p : Nat) (k : Packet) : (State.takeCdn s p k).calm = s.calm := by
  simp only [State.takeCdn]; repeat' split
  all_goals simp

@[simp] theorem State.takeAbort_calm (s : State) (p : Nat) (k : Packet) : (State.takeAbort s p k).calm = s.calm := by
  simp [State.takeAbort, apply_ite State.calm]

@[simp] theorem State.keepalives_calm (s : State) : (State.keepalives s).calm = s.calm := by
  simp [State.keepalives]

end Sys2Proof.Machine
end

