-- ==== Sys2Proof/Laws/CalmSharing.lean ====
section
/-! SUPPORT. What the operations of Machine/Sharing.lean leave alone. -/

namespace Sys2Proof.Machine

@[simp] theorem State.semGrant_calm (s : State) (n : Nat) (who : SemMaster) (prio : Nat) : (State.semGrant s n who prio).calm = s.calm := by
  simp [State.semGrant, apply_ite State.calm]

@[simp] theorem State.semServe_calm (n : Nat) (s : State) (a0 : Nat) : (State.semServe n s a0).calm = s.calm := by
  induction n generalizing s a0 with
  | zero => rfl
  | succ n ih =>
    unfold State.semServe; dsimp only; repeat' split
    all_goals simp_all [apply_ite State.calm]

@[simp] theorem State.semServeAll_calm (s : State) (n : Nat) : (State.semServeAll s n).calm = s.calm := by
  simp [State.semServeAll]

@[simp] theorem State.inherit_calm (s : State) (n prio : Nat) (h : Hold) : (State.inherit s n prio h).calm = s.calm := by
  simp only [State.inherit]; repeat' split
  all_goals simp

@[simp] theorem State.semWait_calm (s : State) (n : Nat) (who : SemMaster) (prio : Nat) (bound : Option Nat) : (State.semWait s n who prio bound).calm = s.calm := by
  simp [State.semWait]

@[simp] theorem State.semDenied_calm (s : State) (who : SemMaster) (n addr : Nat) (wr : Bool) (code : Nat) : (State.semDenied s who n addr wr code).calm = s.calm := by
  simp only [State.semDenied]; repeat' split
  all_goals simp

@[simp] theorem State.tryAcquire_calm (s : State) (who : SemMaster) (n : Nat) : (State.tryAcquire s who n).calm = s.calm := by
  simp [State.tryAcquire, apply_ite State.calm]

@[simp] theorem State.acquire_calm (s : State) (who : SemMaster) (n prio : Nat) : (State.acquire s who n prio).calm = s.calm := by
  simp only [State.acquire]; repeat' split
  all_goals simp

@[simp] theorem State.release_calm (s : State) (who : SemMaster) (n : Nat) : (State.release s who n).calm = s.calm := by
  unfold State.release; dsimp only
  split
  · simp
  · exact calm_fold s

@[simp] theorem State.holderFree_calm (s : State) (who : SemMaster) (told : Bool) : (State.holderFree s who told).calm = s.calm := by
  simp [State.holderFree, apply_ite State.calm]

@[simp] theorem State.semServeEach_calm (s : State) : (State.semServeEach s).calm = s.calm := by
  simp [State.semServeEach]

@[simp] theorem State.holderReset_calm (s : State) (who : SemMaster) (told : Bool) : (State.holderReset s who told).calm = s.calm := by
  simp [State.holderReset]

@[simp] theorem State.semRecheck_calm (s : State) : (State.semRecheck s).calm = s.calm := by
  simp [State.semRecheck]

@[simp] theorem State.semConfigure_calm (s : State) (n v : Nat) : (State.semConfigure s n v).calm = s.calm := by
  simp [State.semConfigure, apply_ite State.calm]

end Sys2Proof.Machine
end

