-- ==== Sys2Proof/Laws/CalmGates.lean ====
section
/-! SUPPORT. What the operations of Machine/Gates.lean leave alone. -/

namespace Sys2Proof.Machine

@[simp] theorem State.gateEvent_calm (s : State) (p c : Nat) : (State.gateEvent s p c).calm = s.calm := by
  rfl

@[simp] theorem State.gatesRead_calm (s : State) : (State.gatesRead s).calm = s.calm := by
  simp [State.gatesRead]

end Sys2Proof.Machine
end

