-- ==== Sys2Proof/Laws/CalmTimeUnit.lean ====
section
/-! SUPPORT. What the operations of Machine/TimeUnit.lean leave alone. -/

namespace Sys2Proof.Machine

@[simp] theorem State.ftStep_calm (s : State) (d : Int) : (State.ftStep s d).calm = s.calm := by
  simp [State.ftStep]

@[simp] theorem State.ftSlew_calm (s : State) (d : Int) : (State.ftSlew s d).calm = s.calm := by
  rfl

@[simp] theorem State.timeNames_calm (s : State) : (State.timeNames s).calm = s.calm := by
  simp [State.timeNames]

@[simp] theorem State.timeFault_calm (s : State) (code cls : Nat) : (State.timeFault s code cls).calm = s.calm := by
  rfl

@[simp] theorem State.takeParent_calm (s : State) (p : Nat) : (State.takeParent s p).calm = s.calm := by
  simp [State.takeParent]

@[simp] theorem State.orphan_calm (s : State) : (State.orphan s).calm = s.calm := by
  simp [State.orphan, apply_ite State.calm]

@[simp] theorem State.reselect_calm (s : State) : (State.reselect s).calm = s.calm := by
  simp only [State.reselect]; repeat' split
  all_goals simp

@[simp] theorem State.watchBetter_calm (s : State) : (State.watchBetter s).calm = s.calm := by
  rfl

@[simp] theorem State.watchRoots_calm (s : State) : (State.watchRoots s).calm = s.calm := by
  simp [State.watchRoots, apply_ite State.calm]

@[simp] theorem State.timeWatch_calm (s : State) : (State.timeWatch s).calm = s.calm := by
  simp [State.timeWatch]

@[simp] theorem State.timeUnlock_calm (s : State) (p : Nat) (need : Nat) : (State.timeUnlock s p need).calm = s.calm := by
  simp [State.timeUnlock]

@[simp] theorem State.timeRole_calm (s : State) : (State.timeRole s).calm = s.calm := by
  simp [State.timeRole, apply_ite State.calm]

@[simp] theorem State.servo_calm (s : State) (th : Int) : (State.servo s th).calm = s.calm := by
  simp only [State.servo]; repeat' split
  all_goals simp

@[simp] theorem State.takeSet_calm (s : State) (p : Nat) (x : TimeSet) : (State.takeSet s p x).calm = s.calm := by
  simp only [State.takeSet]; repeat' split
  all_goals simp

@[simp] theorem State.sendSet_calm (s : State) (p : Nat) : (State.sendSet s p).calm = s.calm := by
  rfl

@[simp] theorem State.timePulse_calm (s : State) : (State.timePulse s).calm = s.calm := by
  simp [State.timePulse, apply_ite State.calm]

@[simp] theorem State.outHold_calm (s : State) : (State.outHold s).calm = s.calm := by
  rfl

@[simp] theorem State.timeSample_calm (s : State) (len : Nat) (f : State → State) (h : ∀ s, (f s).calm = s.calm) :
    (State.timeSample s len f).calm = s.calm := by
  have ht := State.transfer_calm s 12 len true (List.map (Config.freeByte s.free) (List.range len))
  unfold State.timeSample
  split <;> rename_i e <;> rw [e] at ht
  · rw [h]; exact ht
  · exact ht

end Sys2Proof.Machine
end

