-- ==== Sys2Proof/Laws/CalmLinks.lean ====
section
/-! SUPPORT. What the operations of Machine/Links.lean leave alone. -/

namespace Sys2Proof.Machine

@[simp] theorem State.emitFc_calm (s : State) (p : Nat) (bits : BitVec 10) : (State.emitFc s p bits).calm = s.calm := by
  rfl

@[simp] theorem State.emitLpi_calm (s : State) (p kind st : Nat) (force : Bool) : (State.emitLpi s p kind st force).calm = s.calm := by
  simp [State.emitLpi, apply_ite State.calm]

@[simp] theorem State.fcWatch_calm (s : State) (p : Nat) : (State.fcWatch s p).calm = s.calm := by
  simp [State.fcWatch, apply_ite State.calm]

@[simp] theorem State.holdBytes_calm (s : State) (p v n : Nat) : (State.holdBytes s p v n).calm = s.calm := by
  simp [State.holdBytes]

@[simp] theorem State.freeBytes_calm (s : State) (p v n : Nat) : (State.freeBytes s p v n).calm = s.calm := by
  simp [State.freeBytes]

@[simp] theorem State.throttleWatch_calm (s : State) (n : Nat) : (State.throttleWatch s n).calm = s.calm := by
  simp [State.throttleWatch, apply_ite State.calm]

@[simp] theorem State.leaves_calm (s : State) (q : QPkt) (inVc : Nat) : (State.leaves s q inVc).calm = s.calm := by
  simp [State.leaves, apply_ite State.calm]

@[simp] theorem State.police_calm (s : State) (p vc : Nat) : (State.police s p vc).1.calm = s.calm := by
  simp only [State.police]; repeat' split
  all_goals simp

@[simp] theorem State.rxDrop_calm (s : State) (p k : Nat) : (State.rxDrop s p k).calm = s.calm := by
  rfl

@[simp] theorem State.leftover_calm (s : State) (p k : Nat) (x : RxPkt) (data : List Byte) : (State.leftover s p k x data).calm = s.calm := by
  simp [State.leftover, apply_ite State.calm]

@[simp] theorem State.rxDropAs_calm (s : State) (p k : Nat) (x : RxPkt) (data : List Byte) : (State.rxDropAs s p k x data).calm = s.calm := by
  simp [State.rxDropAs]

@[simp] theorem State.rxNote_calm (s : State) (p : Nat) (k : Packet) (len ft : Nat) : (State.rxNote s p k len ft).calm = s.calm := by
  simp [State.rxNote, apply_ite State.calm]

@[simp] theorem State.collArrive_calm (s : State) (p : Nat) (q : QPkt) : (State.collArrive s p q).calm = s.calm := by
  simp [State.collArrive, apply_ite State.calm]

@[simp] theorem State.rxPlace_calm (s : State) (p vc at_ : Nat) (k : Packet) (len : Nat) : (State.rxPlace s p vc at_ k len).calm = s.calm := by
  simp only [State.rxPlace]; repeat' split
  all_goals simp

@[simp] theorem State.rxAccept_calm (s : State) (p : Nat) (x : RxPkt) (data : List Byte) : (State.rxAccept s p x data).calm = s.calm := by
  simp [State.rxAccept, apply_ite State.calm]

@[simp] theorem State.rxEnd_calm (s : State) (p : Nat) (data : List Byte) (crc : Nat) : (State.rxEnd s p data crc).calm = s.calm := by
  simp only [State.rxEnd]; repeat' split
  all_goals simp

@[simp] theorem State.rxStart_calm (s : State) (p lseq vc : Nat) : (State.rxStart s p lseq vc).calm = s.calm := by
  simp only [State.rxStart]; repeat' split
  all_goals simp

@[simp] theorem State.takeSop_calm (s : State) (p : Nat) : (State.takeSop s p).calm = s.calm := by
  rfl

@[simp] theorem State.takeEnd_calm (s : State) (p : Nat) : (State.takeEnd s p).calm = s.calm := by
  rfl

@[simp] theorem State.sendLx_calm (s : State) (p : Nat) (ack : Bool) : (State.sendLx s p ack).calm = s.calm := by
  simp [State.sendLx]

@[simp] theorem State.enterStage_calm (s : State) (p k : Nat) : (State.enterStage s p k).calm = s.calm := by
  simp only [State.enterStage]; repeat' split
  all_goals simp

@[simp] theorem State.portStart_calm (s : State) (p : Nat) : (State.portStart s p).calm = s.calm := by
  rfl

@[simp] theorem State.lpsRequest_calm (s : State) (p st : Nat) (force : Bool) : (State.lpsRequest s p st force).calm = s.calm := by
  rfl

@[simp] theorem State.holdPort_calm (s : State) (p : Nat) : (State.holdPort s p).calm = s.calm := by
  simp [State.holdPort, apply_ite State.calm]

@[simp] theorem State.portComesUp_calm (s : State) (p : Nat) : (State.portComesUp s p).calm = s.calm := by
  simp [State.portComesUp]

@[simp] theorem State.lxDone_calm (s : State) (p : Nat) (set : List (BitVec 48)) : (State.lxDone s p set).calm = s.calm := by
  simp only [State.lxDone]; repeat' split
  all_goals simp

@[simp] theorem State.lxRx_calm (s : State) (p word : Nat) (v : BitVec 48) : (State.lxRx s p word v).calm = s.calm := by
  simp [State.lxRx, apply_ite State.calm]

@[simp] theorem State.noteDelay_calm (s : State) (p : Nat) (q : QPkt) : (State.noteDelay s p q).calm = s.calm := by
  rfl

@[simp] theorem State.flushEgress_calm (s : State) (p : Nat) : (State.flushEgress s p).calm = s.calm := by
  simp [State.flushEgress]

@[simp] theorem State.cutTx_calm (s : State) (p : Nat) : (State.cutTx s p).calm = s.calm := by
  have hf : ∀ l : List Nat, (l.foldl (fun (s : State) _ => s.dropCount (ptOf p) 9 (p % 8)) s).calm = s.calm :=
    fun l => foldl_calm _ _ _ (fun s _ => State.dropCount_calm s _ _ _)
  unfold State.cutTx
  dsimp only
  split
  · rw [State.emit_calm, State.linkCount_calm, hf]
  · rw [hf]

@[simp] theorem State.portLost_calm (s : State) (p : Nat) : (State.portLost s p).calm = s.calm := by
  simp [State.portLost]

@[simp] theorem State.portDown_calm (s : State) (p : Nat) : (State.portDown s p).calm = s.calm := by
  simp [State.portDown]

@[simp] theorem State.portOff_calm (s : State) (p : Nat) : (State.portOff s p).calm = s.calm := by
  simp [State.portOff, apply_ite State.calm]

@[simp] theorem State.failAttempt_calm (s : State) (p code : Nat) : (State.failAttempt s p code).calm = s.calm := by
  simp [State.failAttempt, apply_ite State.calm]

@[simp] theorem State.commitMap_calm (s : State) (p : Nat) : (State.commitMap s p).calm = s.calm := by
  simp [State.commitMap, apply_ite State.calm]

@[simp] theorem State.stageEnd_calm (s : State) (p : Nat) (x : StageInfo) : (State.stageEnd s p x).calm = s.calm := by
  simp only [State.stageEnd]; repeat' split
  all_goals simp

@[simp] theorem State.stageTimeout_calm (s : State) (p : Nat) : (State.stageTimeout s p).calm = s.calm := by
  simp [State.stageTimeout, apply_ite State.calm]

@[simp] theorem State.narrowWatch_calm (s : State) (p : Nat) : (State.narrowWatch s p).calm = s.calm := by
  rfl

@[simp] theorem State.peerMarker_calm (s : State) (p : Nat) (lock usable : BitVec 4) : (State.peerMarker s p lock usable).calm = s.calm := by
  simp only [State.peerMarker]; repeat' split
  all_goals simp

@[simp] theorem State.modLane_calm (s : State) (p k : Nat) (g : Lane → Lane) : (State.modLane s p k g).calm = s.calm := by
  rfl

@[simp] theorem State.enterLps_calm (s : State) (p st : Nat) : (State.enterLps s p st).calm = s.calm := by
  simp [State.enterLps]

@[simp] theorem State.lpsEnd_calm (s : State) (p last : Nat) : (State.lpsEnd s p last).calm = s.calm := by
  rfl

@[simp] theorem State.lpsExit_calm (s : State) (p : Nat) : (State.lpsExit s p).calm = s.calm := by
  rfl

@[simp] theorem State.lpsResume_calm (s : State) (p : Nat) : (State.lpsResume s p).calm = s.calm := by
  simp only [State.lpsResume]; repeat' split
  all_goals simp

end Sys2Proof.Machine
end

