-- ==== Sys2Proof/Laws/CalmLanes.lean ====
section
/-! SUPPORT. What the operations of Machine/Lanes.lean leave alone. -/

namespace Sys2Proof.Machine

@[simp] theorem State.checkPattern_calm (s : State) (p k raw : Nat) : (State.checkPattern s p k raw).calm = s.calm := by
  simp [State.checkPattern, apply_ite State.calm]

@[simp] theorem State.codeword_calm (s : State) (p lane raw : Nat) : (State.codeword s p lane raw).calm = s.calm := by
  unfold State.codeword; dsimp only; repeat' split
  all_goals simp [apply_ite State.calm, *]

@[simp] theorem State.received_calm (s : State) (p lane raw : Nat) : (State.received s p lane raw).calm = s.calm := by
  simp [State.received, apply_ite State.calm]

@[simp] theorem State.sendBits_calm (s : State) (p k bits : Nat) : (State.sendBits s p k bits).calm = s.calm := by
  simp [State.sendBits, apply_ite State.calm]

@[simp] theorem State.sendLane_calm (s : State) (p k mark : Nat) (blocks : List Block) : (State.sendLane s p k mark blocks).calm = s.calm := by
  simp [State.sendLane]

@[simp] theorem State.sendCodewords_calm (s : State) (p : Nat) : (State.sendCodewords s p).calm = s.calm := by
  simp [State.sendCodewords]

@[simp] theorem State.sendPattern_calm (s : State) (p kind : Nat) : (State.sendPattern s p kind).calm = s.calm := by
  simp [State.sendPattern]

@[simp] theorem State.sendAll_calm (s : State) : (State.sendAll s).calm = s.calm := by
  simp [State.sendAll, apply_ite State.calm]

end Sys2Proof.Machine
end

