-- ==== Sys2Proof/Laws/CalmReader.lean ====
section
/-! SUPPORT. What the operations of Machine/Reader.lean leave alone. -/

namespace Sys2Proof.Machine

@[simp] theorem State.ringWrite_calm (s : State) (n : Nat) (bytes : List Byte) : (State.ringWrite s n bytes).calm = s.calm := by
  simp [State.ringWrite]

@[simp] theorem State.ringRecord_calm (s : State) (n : Nat) (bytes : List Byte) : (State.ringRecord s n bytes).calm = s.calm := by
  simp [State.ringRecord, apply_ite State.calm]

@[simp] theorem State.ringDrop_calm (s : State) (bytes : List Byte) : (State.ringDrop s bytes).calm = s.calm := by
  simp [State.ringDrop]

@[simp] theorem State.ringPut_calm (s : State) (n : Nat) (bytes : List Byte) : (State.ringPut s n bytes).calm = s.calm := by
  simp [State.ringPut, apply_ite State.calm]

theorem State.takeTrace_calm (s t : State) (r : Nat) (h : s.takeTrace = some (r, t)) : t.calm = s.calm := by
  unfold State.takeTrace at h
  split at h <;> simp at h <;> obtain ⟨-, rfl⟩ := h <;> simp

@[simp] theorem State.readerStep_calm (s : State) : (State.readerStep s).calm = s.calm := by
  unfold State.readerStep
  split
  · rfl
  · dsimp only
    split
    · split <;> simp
    · split
      · rename_i h
        split at h
        · simp [State.takeTrace_calm _ _ _ h]
        · cases h
      · rfl

@[simp] theorem State.readerRun_calm (n : Nat) (s : State)  : (State.readerRun n s ).calm = s.calm := by
  induction n generalizing s  with
  | zero => rfl
  | succ n ih =>
    simp [State.readerRun, ih]

@[simp] theorem State.readerStop_calm (s : State) (bytes : List Byte) : (State.readerStop s bytes).calm = s.calm := by
  simp [State.readerStop]

@[simp] theorem State.consRead_calm (s : State) (res : ReadResult) (fault : Bool) : (State.consRead s res fault).calm = s.calm := by
  simp only [State.consRead]; repeat' split
  all_goals simp

@[simp] theorem State.snapshot_calm (s : State) (aligned : Bool) : (State.snapshot s aligned).calm = s.calm := by
  rfl

end Sys2Proof.Machine
end

