-- ==== Sys2Proof/Laws/CalmReads.lean ====
section
/-! SUPPORT. What the operations of Machine/Reads.lean leave alone. -/

namespace Sys2Proof.Machine

@[simp] theorem State.fetchDone_calm (s : State) (f c : Nat) (first : U32) (n : Nat) (r : HostRead) (res : ReadResult) : (State.fetchDone s f c first n r res).calm = s.calm := by
  simp only [State.fetchDone]; repeat' split
  all_goals simp

@[simp] theorem State.readRecord_calm (s : State) (f c : Nat) (r : HostRead) : (State.readRecord s f c r).calm = s.calm := by
  simp [State.readRecord, apply_ite State.calm]

@[simp] theorem State.payloadRead_calm (s : State) (f c : Nat) (idx : U32) (off : Nat) (r : HostRead) (res : ReadResult) : (State.payloadRead s f c idx off r res).calm = s.calm := by
  simp only [State.payloadRead]; repeat' split
  all_goals simp

@[simp] theorem State.rereadDone_calm (s : State) (f c : Nat) (psn : U32) (r : HostRead) (res : ReadResult) : (State.rereadDone s f c psn r res).calm = s.calm := by
  simp only [State.rereadDone]; repeat' split
  all_goals simp

@[simp] theorem State.pullRead_calm (s : State) (f c msn psn off len : Nat) (r : HostRead) (res : ReadResult) : (State.pullRead s f c msn psn off len r res).calm = s.calm := by
  simp only [State.pullRead]; repeat' split
  all_goals simp

@[simp] theorem State.overflowRead_calm (s : State) (f c msn off blk : Nat) (r : HostRead) (res : ReadResult) : (State.overflowRead s f c msn off blk r res).calm = s.calm := by
  simp only [State.overflowRead]; repeat' split
  all_goals simp

@[simp] theorem State.fillLost_calm (s : State) (f c : Nat) (code : Option Nat) : (State.fillLost s f c code).calm = s.calm := by
  simp only [State.fillLost]; repeat' split
  all_goals simp

@[simp] theorem State.fillDone_calm (s : State) (f c : Nat) (r : HostRead) (res : ReadResult) : (State.fillDone s f c r res).calm = s.calm := by
  unfold State.fillDone
  split
  · rfl
  · split
    · simp
    · split
      · simp
      · split
        · simp
        · rename_i h; simp [State.makeRoom_calm _ _ _ h]

@[simp] theorem State.landingGets_calm (s : State) (f page : Nat) (res : Nat → AccKind → XRes) : (State.landingGets s f page res).calm = s.calm := by
  unfold State.landingGets; refine foldl_calm _ _ _ (fun s a => ?_); repeat' split
  all_goals simp [apply_ite State.calm]

@[simp] theorem State.readGets_calm (s : State) (page : Nat) (res : Nat → AccKind → XRes) (tag : Nat) : (State.readGets s page res tag).calm = s.calm := by
  simp only [State.readGets]; repeat' split
  all_goals simp

@[simp] theorem State.writeGets_calm (s : State) (f page : Nat) (res : Nat → AccKind → XRes) : (State.writeGets s f page res).calm = s.calm := by
  simp only [State.writeGets]; repeat' split
  all_goals simp

@[simp] theorem State.walkGives_calm (s : State) (w : Walk) (res : Nat → AccKind → XRes) : (State.walkGives s w res).calm = s.calm := by
  simp [State.walkGives, apply_ite State.calm]

@[simp] theorem State.endWalk_calm (s : State) (w : Walk) (res : Nat → AccKind → XRes) : (State.endWalk s w res).calm = s.calm := by
  simp [State.endWalk]

@[simp] theorem State.holdLeaf_calm (s : State) (l : Leaf) : (State.holdLeaf s l).calm = s.calm := by
  rfl

@[simp] theorem State.freeLeaf_calm (s : State) (l : Leaf) : (State.freeLeaf s l).calm = s.calm := by
  rfl

@[simp] theorem State.walkEntry_calm (s : State) (w : Walk) (e : Nat) : (State.walkEntry s w e).calm = s.calm := by
  simp only [State.walkEntry]; repeat' split
  all_goals simp

@[simp] theorem State.tableRead_calm (s : State) (tag : Nat) (res : ReadResult) : (State.tableRead s tag res).calm = s.calm := by
  simp only [State.tableRead]; repeat' split
  all_goals simp

@[simp] theorem State.behalfRead_calm (s : State) (f m : Nat) (r : HostRead) (res : ReadResult) : (State.behalfRead s f m r res).calm = s.calm := by
  simp only [State.behalfRead]; repeat' split
  all_goals simp

@[simp] theorem State.readUse_calm (s : State) (tag : Nat) (r : HostRead) (res : ReadResult) : (State.readUse s tag r res).calm = s.calm := by
  simp only [State.readUse]; repeat' split
  all_goals simp

@[simp] theorem State.retryReads_calm (s : State) (hp : Nat) : (State.retryReads s hp).calm = s.calm := by
  simp [State.retryReads]

@[simp] theorem State.readEnded_calm (s : State) (tag : Nat) (res : ReadResult) : (State.readEnded s tag res).calm = s.calm := by
  simp only [State.readEnded]; repeat' split
  all_goals simp

@[simp] theorem State.startInval_calm (s : State) (f v : Nat) : (State.startInval s f v).calm = s.calm := by
  simp [State.startInval]

@[simp] theorem State.retryFaulted_calm (s : State) (f : Nat) : (State.retryFaulted s f).calm = s.calm := by
  simp [State.retryFaulted, apply_ite State.calm]

end Sys2Proof.Machine
end

