-- ==== Sys2Proof/Laws/CalmEntries.lean ====
section
/-! SUPPORT. What the operations of Machine/Entries.lean leave alone. -/

namespace Sys2Proof.Machine

@[simp] theorem State.badDoorbell_calm (s : State) (f : Nat) : (State.badDoorbell s f).calm = s.calm := by
  rfl

@[simp] theorem State.queueError_calm (s : State) (f ctx value index : Nat) (fctx : Option Nat) : (State.queueError s f ctx value index fctx).calm = s.calm := by
  simp [State.queueError]

@[simp] theorem State.sqDoorbell_calm (s : State) (f c : Nat) (v : U32) : (State.sqDoorbell s f c v).calm = s.calm := by
  simp [State.sqDoorbell, apply_ite State.calm]

@[simp] theorem State.eqDoorbell_calm (s : State) (f q : Nat) (v : U32) (arm : Bool) : (State.eqDoorbell s f q v arm).calm = s.calm := by
  simp only [State.eqDoorbell]; repeat' split
  all_goals simp

@[simp] theorem State.startEntry_calm (s : State) (f c op : Nat) (go : State → Entry → State) (h : ∀ s e, (go s e).calm = s.calm) :
    (State.startEntry s f c op go).calm = s.calm := by
  unfold State.startEntry; repeat' split
  all_goals simp [h]

@[simp] theorem State.entryStarted_calm (s : State) (f c : Nat) (e : Entry) : (State.entryStarted s f c e).calm = s.calm := by
  simp [State.entryStarted]

@[simp] theorem State.startTx_calm (s : State) (f c : Nat) (e : Entry) (total awaited : Nat) (rndv : Bool) : (State.startTx s f c e total awaited rndv).calm = s.calm := by
  simp [State.startTx, apply_ite State.calm]

@[simp] theorem State.startSend_calm (s : State) (f c : Nat) (e : Entry) : (State.startSend s f c e).calm = s.calm := by
  simp [State.startSend, apply_ite State.calm]

@[simp] theorem State.startRecv_calm (s : State) (f c : Nat) (e : Entry) : (State.startRecv s f c e).calm = s.calm := by
  simp only [State.startRecv]; repeat' split
  all_goals simp

@[simp] theorem State.startNop_calm (s : State) (f c : Nat) (e : Entry) : (State.startNop s f c e).calm = s.calm := by
  simp [State.startNop]

@[simp] theorem State.startColl_calm (s : State) (f c : Nat) (e : Entry) : (State.startColl s f c e).calm = s.calm := by
  simp [State.startColl, apply_ite State.calm]

@[simp] theorem State.collStart_calm (s : State) (f c : Nat) (e : Entry) : (State.collStart s f c e).calm = s.calm := by
  simp only [State.collStart]; repeat' split
  all_goals simp

@[simp] theorem State.traceDone_calm (s : State) (f c : Nat) (e : Entry) : (State.traceDone s f c e).calm = s.calm := by
  simp [State.traceDone]

@[simp] theorem State.finishEntry_calm (s : State) (f c : Nat) (e : Entry) (st len : Nat) : (State.finishEntry s f c e st len).calm = s.calm := by
  simp [State.finishEntry, apply_ite State.calm]

end Sys2Proof.Machine
end

