-- ==== Sys2Proof/Laws/CalmRouters.lean ====
section
/-! SUPPORT. What the operations of Machine/Routers.lean leave alone. -/

namespace Sys2Proof.Machine

@[simp] theorem State.drawExit_calm (s : State) (own : Nat) (l : List (Nat × Nat)) : (State.drawExit s own l).2.calm = s.calm := by
  rfl

@[simp] theorem State.choosePath_calm (s : State) (n own grp : Nat) (k : Packet) : (State.choosePath s n own grp k).2.calm = s.calm := by
  simp only [State.choosePath]; repeat' split
  all_goals simp

@[simp] theorem State.retarget_calm (s : State) (c ingress : Nat) (k : Packet) : (State.retarget s c ingress k).2.calm = s.calm := by
  simp only [State.retarget]; repeat' split
  all_goals simp

@[simp] theorem State.routeIt_calm (s : State) (ingress vc : Nat) (k : Packet) : (State.routeIt s ingress vc k).2.calm = s.calm := by
  unfold State.routeIt; repeat' split
  all_goals first | (simp [apply_ite State.calm]; done) | (rename_i h; have h' := congrArg (fun x => State.calm x.2) h; simp [apply_ite State.calm] at h'; simp [h', apply_ite State.calm])

@[simp] theorem State.deliverHere_calm (s : State) (n : Nat) (q : QPkt) : (State.deliverHere s n q).calm = s.calm := by
  simp [State.deliverHere, apply_ite State.calm]

@[simp] theorem State.toPort_calm (s : State) (n p : Nat) (k : Packet) (q : QPkt) : (State.toPort s n p k q).calm = s.calm := by
  simp [State.toPort]

@[simp] theorem State.carryGhost_calm (s : State) (n : Nat) (q : QPkt) (h : Hop) : (State.carryGhost s n q h).calm = s.calm := by
  simp only [State.carryGhost]; repeat' split
  all_goals simp

@[simp] theorem State.carryOut_calm (s : State) (n : Nat) (q : QPkt) (h : Hop) : (State.carryOut s n q h).calm = s.calm := by
  simp only [State.carryOut]; repeat' split
  all_goals simp

@[simp] theorem State.routeFirst_calm (s : State) (p : Nat) : (State.routeFirst s p).calm = s.calm := by
  simp only [State.routeFirst]; repeat' split
  all_goals simp

@[simp] theorem State.decideInject_calm (s : State) (n : Nat) (k : Packet) : (State.decideInject s n k).2.calm = s.calm := by
  unfold State.decideInject; dsimp only; repeat' split
  all_goals first | (simp [apply_ite State.calm]; done) | (rename_i h; have h' := congrArg (fun x => State.calm x.1) h; simp [apply_ite State.calm] at h'; simp [h', apply_ite State.calm]) | (rename_i h; have h' := congrArg (fun x => State.calm x.2) h; simp [apply_ite State.calm] at h'; simp [h', apply_ite State.calm])

@[simp] theorem State.injectOne_calm (s : State) (n : Nat) : (State.injectOne s n).calm = s.calm := by
  simp only [State.injectOne]; repeat' split
  all_goals simp

@[simp] theorem State.startPacket_calm (s : State) (p : Nat) : (State.startPacket s p).calm = s.calm := by
  simp only [State.startPacket]; repeat' split
  all_goals simp

@[simp] theorem State.deliverTile_calm (s : State) (tile : Nat) : (State.deliverTile s tile).calm = s.calm := by
  simp only [State.deliverTile]; repeat' split
  all_goals simp

@[simp] theorem State.samplePort_calm (s : State) (aligned : Bool) (p : Nat) : (State.samplePort s aligned p).calm = s.calm := by
  simp [State.samplePort, apply_ite State.calm]

@[simp] theorem State.decayHold_calm (s : State) (old : Nat) : (State.decayHold s old).calm = s.calm := by
  simp [State.decayHold]

end Sys2Proof.Machine
end

