-- ==== Sys2Proof/Laws/CalmResets.lean ====
section
/-! SUPPORT. What the operations of Machine/Resets.lean leave alone. -/

namespace Sys2Proof.Machine

@[simp] theorem State.wipeReads_calm (s : State) (f : Nat) : (State.wipeReads s f).calm = s.calm := by
  simp [State.wipeReads]

@[simp] theorem State.wipeTile_calm (s : State) (f : Nat) : (State.wipeTile s f).calm = s.calm := by
  simp [State.wipeTile]

@[simp] theorem State.wipeWins_calm (s : State) (f : Nat) : (State.wipeWins s f).calm = s.calm := by
  simp [State.wipeWins]

@[simp] theorem State.wipeMailbox_calm (s : State) (f : Nat) : (State.wipeMailbox s f).calm = s.calm := by
  rfl

@[simp] theorem State.wipe_calm (s : State) (f : Nat) (told mailbox : Bool) : (State.wipe s f told mailbox).calm = s.calm := by
  simp [State.wipe, apply_ite State.calm]

@[simp] theorem State.flrOne_calm (s : State) (f : Nat) (told : Bool) : (State.flrOne s f told).calm = s.calm := by
  simp [State.flrOne, apply_ite State.calm]

@[simp] theorem State.flr_calm (s : State) (f : Nat) : (State.flr s f).calm = s.calm := by
  simp [State.flr, apply_ite State.calm]

@[simp] theorem State.hostDown_calm (s : State) (h : Nat) : (State.hostDown s h).calm = s.calm := by
  simp [State.hostDown]

@[simp] theorem State.fnConfigure_calm (s : State) (f : Nat) : (State.fnConfigure s f).calm = s.calm := by
  rfl

@[simp] theorem State.fnAppear_calm (s : State) (f : Nat) : (State.fnAppear s f).calm = s.calm := by
  simp [State.fnAppear, apply_ite State.calm]

@[simp] theorem State.hostUp_calm (s : State) (h rate width : Nat) (flit reversed : Bool) (cfg : HostCfg) : (State.hostUp s h rate width flit reversed cfg).calm = s.calm := by
  simp [State.hostUp, apply_ite State.calm]

@[simp] theorem State.flrEnd_calm (s : State) (f : Nat) : (State.flrEnd s f).calm = s.calm := by
  simp [State.flrEnd, apply_ite State.calm]

@[simp] theorem State.vfsGone_calm (s : State) (h : Nat) : (State.vfsGone s h).calm = s.calm := by
  simp [State.vfsGone, apply_ite State.calm]

end Sys2Proof.Machine
end

