-- ==== Sys2Proof/Laws/CalmModes.lean ====
section
/-! SUPPORT. What the operations of Machine/Modes.lean leave alone. -/

namespace Sys2Proof.Machine

@[simp] theorem State.wipeAll_calm (s : State) : (State.wipeAll s).calm = s.calm := by
  simp [State.wipeAll]

@[simp] theorem State.portsHold_calm (s : State) : (State.portsHold s).calm = s.calm := by
  simp [State.portsHold, apply_ite State.calm]

@[simp] theorem State.portsResume_calm (s : State) : (State.portsResume s).calm = s.calm := by
  simp [State.portsResume, apply_ite State.calm]

@[simp] theorem State.portsStart_calm (s : State) : (State.portsStart s).calm = s.calm := by
  simp [State.portsStart, apply_ite State.calm]

@[simp] theorem State.discard_calm (s : State) (gone : QPkt → Bool) : (State.discard s gone).calm = s.calm := by
  simp [State.discard]

@[simp] theorem State.discardAll_calm (s : State) : (State.discardAll s).calm = s.calm := by
  simp [State.discardAll]

@[simp] theorem State.startQueues_calm (s : State) : (State.startQueues s).calm = s.calm := by
  simp [State.startQueues]

@[simp] theorem State.ptsReset_calm (s : State) : (State.ptsReset s).calm = s.calm := by
  simp [State.ptsReset]

@[simp] theorem State.entered_calm (s : State) (a m : Mode) : (State.entered s a m).calm = s.calm := by
  unfold State.entered; repeat' split
  all_goals simp [apply_ite State.calm]

@[simp] theorem State.releaseTile_calm (s : State) (k : Nat) : (State.releaseTile s k).calm = s.calm := by
  rfl

end Sys2Proof.Machine
end

