-- ==== Sys2Proof/Laws/CalmFirmware.lean ====
section
/-! SUPPORT. What the operations of Machine/Firmware.lean leave alone. -/

namespace Sys2Proof.Machine

@[simp] theorem State.modFw_calm (s : State) (g : Firmware → Firmware) : (State.modFw s g).calm = s.calm := by
  rfl

@[simp] theorem State.modSlot_calm (s : State) (k : Nat) (g : Slot → Slot) : (State.modSlot s k g).calm = s.calm := by
  rfl

@[simp] theorem State.extend_calm (s : State) (k : Nat) (data : List Byte) : (State.extend s k data).calm = s.calm := by
  rfl

@[simp] theorem State.setMeas_calm (s : State) (k : Nat) (v : BitVec 384) : (State.setMeas s k v).calm = s.calm := by
  rfl

@[simp] theorem State.extendFuse_calm (s : State) : (State.extendFuse s).calm = s.calm := by
  rfl

@[simp] theorem State.extendM4_calm (s : State) (idx sub : Nat) (value : List Byte) : (State.extendM4 s idx sub value).calm = s.calm := by
  rfl

@[simp] theorem State.fwFault_calm (s : State) (code cls : Nat) : (State.fwFault s code cls).calm = s.calm := by
  rfl

@[simp] theorem State.uploadOpen_calm (s : State) : (State.uploadOpen s).calm = s.calm := by
  rfl

@[simp] theorem State.uploadFail_calm (s : State) (k result : Nat) : (State.uploadFail s k result).calm = s.calm := by
  rfl

@[simp] theorem State.uploadAbort_calm (s : State) : (State.uploadAbort s).calm = s.calm := by
  simp only [State.uploadAbort]; repeat' split
  all_goals simp

@[simp] theorem State.uploadCommit_calm (s : State) : (State.uploadCommit s).1.calm = s.calm := by
  simp only [State.uploadCommit]; repeat' split
  all_goals simp

@[simp] theorem State.uploadData_calm (s : State) (chunk : List Byte) : (State.uploadData s chunk).1.calm = s.calm := by
  simp only [State.uploadData]; repeat' split
  all_goals simp

@[simp] theorem State.dropNew_calm (s : State) : (State.dropNew s).calm = s.calm := by
  rfl

@[simp] theorem State.keepNew_calm (s : State) : (State.keepNew s).calm = s.calm := by
  rfl

@[simp] theorem State.abandon_calm (s : State) : (State.abandon s).calm = s.calm := by
  simp [State.abandon]

@[simp] theorem State.activate_calm (s : State) (k : Nat) : (State.activate s k).calm = s.calm := by
  simp [State.activate, apply_ite State.calm]

@[simp] theorem State.fwIsReady_calm (s : State) : (State.fwIsReady s).calm = s.calm := by
  simp [State.fwIsReady, apply_ite State.calm]

@[simp] theorem State.moveControl_calm (s : State) : (State.moveControl s).calm = s.calm := by
  rfl

@[simp] theorem State.runSlot_calm (s : State) (k : Nat) : (State.runSlot s k).calm = s.calm := by
  rfl

@[simp] theorem State.handOver_calm (s : State) : (State.handOver s).calm = s.calm := by
  simp [State.handOver]

@[simp] theorem State.resetOther_calm (s : State) : (State.resetOther s).calm = s.calm := by
  simp [State.resetOther]

@[simp] theorem State.fallBackNow_calm (s : State) (sub : Nat) : (State.fallBackNow s sub).calm = s.calm := by
  simp [State.fallBackNow, apply_ite State.calm]

@[simp] theorem State.fallBack_calm (s : State) (sub : Nat) : (State.fallBack s sub).calm = s.calm := by
  simp [State.fallBack, apply_ite State.calm]

@[simp] theorem State.refreshSrec_calm (s : State) : (State.refreshSrec s).1.calm = s.calm := by
  simp only [State.refreshSrec]; repeat' split
  all_goals simp

@[simp] theorem State.burnFuses_calm (s : State) (arb : Nat) : (State.burnFuses s arb).calm = s.calm := by
  simp [State.burnFuses]

@[simp] theorem State.confirm_calm (s : State) : (State.confirm s).calm = s.calm := by
  simp [State.confirm, apply_ite State.calm]

@[simp] theorem State.revokeKey_calm (s : State) (k : Nat) : (State.revokeKey s k).calm = s.calm := by
  rfl

end Sys2Proof.Machine
end

