-- ==== Sys2Proof/Laws/CalmFaults.lean ====
section
/-! SUPPORT. What the operations of Machine/Faults.lean leave alone. -/

namespace Sys2Proof.Machine

@[simp] theorem State.modClass_calm (s : State) (c : Nat) (g : ClassRec → ClassRec) : (State.modClass s c g).calm = s.calm := by
  rfl

@[simp] theorem State.logClassRec_calm (s : State) (r : FaultRec) : (State.logClassRec s r).calm = s.calm := by
  simp [State.logClassRec, apply_ite State.calm]

@[simp] theorem State.faultEvents_calm (s : State) (r : FaultRec) : (State.faultEvents s r).calm = s.calm := by
  simp [State.faultEvents, apply_ite State.calm]

@[simp] theorem State.logRec_calm (s : State) (r : FaultRec) : (State.logRec s r).calm = s.calm := by
  simp [State.logRec, apply_ite State.calm]

@[simp] theorem State.tallyOnly_calm (s : State) (f : FaultReport) (esc : Bool) : (State.tallyOnly s f esc).calm = s.calm := by
  simp [State.tallyOnly]

end Sys2Proof.Machine
end

