-- ==== Sys2Proof/Laws/CalmPower.lean ====
section
/-! SUPPORT. What the operations of Machine/Power.lean leave alone. -/

namespace Sys2Proof.Machine

@[simp] theorem State.modSup_calm (s : State) (g : Supervisor → Supervisor) : (State.modSup s g).calm = s.calm := by
  rfl

@[simp] theorem State.tryRamp_calm (s : State) : (State.tryRamp s).calm = s.calm := by
  simp [State.tryRamp, apply_ite State.calm]

@[simp] theorem State.warn_calm (s : State) : (State.warn s).calm = s.calm := by
  simp [State.warn, apply_ite State.calm]

@[simp] theorem State.shed_calm (s : State) : (State.shed s).calm = s.calm := by
  simp [State.shed, apply_ite State.calm]

@[simp] theorem State.seatClears_calm (s : State) : (State.seatClears s).calm = s.calm := by
  simp [State.seatClears, apply_ite State.calm]

end Sys2Proof.Machine
end

