-- ==== Sys2Proof/Laws/CalmTransports.lean ====
section
/-! SUPPORT. What the operations of Machine/Transports.lean leave alone. -/

namespace Sys2Proof.Machine

@[simp] theorem State.complete_calm (s : State) (f addr : Nat) (bytes : List Byte) : (State.complete s f addr bytes).calm = s.calm := by
  simp [State.complete]

@[simp] theorem State.popCtxCmd_calm (s : State) (f : Nat) : (State.popCtxCmd s f).calm = s.calm := by
  rfl

@[simp] theorem State.tryOpen_calm (s : State) (f v : Nat) : (State.tryOpen s f v).2.calm = s.calm := by
  unfold State.tryOpen
  split
  · rfl
  · split
    · rfl
    · split
      · rfl
      · rename_i h; simp [State.makeRoom_calm _ _ _ h]

@[simp] theorem State.openCtx_calm (s : State) (f v : Nat) : (State.openCtx s f v).calm = s.calm := by
  simp [State.openCtx]

@[simp] theorem State.closeCtx_calm (s : State) (f c compl token : Nat) : (State.closeCtx s f c compl token).calm = s.calm := by
  simp [State.closeCtx]

@[simp] theorem State.closeCmd_calm (s : State) (f v : Nat) : (State.closeCmd s f v).calm = s.calm := by
  simp [State.closeCmd, apply_ite State.calm]

@[simp] theorem State.queryCmd_calm (s : State) (f v : Nat) : (State.queryCmd s f v).calm = s.calm := by
  simp [State.queryCmd]

@[simp] theorem State.forgetCtx_calm (s : State) (f c : Nat) : (State.forgetCtx s f c).calm = s.calm := by
  simp [State.forgetCtx, apply_ite State.calm]

@[simp] theorem State.finishClose_calm (s : State) (f c : Nat) : (State.finishClose s f c).calm = s.calm := by
  simp only [State.finishClose]; repeat' split
  all_goals simp

@[simp] theorem State.rxPop_calm (s : State) (n : Nat) : (State.rxPop s n).calm = s.calm := by
  rfl

@[simp] theorem State.rxRotate_calm (s : State) (n : Nat) : (State.rxRotate s n).calm = s.calm := by
  rfl

@[simp] theorem State.rxMiss_calm (s : State) (n : Nat) (p : Packet) : (State.rxMiss s n p).calm = s.calm := by
  simp [State.rxMiss, apply_ite State.calm]

@[simp] theorem State.noteRequest_calm (s : State) (p : Packet) : (State.noteRequest s p).calm = s.calm := by
  rfl

@[simp] theorem State.noteEcho_calm (s : State) (p : Packet) : (State.noteEcho s p).calm = s.calm := by
  rfl

@[simp] theorem State.takePacket_calm (s : State) (p : Packet) : (State.takePacket s p).1.calm = s.calm := by
  simp only [State.takePacket]; repeat' split
  all_goals simp

@[simp] theorem State.refuse_calm (s : State) (p : Packet) : (State.refuse s p).calm = s.calm := by
  simp [State.refuse, apply_ite State.calm]

@[simp] theorem State.perform_calm (s : State) (p : Packet) (dest : PayloadDest) : (State.perform s p dest).calm = s.calm := by
  simp only [State.perform]; repeat' split
  all_goals simp

@[simp] theorem State.acceptPkt_calm (s : State) (p : Packet) (dest : PayloadDest) : (State.acceptPkt s p dest).calm = s.calm := by
  simp [State.acceptPkt, apply_ite State.calm]

@[simp] theorem State.dupPkt_calm (s : State) (p : Packet) : (State.dupPkt s p).calm = s.calm := by
  simp [State.dupPkt, apply_ite State.calm]

@[simp] theorem State.dataRx_calm (s : State) (n : Nat) : (State.dataRx s n).calm = s.calm := by
  unfold State.dataRx; dsimp only; repeat' split
  all_goals first | (simp [apply_ite State.calm]; done) | (rename_i h; have h' := congrArg (fun x => State.calm x.1) h; simp [apply_ite State.calm] at h'; simp [h', apply_ite State.calm]) | (rename_i h; have h' := congrArg (fun x => State.calm x.2) h; simp [apply_ite State.calm] at h'; simp [h', apply_ite State.calm])

@[simp] theorem State.resyncRx_calm (s : State) (n : Nat) : (State.resyncRx s n).calm = s.calm := by
  simp only [State.resyncRx]; repeat' split
  all_goals simp

@[simp] theorem State.rspRx_calm (s : State) (n : Nat) (is_ : Packet → Bool) (go : State → Packet → State) (h : ∀ s e, (go s e).calm = s.calm) :
    (State.rspRx s n is_ go).calm = s.calm := by
  unfold State.rspRx; repeat' split
  all_goals simp [h]

@[simp] theorem State.ackIn_calm (s : State) (p : Packet) (force : Bool) : (State.ackIn s p force).calm = s.calm := by
  simp [State.ackIn, apply_ite State.calm]

@[simp] theorem State.staleIn_calm (s : State) (p : Packet) : (State.staleIn s p).calm = s.calm := by
  simp [State.staleIn, apply_ite State.calm]

@[simp] theorem State.sendHere_calm (s : State) (f c : Nat) : (State.sendHere s f c).calm = s.calm := by
  simp only [State.sendHere]; repeat' split
  all_goals simp

@[simp] theorem State.sendNext_calm (s : State) (f c : Nat) : (State.sendNext s f c).calm = s.calm := by
  simp [State.sendNext]

@[simp] theorem State.retransmitExpiry_calm (s : State) (f c : Nat) : (State.retransmitExpiry s f c).calm = s.calm := by
  simp only [State.retransmitExpiry]; repeat' split
  all_goals simp

@[simp] theorem State.onTimer_calm (s : State) (f c : Nat) (due : Bool) (go : State → State) (h : ∀ s, (go s).calm = s.calm) :
    (State.onTimer s f c due go).calm = s.calm := by
  unfold State.onTimer; repeat' split
  all_goals simp [h]

end Sys2Proof.Machine
end

