-- ==== Sys2Proof/Laws/CalmEngines.lean ====
section
/-! SUPPORT. What the operations of Machine/Engines.lean leave alone. -/

namespace Sys2Proof.Machine

@[simp] theorem State.itemPop_calm (s : State) (h : Nat) : (State.itemPop s h).calm = s.calm := by
  rfl

@[simp] theorem State.lateItem_calm (s : State) (h f comm engine : Nat) : (State.lateItem s h f comm engine).calm = s.calm := by
  simp [State.lateItem, apply_ite State.calm]

@[simp] theorem State.freeUnused_calm (s : State) (f : Nat) (p : Packet) (c : Nat) (dest : PayloadDest) : (State.freeUnused s f p c dest).calm = s.calm := by
  simp only [State.freeUnused]; repeat' split
  all_goals simp

@[simp] theorem State.matchItem_calm (s : State) (h : Nat) : (State.matchItem s h).calm = s.calm := by
  simp only [State.matchItem]; repeat' split
  all_goals simp

@[simp] theorem State.opStep_calm (s : State) (n mkind : Nat) (go : State → Nat → Nat → Packet → State) (h : ∀ s a b e, (go s a b e).calm = s.calm) :
    (State.opStep s n mkind go).calm = s.calm := by
  unfold State.opStep; dsimp only; repeat' split
  all_goals simp [h]

@[simp] theorem State.popWinCmd_calm (s : State) (f : Nat) : (State.popWinCmd s f).calm = s.calm := by
  rfl

@[simp] theorem State.register_calm (s : State) (f v : Nat) : (State.register s f v).calm = s.calm := by
  simp only [State.register]; repeat' split
  all_goals simp

@[simp] theorem State.revoke_calm (s : State) (f v : Nat) : (State.revoke s f v).calm = s.calm := by
  simp [State.revoke, apply_ite State.calm]

@[simp] theorem State.winQuery_calm (s : State) (f v : Nat) : (State.winQuery s f v).calm = s.calm := by
  simp [State.winQuery, apply_ite State.calm]

end Sys2Proof.Machine
end

