-- ==== Sys2Proof/Laws/CalmTrees.lean ====
section
/-! SUPPORT. What the operations of Machine/Trees.lean leave alone. -/

namespace Sys2Proof.Machine

@[simp] theorem State.collTake_calm (s : State) (p : Nat) (is_ : Packet → Bool) (go : State → Packet → State) (h : ∀ s e, (go s e).calm = s.calm) :
    (State.collTake s p is_ go).calm = s.calm := by
  unfold State.collTake; repeat' split
  all_goals simp [h]

end Sys2Proof.Machine
end

