-- ==== Sys2Proof/Laws/CalmArch.lean ====
section
/-! SUPPORT. What the operations of Machine/Arch.lean leave alone. -/

namespace Sys2Proof.Machine

@[simp] theorem State.crossed_calm (s : State) (dst : Nat) (x : Cross) : (State.crossed s dst x).calm = s.calm := by
  simp only [State.crossed]; repeat' split
  all_goals simp

@[simp] theorem State.flitIn_calm (s : State) (ch : Nat) : (State.flitIn s ch).calm = s.calm := by
  simp only [State.flitIn]; repeat' split
  all_goals simp

@[simp] theorem State.sramFault_calm (s : State) (x : SramSite) (code cls : Nat) : (State.sramFault s x code cls).calm = s.calm := by
  rfl

@[simp] theorem State.sramPacket_calm (s : State) (p : Nat) : (State.sramPacket s p).calm = s.calm := by
  simp only [State.sramPacket]; repeat' split
  all_goals simp

@[simp] theorem State.sramLost_calm (s : State) (x : SramSite) : (State.sramLost s x).calm = s.calm := by
  simp only [State.sramLost]; repeat' split
  all_goals simp

@[simp] theorem State.scrubWordDone_calm (s : State) : (State.scrubWordDone s).calm = s.calm := by
  rfl

@[simp] theorem State.reloadEntry_calm (s : State) (x : SramSite) : (State.reloadEntry s x).calm = s.calm := by
  simp only [State.reloadEntry]; repeat' split
  all_goals simp

end Sys2Proof.Machine
end

