-- ==== Sys2Proof/Laws/CalmClock.lean ====
section
/-! SUPPORT. What the operations of Machine/Clock.lean leave alone. -/

namespace Sys2Proof.Machine

@[simp] theorem State.countCycles_calm (s : State) : (State.countCycles s).calm = s.calm := by
  rfl

@[simp] theorem State.islandsRun_calm (s : State) (d : Int) : (State.islandsRun s d).calm = s.calm := by
  rfl

end Sys2Proof.Machine
end

