-- ==== Sys2Proof/Laws/CalmEffects.lean ====
section
/-! SUPPORT. What the operations of Machine/Effects.lean leave alone. -/

namespace Sys2Proof.Machine

@[simp] theorem State.journalWrite_calm (s : State) (l : List (Nat × Nat)) : (State.journalWrite s l).calm = s.calm := by
  simp [State.journalWrite]

@[simp] theorem State.writeEq_calm (s : State) (f q v : Nat) : (State.writeEq s f q v).calm = s.calm := by
  simp [State.writeEq, apply_ite State.calm]

@[simp] theorem State.writeRegion_calm (s : State) (k v : Nat) : (State.writeRegion s k v).calm = s.calm := by
  simp [State.writeRegion]

@[simp] theorem State.writeEnable_calm (s : State) (p v : Nat) : (State.writeEnable s p v).calm = s.calm := by
  simp [State.writeEnable, apply_ite State.calm]

@[simp] theorem State.writeLps_calm (s : State) (p st : Nat) : (State.writeLps s p st).calm = s.calm := by
  simp [State.writeLps, apply_ite State.calm]

@[simp] theorem State.writeTest_calm (s : State) (p old v : Nat) : (State.writeTest s p old v).calm = s.calm := by
  simp [State.writeTest, apply_ite State.calm]

@[simp] theorem State.writeGen_calm (s : State) (old v : Nat) : (State.writeGen s old v).calm = s.calm := by
  simp [State.writeGen, apply_ite State.calm]

@[simp] theorem State.writeTree_calm (s : State) (t v : Nat) : (State.writeTree s t v).calm = s.calm := by
  simp [State.writeTree, apply_ite State.calm]

@[simp] theorem State.writeAtomicCache_calm (s : State) (n v : Nat) : (State.writeAtomicCache s n v).calm = s.calm := by
  simp [State.writeAtomicCache, apply_ite State.calm]

@[simp] theorem State.writeAck_calm (s : State) (v : Nat) : (State.writeAck s v).calm = s.calm := by
  rfl

@[simp] theorem State.writeClear_calm (s : State) (v : Nat) : (State.writeClear s v).calm = s.calm := by
  rfl

@[simp] theorem State.writeCtrCfg_calm (s : State) (sub v : Nat) : (State.writeCtrCfg s sub v).calm = s.calm := by
  rfl

@[simp] theorem State.writeCtrValue_calm (s : State) (sub : Nat) : (State.writeCtrValue s sub).calm = s.calm := by
  rfl

@[simp] theorem State.writeReader_calm (s : State) (old v : Nat) : (State.writeReader s old v).calm = s.calm := by
  simp [State.writeReader, apply_ite State.calm]

@[simp] theorem State.writeBuckets_calm (s : State) (shape : Bool) (p old v : Nat) : (State.writeBuckets s shape p old v).calm = s.calm := by
  rfl

@[simp] theorem State.writeSched_calm (s : State) (p v : Nat) : (State.writeSched s p v).calm = s.calm := by
  rfl

@[simp] theorem State.writeFt_calm (s : State) (v : Nat) : (State.writeFt s v).calm = s.calm := by
  simp [State.writeFt]

@[simp] theorem State.writeAllot_calm (s : State) (f v : Nat) : (State.writeAllot s f v).calm = s.calm := by
  simp [State.writeAllot, apply_ite State.calm]

@[simp] theorem State.writeTrim_calm (s : State) (f v : Nat) : (State.writeTrim s f v).calm = s.calm := by
  rfl

@[simp] theorem State.writeUser_calm (s : State) (v : Nat) : (State.writeUser s v).calm = s.calm := by
  rfl

@[simp] theorem State.writeFactory_calm (s : State) : (State.writeFactory s).calm = s.calm := by
  rfl

@[simp] theorem State.writeAttest_calm (s : State) (sub v : Nat) : (State.writeAttest s sub v).calm = s.calm := by
  rfl

@[simp] theorem State.writeUpload_calm (s : State) (v : Nat) : (State.writeUpload s v).1.calm = s.calm := by
  simp only [State.writeUpload]; repeat' split
  all_goals simp

@[simp] theorem State.effectLow_calm (s : State) (f idx sub old v : Nat) : (State.effectLow s f idx sub old v).calm = s.calm := by
  simp only [State.effectLow]; repeat' split
  all_goals simp

@[simp] theorem State.upload_calm (s : State) (sub v : Nat) (bytes : List Byte) : (State.upload s sub v bytes).1.calm = s.calm := by
  simp only [State.upload]; repeat' split
  all_goals simp

@[simp] theorem State.trialFirst_calm (s : State) (idx sub : Nat) : (State.trialFirst s idx sub).calm = s.calm := by
  simp [State.trialFirst, apply_ite State.calm]

end Sys2Proof.Machine
end

