-- ==== Sys2Proof/Laws/CalmDictionary.lean ====
section
/-! SUPPORT. What the operations of Machine/Dictionary.lean leave alone. -/

namespace Sys2Proof.Machine

@[simp] theorem State.modDict_calm (s : State) (g : Dict → Dict) : (State.modDict s g).calm = s.calm := by
  rfl

@[simp] theorem State.enqueue_calm (s : State) (x : DictReq) : (State.enqueue s x).calm = s.calm := by
  rfl

@[simp] theorem State.sendMgt_calm (s : State) (form : Bool) (dev : Nat) (pdu : List Byte) : (State.sendMgt s form dev pdu).calm = s.calm := by
  simp [State.sendMgt, apply_ite State.calm]

@[simp] theorem State.frameOut_calm (s : State) (len : Nat) (o : Out) : (State.frameOut s len o).calm = s.calm := by
  unfold State.frameOut; repeat' split
  all_goals first | (simp [apply_ite State.calm]; done) | (rename_i h; have h' := congrArg (fun x => State.calm x.1) h; simp [apply_ite State.calm] at h'; simp [h', apply_ite State.calm])

@[simp] theorem State.respond_calm (s : State) (r : Req) (source : Nat) (pdu : List Byte) : (State.respond s r source pdu).calm = s.calm := by
  simp only [State.respond]; repeat' split
  all_goals simp

@[simp] theorem State.keep_calm (s : State) (r : Req) (h : Nat) (pdu : List Byte) : (State.keep s r h pdu).calm = s.calm := by
  simp only [State.keep]; repeat' split
  all_goals simp

@[simp] theorem State.answerReq_calm (s : State) (r : Req) (source h : Nat) (pdu : List Byte) : (State.answerReq s r source h pdu).calm = s.calm := by
  simp [State.answerReq]

@[simp] theorem State.abortReq_calm (s : State) (x : DictReq) (a : Abort) : (State.abortReq s x a).calm = s.calm := by
  simp [State.abortReq]

@[simp] theorem State.endSeg_calm (s : State) (g : Seg) (why : Option Abort) : (State.endSeg s g why).calm = s.calm := by
  rfl

@[simp] theorem State.supersede_calm (s : State) (g : Seg) : (State.supersede s g).calm = s.calm := by
  simp only [State.supersede]; repeat' split
  all_goals simp

theorem State.openSeg_calm (s t : State) (g : Seg) (h : s.openSeg g = some t) : t.calm = s.calm := by
  unfold State.openSeg at h
  dsimp only at h
  split at h
  · cases h
  · cases h; simp

@[simp] theorem State.serveRead_calm (s : State) (x : DictReq) : (State.serveRead s x).calm = s.calm := by
  unfold State.serveRead
  dsimp only
  repeat' split
  all_goals first | (simp; done) | (rename_i h; simp [State.openSeg_calm _ _ _ h])

@[simp] theorem State.firstSeg_calm (s : State) (x : DictReq) : (State.firstSeg s x).calm = s.calm := by
  unfold State.firstSeg
  dsimp only
  repeat' split
  all_goals first | (simp; done) | (rename_i h; simp [State.openSeg_calm _ _ _ h])

@[simp] theorem State.serveDescribe_calm (s : State) (x : DictReq) : (State.serveDescribe s x).calm = s.calm := by
  simp only [State.serveDescribe]; repeat' split
  all_goals simp

@[simp] theorem State.serveCancel_calm (s : State) (x : DictReq) : (State.serveCancel s x).calm = s.calm := by
  simp only [State.serveCancel]; repeat' split
  all_goals simp

@[simp] theorem State.serveRelay_calm (s : State) (x : DictReq) : (State.serveRelay s x).calm = s.calm := by
  simp only [State.serveRelay]; repeat' split
  all_goals simp

@[simp] theorem State.countReq_calm (s : State) : (State.countReq s).calm = s.calm := by
  rfl

@[simp] theorem State.mailbox_calm (s : State) (f ctrl : Nat) (buf : List Byte) : (State.mailbox s f ctrl buf).calm = s.calm := by
  simp [State.mailbox, apply_ite State.calm]

@[simp] theorem State.submit_calm (s : State) (r : Req) (pdu : List Byte) : (State.submit s r pdu).calm = s.calm := by
  simp only [State.submit]; repeat' split
  all_goals simp

@[simp] theorem State.datagram_calm (s : State) (src : Nat) (v6 : Bool) (dest : Nat) (pdu : List Byte) : (State.datagram s src v6 dest pdu).calm = s.calm := by
  simp [State.datagram, apply_ite State.calm]

@[simp] theorem State.mgtRequest_calm (s : State) : (State.mgtRequest s).calm = s.calm := by
  simp only [State.mgtRequest]; repeat' split
  all_goals simp

@[simp] theorem State.relayAnswer_calm (s : State) : (State.relayAnswer s).calm = s.calm := by
  simp only [State.relayAnswer]; repeat' split
  all_goals simp

@[simp] theorem State.relayLate_calm (s : State) (id : Nat) : (State.relayLate s id).calm = s.calm := by
  simp only [State.relayLate]; repeat' split
  all_goals simp

@[simp] theorem State.syncAnswer_calm (s : State) (y : SyncRead) : (State.syncAnswer s y).calm = s.calm := by
  simp only [State.syncAnswer]; repeat' split
  all_goals simp

end Sys2Proof.Machine
end

