-- ==== Sys2Proof/Laws/CalmAccess.lean ====
section
/-! SUPPORT. What the operations of Machine/Access.lean leave alone. -/

namespace Sys2Proof.Machine

@[simp] theorem State.semDo_calm (s : State) (who : SemMaster) (n : Nat) (o : SemOp) : (s.semDo who n o).calm = s.calm := by
  cases o <;> simp [State.semDo]

@[simp] theorem State.internalRead_calm (s : State) (who : SemMaster) (a len : Nat) : (s.internalRead who a len).1.calm = s.calm := by
  unfold State.internalRead
  split
  · rfl
  · generalize (if inSems a then semOpAt (a % 64) len false else none) = o
    cases o
    · dsimp only; split <;> simp
    · simp

@[simp] theorem State.internalWrite_calm (s : State) (who : SemMaster) (a : Nat) (data : List Byte) :
    (s.internalWrite who a data).calm = s.calm := by
  unfold State.internalWrite
  split
  · simp
  · generalize (if inSems a then semOpAt (a % 64) data.length true else none) = o
    cases o <;> simp

@[simp] theorem State.performPieces_calm (s : State) (who : SemMaster) (k : AccKind) (data : List Byte) (l : List (Nat × Nat)) :
    (s.performPieces who k data l).1.calm = s.calm := by
  induction l generalizing s data with
  | nil => rfl
  | cons x l ih =>
    obtain ⟨a, n⟩ := x
    unfold State.performPieces
    dsimp only
    split
    · rw [ih]; simp
    · have hr := State.internalRead_calm (s.fly (semId who) a) who a n
      split <;> rename_i h <;> rw [h] at hr
      · simpa using hr
      · rename_i t b
        have ht := ih t data
        rw [State.fly_calm] at hr
        split
        · rename_i h2; rw [h2] at ht; exact ht.trans hr
        · exact ht.trans hr

@[simp] theorem State.answerAccess_calm (s : State) (who : SemMaster) (k : AccKind) (b : Option (List Byte)) : (State.answerAccess s who k b).calm = s.calm := by
  simp only [State.answerAccess]; repeat' split
  all_goals simp

@[simp] theorem State.refuseAccess_calm (s : State) (who : SemMaster) (a len : Nat) (k : AccKind) (code : Nat) : (State.refuseAccess s who a len k code).calm = s.calm := by
  simp only [State.refuseAccess]; repeat' split
  all_goals simp

@[simp] theorem State.internalAccess_calm (s : State) (who : SemMaster) (k : AccKind) (data : List Byte) (l : List (Nat × Nat)) :
    (s.internalAccess who k data l).calm = s.calm := by
  unfold State.internalAccess
  split <;> simp

@[simp] theorem State.privFaulted_calm (s : State) (m code : Nat) (k : AccKind) : (State.privFaulted s m code k).calm = s.calm := by
  simp [State.privFaulted, apply_ite State.calm]

@[simp] theorem State.onBehalf_calm (s : State) (m f addr len : Nat) (k : AccKind) (data : List Byte) : (State.onBehalf s m f addr len k data).calm = s.calm := by
  simp only [State.onBehalf]; repeat' split
  all_goals simp

@[simp] theorem State.access_calm (s : State) (who : SemMaster) (addr len : Nat) (k : AccKind) (behalf : Option Nat) (data : List Byte) :
    (s.access who addr len k behalf data).calm = s.calm := by
  unfold State.access
  split
  · simp [apply_ite State.calm]
  · simp
  · split
    · simp
    · rename_i m _
      have hx := State.privAll_calm s m k (pagePieces addr len)
      split <;> rename_i h <;> rw [h] at hx <;> simpa using hx

end Sys2Proof.Machine
end

