-- ==== Sys2Proof/Laws/CalmRequests.lean ====
section
/-! SUPPORT. What the operations of Machine/Requests.lean leave alone. -/

namespace Sys2Proof.Machine

@[simp] theorem State.cableLost_calm (s : State) (p : Nat) : (State.cableLost s p).calm = s.calm := by
  simp [State.cableLost, apply_ite State.calm]

@[simp] theorem State.cableRetry_calm (s : State) (p : Nat) : (State.cableRetry s p).calm = s.calm := by
  simp only [State.cableRetry]; repeat' split
  all_goals simp

@[simp] theorem State.firmwareErrs_calm (s : State) : (State.firmwareErrs s).calm = s.calm := by
  simp only [State.firmwareErrs]; repeat' split
  all_goals simp

end Sys2Proof.Machine
end

