-- ==== Sys2Proof/Laws/CalmFlash.lean ====
section
/-! SUPPORT. What the operations of Machine/Flash.lean leave alone. -/

namespace Sys2Proof.Machine

@[simp] theorem State.modStore_calm (s : State) (g : Store → Store) : (State.modStore s g).calm = s.calm := by
  rfl

@[simp] theorem State.countRead_calm (s : State) (res : FlashRead) : (State.countRead s res).calm = s.calm := by
  simp only [State.countRead]; repeat' split
  all_goals simp

@[simp] theorem State.decodeRead_calm (s : State) (block : Nat) (res : FlashRead) : (State.decodeRead s block res).calm = s.calm := by
  simp [State.decodeRead, apply_ite State.calm]

@[simp] theorem State.loseFlashPage_calm (s : State) (f page : Nat) : (State.loseFlashPage s f page).calm = s.calm := by
  simp only [State.loseFlashPage]; repeat' split
  all_goals simp

@[simp] theorem State.storeReadEnd_calm (s : State) (x : StoreRead) (res : FlashRead) : (State.storeReadEnd s x res).calm = s.calm := by
  simp only [State.storeReadEnd]; repeat' split
  all_goals simp

@[simp] theorem State.loseSite_calm (s : State) (site : FlashSite) : (State.loseSite s site).calm = s.calm := by
  simp only [State.loseSite]; repeat' split
  all_goals simp

@[simp] theorem State.scrubMark_calm (s : State) (site : FlashSite) : (State.scrubMark s site).calm = s.calm := by
  simp [State.scrubMark, apply_ite State.calm]

@[simp] theorem State.scrubSite_calm (s : State) (block : Nat) (site : FlashSite) (res : FlashRead) : (State.scrubSite s block site res).calm = s.calm := by
  simp [State.scrubSite, apply_ite State.calm]

@[simp] theorem State.movePages_calm (s : State) (b : Nat) : (State.movePages s b).calm = s.calm := by
  rfl

@[simp] theorem State.refreshEnd_calm (s : State) (b : Nat) (complete : Bool) : (State.refreshEnd s b complete).calm = s.calm := by
  simp [State.refreshEnd, apply_ite State.calm]

@[simp] theorem State.programMove_calm (s : State) (block : Nat) : (State.programMove s block).calm = s.calm := by
  unfold State.programMove; repeat' split
  all_goals first | (simp [apply_ite State.calm]; done) | (rename_i h; have h' := congrArg (fun x => State.calm x.1) h; simp [apply_ite State.calm] at h'; simp [h', apply_ite State.calm])

@[simp] theorem State.flushRead_calm (s : State) (res : FlashRead) : (State.flushRead s res).calm = s.calm := by
  simp [State.flushRead, apply_ite State.calm]

end Sys2Proof.Machine
end

