-- ==== Sys2Proof/Laws/CalmBoot.lean ====
section
/-! SUPPORT. What the operations of Machine/Boot.lean leave alone. -/

namespace Sys2Proof.Machine

@[simp] theorem State.replayItems_calm (n : Nat) (s : State)  : (State.replayItems n s ).calm = s.calm := by
  induction n generalizing s  with
  | zero => rfl
  | succ n ih =>
    simp [State.replayItems, ih]

@[simp] theorem State.discardImage_calm (s : State) (items : List StageItem) : (State.discardImage s items).calm = s.calm := by
  unfold State.discardImage; refine (foldl_calm _ _ _ (fun s a => ?_)).trans ?_ <;> repeat' split
  all_goals simp [apply_ite State.calm]

@[simp] theorem State.eraseFlush_calm (s : State) : (State.eraseFlush s).calm = s.calm := by
  simp [State.eraseFlush]

@[simp] theorem State.bootFlush_calm (s : State) : (State.bootFlush s).calm = s.calm := by
  simp only [State.bootFlush]; repeat' split
  all_goals simp

@[simp] theorem State.bootStore_calm (s : State) : (State.bootStore s).calm = s.calm := by
  simp [State.bootStore]

@[simp] theorem State.refuseSlot_calm (s : State) (k : Nat) : (State.refuseSlot s k).calm = s.calm := by
  rfl

@[simp] theorem State.endTrial_calm (s : State) : (State.endTrial s).calm = s.calm := by
  simp only [State.endTrial]; repeat' split
  all_goals simp

@[simp] theorem State.bootFormat_calm (s : State) (k : Nat) : (State.bootFormat s k).calm = s.calm := by
  simp [State.bootFormat, apply_ite State.calm]

@[simp] theorem State.confirmBoot_calm (s : State) (k : Nat) : (State.confirmBoot s k).calm = s.calm := by
  simp [State.confirmBoot, apply_ite State.calm]

@[simp] theorem State.measureBoot_calm (s : State) (k : Nat) : (State.measureBoot s k).calm = s.calm := by
  rfl

@[simp] theorem State.bootSlot_calm (s : State) (k : Nat) : (State.bootSlot s k).calm = s.calm := by
  simp [State.bootSlot]

@[simp] theorem State.restoreRegions_calm (s : State) (recs : Tbl Nat) : (State.restoreRegions s recs).calm = s.calm := by
  simp [State.restoreRegions, apply_ite State.calm]

@[simp] theorem State.restoreEffect_calm (s : State) (key v : Nat) : (State.restoreEffect s key v).calm = s.calm := by
  simp only [State.restoreEffect]; repeat' split
  all_goals simp

@[simp] theorem State.applyRecord_calm (s : State) (e : Nat × Nat) : (State.applyRecord s e).calm = s.calm := by
  simp [State.applyRecord]

@[simp] theorem State.putValues_calm (s : State) (l : Tbl Nat) : (State.putValues s l).calm = s.calm := by
  rfl

@[simp] theorem State.restoreUsers_calm (s : State) (recs : Tbl Nat) : (State.restoreUsers s recs).calm = s.calm := by
  rfl

@[simp] theorem State.restoreFault_calm (s : State) (lost : Bool) : (State.restoreFault s lost).calm = s.calm := by
  simp [State.restoreFault, apply_ite State.calm]

@[simp] theorem State.restore_calm (s : State) : (State.restore s).calm = s.calm := by
  simp [State.restore]

@[simp] theorem State.bootFaults_calm (s : State) : (State.bootFaults s).calm = s.calm := by
  simp only [State.bootFaults]; repeat' split
  all_goals simp

@[simp] theorem State.bootSrec_calm (s : State) : (State.bootSrec s).calm = s.calm := by
  simp [State.bootSrec, apply_ite State.calm]

end Sys2Proof.Machine
end

