-- ==== Sys2Proof/Laws/Tables.lean ====
section
/-! SUPPORT. Reading a sparse table after a write, and the canonical forms of tables and byte memory. -/

namespace Sys2Proof.Machine

@[simp] theorem Tbl.get?_put_same {α : Type} (t : Tbl α) (k : Nat) (v : α) : Tbl.get? (Tbl.put t k v) k = some v := by
  induction t with
  | nil => simp [Tbl.put, Tbl.get?]
  | cons e r ih =>
    obtain ⟨j, u⟩ := e
    simp only [Tbl.put]
    split
    · simp [Tbl.get?]
    · split <;> simp_all [Tbl.get?]

theorem Tbl.get?_put_other {α : Type} (t : Tbl α) {k j : Nat} (v : α) (h : j ≠ k) :
    Tbl.get? (Tbl.put t k v) j = Tbl.get? t j := by
  have h' : k ≠ j := Ne.symm h
  induction t with
  | nil => simp [Tbl.put, Tbl.get?, h']
  | cons e r ih =>
    obtain ⟨i, u⟩ := e
    simp only [Tbl.put]
    split
    · next hi => subst hi; simp [Tbl.get?, h']
    · split
      · simp [Tbl.get?, h']
      · simp [Tbl.get?, ih]

@[simp] theorem Tbl.getD_put_same {α : Type} (t : Tbl α) (k : Nat) (v d : α) : Tbl.getD (Tbl.put t k v) k d = v := by
  simp [Tbl.getD]

theorem Tbl.getD_put_other {α : Type} (t : Tbl α) {k j : Nat} (v d : α) (h : j ≠ k) :
    Tbl.getD (Tbl.put t k v) j d = Tbl.getD t j d := by
  simp [Tbl.getD, Tbl.get?_put_other t v h]

theorem Tbl.getD_put {α : Type} (t : Tbl α) (k j : Nat) (v d : α) :
    Tbl.getD (Tbl.put t k v) j d = if j = k then v else Tbl.getD t j d := by
  split
  · next h => subst h; simp
  · next h => exact Tbl.getD_put_other t v d h

@[simp] theorem Tbl.get?_del_same {α : Type} (t : Tbl α) (k : Nat) : Tbl.get? (Tbl.del t k) k = none := by
  induction t with
  | nil => rfl
  | cons e r ih =>
    obtain ⟨j, u⟩ := e
    by_cases h : j = k
    · simpa [Tbl.del, h] using ih
    · simpa [Tbl.del, h, Tbl.get?] using ih

theorem Tbl.get?_del_other {α : Type} (t : Tbl α) {k j : Nat} (h : j ≠ k) : Tbl.get? (Tbl.del t k) j = Tbl.get? t j := by
  induction t with
  | nil => rfl
  | cons e r ih =>
    obtain ⟨i, u⟩ := e
    by_cases hi : i = k
    · simpa [Tbl.del, hi, Tbl.get?, Ne.symm h] using ih
    · by_cases hj : i = j
      · simp [Tbl.del, hi, Tbl.get?, hj, h]
      · simpa [Tbl.del, hi, Tbl.get?, hj] using ih

theorem Tbl.get?_modify {α : Type} (t : Tbl α) (k : Nat) (f : α → α) (j : Nat) :
    Tbl.get? (Tbl.modify t k f) j = if j = k then (Tbl.get? t j).map f else Tbl.get? t j := by
  induction t with
  | nil => simp [Tbl.modify, Tbl.get?]
  | cons e r ih =>
    obtain ⟨i, u⟩ := e
    simp only [Tbl.modify, List.map_cons] at ih ⊢
    by_cases hi : i = k
    · by_cases hj : i = j
      · simp [hi, Tbl.get?, ← hj]
      · simpa [hi, Tbl.get?, show ¬ k = j from fun h => hj (hi.trans h), show ¬ j = k from fun h => hj (hi.trans h.symm)] using ih
    · by_cases hj : i = j
      · subst hj; simp [hi, Tbl.get?]
      · simpa [hi, Tbl.get?, hj] using ih

/-- Keys listed after a put: the one put, and those listed before. -/
theorem Tbl.mem_put {α : Type} {t : Tbl α} {k : Nat} {v : α} {e : Nat × α} (h : e ∈ Tbl.put t k v) : e = (k, v) ∨ e ∈ t := by
  induction t with
  | nil => simp only [Tbl.put, List.mem_singleton] at h; exact .inl h
  | cons x r ih =>
    obtain ⟨j, u⟩ := x
    simp only [Tbl.put] at h
    split at h
    · rcases List.mem_cons.mp h with h | h
      · exact .inl h
      · exact .inr (List.mem_cons_of_mem _ h)
    · split at h
      · rcases List.mem_cons.mp h with h | h
        · exact .inl h
        · exact .inr h
      · rcases List.mem_cons.mp h with h | h
        · exact .inr (h ▸ List.mem_cons_self ..)
        · exact (ih h).imp id (List.mem_cons_of_mem _)

/-- A put keeps a table's keys strictly rising. -/
theorem Tbl.wf_put {α : Type} {t : Tbl α} (k : Nat) (v : α) (h : Tbl.wf t) : Tbl.wf (Tbl.put t k v) := by
  induction t with
  | nil => simp [Tbl.put, Tbl.wf]
  | cons e r ih =>
    obtain ⟨j, u⟩ := e
    simp only [Tbl.wf, List.pairwise_cons] at h ih ⊢
    simp only [Tbl.put]
    split
    · next hj => subst hj; simp only [List.pairwise_cons]; exact h
    · split
      · next hj hk =>
        simp only [List.pairwise_cons, List.mem_cons]
        refine ⟨?_, h⟩
        rintro a (rfl | ha)
        · exact hk
        · exact Nat.lt_trans hk (h.1 a ha)
      · next hj hk =>
        simp only [List.pairwise_cons]
        refine ⟨?_, ih h.2⟩
        intro a ha
        rcases Tbl.mem_put ha with rfl | ha
        · show j < k; omega
        · exact h.1 a ha

theorem Tbl.wf_del {α : Type} {t : Tbl α} (k : Nat) (h : Tbl.wf t) : Tbl.wf (Tbl.del t k) := List.Pairwise.filter _ h

/-- Byte memory stays in its canonical form under a write of one byte and of a byte string. -/
theorem Mem.wf_put {m : Mem} (a : Nat) (b : Byte) (h : Mem.wf m) : Mem.wf (Mem.put m a b) := by
  simp only [Mem.put]
  split
  · exact ⟨Tbl.wf_del a h.1, fun e he => h.2 e (List.mem_filter.mp he).1⟩
  · next hb =>
    refine ⟨Tbl.wf_put a b h.1, fun e he => ?_⟩
    rcases Tbl.mem_put he with rfl | he
    · exact hb
    · exact h.2 e he

theorem Mem.wf_write (bs : List Byte) {m : Mem} (a : Nat) (h : Mem.wf m) : Mem.wf (Mem.write m a bs) := by
  induction bs generalizing m a with
  | nil => exact h
  | cons b r ih => exact ih (a + 1) (Mem.wf_put a b h)

/-- A byte written is the byte read, and no other byte changes. -/
theorem Mem.byte_put (m : Mem) (a c : Nat) (b : Byte) : Mem.byte (Mem.put m a b) c = if c = a then b else Mem.byte m c := by
  simp only [Mem.put, Mem.byte, Tbl.getD]
  by_cases hc : c = a
  · subst hc; split
    · next h => simp [h]
    · simp
  · split
    · simp [Tbl.get?_del_other m hc, hc]
    · simp [Tbl.get?_put_other m b hc, hc]

end Sys2Proof.Machine
end

