-- ==== Sys2Proof/Laws/State.lean ====
section
/-! SUPPORT. What each update of State.lean's parts leaves in every field, and what its accessor then reads. -/

namespace Sys2Proof.Machine

variable (s : State)

/-! ### modHost -/

@[simp] theorem State.modHost_pending (h : Nat) (f : HostPort → HostPort) : (s.modHost h f).pending = s.pending := rfl
@[simp] theorem State.modHost_now (h : Nat) (f : HostPort → HostPort) : (s.modHost h f).now = s.now := rfl
@[simp] theorem State.modHost_etNow (h : Nat) (f : HostPort → HostPort) : (s.modHost h f).etNow = s.etNow := rfl
@[simp] theorem State.modHost_free (h : Nat) (f : HostPort → HostPort) : (s.modHost h f).free = s.free := rfl
@[simp] theorem State.modHost_nextTag (h : Nat) (f : HostPort → HostPort) : (s.modHost h f).nextTag = s.nextTag := rfl
@[simp] theorem State.modHost_arch (h : Nat) (f : HostPort → HostPort) : (s.modHost h f).arch = s.arch := rfl
@[simp] theorem State.modHost_fns (h : Nat) (f : HostPort → HostPort) : (s.modHost h f).fns = s.fns := rfl
@[simp] theorem State.modHost_eqs (h : Nat) (f : HostPort → HostPort) : (s.modHost h f).eqs = s.eqs := rfl
@[simp] theorem State.modHost_ctxs (h : Nat) (f : HostPort → HostPort) : (s.modHost h f).ctxs = s.ctxs := rfl
@[simp] theorem State.modHost_ets (h : Nat) (f : HostPort → HostPort) : (s.modHost h f).ets = s.ets := rfl
@[simp] theorem State.modHost_reads (h : Nat) (f : HostPort → HostPort) : (s.modHost h f).reads = s.reads := rfl
@[simp] theorem State.modHost_walks (h : Nat) (f : HostPort → HostPort) : (s.modHost h f).walks = s.walks := rfl
@[simp] theorem State.modHost_mctxs (h : Nat) (f : HostPort → HostPort) : (s.modHost h f).mctxs = s.mctxs := rfl
@[simp] theorem State.modHost_wins (h : Nat) (f : HostPort → HostPort) : (s.modHost h f).wins = s.wins := rfl
@[simp] theorem State.modHost_acu (h : Nat) (f : HostPort → HostPort) : (s.modHost h f).acu = s.acu := rfl
@[simp] theorem State.modHost_priv (h : Nat) (f : HostPort → HostPort) : (s.modHost h f).priv = s.priv := rfl
@[simp] theorem State.modHost_sems (h : Nat) (f : HostPort → HostPort) : (s.modHost h f).sems = s.sems := rfl
@[simp] theorem State.modHost_nextTicket (h : Nat) (f : HostPort → HostPort) : (s.modHost h f).nextTicket = s.nextTicket := rfl
@[simp] theorem State.modHost_links (h : Nat) (f : HostPort → HostPort) : (s.modHost h f).links = s.links := rfl
@[simp] theorem State.modHost_portqs (h : Nat) (f : HostPort → HostPort) : (s.modHost h f).portqs = s.portqs := rfl
@[simp] theorem State.modHost_tports (h : Nat) (f : HostPort → HostPort) : (s.modHost h f).tports = s.tports := rfl
@[simp] theorem State.modHost_gates (h : Nat) (f : HostPort → HostPort) : (s.modHost h f).gates = s.gates := rfl
@[simp] theorem State.modHost_pts (h : Nat) (f : HostPort → HostPort) : (s.modHost h f).pts = s.pts := rfl
@[simp] theorem State.modHost_quiet (h : Nat) (f : HostPort → HostPort) : (s.modHost h f).quiet = s.quiet := rfl
@[simp] theorem State.modHost_time (h : Nat) (f : HostPort → HostPort) : (s.modHost h f).time = s.time := rfl
@[simp] theorem State.modHost_trees (h : Nat) (f : HostPort → HostPort) : (s.modHost h f).trees = s.trees := rfl
@[simp] theorem State.modHost_collCounts (h : Nat) (f : HostPort → HostPort) : (s.modHost h f).collCounts = s.collCounts := rfl
@[simp] theorem State.modHost_keepAt (h : Nat) (f : HostPort → HostPort) : (s.modHost h f).keepAt = s.keepAt := rfl
@[simp] theorem State.modHost_dict (h : Nat) (f : HostPort → HostPort) : (s.modHost h f).dict = s.dict := rfl
@[simp] theorem State.modHost_mode (h : Nat) (f : HostPort → HostPort) : (s.modHost h f).mode = s.mode := rfl
@[simp] theorem State.modHost_sup (h : Nat) (f : HostPort → HostPort) : (s.modHost h f).sup = s.sup := rfl
@[simp] theorem State.modHost_faults (h : Nat) (f : HostPort → HostPort) : (s.modHost h f).faults = s.faults := rfl
@[simp] theorem State.modHost_ctrs (h : Nat) (f : HostPort → HostPort) : (s.modHost h f).ctrs = s.ctrs := rfl
@[simp] theorem State.modHost_store (h : Nat) (f : HostPort → HostPort) : (s.modHost h f).store = s.store := rfl
@[simp] theorem State.modHost_fw (h : Nat) (f : HostPort → HostPort) : (s.modHost h f).fw = s.fw := rfl
@[simp] theorem State.modHost_out (h : Nat) (f : HostPort → HostPort) : (s.modHost h f).out = s.out := rfl

/-! ### modFn -/

@[simp] theorem State.modFn_pending (f : Nat) (g : Fn → Fn) : (s.modFn f g).pending = s.pending := rfl
@[simp] theorem State.modFn_now (f : Nat) (g : Fn → Fn) : (s.modFn f g).now = s.now := rfl
@[simp] theorem State.modFn_etNow (f : Nat) (g : Fn → Fn) : (s.modFn f g).etNow = s.etNow := rfl
@[simp] theorem State.modFn_free (f : Nat) (g : Fn → Fn) : (s.modFn f g).free = s.free := rfl
@[simp] theorem State.modFn_nextTag (f : Nat) (g : Fn → Fn) : (s.modFn f g).nextTag = s.nextTag := rfl
@[simp] theorem State.modFn_arch (f : Nat) (g : Fn → Fn) : (s.modFn f g).arch = s.arch := rfl
@[simp] theorem State.modFn_hosts (f : Nat) (g : Fn → Fn) : (s.modFn f g).hosts = s.hosts := rfl
@[simp] theorem State.modFn_eqs (f : Nat) (g : Fn → Fn) : (s.modFn f g).eqs = s.eqs := rfl
@[simp] theorem State.modFn_ctxs (f : Nat) (g : Fn → Fn) : (s.modFn f g).ctxs = s.ctxs := rfl
@[simp] theorem State.modFn_ets (f : Nat) (g : Fn → Fn) : (s.modFn f g).ets = s.ets := rfl
@[simp] theorem State.modFn_reads (f : Nat) (g : Fn → Fn) : (s.modFn f g).reads = s.reads := rfl
@[simp] theorem State.modFn_walks (f : Nat) (g : Fn → Fn) : (s.modFn f g).walks = s.walks := rfl
@[simp] theorem State.modFn_mctxs (f : Nat) (g : Fn → Fn) : (s.modFn f g).mctxs = s.mctxs := rfl
@[simp] theorem State.modFn_wins (f : Nat) (g : Fn → Fn) : (s.modFn f g).wins = s.wins := rfl
@[simp] theorem State.modFn_acu (f : Nat) (g : Fn → Fn) : (s.modFn f g).acu = s.acu := rfl
@[simp] theorem State.modFn_priv (f : Nat) (g : Fn → Fn) : (s.modFn f g).priv = s.priv := rfl
@[simp] theorem State.modFn_sems (f : Nat) (g : Fn → Fn) : (s.modFn f g).sems = s.sems := rfl
@[simp] theorem State.modFn_nextTicket (f : Nat) (g : Fn → Fn) : (s.modFn f g).nextTicket = s.nextTicket := rfl
@[simp] theorem State.modFn_links (f : Nat) (g : Fn → Fn) : (s.modFn f g).links = s.links := rfl
@[simp] theorem State.modFn_portqs (f : Nat) (g : Fn → Fn) : (s.modFn f g).portqs = s.portqs := rfl
@[simp] theorem State.modFn_tports (f : Nat) (g : Fn → Fn) : (s.modFn f g).tports = s.tports := rfl
@[simp] theorem State.modFn_gates (f : Nat) (g : Fn → Fn) : (s.modFn f g).gates = s.gates := rfl
@[simp] theorem State.modFn_pts (f : Nat) (g : Fn → Fn) : (s.modFn f g).pts = s.pts := rfl
@[simp] theorem State.modFn_quiet (f : Nat) (g : Fn → Fn) : (s.modFn f g).quiet = s.quiet := rfl
@[simp] theorem State.modFn_time (f : Nat) (g : Fn → Fn) : (s.modFn f g).time = s.time := rfl
@[simp] theorem State.modFn_trees (f : Nat) (g : Fn → Fn) : (s.modFn f g).trees = s.trees := rfl
@[simp] theorem State.modFn_collCounts (f : Nat) (g : Fn → Fn) : (s.modFn f g).collCounts = s.collCounts := rfl
@[simp] theorem State.modFn_keepAt (f : Nat) (g : Fn → Fn) : (s.modFn f g).keepAt = s.keepAt := rfl
@[simp] theorem State.modFn_dict (f : Nat) (g : Fn → Fn) : (s.modFn f g).dict = s.dict := rfl
@[simp] theorem State.modFn_mode (f : Nat) (g : Fn → Fn) : (s.modFn f g).mode = s.mode := rfl
@[simp] theorem State.modFn_sup (f : Nat) (g : Fn → Fn) : (s.modFn f g).sup = s.sup := rfl
@[simp] theorem State.modFn_faults (f : Nat) (g : Fn → Fn) : (s.modFn f g).faults = s.faults := rfl
@[simp] theorem State.modFn_ctrs (f : Nat) (g : Fn → Fn) : (s.modFn f g).ctrs = s.ctrs := rfl
@[simp] theorem State.modFn_store (f : Nat) (g : Fn → Fn) : (s.modFn f g).store = s.store := rfl
@[simp] theorem State.modFn_fw (f : Nat) (g : Fn → Fn) : (s.modFn f g).fw = s.fw := rfl
@[simp] theorem State.modFn_out (f : Nat) (g : Fn → Fn) : (s.modFn f g).out = s.out := rfl

/-! ### modCtx -/

@[simp] theorem State.modCtx_pending (f c : Nat) (g : CtxAll → CtxAll) : (s.modCtx f c g).pending = s.pending := rfl
@[simp] theorem State.modCtx_now (f c : Nat) (g : CtxAll → CtxAll) : (s.modCtx f c g).now = s.now := rfl
@[simp] theorem State.modCtx_etNow (f c : Nat) (g : CtxAll → CtxAll) : (s.modCtx f c g).etNow = s.etNow := rfl
@[simp] theorem State.modCtx_free (f c : Nat) (g : CtxAll → CtxAll) : (s.modCtx f c g).free = s.free := rfl
@[simp] theorem State.modCtx_nextTag (f c : Nat) (g : CtxAll → CtxAll) : (s.modCtx f c g).nextTag = s.nextTag := rfl
@[simp] theorem State.modCtx_arch (f c : Nat) (g : CtxAll → CtxAll) : (s.modCtx f c g).arch = s.arch := rfl
@[simp] theorem State.modCtx_hosts (f c : Nat) (g : CtxAll → CtxAll) : (s.modCtx f c g).hosts = s.hosts := rfl
@[simp] theorem State.modCtx_fns (f c : Nat) (g : CtxAll → CtxAll) : (s.modCtx f c g).fns = s.fns := rfl
@[simp] theorem State.modCtx_eqs (f c : Nat) (g : CtxAll → CtxAll) : (s.modCtx f c g).eqs = s.eqs := rfl
@[simp] theorem State.modCtx_ets (f c : Nat) (g : CtxAll → CtxAll) : (s.modCtx f c g).ets = s.ets := rfl
@[simp] theorem State.modCtx_reads (f c : Nat) (g : CtxAll → CtxAll) : (s.modCtx f c g).reads = s.reads := rfl
@[simp] theorem State.modCtx_walks (f c : Nat) (g : CtxAll → CtxAll) : (s.modCtx f c g).walks = s.walks := rfl
@[simp] theorem State.modCtx_mctxs (f c : Nat) (g : CtxAll → CtxAll) : (s.modCtx f c g).mctxs = s.mctxs := rfl
@[simp] theorem State.modCtx_wins (f c : Nat) (g : CtxAll → CtxAll) : (s.modCtx f c g).wins = s.wins := rfl
@[simp] theorem State.modCtx_acu (f c : Nat) (g : CtxAll → CtxAll) : (s.modCtx f c g).acu = s.acu := rfl
@[simp] theorem State.modCtx_priv (f c : Nat) (g : CtxAll → CtxAll) : (s.modCtx f c g).priv = s.priv := rfl
@[simp] theorem State.modCtx_sems (f c : Nat) (g : CtxAll → CtxAll) : (s.modCtx f c g).sems = s.sems := rfl
@[simp] theorem State.modCtx_nextTicket (f c : Nat) (g : CtxAll → CtxAll) : (s.modCtx f c g).nextTicket = s.nextTicket := rfl
@[simp] theorem State.modCtx_links (f c : Nat) (g : CtxAll → CtxAll) : (s.modCtx f c g).links = s.links := rfl
@[simp] theorem State.modCtx_portqs (f c : Nat) (g : CtxAll → CtxAll) : (s.modCtx f c g).portqs = s.portqs := rfl
@[simp] theorem State.modCtx_tports (f c : Nat) (g : CtxAll → CtxAll) : (s.modCtx f c g).tports = s.tports := rfl
@[simp] theorem State.modCtx_gates (f c : Nat) (g : CtxAll → CtxAll) : (s.modCtx f c g).gates = s.gates := rfl
@[simp] theorem State.modCtx_pts (f c : Nat) (g : CtxAll → CtxAll) : (s.modCtx f c g).pts = s.pts := rfl
@[simp] theorem State.modCtx_quiet (f c : Nat) (g : CtxAll → CtxAll) : (s.modCtx f c g).quiet = s.quiet := rfl
@[simp] theorem State.modCtx_time (f c : Nat) (g : CtxAll → CtxAll) : (s.modCtx f c g).time = s.time := rfl
@[simp] theorem State.modCtx_trees (f c : Nat) (g : CtxAll → CtxAll) : (s.modCtx f c g).trees = s.trees := rfl
@[simp] theorem State.modCtx_collCounts (f c : Nat) (g : CtxAll → CtxAll) : (s.modCtx f c g).collCounts = s.collCounts := rfl
@[simp] theorem State.modCtx_keepAt (f c : Nat) (g : CtxAll → CtxAll) : (s.modCtx f c g).keepAt = s.keepAt := rfl
@[simp] theorem State.modCtx_dict (f c : Nat) (g : CtxAll → CtxAll) : (s.modCtx f c g).dict = s.dict := rfl
@[simp] theorem State.modCtx_mode (f c : Nat) (g : CtxAll → CtxAll) : (s.modCtx f c g).mode = s.mode := rfl
@[simp] theorem State.modCtx_sup (f c : Nat) (g : CtxAll → CtxAll) : (s.modCtx f c g).sup = s.sup := rfl
@[simp] theorem State.modCtx_faults (f c : Nat) (g : CtxAll → CtxAll) : (s.modCtx f c g).faults = s.faults := rfl
@[simp] theorem State.modCtx_ctrs (f c : Nat) (g : CtxAll → CtxAll) : (s.modCtx f c g).ctrs = s.ctrs := rfl
@[simp] theorem State.modCtx_store (f c : Nat) (g : CtxAll → CtxAll) : (s.modCtx f c g).store = s.store := rfl
@[simp] theorem State.modCtx_fw (f c : Nat) (g : CtxAll → CtxAll) : (s.modCtx f c g).fw = s.fw := rfl
@[simp] theorem State.modCtx_out (f c : Nat) (g : CtxAll → CtxAll) : (s.modCtx f c g).out = s.out := rfl

/-! ### modC -/

@[simp] theorem State.modC_pending (f c : Nat) (g : Ctx → Ctx) : (s.modC f c g).pending = s.pending := rfl
@[simp] theorem State.modC_now (f c : Nat) (g : Ctx → Ctx) : (s.modC f c g).now = s.now := rfl
@[simp] theorem State.modC_etNow (f c : Nat) (g : Ctx → Ctx) : (s.modC f c g).etNow = s.etNow := rfl
@[simp] theorem State.modC_free (f c : Nat) (g : Ctx → Ctx) : (s.modC f c g).free = s.free := rfl
@[simp] theorem State.modC_nextTag (f c : Nat) (g : Ctx → Ctx) : (s.modC f c g).nextTag = s.nextTag := rfl
@[simp] theorem State.modC_arch (f c : Nat) (g : Ctx → Ctx) : (s.modC f c g).arch = s.arch := rfl
@[simp] theorem State.modC_hosts (f c : Nat) (g : Ctx → Ctx) : (s.modC f c g).hosts = s.hosts := rfl
@[simp] theorem State.modC_fns (f c : Nat) (g : Ctx → Ctx) : (s.modC f c g).fns = s.fns := rfl
@[simp] theorem State.modC_eqs (f c : Nat) (g : Ctx → Ctx) : (s.modC f c g).eqs = s.eqs := rfl
@[simp] theorem State.modC_ets (f c : Nat) (g : Ctx → Ctx) : (s.modC f c g).ets = s.ets := rfl
@[simp] theorem State.modC_reads (f c : Nat) (g : Ctx → Ctx) : (s.modC f c g).reads = s.reads := rfl
@[simp] theorem State.modC_walks (f c : Nat) (g : Ctx → Ctx) : (s.modC f c g).walks = s.walks := rfl
@[simp] theorem State.modC_mctxs (f c : Nat) (g : Ctx → Ctx) : (s.modC f c g).mctxs = s.mctxs := rfl
@[simp] theorem State.modC_wins (f c : Nat) (g : Ctx → Ctx) : (s.modC f c g).wins = s.wins := rfl
@[simp] theorem State.modC_acu (f c : Nat) (g : Ctx → Ctx) : (s.modC f c g).acu = s.acu := rfl
@[simp] theorem State.modC_priv (f c : Nat) (g : Ctx → Ctx) : (s.modC f c g).priv = s.priv := rfl
@[simp] theorem State.modC_sems (f c : Nat) (g : Ctx → Ctx) : (s.modC f c g).sems = s.sems := rfl
@[simp] theorem State.modC_nextTicket (f c : Nat) (g : Ctx → Ctx) : (s.modC f c g).nextTicket = s.nextTicket := rfl
@[simp] theorem State.modC_links (f c : Nat) (g : Ctx → Ctx) : (s.modC f c g).links = s.links := rfl
@[simp] theorem State.modC_portqs (f c : Nat) (g : Ctx → Ctx) : (s.modC f c g).portqs = s.portqs := rfl
@[simp] theorem State.modC_tports (f c : Nat) (g : Ctx → Ctx) : (s.modC f c g).tports = s.tports := rfl
@[simp] theorem State.modC_gates (f c : Nat) (g : Ctx → Ctx) : (s.modC f c g).gates = s.gates := rfl
@[simp] theorem State.modC_pts (f c : Nat) (g : Ctx → Ctx) : (s.modC f c g).pts = s.pts := rfl
@[simp] theorem State.modC_quiet (f c : Nat) (g : Ctx → Ctx) : (s.modC f c g).quiet = s.quiet := rfl
@[simp] theorem State.modC_time (f c : Nat) (g : Ctx → Ctx) : (s.modC f c g).time = s.time := rfl
@[simp] theorem State.modC_trees (f c : Nat) (g : Ctx → Ctx) : (s.modC f c g).trees = s.trees := rfl
@[simp] theorem State.modC_collCounts (f c : Nat) (g : Ctx → Ctx) : (s.modC f c g).collCounts = s.collCounts := rfl
@[simp] theorem State.modC_keepAt (f c : Nat) (g : Ctx → Ctx) : (s.modC f c g).keepAt = s.keepAt := rfl
@[simp] theorem State.modC_dict (f c : Nat) (g : Ctx → Ctx) : (s.modC f c g).dict = s.dict := rfl
@[simp] theorem State.modC_mode (f c : Nat) (g : Ctx → Ctx) : (s.modC f c g).mode = s.mode := rfl
@[simp] theorem State.modC_sup (f c : Nat) (g : Ctx → Ctx) : (s.modC f c g).sup = s.sup := rfl
@[simp] theorem State.modC_faults (f c : Nat) (g : Ctx → Ctx) : (s.modC f c g).faults = s.faults := rfl
@[simp] theorem State.modC_ctrs (f c : Nat) (g : Ctx → Ctx) : (s.modC f c g).ctrs = s.ctrs := rfl
@[simp] theorem State.modC_store (f c : Nat) (g : Ctx → Ctx) : (s.modC f c g).store = s.store := rfl
@[simp] theorem State.modC_fw (f c : Nat) (g : Ctx → Ctx) : (s.modC f c g).fw = s.fw := rfl
@[simp] theorem State.modC_out (f c : Nat) (g : Ctx → Ctx) : (s.modC f c g).out = s.out := rfl

/-! ### modW -/

@[simp] theorem State.modW_pending (f c : Nat) (g : CtxWork → CtxWork) : (s.modW f c g).pending = s.pending := rfl
@[simp] theorem State.modW_now (f c : Nat) (g : CtxWork → CtxWork) : (s.modW f c g).now = s.now := rfl
@[simp] theorem State.modW_etNow (f c : Nat) (g : CtxWork → CtxWork) : (s.modW f c g).etNow = s.etNow := rfl
@[simp] theorem State.modW_free (f c : Nat) (g : CtxWork → CtxWork) : (s.modW f c g).free = s.free := rfl
@[simp] theorem State.modW_nextTag (f c : Nat) (g : CtxWork → CtxWork) : (s.modW f c g).nextTag = s.nextTag := rfl
@[simp] theorem State.modW_arch (f c : Nat) (g : CtxWork → CtxWork) : (s.modW f c g).arch = s.arch := rfl
@[simp] theorem State.modW_hosts (f c : Nat) (g : CtxWork → CtxWork) : (s.modW f c g).hosts = s.hosts := rfl
@[simp] theorem State.modW_fns (f c : Nat) (g : CtxWork → CtxWork) : (s.modW f c g).fns = s.fns := rfl
@[simp] theorem State.modW_eqs (f c : Nat) (g : CtxWork → CtxWork) : (s.modW f c g).eqs = s.eqs := rfl
@[simp] theorem State.modW_ets (f c : Nat) (g : CtxWork → CtxWork) : (s.modW f c g).ets = s.ets := rfl
@[simp] theorem State.modW_reads (f c : Nat) (g : CtxWork → CtxWork) : (s.modW f c g).reads = s.reads := rfl
@[simp] theorem State.modW_walks (f c : Nat) (g : CtxWork → CtxWork) : (s.modW f c g).walks = s.walks := rfl
@[simp] theorem State.modW_mctxs (f c : Nat) (g : CtxWork → CtxWork) : (s.modW f c g).mctxs = s.mctxs := rfl
@[simp] theorem State.modW_wins (f c : Nat) (g : CtxWork → CtxWork) : (s.modW f c g).wins = s.wins := rfl
@[simp] theorem State.modW_acu (f c : Nat) (g : CtxWork → CtxWork) : (s.modW f c g).acu = s.acu := rfl
@[simp] theorem State.modW_priv (f c : Nat) (g : CtxWork → CtxWork) : (s.modW f c g).priv = s.priv := rfl
@[simp] theorem State.modW_sems (f c : Nat) (g : CtxWork → CtxWork) : (s.modW f c g).sems = s.sems := rfl
@[simp] theorem State.modW_nextTicket (f c : Nat) (g : CtxWork → CtxWork) : (s.modW f c g).nextTicket = s.nextTicket := rfl
@[simp] theorem State.modW_links (f c : Nat) (g : CtxWork → CtxWork) : (s.modW f c g).links = s.links := rfl
@[simp] theorem State.modW_portqs (f c : Nat) (g : CtxWork → CtxWork) : (s.modW f c g).portqs = s.portqs := rfl
@[simp] theorem State.modW_tports (f c : Nat) (g : CtxWork → CtxWork) : (s.modW f c g).tports = s.tports := rfl
@[simp] theorem State.modW_gates (f c : Nat) (g : CtxWork → CtxWork) : (s.modW f c g).gates = s.gates := rfl
@[simp] theorem State.modW_pts (f c : Nat) (g : CtxWork → CtxWork) : (s.modW f c g).pts = s.pts := rfl
@[simp] theorem State.modW_quiet (f c : Nat) (g : CtxWork → CtxWork) : (s.modW f c g).quiet = s.quiet := rfl
@[simp] theorem State.modW_time (f c : Nat) (g : CtxWork → CtxWork) : (s.modW f c g).time = s.time := rfl
@[simp] theorem State.modW_trees (f c : Nat) (g : CtxWork → CtxWork) : (s.modW f c g).trees = s.trees := rfl
@[simp] theorem State.modW_collCounts (f c : Nat) (g : CtxWork → CtxWork) : (s.modW f c g).collCounts = s.collCounts := rfl
@[simp] theorem State.modW_keepAt (f c : Nat) (g : CtxWork → CtxWork) : (s.modW f c g).keepAt = s.keepAt := rfl
@[simp] theorem State.modW_dict (f c : Nat) (g : CtxWork → CtxWork) : (s.modW f c g).dict = s.dict := rfl
@[simp] theorem State.modW_mode (f c : Nat) (g : CtxWork → CtxWork) : (s.modW f c g).mode = s.mode := rfl
@[simp] theorem State.modW_sup (f c : Nat) (g : CtxWork → CtxWork) : (s.modW f c g).sup = s.sup := rfl
@[simp] theorem State.modW_faults (f c : Nat) (g : CtxWork → CtxWork) : (s.modW f c g).faults = s.faults := rfl
@[simp] theorem State.modW_ctrs (f c : Nat) (g : CtxWork → CtxWork) : (s.modW f c g).ctrs = s.ctrs := rfl
@[simp] theorem State.modW_store (f c : Nat) (g : CtxWork → CtxWork) : (s.modW f c g).store = s.store := rfl
@[simp] theorem State.modW_fw (f c : Nat) (g : CtxWork → CtxWork) : (s.modW f c g).fw = s.fw := rfl
@[simp] theorem State.modW_out (f c : Nat) (g : CtxWork → CtxWork) : (s.modW f c g).out = s.out := rfl

/-! ### modM -/

@[simp] theorem State.modM_pending (f c : Nat) (g : CtxMatch → CtxMatch) : (s.modM f c g).pending = s.pending := rfl
@[simp] theorem State.modM_now (f c : Nat) (g : CtxMatch → CtxMatch) : (s.modM f c g).now = s.now := rfl
@[simp] theorem State.modM_etNow (f c : Nat) (g : CtxMatch → CtxMatch) : (s.modM f c g).etNow = s.etNow := rfl
@[simp] theorem State.modM_free (f c : Nat) (g : CtxMatch → CtxMatch) : (s.modM f c g).free = s.free := rfl
@[simp] theorem State.modM_nextTag (f c : Nat) (g : CtxMatch → CtxMatch) : (s.modM f c g).nextTag = s.nextTag := rfl
@[simp] theorem State.modM_arch (f c : Nat) (g : CtxMatch → CtxMatch) : (s.modM f c g).arch = s.arch := rfl
@[simp] theorem State.modM_hosts (f c : Nat) (g : CtxMatch → CtxMatch) : (s.modM f c g).hosts = s.hosts := rfl
@[simp] theorem State.modM_fns (f c : Nat) (g : CtxMatch → CtxMatch) : (s.modM f c g).fns = s.fns := rfl
@[simp] theorem State.modM_eqs (f c : Nat) (g : CtxMatch → CtxMatch) : (s.modM f c g).eqs = s.eqs := rfl
@[simp] theorem State.modM_ets (f c : Nat) (g : CtxMatch → CtxMatch) : (s.modM f c g).ets = s.ets := rfl
@[simp] theorem State.modM_reads (f c : Nat) (g : CtxMatch → CtxMatch) : (s.modM f c g).reads = s.reads := rfl
@[simp] theorem State.modM_walks (f c : Nat) (g : CtxMatch → CtxMatch) : (s.modM f c g).walks = s.walks := rfl
@[simp] theorem State.modM_mctxs (f c : Nat) (g : CtxMatch → CtxMatch) : (s.modM f c g).mctxs = s.mctxs := rfl
@[simp] theorem State.modM_wins (f c : Nat) (g : CtxMatch → CtxMatch) : (s.modM f c g).wins = s.wins := rfl
@[simp] theorem State.modM_acu (f c : Nat) (g : CtxMatch → CtxMatch) : (s.modM f c g).acu = s.acu := rfl
@[simp] theorem State.modM_priv (f c : Nat) (g : CtxMatch → CtxMatch) : (s.modM f c g).priv = s.priv := rfl
@[simp] theorem State.modM_sems (f c : Nat) (g : CtxMatch → CtxMatch) : (s.modM f c g).sems = s.sems := rfl
@[simp] theorem State.modM_nextTicket (f c : Nat) (g : CtxMatch → CtxMatch) : (s.modM f c g).nextTicket = s.nextTicket := rfl
@[simp] theorem State.modM_links (f c : Nat) (g : CtxMatch → CtxMatch) : (s.modM f c g).links = s.links := rfl
@[simp] theorem State.modM_portqs (f c : Nat) (g : CtxMatch → CtxMatch) : (s.modM f c g).portqs = s.portqs := rfl
@[simp] theorem State.modM_tports (f c : Nat) (g : CtxMatch → CtxMatch) : (s.modM f c g).tports = s.tports := rfl
@[simp] theorem State.modM_gates (f c : Nat) (g : CtxMatch → CtxMatch) : (s.modM f c g).gates = s.gates := rfl
@[simp] theorem State.modM_pts (f c : Nat) (g : CtxMatch → CtxMatch) : (s.modM f c g).pts = s.pts := rfl
@[simp] theorem State.modM_quiet (f c : Nat) (g : CtxMatch → CtxMatch) : (s.modM f c g).quiet = s.quiet := rfl
@[simp] theorem State.modM_time (f c : Nat) (g : CtxMatch → CtxMatch) : (s.modM f c g).time = s.time := rfl
@[simp] theorem State.modM_trees (f c : Nat) (g : CtxMatch → CtxMatch) : (s.modM f c g).trees = s.trees := rfl
@[simp] theorem State.modM_collCounts (f c : Nat) (g : CtxMatch → CtxMatch) : (s.modM f c g).collCounts = s.collCounts := rfl
@[simp] theorem State.modM_keepAt (f c : Nat) (g : CtxMatch → CtxMatch) : (s.modM f c g).keepAt = s.keepAt := rfl
@[simp] theorem State.modM_dict (f c : Nat) (g : CtxMatch → CtxMatch) : (s.modM f c g).dict = s.dict := rfl
@[simp] theorem State.modM_mode (f c : Nat) (g : CtxMatch → CtxMatch) : (s.modM f c g).mode = s.mode := rfl
@[simp] theorem State.modM_sup (f c : Nat) (g : CtxMatch → CtxMatch) : (s.modM f c g).sup = s.sup := rfl
@[simp] theorem State.modM_faults (f c : Nat) (g : CtxMatch → CtxMatch) : (s.modM f c g).faults = s.faults := rfl
@[simp] theorem State.modM_ctrs (f c : Nat) (g : CtxMatch → CtxMatch) : (s.modM f c g).ctrs = s.ctrs := rfl
@[simp] theorem State.modM_store (f c : Nat) (g : CtxMatch → CtxMatch) : (s.modM f c g).store = s.store := rfl
@[simp] theorem State.modM_fw (f c : Nat) (g : CtxMatch → CtxMatch) : (s.modM f c g).fw = s.fw := rfl
@[simp] theorem State.modM_out (f c : Nat) (g : CtxMatch → CtxMatch) : (s.modM f c g).out = s.out := rfl

/-! ### modEq -/

@[simp] theorem State.modEq_pending (f q : Nat) (g : EventQ → EventQ) : (s.modEq f q g).pending = s.pending := rfl
@[simp] theorem State.modEq_now (f q : Nat) (g : EventQ → EventQ) : (s.modEq f q g).now = s.now := rfl
@[simp] theorem State.modEq_etNow (f q : Nat) (g : EventQ → EventQ) : (s.modEq f q g).etNow = s.etNow := rfl
@[simp] theorem State.modEq_free (f q : Nat) (g : EventQ → EventQ) : (s.modEq f q g).free = s.free := rfl
@[simp] theorem State.modEq_nextTag (f q : Nat) (g : EventQ → EventQ) : (s.modEq f q g).nextTag = s.nextTag := rfl
@[simp] theorem State.modEq_arch (f q : Nat) (g : EventQ → EventQ) : (s.modEq f q g).arch = s.arch := rfl
@[simp] theorem State.modEq_hosts (f q : Nat) (g : EventQ → EventQ) : (s.modEq f q g).hosts = s.hosts := rfl
@[simp] theorem State.modEq_fns (f q : Nat) (g : EventQ → EventQ) : (s.modEq f q g).fns = s.fns := rfl
@[simp] theorem State.modEq_ctxs (f q : Nat) (g : EventQ → EventQ) : (s.modEq f q g).ctxs = s.ctxs := rfl
@[simp] theorem State.modEq_ets (f q : Nat) (g : EventQ → EventQ) : (s.modEq f q g).ets = s.ets := rfl
@[simp] theorem State.modEq_reads (f q : Nat) (g : EventQ → EventQ) : (s.modEq f q g).reads = s.reads := rfl
@[simp] theorem State.modEq_walks (f q : Nat) (g : EventQ → EventQ) : (s.modEq f q g).walks = s.walks := rfl
@[simp] theorem State.modEq_mctxs (f q : Nat) (g : EventQ → EventQ) : (s.modEq f q g).mctxs = s.mctxs := rfl
@[simp] theorem State.modEq_wins (f q : Nat) (g : EventQ → EventQ) : (s.modEq f q g).wins = s.wins := rfl
@[simp] theorem State.modEq_acu (f q : Nat) (g : EventQ → EventQ) : (s.modEq f q g).acu = s.acu := rfl
@[simp] theorem State.modEq_priv (f q : Nat) (g : EventQ → EventQ) : (s.modEq f q g).priv = s.priv := rfl
@[simp] theorem State.modEq_sems (f q : Nat) (g : EventQ → EventQ) : (s.modEq f q g).sems = s.sems := rfl
@[simp] theorem State.modEq_nextTicket (f q : Nat) (g : EventQ → EventQ) : (s.modEq f q g).nextTicket = s.nextTicket := rfl
@[simp] theorem State.modEq_links (f q : Nat) (g : EventQ → EventQ) : (s.modEq f q g).links = s.links := rfl
@[simp] theorem State.modEq_portqs (f q : Nat) (g : EventQ → EventQ) : (s.modEq f q g).portqs = s.portqs := rfl
@[simp] theorem State.modEq_tports (f q : Nat) (g : EventQ → EventQ) : (s.modEq f q g).tports = s.tports := rfl
@[simp] theorem State.modEq_gates (f q : Nat) (g : EventQ → EventQ) : (s.modEq f q g).gates = s.gates := rfl
@[simp] theorem State.modEq_pts (f q : Nat) (g : EventQ → EventQ) : (s.modEq f q g).pts = s.pts := rfl
@[simp] theorem State.modEq_quiet (f q : Nat) (g : EventQ → EventQ) : (s.modEq f q g).quiet = s.quiet := rfl
@[simp] theorem State.modEq_time (f q : Nat) (g : EventQ → EventQ) : (s.modEq f q g).time = s.time := rfl
@[simp] theorem State.modEq_trees (f q : Nat) (g : EventQ → EventQ) : (s.modEq f q g).trees = s.trees := rfl
@[simp] theorem State.modEq_collCounts (f q : Nat) (g : EventQ → EventQ) : (s.modEq f q g).collCounts = s.collCounts := rfl
@[simp] theorem State.modEq_keepAt (f q : Nat) (g : EventQ → EventQ) : (s.modEq f q g).keepAt = s.keepAt := rfl
@[simp] theorem State.modEq_dict (f q : Nat) (g : EventQ → EventQ) : (s.modEq f q g).dict = s.dict := rfl
@[simp] theorem State.modEq_mode (f q : Nat) (g : EventQ → EventQ) : (s.modEq f q g).mode = s.mode := rfl
@[simp] theorem State.modEq_sup (f q : Nat) (g : EventQ → EventQ) : (s.modEq f q g).sup = s.sup := rfl
@[simp] theorem State.modEq_faults (f q : Nat) (g : EventQ → EventQ) : (s.modEq f q g).faults = s.faults := rfl
@[simp] theorem State.modEq_ctrs (f q : Nat) (g : EventQ → EventQ) : (s.modEq f q g).ctrs = s.ctrs := rfl
@[simp] theorem State.modEq_store (f q : Nat) (g : EventQ → EventQ) : (s.modEq f q g).store = s.store := rfl
@[simp] theorem State.modEq_fw (f q : Nat) (g : EventQ → EventQ) : (s.modEq f q g).fw = s.fw := rfl
@[simp] theorem State.modEq_out (f q : Nat) (g : EventQ → EventQ) : (s.modEq f q g).out = s.out := rfl

/-! ### modEt -/

@[simp] theorem State.modEt_pending (n : Nat) (g : EtTile → EtTile) : (s.modEt n g).pending = s.pending := rfl
@[simp] theorem State.modEt_now (n : Nat) (g : EtTile → EtTile) : (s.modEt n g).now = s.now := rfl
@[simp] theorem State.modEt_etNow (n : Nat) (g : EtTile → EtTile) : (s.modEt n g).etNow = s.etNow := rfl
@[simp] theorem State.modEt_free (n : Nat) (g : EtTile → EtTile) : (s.modEt n g).free = s.free := rfl
@[simp] theorem State.modEt_nextTag (n : Nat) (g : EtTile → EtTile) : (s.modEt n g).nextTag = s.nextTag := rfl
@[simp] theorem State.modEt_arch (n : Nat) (g : EtTile → EtTile) : (s.modEt n g).arch = s.arch := rfl
@[simp] theorem State.modEt_hosts (n : Nat) (g : EtTile → EtTile) : (s.modEt n g).hosts = s.hosts := rfl
@[simp] theorem State.modEt_fns (n : Nat) (g : EtTile → EtTile) : (s.modEt n g).fns = s.fns := rfl
@[simp] theorem State.modEt_eqs (n : Nat) (g : EtTile → EtTile) : (s.modEt n g).eqs = s.eqs := rfl
@[simp] theorem State.modEt_ctxs (n : Nat) (g : EtTile → EtTile) : (s.modEt n g).ctxs = s.ctxs := rfl
@[simp] theorem State.modEt_reads (n : Nat) (g : EtTile → EtTile) : (s.modEt n g).reads = s.reads := rfl
@[simp] theorem State.modEt_walks (n : Nat) (g : EtTile → EtTile) : (s.modEt n g).walks = s.walks := rfl
@[simp] theorem State.modEt_mctxs (n : Nat) (g : EtTile → EtTile) : (s.modEt n g).mctxs = s.mctxs := rfl
@[simp] theorem State.modEt_wins (n : Nat) (g : EtTile → EtTile) : (s.modEt n g).wins = s.wins := rfl
@[simp] theorem State.modEt_acu (n : Nat) (g : EtTile → EtTile) : (s.modEt n g).acu = s.acu := rfl
@[simp] theorem State.modEt_priv (n : Nat) (g : EtTile → EtTile) : (s.modEt n g).priv = s.priv := rfl
@[simp] theorem State.modEt_sems (n : Nat) (g : EtTile → EtTile) : (s.modEt n g).sems = s.sems := rfl
@[simp] theorem State.modEt_nextTicket (n : Nat) (g : EtTile → EtTile) : (s.modEt n g).nextTicket = s.nextTicket := rfl
@[simp] theorem State.modEt_links (n : Nat) (g : EtTile → EtTile) : (s.modEt n g).links = s.links := rfl
@[simp] theorem State.modEt_portqs (n : Nat) (g : EtTile → EtTile) : (s.modEt n g).portqs = s.portqs := rfl
@[simp] theorem State.modEt_tports (n : Nat) (g : EtTile → EtTile) : (s.modEt n g).tports = s.tports := rfl
@[simp] theorem State.modEt_gates (n : Nat) (g : EtTile → EtTile) : (s.modEt n g).gates = s.gates := rfl
@[simp] theorem State.modEt_pts (n : Nat) (g : EtTile → EtTile) : (s.modEt n g).pts = s.pts := rfl
@[simp] theorem State.modEt_quiet (n : Nat) (g : EtTile → EtTile) : (s.modEt n g).quiet = s.quiet := rfl
@[simp] theorem State.modEt_time (n : Nat) (g : EtTile → EtTile) : (s.modEt n g).time = s.time := rfl
@[simp] theorem State.modEt_trees (n : Nat) (g : EtTile → EtTile) : (s.modEt n g).trees = s.trees := rfl
@[simp] theorem State.modEt_collCounts (n : Nat) (g : EtTile → EtTile) : (s.modEt n g).collCounts = s.collCounts := rfl
@[simp] theorem State.modEt_keepAt (n : Nat) (g : EtTile → EtTile) : (s.modEt n g).keepAt = s.keepAt := rfl
@[simp] theorem State.modEt_dict (n : Nat) (g : EtTile → EtTile) : (s.modEt n g).dict = s.dict := rfl
@[simp] theorem State.modEt_mode (n : Nat) (g : EtTile → EtTile) : (s.modEt n g).mode = s.mode := rfl
@[simp] theorem State.modEt_sup (n : Nat) (g : EtTile → EtTile) : (s.modEt n g).sup = s.sup := rfl
@[simp] theorem State.modEt_faults (n : Nat) (g : EtTile → EtTile) : (s.modEt n g).faults = s.faults := rfl
@[simp] theorem State.modEt_ctrs (n : Nat) (g : EtTile → EtTile) : (s.modEt n g).ctrs = s.ctrs := rfl
@[simp] theorem State.modEt_store (n : Nat) (g : EtTile → EtTile) : (s.modEt n g).store = s.store := rfl
@[simp] theorem State.modEt_fw (n : Nat) (g : EtTile → EtTile) : (s.modEt n g).fw = s.fw := rfl
@[simp] theorem State.modEt_out (n : Nat) (g : EtTile → EtTile) : (s.modEt n g).out = s.out := rfl

/-! ### modLink -/

@[simp] theorem State.modLink_pending (p : Nat) (g : Link → Link) : (s.modLink p g).pending = s.pending := rfl
@[simp] theorem State.modLink_now (p : Nat) (g : Link → Link) : (s.modLink p g).now = s.now := rfl
@[simp] theorem State.modLink_etNow (p : Nat) (g : Link → Link) : (s.modLink p g).etNow = s.etNow := rfl
@[simp] theorem State.modLink_free (p : Nat) (g : Link → Link) : (s.modLink p g).free = s.free := rfl
@[simp] theorem State.modLink_nextTag (p : Nat) (g : Link → Link) : (s.modLink p g).nextTag = s.nextTag := rfl
@[simp] theorem State.modLink_arch (p : Nat) (g : Link → Link) : (s.modLink p g).arch = s.arch := rfl
@[simp] theorem State.modLink_hosts (p : Nat) (g : Link → Link) : (s.modLink p g).hosts = s.hosts := rfl
@[simp] theorem State.modLink_fns (p : Nat) (g : Link → Link) : (s.modLink p g).fns = s.fns := rfl
@[simp] theorem State.modLink_eqs (p : Nat) (g : Link → Link) : (s.modLink p g).eqs = s.eqs := rfl
@[simp] theorem State.modLink_ctxs (p : Nat) (g : Link → Link) : (s.modLink p g).ctxs = s.ctxs := rfl
@[simp] theorem State.modLink_ets (p : Nat) (g : Link → Link) : (s.modLink p g).ets = s.ets := rfl
@[simp] theorem State.modLink_reads (p : Nat) (g : Link → Link) : (s.modLink p g).reads = s.reads := rfl
@[simp] theorem State.modLink_walks (p : Nat) (g : Link → Link) : (s.modLink p g).walks = s.walks := rfl
@[simp] theorem State.modLink_mctxs (p : Nat) (g : Link → Link) : (s.modLink p g).mctxs = s.mctxs := rfl
@[simp] theorem State.modLink_wins (p : Nat) (g : Link → Link) : (s.modLink p g).wins = s.wins := rfl
@[simp] theorem State.modLink_acu (p : Nat) (g : Link → Link) : (s.modLink p g).acu = s.acu := rfl
@[simp] theorem State.modLink_priv (p : Nat) (g : Link → Link) : (s.modLink p g).priv = s.priv := rfl
@[simp] theorem State.modLink_sems (p : Nat) (g : Link → Link) : (s.modLink p g).sems = s.sems := rfl
@[simp] theorem State.modLink_nextTicket (p : Nat) (g : Link → Link) : (s.modLink p g).nextTicket = s.nextTicket := rfl
@[simp] theorem State.modLink_portqs (p : Nat) (g : Link → Link) : (s.modLink p g).portqs = s.portqs := rfl
@[simp] theorem State.modLink_tports (p : Nat) (g : Link → Link) : (s.modLink p g).tports = s.tports := rfl
@[simp] theorem State.modLink_gates (p : Nat) (g : Link → Link) : (s.modLink p g).gates = s.gates := rfl
@[simp] theorem State.modLink_pts (p : Nat) (g : Link → Link) : (s.modLink p g).pts = s.pts := rfl
@[simp] theorem State.modLink_quiet (p : Nat) (g : Link → Link) : (s.modLink p g).quiet = s.quiet := rfl
@[simp] theorem State.modLink_time (p : Nat) (g : Link → Link) : (s.modLink p g).time = s.time := rfl
@[simp] theorem State.modLink_trees (p : Nat) (g : Link → Link) : (s.modLink p g).trees = s.trees := rfl
@[simp] theorem State.modLink_collCounts (p : Nat) (g : Link → Link) : (s.modLink p g).collCounts = s.collCounts := rfl
@[simp] theorem State.modLink_keepAt (p : Nat) (g : Link → Link) : (s.modLink p g).keepAt = s.keepAt := rfl
@[simp] theorem State.modLink_dict (p : Nat) (g : Link → Link) : (s.modLink p g).dict = s.dict := rfl
@[simp] theorem State.modLink_mode (p : Nat) (g : Link → Link) : (s.modLink p g).mode = s.mode := rfl
@[simp] theorem State.modLink_sup (p : Nat) (g : Link → Link) : (s.modLink p g).sup = s.sup := rfl
@[simp] theorem State.modLink_faults (p : Nat) (g : Link → Link) : (s.modLink p g).faults = s.faults := rfl
@[simp] theorem State.modLink_ctrs (p : Nat) (g : Link → Link) : (s.modLink p g).ctrs = s.ctrs := rfl
@[simp] theorem State.modLink_store (p : Nat) (g : Link → Link) : (s.modLink p g).store = s.store := rfl
@[simp] theorem State.modLink_fw (p : Nat) (g : Link → Link) : (s.modLink p g).fw = s.fw := rfl
@[simp] theorem State.modLink_out (p : Nat) (g : Link → Link) : (s.modLink p g).out = s.out := rfl

/-! ### modPortq -/

@[simp] theorem State.modPortq_pending (p : Nat) (g : PortQ → PortQ) : (s.modPortq p g).pending = s.pending := rfl
@[simp] theorem State.modPortq_now (p : Nat) (g : PortQ → PortQ) : (s.modPortq p g).now = s.now := rfl
@[simp] theorem State.modPortq_etNow (p : Nat) (g : PortQ → PortQ) : (s.modPortq p g).etNow = s.etNow := rfl
@[simp] theorem State.modPortq_free (p : Nat) (g : PortQ → PortQ) : (s.modPortq p g).free = s.free := rfl
@[simp] theorem State.modPortq_nextTag (p : Nat) (g : PortQ → PortQ) : (s.modPortq p g).nextTag = s.nextTag := rfl
@[simp] theorem State.modPortq_arch (p : Nat) (g : PortQ → PortQ) : (s.modPortq p g).arch = s.arch := rfl
@[simp] theorem State.modPortq_hosts (p : Nat) (g : PortQ → PortQ) : (s.modPortq p g).hosts = s.hosts := rfl
@[simp] theorem State.modPortq_fns (p : Nat) (g : PortQ → PortQ) : (s.modPortq p g).fns = s.fns := rfl
@[simp] theorem State.modPortq_eqs (p : Nat) (g : PortQ → PortQ) : (s.modPortq p g).eqs = s.eqs := rfl
@[simp] theorem State.modPortq_ctxs (p : Nat) (g : PortQ → PortQ) : (s.modPortq p g).ctxs = s.ctxs := rfl
@[simp] theorem State.modPortq_ets (p : Nat) (g : PortQ → PortQ) : (s.modPortq p g).ets = s.ets := rfl
@[simp] theorem State.modPortq_reads (p : Nat) (g : PortQ → PortQ) : (s.modPortq p g).reads = s.reads := rfl
@[simp] theorem State.modPortq_walks (p : Nat) (g : PortQ → PortQ) : (s.modPortq p g).walks = s.walks := rfl
@[simp] theorem State.modPortq_mctxs (p : Nat) (g : PortQ → PortQ) : (s.modPortq p g).mctxs = s.mctxs := rfl
@[simp] theorem State.modPortq_wins (p : Nat) (g : PortQ → PortQ) : (s.modPortq p g).wins = s.wins := rfl
@[simp] theorem State.modPortq_acu (p : Nat) (g : PortQ → PortQ) : (s.modPortq p g).acu = s.acu := rfl
@[simp] theorem State.modPortq_priv (p : Nat) (g : PortQ → PortQ) : (s.modPortq p g).priv = s.priv := rfl
@[simp] theorem State.modPortq_sems (p : Nat) (g : PortQ → PortQ) : (s.modPortq p g).sems = s.sems := rfl
@[simp] theorem State.modPortq_nextTicket (p : Nat) (g : PortQ → PortQ) : (s.modPortq p g).nextTicket = s.nextTicket := rfl
@[simp] theorem State.modPortq_links (p : Nat) (g : PortQ → PortQ) : (s.modPortq p g).links = s.links := rfl
@[simp] theorem State.modPortq_tports (p : Nat) (g : PortQ → PortQ) : (s.modPortq p g).tports = s.tports := rfl
@[simp] theorem State.modPortq_gates (p : Nat) (g : PortQ → PortQ) : (s.modPortq p g).gates = s.gates := rfl
@[simp] theorem State.modPortq_pts (p : Nat) (g : PortQ → PortQ) : (s.modPortq p g).pts = s.pts := rfl
@[simp] theorem State.modPortq_quiet (p : Nat) (g : PortQ → PortQ) : (s.modPortq p g).quiet = s.quiet := rfl
@[simp] theorem State.modPortq_time (p : Nat) (g : PortQ → PortQ) : (s.modPortq p g).time = s.time := rfl
@[simp] theorem State.modPortq_trees (p : Nat) (g : PortQ → PortQ) : (s.modPortq p g).trees = s.trees := rfl
@[simp] theorem State.modPortq_collCounts (p : Nat) (g : PortQ → PortQ) : (s.modPortq p g).collCounts = s.collCounts := rfl
@[simp] theorem State.modPortq_keepAt (p : Nat) (g : PortQ → PortQ) : (s.modPortq p g).keepAt = s.keepAt := rfl
@[simp] theorem State.modPortq_dict (p : Nat) (g : PortQ → PortQ) : (s.modPortq p g).dict = s.dict := rfl
@[simp] theorem State.modPortq_mode (p : Nat) (g : PortQ → PortQ) : (s.modPortq p g).mode = s.mode := rfl
@[simp] theorem State.modPortq_sup (p : Nat) (g : PortQ → PortQ) : (s.modPortq p g).sup = s.sup := rfl
@[simp] theorem State.modPortq_faults (p : Nat) (g : PortQ → PortQ) : (s.modPortq p g).faults = s.faults := rfl
@[simp] theorem State.modPortq_ctrs (p : Nat) (g : PortQ → PortQ) : (s.modPortq p g).ctrs = s.ctrs := rfl
@[simp] theorem State.modPortq_store (p : Nat) (g : PortQ → PortQ) : (s.modPortq p g).store = s.store := rfl
@[simp] theorem State.modPortq_fw (p : Nat) (g : PortQ → PortQ) : (s.modPortq p g).fw = s.fw := rfl
@[simp] theorem State.modPortq_out (p : Nat) (g : PortQ → PortQ) : (s.modPortq p g).out = s.out := rfl

/-! ### modTport -/

@[simp] theorem State.modTport_pending (p : Nat) (g : TimePort → TimePort) : (s.modTport p g).pending = s.pending := rfl
@[simp] theorem State.modTport_now (p : Nat) (g : TimePort → TimePort) : (s.modTport p g).now = s.now := rfl
@[simp] theorem State.modTport_etNow (p : Nat) (g : TimePort → TimePort) : (s.modTport p g).etNow = s.etNow := rfl
@[simp] theorem State.modTport_free (p : Nat) (g : TimePort → TimePort) : (s.modTport p g).free = s.free := rfl
@[simp] theorem State.modTport_nextTag (p : Nat) (g : TimePort → TimePort) : (s.modTport p g).nextTag = s.nextTag := rfl
@[simp] theorem State.modTport_arch (p : Nat) (g : TimePort → TimePort) : (s.modTport p g).arch = s.arch := rfl
@[simp] theorem State.modTport_hosts (p : Nat) (g : TimePort → TimePort) : (s.modTport p g).hosts = s.hosts := rfl
@[simp] theorem State.modTport_fns (p : Nat) (g : TimePort → TimePort) : (s.modTport p g).fns = s.fns := rfl
@[simp] theorem State.modTport_eqs (p : Nat) (g : TimePort → TimePort) : (s.modTport p g).eqs = s.eqs := rfl
@[simp] theorem State.modTport_ctxs (p : Nat) (g : TimePort → TimePort) : (s.modTport p g).ctxs = s.ctxs := rfl
@[simp] theorem State.modTport_ets (p : Nat) (g : TimePort → TimePort) : (s.modTport p g).ets = s.ets := rfl
@[simp] theorem State.modTport_reads (p : Nat) (g : TimePort → TimePort) : (s.modTport p g).reads = s.reads := rfl
@[simp] theorem State.modTport_walks (p : Nat) (g : TimePort → TimePort) : (s.modTport p g).walks = s.walks := rfl
@[simp] theorem State.modTport_mctxs (p : Nat) (g : TimePort → TimePort) : (s.modTport p g).mctxs = s.mctxs := rfl
@[simp] theorem State.modTport_wins (p : Nat) (g : TimePort → TimePort) : (s.modTport p g).wins = s.wins := rfl
@[simp] theorem State.modTport_acu (p : Nat) (g : TimePort → TimePort) : (s.modTport p g).acu = s.acu := rfl
@[simp] theorem State.modTport_priv (p : Nat) (g : TimePort → TimePort) : (s.modTport p g).priv = s.priv := rfl
@[simp] theorem State.modTport_sems (p : Nat) (g : TimePort → TimePort) : (s.modTport p g).sems = s.sems := rfl
@[simp] theorem State.modTport_nextTicket (p : Nat) (g : TimePort → TimePort) : (s.modTport p g).nextTicket = s.nextTicket := rfl
@[simp] theorem State.modTport_links (p : Nat) (g : TimePort → TimePort) : (s.modTport p g).links = s.links := rfl
@[simp] theorem State.modTport_portqs (p : Nat) (g : TimePort → TimePort) : (s.modTport p g).portqs = s.portqs := rfl
@[simp] theorem State.modTport_gates (p : Nat) (g : TimePort → TimePort) : (s.modTport p g).gates = s.gates := rfl
@[simp] theorem State.modTport_pts (p : Nat) (g : TimePort → TimePort) : (s.modTport p g).pts = s.pts := rfl
@[simp] theorem State.modTport_quiet (p : Nat) (g : TimePort → TimePort) : (s.modTport p g).quiet = s.quiet := rfl
@[simp] theorem State.modTport_time (p : Nat) (g : TimePort → TimePort) : (s.modTport p g).time = s.time := rfl
@[simp] theorem State.modTport_trees (p : Nat) (g : TimePort → TimePort) : (s.modTport p g).trees = s.trees := rfl
@[simp] theorem State.modTport_collCounts (p : Nat) (g : TimePort → TimePort) : (s.modTport p g).collCounts = s.collCounts := rfl
@[simp] theorem State.modTport_keepAt (p : Nat) (g : TimePort → TimePort) : (s.modTport p g).keepAt = s.keepAt := rfl
@[simp] theorem State.modTport_dict (p : Nat) (g : TimePort → TimePort) : (s.modTport p g).dict = s.dict := rfl
@[simp] theorem State.modTport_mode (p : Nat) (g : TimePort → TimePort) : (s.modTport p g).mode = s.mode := rfl
@[simp] theorem State.modTport_sup (p : Nat) (g : TimePort → TimePort) : (s.modTport p g).sup = s.sup := rfl
@[simp] theorem State.modTport_faults (p : Nat) (g : TimePort → TimePort) : (s.modTport p g).faults = s.faults := rfl
@[simp] theorem State.modTport_ctrs (p : Nat) (g : TimePort → TimePort) : (s.modTport p g).ctrs = s.ctrs := rfl
@[simp] theorem State.modTport_store (p : Nat) (g : TimePort → TimePort) : (s.modTport p g).store = s.store := rfl
@[simp] theorem State.modTport_fw (p : Nat) (g : TimePort → TimePort) : (s.modTport p g).fw = s.fw := rfl
@[simp] theorem State.modTport_out (p : Nat) (g : TimePort → TimePort) : (s.modTport p g).out = s.out := rfl

/-! ### modGate -/

@[simp] theorem State.modGate_pending (p : Nat) (g : Gate → Gate) : (s.modGate p g).pending = s.pending := rfl
@[simp] theorem State.modGate_now (p : Nat) (g : Gate → Gate) : (s.modGate p g).now = s.now := rfl
@[simp] theorem State.modGate_etNow (p : Nat) (g : Gate → Gate) : (s.modGate p g).etNow = s.etNow := rfl
@[simp] theorem State.modGate_free (p : Nat) (g : Gate → Gate) : (s.modGate p g).free = s.free := rfl
@[simp] theorem State.modGate_nextTag (p : Nat) (g : Gate → Gate) : (s.modGate p g).nextTag = s.nextTag := rfl
@[simp] theorem State.modGate_arch (p : Nat) (g : Gate → Gate) : (s.modGate p g).arch = s.arch := rfl
@[simp] theorem State.modGate_hosts (p : Nat) (g : Gate → Gate) : (s.modGate p g).hosts = s.hosts := rfl
@[simp] theorem State.modGate_fns (p : Nat) (g : Gate → Gate) : (s.modGate p g).fns = s.fns := rfl
@[simp] theorem State.modGate_eqs (p : Nat) (g : Gate → Gate) : (s.modGate p g).eqs = s.eqs := rfl
@[simp] theorem State.modGate_ctxs (p : Nat) (g : Gate → Gate) : (s.modGate p g).ctxs = s.ctxs := rfl
@[simp] theorem State.modGate_ets (p : Nat) (g : Gate → Gate) : (s.modGate p g).ets = s.ets := rfl
@[simp] theorem State.modGate_reads (p : Nat) (g : Gate → Gate) : (s.modGate p g).reads = s.reads := rfl
@[simp] theorem State.modGate_walks (p : Nat) (g : Gate → Gate) : (s.modGate p g).walks = s.walks := rfl
@[simp] theorem State.modGate_mctxs (p : Nat) (g : Gate → Gate) : (s.modGate p g).mctxs = s.mctxs := rfl
@[simp] theorem State.modGate_wins (p : Nat) (g : Gate → Gate) : (s.modGate p g).wins = s.wins := rfl
@[simp] theorem State.modGate_acu (p : Nat) (g : Gate → Gate) : (s.modGate p g).acu = s.acu := rfl
@[simp] theorem State.modGate_priv (p : Nat) (g : Gate → Gate) : (s.modGate p g).priv = s.priv := rfl
@[simp] theorem State.modGate_sems (p : Nat) (g : Gate → Gate) : (s.modGate p g).sems = s.sems := rfl
@[simp] theorem State.modGate_nextTicket (p : Nat) (g : Gate → Gate) : (s.modGate p g).nextTicket = s.nextTicket := rfl
@[simp] theorem State.modGate_links (p : Nat) (g : Gate → Gate) : (s.modGate p g).links = s.links := rfl
@[simp] theorem State.modGate_portqs (p : Nat) (g : Gate → Gate) : (s.modGate p g).portqs = s.portqs := rfl
@[simp] theorem State.modGate_tports (p : Nat) (g : Gate → Gate) : (s.modGate p g).tports = s.tports := rfl
@[simp] theorem State.modGate_pts (p : Nat) (g : Gate → Gate) : (s.modGate p g).pts = s.pts := rfl
@[simp] theorem State.modGate_quiet (p : Nat) (g : Gate → Gate) : (s.modGate p g).quiet = s.quiet := rfl
@[simp] theorem State.modGate_time (p : Nat) (g : Gate → Gate) : (s.modGate p g).time = s.time := rfl
@[simp] theorem State.modGate_trees (p : Nat) (g : Gate → Gate) : (s.modGate p g).trees = s.trees := rfl
@[simp] theorem State.modGate_collCounts (p : Nat) (g : Gate → Gate) : (s.modGate p g).collCounts = s.collCounts := rfl
@[simp] theorem State.modGate_keepAt (p : Nat) (g : Gate → Gate) : (s.modGate p g).keepAt = s.keepAt := rfl
@[simp] theorem State.modGate_dict (p : Nat) (g : Gate → Gate) : (s.modGate p g).dict = s.dict := rfl
@[simp] theorem State.modGate_mode (p : Nat) (g : Gate → Gate) : (s.modGate p g).mode = s.mode := rfl
@[simp] theorem State.modGate_sup (p : Nat) (g : Gate → Gate) : (s.modGate p g).sup = s.sup := rfl
@[simp] theorem State.modGate_faults (p : Nat) (g : Gate → Gate) : (s.modGate p g).faults = s.faults := rfl
@[simp] theorem State.modGate_ctrs (p : Nat) (g : Gate → Gate) : (s.modGate p g).ctrs = s.ctrs := rfl
@[simp] theorem State.modGate_store (p : Nat) (g : Gate → Gate) : (s.modGate p g).store = s.store := rfl
@[simp] theorem State.modGate_fw (p : Nat) (g : Gate → Gate) : (s.modGate p g).fw = s.fw := rfl
@[simp] theorem State.modGate_out (p : Nat) (g : Gate → Gate) : (s.modGate p g).out = s.out := rfl

/-! ### modPt -/

@[simp] theorem State.modPt_pending (n : Nat) (g : PtTile → PtTile) : (s.modPt n g).pending = s.pending := rfl
@[simp] theorem State.modPt_now (n : Nat) (g : PtTile → PtTile) : (s.modPt n g).now = s.now := rfl
@[simp] theorem State.modPt_etNow (n : Nat) (g : PtTile → PtTile) : (s.modPt n g).etNow = s.etNow := rfl
@[simp] theorem State.modPt_free (n : Nat) (g : PtTile → PtTile) : (s.modPt n g).free = s.free := rfl
@[simp] theorem State.modPt_nextTag (n : Nat) (g : PtTile → PtTile) : (s.modPt n g).nextTag = s.nextTag := rfl
@[simp] theorem State.modPt_arch (n : Nat) (g : PtTile → PtTile) : (s.modPt n g).arch = s.arch := rfl
@[simp] theorem State.modPt_hosts (n : Nat) (g : PtTile → PtTile) : (s.modPt n g).hosts = s.hosts := rfl
@[simp] theorem State.modPt_fns (n : Nat) (g : PtTile → PtTile) : (s.modPt n g).fns = s.fns := rfl
@[simp] theorem State.modPt_eqs (n : Nat) (g : PtTile → PtTile) : (s.modPt n g).eqs = s.eqs := rfl
@[simp] theorem State.modPt_ctxs (n : Nat) (g : PtTile → PtTile) : (s.modPt n g).ctxs = s.ctxs := rfl
@[simp] theorem State.modPt_ets (n : Nat) (g : PtTile → PtTile) : (s.modPt n g).ets = s.ets := rfl
@[simp] theorem State.modPt_reads (n : Nat) (g : PtTile → PtTile) : (s.modPt n g).reads = s.reads := rfl
@[simp] theorem State.modPt_walks (n : Nat) (g : PtTile → PtTile) : (s.modPt n g).walks = s.walks := rfl
@[simp] theorem State.modPt_mctxs (n : Nat) (g : PtTile → PtTile) : (s.modPt n g).mctxs = s.mctxs := rfl
@[simp] theorem State.modPt_wins (n : Nat) (g : PtTile → PtTile) : (s.modPt n g).wins = s.wins := rfl
@[simp] theorem State.modPt_acu (n : Nat) (g : PtTile → PtTile) : (s.modPt n g).acu = s.acu := rfl
@[simp] theorem State.modPt_priv (n : Nat) (g : PtTile → PtTile) : (s.modPt n g).priv = s.priv := rfl
@[simp] theorem State.modPt_sems (n : Nat) (g : PtTile → PtTile) : (s.modPt n g).sems = s.sems := rfl
@[simp] theorem State.modPt_nextTicket (n : Nat) (g : PtTile → PtTile) : (s.modPt n g).nextTicket = s.nextTicket := rfl
@[simp] theorem State.modPt_links (n : Nat) (g : PtTile → PtTile) : (s.modPt n g).links = s.links := rfl
@[simp] theorem State.modPt_portqs (n : Nat) (g : PtTile → PtTile) : (s.modPt n g).portqs = s.portqs := rfl
@[simp] theorem State.modPt_tports (n : Nat) (g : PtTile → PtTile) : (s.modPt n g).tports = s.tports := rfl
@[simp] theorem State.modPt_gates (n : Nat) (g : PtTile → PtTile) : (s.modPt n g).gates = s.gates := rfl
@[simp] theorem State.modPt_quiet (n : Nat) (g : PtTile → PtTile) : (s.modPt n g).quiet = s.quiet := rfl
@[simp] theorem State.modPt_time (n : Nat) (g : PtTile → PtTile) : (s.modPt n g).time = s.time := rfl
@[simp] theorem State.modPt_trees (n : Nat) (g : PtTile → PtTile) : (s.modPt n g).trees = s.trees := rfl
@[simp] theorem State.modPt_collCounts (n : Nat) (g : PtTile → PtTile) : (s.modPt n g).collCounts = s.collCounts := rfl
@[simp] theorem State.modPt_keepAt (n : Nat) (g : PtTile → PtTile) : (s.modPt n g).keepAt = s.keepAt := rfl
@[simp] theorem State.modPt_dict (n : Nat) (g : PtTile → PtTile) : (s.modPt n g).dict = s.dict := rfl
@[simp] theorem State.modPt_mode (n : Nat) (g : PtTile → PtTile) : (s.modPt n g).mode = s.mode := rfl
@[simp] theorem State.modPt_sup (n : Nat) (g : PtTile → PtTile) : (s.modPt n g).sup = s.sup := rfl
@[simp] theorem State.modPt_faults (n : Nat) (g : PtTile → PtTile) : (s.modPt n g).faults = s.faults := rfl
@[simp] theorem State.modPt_ctrs (n : Nat) (g : PtTile → PtTile) : (s.modPt n g).ctrs = s.ctrs := rfl
@[simp] theorem State.modPt_store (n : Nat) (g : PtTile → PtTile) : (s.modPt n g).store = s.store := rfl
@[simp] theorem State.modPt_fw (n : Nat) (g : PtTile → PtTile) : (s.modPt n g).fw = s.fw := rfl
@[simp] theorem State.modPt_out (n : Nat) (g : PtTile → PtTile) : (s.modPt n g).out = s.out := rfl

/-! ### setSem -/

@[simp] theorem State.setSem_pending (n : Nat) (x : Sem) : (s.setSem n x).pending = s.pending := rfl
@[simp] theorem State.setSem_now (n : Nat) (x : Sem) : (s.setSem n x).now = s.now := rfl
@[simp] theorem State.setSem_etNow (n : Nat) (x : Sem) : (s.setSem n x).etNow = s.etNow := rfl
@[simp] theorem State.setSem_free (n : Nat) (x : Sem) : (s.setSem n x).free = s.free := rfl
@[simp] theorem State.setSem_nextTag (n : Nat) (x : Sem) : (s.setSem n x).nextTag = s.nextTag := rfl
@[simp] theorem State.setSem_arch (n : Nat) (x : Sem) : (s.setSem n x).arch = s.arch := rfl
@[simp] theorem State.setSem_hosts (n : Nat) (x : Sem) : (s.setSem n x).hosts = s.hosts := rfl
@[simp] theorem State.setSem_fns (n : Nat) (x : Sem) : (s.setSem n x).fns = s.fns := rfl
@[simp] theorem State.setSem_eqs (n : Nat) (x : Sem) : (s.setSem n x).eqs = s.eqs := rfl
@[simp] theorem State.setSem_ctxs (n : Nat) (x : Sem) : (s.setSem n x).ctxs = s.ctxs := rfl
@[simp] theorem State.setSem_ets (n : Nat) (x : Sem) : (s.setSem n x).ets = s.ets := rfl
@[simp] theorem State.setSem_reads (n : Nat) (x : Sem) : (s.setSem n x).reads = s.reads := rfl
@[simp] theorem State.setSem_walks (n : Nat) (x : Sem) : (s.setSem n x).walks = s.walks := rfl
@[simp] theorem State.setSem_mctxs (n : Nat) (x : Sem) : (s.setSem n x).mctxs = s.mctxs := rfl
@[simp] theorem State.setSem_wins (n : Nat) (x : Sem) : (s.setSem n x).wins = s.wins := rfl
@[simp] theorem State.setSem_acu (n : Nat) (x : Sem) : (s.setSem n x).acu = s.acu := rfl
@[simp] theorem State.setSem_priv (n : Nat) (x : Sem) : (s.setSem n x).priv = s.priv := rfl
@[simp] theorem State.setSem_nextTicket (n : Nat) (x : Sem) : (s.setSem n x).nextTicket = s.nextTicket := rfl
@[simp] theorem State.setSem_links (n : Nat) (x : Sem) : (s.setSem n x).links = s.links := rfl
@[simp] theorem State.setSem_portqs (n : Nat) (x : Sem) : (s.setSem n x).portqs = s.portqs := rfl
@[simp] theorem State.setSem_tports (n : Nat) (x : Sem) : (s.setSem n x).tports = s.tports := rfl
@[simp] theorem State.setSem_gates (n : Nat) (x : Sem) : (s.setSem n x).gates = s.gates := rfl
@[simp] theorem State.setSem_pts (n : Nat) (x : Sem) : (s.setSem n x).pts = s.pts := rfl
@[simp] theorem State.setSem_quiet (n : Nat) (x : Sem) : (s.setSem n x).quiet = s.quiet := rfl
@[simp] theorem State.setSem_time (n : Nat) (x : Sem) : (s.setSem n x).time = s.time := rfl
@[simp] theorem State.setSem_trees (n : Nat) (x : Sem) : (s.setSem n x).trees = s.trees := rfl
@[simp] theorem State.setSem_collCounts (n : Nat) (x : Sem) : (s.setSem n x).collCounts = s.collCounts := rfl
@[simp] theorem State.setSem_keepAt (n : Nat) (x : Sem) : (s.setSem n x).keepAt = s.keepAt := rfl
@[simp] theorem State.setSem_dict (n : Nat) (x : Sem) : (s.setSem n x).dict = s.dict := rfl
@[simp] theorem State.setSem_mode (n : Nat) (x : Sem) : (s.setSem n x).mode = s.mode := rfl
@[simp] theorem State.setSem_sup (n : Nat) (x : Sem) : (s.setSem n x).sup = s.sup := rfl
@[simp] theorem State.setSem_faults (n : Nat) (x : Sem) : (s.setSem n x).faults = s.faults := rfl
@[simp] theorem State.setSem_ctrs (n : Nat) (x : Sem) : (s.setSem n x).ctrs = s.ctrs := rfl
@[simp] theorem State.setSem_store (n : Nat) (x : Sem) : (s.setSem n x).store = s.store := rfl
@[simp] theorem State.setSem_fw (n : Nat) (x : Sem) : (s.setSem n x).fw = s.fw := rfl
@[simp] theorem State.setSem_out (n : Nat) (x : Sem) : (s.setSem n x).out = s.out := rfl

/-! ### modMctx -/

@[simp] theorem State.modMctx_pending (f m : Nat) (g : MatchCtx → MatchCtx) : (s.modMctx f m g).pending = s.pending := rfl
@[simp] theorem State.modMctx_now (f m : Nat) (g : MatchCtx → MatchCtx) : (s.modMctx f m g).now = s.now := rfl
@[simp] theorem State.modMctx_etNow (f m : Nat) (g : MatchCtx → MatchCtx) : (s.modMctx f m g).etNow = s.etNow := rfl
@[simp] theorem State.modMctx_free (f m : Nat) (g : MatchCtx → MatchCtx) : (s.modMctx f m g).free = s.free := rfl
@[simp] theorem State.modMctx_nextTag (f m : Nat) (g : MatchCtx → MatchCtx) : (s.modMctx f m g).nextTag = s.nextTag := rfl
@[simp] theorem State.modMctx_arch (f m : Nat) (g : MatchCtx → MatchCtx) : (s.modMctx f m g).arch = s.arch := rfl
@[simp] theorem State.modMctx_hosts (f m : Nat) (g : MatchCtx → MatchCtx) : (s.modMctx f m g).hosts = s.hosts := rfl
@[simp] theorem State.modMctx_fns (f m : Nat) (g : MatchCtx → MatchCtx) : (s.modMctx f m g).fns = s.fns := rfl
@[simp] theorem State.modMctx_eqs (f m : Nat) (g : MatchCtx → MatchCtx) : (s.modMctx f m g).eqs = s.eqs := rfl
@[simp] theorem State.modMctx_ctxs (f m : Nat) (g : MatchCtx → MatchCtx) : (s.modMctx f m g).ctxs = s.ctxs := rfl
@[simp] theorem State.modMctx_ets (f m : Nat) (g : MatchCtx → MatchCtx) : (s.modMctx f m g).ets = s.ets := rfl
@[simp] theorem State.modMctx_reads (f m : Nat) (g : MatchCtx → MatchCtx) : (s.modMctx f m g).reads = s.reads := rfl
@[simp] theorem State.modMctx_walks (f m : Nat) (g : MatchCtx → MatchCtx) : (s.modMctx f m g).walks = s.walks := rfl
@[simp] theorem State.modMctx_wins (f m : Nat) (g : MatchCtx → MatchCtx) : (s.modMctx f m g).wins = s.wins := rfl
@[simp] theorem State.modMctx_acu (f m : Nat) (g : MatchCtx → MatchCtx) : (s.modMctx f m g).acu = s.acu := rfl
@[simp] theorem State.modMctx_priv (f m : Nat) (g : MatchCtx → MatchCtx) : (s.modMctx f m g).priv = s.priv := rfl
@[simp] theorem State.modMctx_sems (f m : Nat) (g : MatchCtx → MatchCtx) : (s.modMctx f m g).sems = s.sems := rfl
@[simp] theorem State.modMctx_nextTicket (f m : Nat) (g : MatchCtx → MatchCtx) : (s.modMctx f m g).nextTicket = s.nextTicket := rfl
@[simp] theorem State.modMctx_links (f m : Nat) (g : MatchCtx → MatchCtx) : (s.modMctx f m g).links = s.links := rfl
@[simp] theorem State.modMctx_portqs (f m : Nat) (g : MatchCtx → MatchCtx) : (s.modMctx f m g).portqs = s.portqs := rfl
@[simp] theorem State.modMctx_tports (f m : Nat) (g : MatchCtx → MatchCtx) : (s.modMctx f m g).tports = s.tports := rfl
@[simp] theorem State.modMctx_gates (f m : Nat) (g : MatchCtx → MatchCtx) : (s.modMctx f m g).gates = s.gates := rfl
@[simp] theorem State.modMctx_pts (f m : Nat) (g : MatchCtx → MatchCtx) : (s.modMctx f m g).pts = s.pts := rfl
@[simp] theorem State.modMctx_quiet (f m : Nat) (g : MatchCtx → MatchCtx) : (s.modMctx f m g).quiet = s.quiet := rfl
@[simp] theorem State.modMctx_time (f m : Nat) (g : MatchCtx → MatchCtx) : (s.modMctx f m g).time = s.time := rfl
@[simp] theorem State.modMctx_trees (f m : Nat) (g : MatchCtx → MatchCtx) : (s.modMctx f m g).trees = s.trees := rfl
@[simp] theorem State.modMctx_collCounts (f m : Nat) (g : MatchCtx → MatchCtx) : (s.modMctx f m g).collCounts = s.collCounts := rfl
@[simp] theorem State.modMctx_keepAt (f m : Nat) (g : MatchCtx → MatchCtx) : (s.modMctx f m g).keepAt = s.keepAt := rfl
@[simp] theorem State.modMctx_dict (f m : Nat) (g : MatchCtx → MatchCtx) : (s.modMctx f m g).dict = s.dict := rfl
@[simp] theorem State.modMctx_mode (f m : Nat) (g : MatchCtx → MatchCtx) : (s.modMctx f m g).mode = s.mode := rfl
@[simp] theorem State.modMctx_sup (f m : Nat) (g : MatchCtx → MatchCtx) : (s.modMctx f m g).sup = s.sup := rfl
@[simp] theorem State.modMctx_faults (f m : Nat) (g : MatchCtx → MatchCtx) : (s.modMctx f m g).faults = s.faults := rfl
@[simp] theorem State.modMctx_ctrs (f m : Nat) (g : MatchCtx → MatchCtx) : (s.modMctx f m g).ctrs = s.ctrs := rfl
@[simp] theorem State.modMctx_store (f m : Nat) (g : MatchCtx → MatchCtx) : (s.modMctx f m g).store = s.store := rfl
@[simp] theorem State.modMctx_fw (f m : Nat) (g : MatchCtx → MatchCtx) : (s.modMctx f m g).fw = s.fw := rfl
@[simp] theorem State.modMctx_out (f m : Nat) (g : MatchCtx → MatchCtx) : (s.modMctx f m g).out = s.out := rfl

/-! ### modWin -/

@[simp] theorem State.modWin_pending (n k : Nat) (g : Win → Win) : (s.modWin n k g).pending = s.pending := rfl
@[simp] theorem State.modWin_now (n k : Nat) (g : Win → Win) : (s.modWin n k g).now = s.now := rfl
@[simp] theorem State.modWin_etNow (n k : Nat) (g : Win → Win) : (s.modWin n k g).etNow = s.etNow := rfl
@[simp] theorem State.modWin_free (n k : Nat) (g : Win → Win) : (s.modWin n k g).free = s.free := rfl
@[simp] theorem State.modWin_nextTag (n k : Nat) (g : Win → Win) : (s.modWin n k g).nextTag = s.nextTag := rfl
@[simp] theorem State.modWin_arch (n k : Nat) (g : Win → Win) : (s.modWin n k g).arch = s.arch := rfl
@[simp] theorem State.modWin_hosts (n k : Nat) (g : Win → Win) : (s.modWin n k g).hosts = s.hosts := rfl
@[simp] theorem State.modWin_fns (n k : Nat) (g : Win → Win) : (s.modWin n k g).fns = s.fns := rfl
@[simp] theorem State.modWin_eqs (n k : Nat) (g : Win → Win) : (s.modWin n k g).eqs = s.eqs := rfl
@[simp] theorem State.modWin_ctxs (n k : Nat) (g : Win → Win) : (s.modWin n k g).ctxs = s.ctxs := rfl
@[simp] theorem State.modWin_ets (n k : Nat) (g : Win → Win) : (s.modWin n k g).ets = s.ets := rfl
@[simp] theorem State.modWin_reads (n k : Nat) (g : Win → Win) : (s.modWin n k g).reads = s.reads := rfl
@[simp] theorem State.modWin_walks (n k : Nat) (g : Win → Win) : (s.modWin n k g).walks = s.walks := rfl
@[simp] theorem State.modWin_mctxs (n k : Nat) (g : Win → Win) : (s.modWin n k g).mctxs = s.mctxs := rfl
@[simp] theorem State.modWin_acu (n k : Nat) (g : Win → Win) : (s.modWin n k g).acu = s.acu := rfl
@[simp] theorem State.modWin_priv (n k : Nat) (g : Win → Win) : (s.modWin n k g).priv = s.priv := rfl
@[simp] theorem State.modWin_sems (n k : Nat) (g : Win → Win) : (s.modWin n k g).sems = s.sems := rfl
@[simp] theorem State.modWin_nextTicket (n k : Nat) (g : Win → Win) : (s.modWin n k g).nextTicket = s.nextTicket := rfl
@[simp] theorem State.modWin_links (n k : Nat) (g : Win → Win) : (s.modWin n k g).links = s.links := rfl
@[simp] theorem State.modWin_portqs (n k : Nat) (g : Win → Win) : (s.modWin n k g).portqs = s.portqs := rfl
@[simp] theorem State.modWin_tports (n k : Nat) (g : Win → Win) : (s.modWin n k g).tports = s.tports := rfl
@[simp] theorem State.modWin_gates (n k : Nat) (g : Win → Win) : (s.modWin n k g).gates = s.gates := rfl
@[simp] theorem State.modWin_pts (n k : Nat) (g : Win → Win) : (s.modWin n k g).pts = s.pts := rfl
@[simp] theorem State.modWin_quiet (n k : Nat) (g : Win → Win) : (s.modWin n k g).quiet = s.quiet := rfl
@[simp] theorem State.modWin_time (n k : Nat) (g : Win → Win) : (s.modWin n k g).time = s.time := rfl
@[simp] theorem State.modWin_trees (n k : Nat) (g : Win → Win) : (s.modWin n k g).trees = s.trees := rfl
@[simp] theorem State.modWin_collCounts (n k : Nat) (g : Win → Win) : (s.modWin n k g).collCounts = s.collCounts := rfl
@[simp] theorem State.modWin_keepAt (n k : Nat) (g : Win → Win) : (s.modWin n k g).keepAt = s.keepAt := rfl
@[simp] theorem State.modWin_dict (n k : Nat) (g : Win → Win) : (s.modWin n k g).dict = s.dict := rfl
@[simp] theorem State.modWin_mode (n k : Nat) (g : Win → Win) : (s.modWin n k g).mode = s.mode := rfl
@[simp] theorem State.modWin_sup (n k : Nat) (g : Win → Win) : (s.modWin n k g).sup = s.sup := rfl
@[simp] theorem State.modWin_faults (n k : Nat) (g : Win → Win) : (s.modWin n k g).faults = s.faults := rfl
@[simp] theorem State.modWin_ctrs (n k : Nat) (g : Win → Win) : (s.modWin n k g).ctrs = s.ctrs := rfl
@[simp] theorem State.modWin_store (n k : Nat) (g : Win → Win) : (s.modWin n k g).store = s.store := rfl
@[simp] theorem State.modWin_fw (n k : Nat) (g : Win → Win) : (s.modWin n k g).fw = s.fw := rfl
@[simp] theorem State.modWin_out (n k : Nat) (g : Win → Win) : (s.modWin n k g).out = s.out := rfl

/-! ### modTree -/

@[simp] theorem State.modTree_pending (n : Nat) (g : Tree → Tree) : (s.modTree n g).pending = s.pending := rfl
@[simp] theorem State.modTree_now (n : Nat) (g : Tree → Tree) : (s.modTree n g).now = s.now := rfl
@[simp] theorem State.modTree_etNow (n : Nat) (g : Tree → Tree) : (s.modTree n g).etNow = s.etNow := rfl
@[simp] theorem State.modTree_free (n : Nat) (g : Tree → Tree) : (s.modTree n g).free = s.free := rfl
@[simp] theorem State.modTree_nextTag (n : Nat) (g : Tree → Tree) : (s.modTree n g).nextTag = s.nextTag := rfl
@[simp] theorem State.modTree_arch (n : Nat) (g : Tree → Tree) : (s.modTree n g).arch = s.arch := rfl
@[simp] theorem State.modTree_hosts (n : Nat) (g : Tree → Tree) : (s.modTree n g).hosts = s.hosts := rfl
@[simp] theorem State.modTree_fns (n : Nat) (g : Tree → Tree) : (s.modTree n g).fns = s.fns := rfl
@[simp] theorem State.modTree_eqs (n : Nat) (g : Tree → Tree) : (s.modTree n g).eqs = s.eqs := rfl
@[simp] theorem State.modTree_ctxs (n : Nat) (g : Tree → Tree) : (s.modTree n g).ctxs = s.ctxs := rfl
@[simp] theorem State.modTree_ets (n : Nat) (g : Tree → Tree) : (s.modTree n g).ets = s.ets := rfl
@[simp] theorem State.modTree_reads (n : Nat) (g : Tree → Tree) : (s.modTree n g).reads = s.reads := rfl
@[simp] theorem State.modTree_walks (n : Nat) (g : Tree → Tree) : (s.modTree n g).walks = s.walks := rfl
@[simp] theorem State.modTree_mctxs (n : Nat) (g : Tree → Tree) : (s.modTree n g).mctxs = s.mctxs := rfl
@[simp] theorem State.modTree_wins (n : Nat) (g : Tree → Tree) : (s.modTree n g).wins = s.wins := rfl
@[simp] theorem State.modTree_acu (n : Nat) (g : Tree → Tree) : (s.modTree n g).acu = s.acu := rfl
@[simp] theorem State.modTree_priv (n : Nat) (g : Tree → Tree) : (s.modTree n g).priv = s.priv := rfl
@[simp] theorem State.modTree_sems (n : Nat) (g : Tree → Tree) : (s.modTree n g).sems = s.sems := rfl
@[simp] theorem State.modTree_nextTicket (n : Nat) (g : Tree → Tree) : (s.modTree n g).nextTicket = s.nextTicket := rfl
@[simp] theorem State.modTree_links (n : Nat) (g : Tree → Tree) : (s.modTree n g).links = s.links := rfl
@[simp] theorem State.modTree_portqs (n : Nat) (g : Tree → Tree) : (s.modTree n g).portqs = s.portqs := rfl
@[simp] theorem State.modTree_tports (n : Nat) (g : Tree → Tree) : (s.modTree n g).tports = s.tports := rfl
@[simp] theorem State.modTree_gates (n : Nat) (g : Tree → Tree) : (s.modTree n g).gates = s.gates := rfl
@[simp] theorem State.modTree_pts (n : Nat) (g : Tree → Tree) : (s.modTree n g).pts = s.pts := rfl
@[simp] theorem State.modTree_quiet (n : Nat) (g : Tree → Tree) : (s.modTree n g).quiet = s.quiet := rfl
@[simp] theorem State.modTree_time (n : Nat) (g : Tree → Tree) : (s.modTree n g).time = s.time := rfl
@[simp] theorem State.modTree_collCounts (n : Nat) (g : Tree → Tree) : (s.modTree n g).collCounts = s.collCounts := rfl
@[simp] theorem State.modTree_keepAt (n : Nat) (g : Tree → Tree) : (s.modTree n g).keepAt = s.keepAt := rfl
@[simp] theorem State.modTree_dict (n : Nat) (g : Tree → Tree) : (s.modTree n g).dict = s.dict := rfl
@[simp] theorem State.modTree_mode (n : Nat) (g : Tree → Tree) : (s.modTree n g).mode = s.mode := rfl
@[simp] theorem State.modTree_sup (n : Nat) (g : Tree → Tree) : (s.modTree n g).sup = s.sup := rfl
@[simp] theorem State.modTree_faults (n : Nat) (g : Tree → Tree) : (s.modTree n g).faults = s.faults := rfl
@[simp] theorem State.modTree_ctrs (n : Nat) (g : Tree → Tree) : (s.modTree n g).ctrs = s.ctrs := rfl
@[simp] theorem State.modTree_store (n : Nat) (g : Tree → Tree) : (s.modTree n g).store = s.store := rfl
@[simp] theorem State.modTree_fw (n : Nat) (g : Tree → Tree) : (s.modTree n g).fw = s.fw := rfl
@[simp] theorem State.modTree_out (n : Nat) (g : Tree → Tree) : (s.modTree n g).out = s.out := rfl

/-! ### setCfg -/

@[simp] theorem State.setCfg_pending (i k v : Nat) : (s.setCfg i k v).pending = s.pending := rfl
@[simp] theorem State.setCfg_now (i k v : Nat) : (s.setCfg i k v).now = s.now := rfl
@[simp] theorem State.setCfg_etNow (i k v : Nat) : (s.setCfg i k v).etNow = s.etNow := rfl
@[simp] theorem State.setCfg_free (i k v : Nat) : (s.setCfg i k v).free = s.free := rfl
@[simp] theorem State.setCfg_nextTag (i k v : Nat) : (s.setCfg i k v).nextTag = s.nextTag := rfl
@[simp] theorem State.setCfg_arch (i k v : Nat) : (s.setCfg i k v).arch = s.arch := rfl
@[simp] theorem State.setCfg_hosts (i k v : Nat) : (s.setCfg i k v).hosts = s.hosts := rfl
@[simp] theorem State.setCfg_fns (i k v : Nat) : (s.setCfg i k v).fns = s.fns := rfl
@[simp] theorem State.setCfg_eqs (i k v : Nat) : (s.setCfg i k v).eqs = s.eqs := rfl
@[simp] theorem State.setCfg_ctxs (i k v : Nat) : (s.setCfg i k v).ctxs = s.ctxs := rfl
@[simp] theorem State.setCfg_ets (i k v : Nat) : (s.setCfg i k v).ets = s.ets := rfl
@[simp] theorem State.setCfg_reads (i k v : Nat) : (s.setCfg i k v).reads = s.reads := rfl
@[simp] theorem State.setCfg_walks (i k v : Nat) : (s.setCfg i k v).walks = s.walks := rfl
@[simp] theorem State.setCfg_mctxs (i k v : Nat) : (s.setCfg i k v).mctxs = s.mctxs := rfl
@[simp] theorem State.setCfg_wins (i k v : Nat) : (s.setCfg i k v).wins = s.wins := rfl
@[simp] theorem State.setCfg_acu (i k v : Nat) : (s.setCfg i k v).acu = s.acu := rfl
@[simp] theorem State.setCfg_priv (i k v : Nat) : (s.setCfg i k v).priv = s.priv := rfl
@[simp] theorem State.setCfg_sems (i k v : Nat) : (s.setCfg i k v).sems = s.sems := rfl
@[simp] theorem State.setCfg_nextTicket (i k v : Nat) : (s.setCfg i k v).nextTicket = s.nextTicket := rfl
@[simp] theorem State.setCfg_links (i k v : Nat) : (s.setCfg i k v).links = s.links := rfl
@[simp] theorem State.setCfg_portqs (i k v : Nat) : (s.setCfg i k v).portqs = s.portqs := rfl
@[simp] theorem State.setCfg_tports (i k v : Nat) : (s.setCfg i k v).tports = s.tports := rfl
@[simp] theorem State.setCfg_gates (i k v : Nat) : (s.setCfg i k v).gates = s.gates := rfl
@[simp] theorem State.setCfg_pts (i k v : Nat) : (s.setCfg i k v).pts = s.pts := rfl
@[simp] theorem State.setCfg_quiet (i k v : Nat) : (s.setCfg i k v).quiet = s.quiet := rfl
@[simp] theorem State.setCfg_time (i k v : Nat) : (s.setCfg i k v).time = s.time := rfl
@[simp] theorem State.setCfg_trees (i k v : Nat) : (s.setCfg i k v).trees = s.trees := rfl
@[simp] theorem State.setCfg_collCounts (i k v : Nat) : (s.setCfg i k v).collCounts = s.collCounts := rfl
@[simp] theorem State.setCfg_keepAt (i k v : Nat) : (s.setCfg i k v).keepAt = s.keepAt := rfl
@[simp] theorem State.setCfg_mode (i k v : Nat) : (s.setCfg i k v).mode = s.mode := rfl
@[simp] theorem State.setCfg_sup (i k v : Nat) : (s.setCfg i k v).sup = s.sup := rfl
@[simp] theorem State.setCfg_faults (i k v : Nat) : (s.setCfg i k v).faults = s.faults := rfl
@[simp] theorem State.setCfg_ctrs (i k v : Nat) : (s.setCfg i k v).ctrs = s.ctrs := rfl
@[simp] theorem State.setCfg_store (i k v : Nat) : (s.setCfg i k v).store = s.store := rfl
@[simp] theorem State.setCfg_fw (i k v : Nat) : (s.setCfg i k v).fw = s.fw := rfl
@[simp] theorem State.setCfg_out (i k v : Nat) : (s.setCfg i k v).out = s.out := rfl

/-! ### emit -/

@[simp] theorem State.emit_pending (o : Out) : (s.emit o).pending = s.pending := rfl
@[simp] theorem State.emit_now (o : Out) : (s.emit o).now = s.now := rfl
@[simp] theorem State.emit_etNow (o : Out) : (s.emit o).etNow = s.etNow := rfl
@[simp] theorem State.emit_free (o : Out) : (s.emit o).free = s.free := rfl
@[simp] theorem State.emit_nextTag (o : Out) : (s.emit o).nextTag = s.nextTag := rfl
@[simp] theorem State.emit_arch (o : Out) : (s.emit o).arch = s.arch := rfl
@[simp] theorem State.emit_hosts (o : Out) : (s.emit o).hosts = s.hosts := rfl
@[simp] theorem State.emit_fns (o : Out) : (s.emit o).fns = s.fns := rfl
@[simp] theorem State.emit_eqs (o : Out) : (s.emit o).eqs = s.eqs := rfl
@[simp] theorem State.emit_ctxs (o : Out) : (s.emit o).ctxs = s.ctxs := rfl
@[simp] theorem State.emit_ets (o : Out) : (s.emit o).ets = s.ets := rfl
@[simp] theorem State.emit_reads (o : Out) : (s.emit o).reads = s.reads := rfl
@[simp] theorem State.emit_walks (o : Out) : (s.emit o).walks = s.walks := rfl
@[simp] theorem State.emit_mctxs (o : Out) : (s.emit o).mctxs = s.mctxs := rfl
@[simp] theorem State.emit_wins (o : Out) : (s.emit o).wins = s.wins := rfl
@[simp] theorem State.emit_acu (o : Out) : (s.emit o).acu = s.acu := rfl
@[simp] theorem State.emit_priv (o : Out) : (s.emit o).priv = s.priv := rfl
@[simp] theorem State.emit_sems (o : Out) : (s.emit o).sems = s.sems := rfl
@[simp] theorem State.emit_nextTicket (o : Out) : (s.emit o).nextTicket = s.nextTicket := rfl
@[simp] theorem State.emit_links (o : Out) : (s.emit o).links = s.links := rfl
@[simp] theorem State.emit_portqs (o : Out) : (s.emit o).portqs = s.portqs := rfl
@[simp] theorem State.emit_tports (o : Out) : (s.emit o).tports = s.tports := rfl
@[simp] theorem State.emit_gates (o : Out) : (s.emit o).gates = s.gates := rfl
@[simp] theorem State.emit_pts (o : Out) : (s.emit o).pts = s.pts := rfl
@[simp] theorem State.emit_quiet (o : Out) : (s.emit o).quiet = s.quiet := rfl
@[simp] theorem State.emit_time (o : Out) : (s.emit o).time = s.time := rfl
@[simp] theorem State.emit_trees (o : Out) : (s.emit o).trees = s.trees := rfl
@[simp] theorem State.emit_collCounts (o : Out) : (s.emit o).collCounts = s.collCounts := rfl
@[simp] theorem State.emit_keepAt (o : Out) : (s.emit o).keepAt = s.keepAt := rfl
@[simp] theorem State.emit_dict (o : Out) : (s.emit o).dict = s.dict := rfl
@[simp] theorem State.emit_mode (o : Out) : (s.emit o).mode = s.mode := rfl
@[simp] theorem State.emit_sup (o : Out) : (s.emit o).sup = s.sup := rfl
@[simp] theorem State.emit_faults (o : Out) : (s.emit o).faults = s.faults := rfl
@[simp] theorem State.emit_ctrs (o : Out) : (s.emit o).ctrs = s.ctrs := rfl
@[simp] theorem State.emit_store (o : Out) : (s.emit o).store = s.store := rfl
@[simp] theorem State.emit_fw (o : Out) : (s.emit o).fw = s.fw := rfl

/-! ### nextFree -/

@[simp] theorem State.nextFree_pending : (s.nextFree).pending = s.pending := rfl
@[simp] theorem State.nextFree_now : (s.nextFree).now = s.now := rfl
@[simp] theorem State.nextFree_etNow : (s.nextFree).etNow = s.etNow := rfl
@[simp] theorem State.nextFree_nextTag : (s.nextFree).nextTag = s.nextTag := rfl
@[simp] theorem State.nextFree_arch : (s.nextFree).arch = s.arch := rfl
@[simp] theorem State.nextFree_hosts : (s.nextFree).hosts = s.hosts := rfl
@[simp] theorem State.nextFree_fns : (s.nextFree).fns = s.fns := rfl
@[simp] theorem State.nextFree_eqs : (s.nextFree).eqs = s.eqs := rfl
@[simp] theorem State.nextFree_ctxs : (s.nextFree).ctxs = s.ctxs := rfl
@[simp] theorem State.nextFree_ets : (s.nextFree).ets = s.ets := rfl
@[simp] theorem State.nextFree_reads : (s.nextFree).reads = s.reads := rfl
@[simp] theorem State.nextFree_walks : (s.nextFree).walks = s.walks := rfl
@[simp] theorem State.nextFree_mctxs : (s.nextFree).mctxs = s.mctxs := rfl
@[simp] theorem State.nextFree_wins : (s.nextFree).wins = s.wins := rfl
@[simp] theorem State.nextFree_acu : (s.nextFree).acu = s.acu := rfl
@[simp] theorem State.nextFree_priv : (s.nextFree).priv = s.priv := rfl
@[simp] theorem State.nextFree_sems : (s.nextFree).sems = s.sems := rfl
@[simp] theorem State.nextFree_nextTicket : (s.nextFree).nextTicket = s.nextTicket := rfl
@[simp] theorem State.nextFree_links : (s.nextFree).links = s.links := rfl
@[simp] theorem State.nextFree_portqs : (s.nextFree).portqs = s.portqs := rfl
@[simp] theorem State.nextFree_tports : (s.nextFree).tports = s.tports := rfl
@[simp] theorem State.nextFree_gates : (s.nextFree).gates = s.gates := rfl
@[simp] theorem State.nextFree_pts : (s.nextFree).pts = s.pts := rfl
@[simp] theorem State.nextFree_quiet : (s.nextFree).quiet = s.quiet := rfl
@[simp] theorem State.nextFree_time : (s.nextFree).time = s.time := rfl
@[simp] theorem State.nextFree_trees : (s.nextFree).trees = s.trees := rfl
@[simp] theorem State.nextFree_collCounts : (s.nextFree).collCounts = s.collCounts := rfl
@[simp] theorem State.nextFree_keepAt : (s.nextFree).keepAt = s.keepAt := rfl
@[simp] theorem State.nextFree_dict : (s.nextFree).dict = s.dict := rfl
@[simp] theorem State.nextFree_mode : (s.nextFree).mode = s.mode := rfl
@[simp] theorem State.nextFree_sup : (s.nextFree).sup = s.sup := rfl
@[simp] theorem State.nextFree_faults : (s.nextFree).faults = s.faults := rfl
@[simp] theorem State.nextFree_ctrs : (s.nextFree).ctrs = s.ctrs := rfl
@[simp] theorem State.nextFree_store : (s.nextFree).store = s.store := rfl
@[simp] theorem State.nextFree_fw : (s.nextFree).fw = s.fw := rfl
@[simp] theorem State.nextFree_out : (s.nextFree).out = s.out := rfl

/-! ### report -/

@[simp] theorem State.report_pending (f : FaultReport) : (s.report f).pending = s.pending := rfl
@[simp] theorem State.report_now (f : FaultReport) : (s.report f).now = s.now := rfl
@[simp] theorem State.report_etNow (f : FaultReport) : (s.report f).etNow = s.etNow := rfl
@[simp] theorem State.report_free (f : FaultReport) : (s.report f).free = s.free := rfl
@[simp] theorem State.report_nextTag (f : FaultReport) : (s.report f).nextTag = s.nextTag := rfl
@[simp] theorem State.report_arch (f : FaultReport) : (s.report f).arch = s.arch := rfl
@[simp] theorem State.report_hosts (f : FaultReport) : (s.report f).hosts = s.hosts := rfl
@[simp] theorem State.report_fns (f : FaultReport) : (s.report f).fns = s.fns := rfl
@[simp] theorem State.report_eqs (f : FaultReport) : (s.report f).eqs = s.eqs := rfl
@[simp] theorem State.report_ctxs (f : FaultReport) : (s.report f).ctxs = s.ctxs := rfl
@[simp] theorem State.report_ets (f : FaultReport) : (s.report f).ets = s.ets := rfl
@[simp] theorem State.report_reads (f : FaultReport) : (s.report f).reads = s.reads := rfl
@[simp] theorem State.report_walks (f : FaultReport) : (s.report f).walks = s.walks := rfl
@[simp] theorem State.report_mctxs (f : FaultReport) : (s.report f).mctxs = s.mctxs := rfl
@[simp] theorem State.report_wins (f : FaultReport) : (s.report f).wins = s.wins := rfl
@[simp] theorem State.report_acu (f : FaultReport) : (s.report f).acu = s.acu := rfl
@[simp] theorem State.report_priv (f : FaultReport) : (s.report f).priv = s.priv := rfl
@[simp] theorem State.report_sems (f : FaultReport) : (s.report f).sems = s.sems := rfl
@[simp] theorem State.report_nextTicket (f : FaultReport) : (s.report f).nextTicket = s.nextTicket := rfl
@[simp] theorem State.report_links (f : FaultReport) : (s.report f).links = s.links := rfl
@[simp] theorem State.report_portqs (f : FaultReport) : (s.report f).portqs = s.portqs := rfl
@[simp] theorem State.report_tports (f : FaultReport) : (s.report f).tports = s.tports := rfl
@[simp] theorem State.report_gates (f : FaultReport) : (s.report f).gates = s.gates := rfl
@[simp] theorem State.report_pts (f : FaultReport) : (s.report f).pts = s.pts := rfl
@[simp] theorem State.report_quiet (f : FaultReport) : (s.report f).quiet = s.quiet := rfl
@[simp] theorem State.report_time (f : FaultReport) : (s.report f).time = s.time := rfl
@[simp] theorem State.report_trees (f : FaultReport) : (s.report f).trees = s.trees := rfl
@[simp] theorem State.report_collCounts (f : FaultReport) : (s.report f).collCounts = s.collCounts := rfl
@[simp] theorem State.report_keepAt (f : FaultReport) : (s.report f).keepAt = s.keepAt := rfl
@[simp] theorem State.report_dict (f : FaultReport) : (s.report f).dict = s.dict := rfl
@[simp] theorem State.report_mode (f : FaultReport) : (s.report f).mode = s.mode := rfl
@[simp] theorem State.report_sup (f : FaultReport) : (s.report f).sup = s.sup := rfl
@[simp] theorem State.report_ctrs (f : FaultReport) : (s.report f).ctrs = s.ctrs := rfl
@[simp] theorem State.report_store (f : FaultReport) : (s.report f).store = s.store := rfl
@[simp] theorem State.report_fw (f : FaultReport) : (s.report f).fw = s.fw := rfl
@[simp] theorem State.report_out (f : FaultReport) : (s.report f).out = s.out := rfl

/-! ### Accessors of other parts -/

@[simp] theorem State.modHost_fn (h : Nat) (f : HostPort → HostPort) (j : Nat) : (s.modHost h f).fn j = s.fn j := rfl
@[simp] theorem State.modHost_ctx (h : Nat) (f : HostPort → HostPort) (j c' : Nat) : (s.modHost h f).ctx j c' = s.ctx j c' := rfl
@[simp] theorem State.modHost_et (h : Nat) (f : HostPort → HostPort) (j : Nat) : (s.modHost h f).et j = s.et j := rfl
@[simp] theorem State.modHost_link (h : Nat) (f : HostPort → HostPort) (j : Nat) : (s.modHost h f).link j = s.link j := rfl
@[simp] theorem State.modHost_portq (h : Nat) (f : HostPort → HostPort) (j : Nat) : (s.modHost h f).portq j = s.portq j := rfl
@[simp] theorem State.modHost_tport (h : Nat) (f : HostPort → HostPort) (j : Nat) : (s.modHost h f).tport j = s.tport j := rfl
@[simp] theorem State.modHost_gate (h : Nat) (f : HostPort → HostPort) (j : Nat) : (s.modHost h f).gate j = s.gate j := rfl
@[simp] theorem State.modHost_pt (h : Nat) (f : HostPort → HostPort) (j : Nat) : (s.modHost h f).pt j = s.pt j := rfl
@[simp] theorem State.modHost_sem (h : Nat) (f : HostPort → HostPort) (j : Nat) : (s.modHost h f).sem j = s.sem j := rfl
@[simp] theorem State.modHost_mctx (h : Nat) (f : HostPort → HostPort) (j c' : Nat) : (s.modHost h f).mctx j c' = s.mctx j c' := rfl
@[simp] theorem State.modHost_win (h : Nat) (f : HostPort → HostPort) (j c' : Nat) : (s.modHost h f).win j c' = s.win j c' := rfl
@[simp] theorem State.modHost_tree (h : Nat) (f : HostPort → HostPort) (j : Nat) : (s.modHost h f).tree j = s.tree j := rfl
@[simp] theorem State.modHost_eq? (h : Nat) (f : HostPort → HostPort) (j c' : Nat) : (s.modHost h f).eq? j c' = s.eq? j c' := rfl
@[simp] theorem State.modHost_cfg (h : Nat) (f : HostPort → HostPort) (j c' : Nat) : (s.modHost h f).cfg j c' = s.cfg j c' := rfl
@[simp] theorem State.modHost_inMode (h : Nat) (f : HostPort → HostPort) (j : Mode) : (s.modHost h f).inMode j = s.inMode j := rfl
@[simp] theorem State.modHost_island (h : Nat) (f : HostPort → HostPort) (j : Nat) : (s.modHost h f).island j = s.island j := rfl
@[simp] theorem State.modFn_hostPort (f : Nat) (g : Fn → Fn) (j : Nat) : (s.modFn f g).hostPort j = s.hostPort j := rfl
@[simp] theorem State.modFn_ctx (f : Nat) (g : Fn → Fn) (j c' : Nat) : (s.modFn f g).ctx j c' = s.ctx j c' := rfl
@[simp] theorem State.modFn_et (f : Nat) (g : Fn → Fn) (j : Nat) : (s.modFn f g).et j = s.et j := rfl
@[simp] theorem State.modFn_link (f : Nat) (g : Fn → Fn) (j : Nat) : (s.modFn f g).link j = s.link j := rfl
@[simp] theorem State.modFn_portq (f : Nat) (g : Fn → Fn) (j : Nat) : (s.modFn f g).portq j = s.portq j := rfl
@[simp] theorem State.modFn_tport (f : Nat) (g : Fn → Fn) (j : Nat) : (s.modFn f g).tport j = s.tport j := rfl
@[simp] theorem State.modFn_gate (f : Nat) (g : Fn → Fn) (j : Nat) : (s.modFn f g).gate j = s.gate j := rfl
@[simp] theorem State.modFn_pt (f : Nat) (g : Fn → Fn) (j : Nat) : (s.modFn f g).pt j = s.pt j := rfl
@[simp] theorem State.modFn_sem (f : Nat) (g : Fn → Fn) (j : Nat) : (s.modFn f g).sem j = s.sem j := rfl
@[simp] theorem State.modFn_mctx (f : Nat) (g : Fn → Fn) (j c' : Nat) : (s.modFn f g).mctx j c' = s.mctx j c' := rfl
@[simp] theorem State.modFn_win (f : Nat) (g : Fn → Fn) (j c' : Nat) : (s.modFn f g).win j c' = s.win j c' := rfl
@[simp] theorem State.modFn_tree (f : Nat) (g : Fn → Fn) (j : Nat) : (s.modFn f g).tree j = s.tree j := rfl
@[simp] theorem State.modFn_eq? (f : Nat) (g : Fn → Fn) (j c' : Nat) : (s.modFn f g).eq? j c' = s.eq? j c' := rfl
@[simp] theorem State.modFn_cfg (f : Nat) (g : Fn → Fn) (j c' : Nat) : (s.modFn f g).cfg j c' = s.cfg j c' := rfl
@[simp] theorem State.modFn_inMode (f : Nat) (g : Fn → Fn) (j : Mode) : (s.modFn f g).inMode j = s.inMode j := rfl
@[simp] theorem State.modFn_island (f : Nat) (g : Fn → Fn) (j : Nat) : (s.modFn f g).island j = s.island j := rfl
@[simp] theorem State.modCtx_hostPort (f c : Nat) (g : CtxAll → CtxAll) (j : Nat) : (s.modCtx f c g).hostPort j = s.hostPort j := rfl
@[simp] theorem State.modCtx_fn (f c : Nat) (g : CtxAll → CtxAll) (j : Nat) : (s.modCtx f c g).fn j = s.fn j := rfl
@[simp] theorem State.modCtx_et (f c : Nat) (g : CtxAll → CtxAll) (j : Nat) : (s.modCtx f c g).et j = s.et j := rfl
@[simp] theorem State.modCtx_link (f c : Nat) (g : CtxAll → CtxAll) (j : Nat) : (s.modCtx f c g).link j = s.link j := rfl
@[simp] theorem State.modCtx_portq (f c : Nat) (g : CtxAll → CtxAll) (j : Nat) : (s.modCtx f c g).portq j = s.portq j := rfl
@[simp] theorem State.modCtx_tport (f c : Nat) (g : CtxAll → CtxAll) (j : Nat) : (s.modCtx f c g).tport j = s.tport j := rfl
@[simp] theorem State.modCtx_gate (f c : Nat) (g : CtxAll → CtxAll) (j : Nat) : (s.modCtx f c g).gate j = s.gate j := rfl
@[simp] theorem State.modCtx_pt (f c : Nat) (g : CtxAll → CtxAll) (j : Nat) : (s.modCtx f c g).pt j = s.pt j := rfl
@[simp] theorem State.modCtx_sem (f c : Nat) (g : CtxAll → CtxAll) (j : Nat) : (s.modCtx f c g).sem j = s.sem j := rfl
@[simp] theorem State.modCtx_mctx (f c : Nat) (g : CtxAll → CtxAll) (j c' : Nat) : (s.modCtx f c g).mctx j c' = s.mctx j c' := rfl
@[simp] theorem State.modCtx_win (f c : Nat) (g : CtxAll → CtxAll) (j c' : Nat) : (s.modCtx f c g).win j c' = s.win j c' := rfl
@[simp] theorem State.modCtx_tree (f c : Nat) (g : CtxAll → CtxAll) (j : Nat) : (s.modCtx f c g).tree j = s.tree j := rfl
@[simp] theorem State.modCtx_eq? (f c : Nat) (g : CtxAll → CtxAll) (j c' : Nat) : (s.modCtx f c g).eq? j c' = s.eq? j c' := rfl
@[simp] theorem State.modCtx_cfg (f c : Nat) (g : CtxAll → CtxAll) (j c' : Nat) : (s.modCtx f c g).cfg j c' = s.cfg j c' := rfl
@[simp] theorem State.modCtx_inMode (f c : Nat) (g : CtxAll → CtxAll) (j : Mode) : (s.modCtx f c g).inMode j = s.inMode j := rfl
@[simp] theorem State.modCtx_island (f c : Nat) (g : CtxAll → CtxAll) (j : Nat) : (s.modCtx f c g).island j = s.island j := rfl
@[simp] theorem State.modC_hostPort (f c : Nat) (g : Ctx → Ctx) (j : Nat) : (s.modC f c g).hostPort j = s.hostPort j := rfl
@[simp] theorem State.modC_fn (f c : Nat) (g : Ctx → Ctx) (j : Nat) : (s.modC f c g).fn j = s.fn j := rfl
@[simp] theorem State.modC_et (f c : Nat) (g : Ctx → Ctx) (j : Nat) : (s.modC f c g).et j = s.et j := rfl
@[simp] theorem State.modC_link (f c : Nat) (g : Ctx → Ctx) (j : Nat) : (s.modC f c g).link j = s.link j := rfl
@[simp] theorem State.modC_portq (f c : Nat) (g : Ctx → Ctx) (j : Nat) : (s.modC f c g).portq j = s.portq j := rfl
@[simp] theorem State.modC_tport (f c : Nat) (g : Ctx → Ctx) (j : Nat) : (s.modC f c g).tport j = s.tport j := rfl
@[simp] theorem State.modC_gate (f c : Nat) (g : Ctx → Ctx) (j : Nat) : (s.modC f c g).gate j = s.gate j := rfl
@[simp] theorem State.modC_pt (f c : Nat) (g : Ctx → Ctx) (j : Nat) : (s.modC f c g).pt j = s.pt j := rfl
@[simp] theorem State.modC_sem (f c : Nat) (g : Ctx → Ctx) (j : Nat) : (s.modC f c g).sem j = s.sem j := rfl
@[simp] theorem State.modC_mctx (f c : Nat) (g : Ctx → Ctx) (j c' : Nat) : (s.modC f c g).mctx j c' = s.mctx j c' := rfl
@[simp] theorem State.modC_win (f c : Nat) (g : Ctx → Ctx) (j c' : Nat) : (s.modC f c g).win j c' = s.win j c' := rfl
@[simp] theorem State.modC_tree (f c : Nat) (g : Ctx → Ctx) (j : Nat) : (s.modC f c g).tree j = s.tree j := rfl
@[simp] theorem State.modC_eq? (f c : Nat) (g : Ctx → Ctx) (j c' : Nat) : (s.modC f c g).eq? j c' = s.eq? j c' := rfl
@[simp] theorem State.modC_cfg (f c : Nat) (g : Ctx → Ctx) (j c' : Nat) : (s.modC f c g).cfg j c' = s.cfg j c' := rfl
@[simp] theorem State.modC_inMode (f c : Nat) (g : Ctx → Ctx) (j : Mode) : (s.modC f c g).inMode j = s.inMode j := rfl
@[simp] theorem State.modC_island (f c : Nat) (g : Ctx → Ctx) (j : Nat) : (s.modC f c g).island j = s.island j := rfl
@[simp] theorem State.modW_hostPort (f c : Nat) (g : CtxWork → CtxWork) (j : Nat) : (s.modW f c g).hostPort j = s.hostPort j := rfl
@[simp] theorem State.modW_fn (f c : Nat) (g : CtxWork → CtxWork) (j : Nat) : (s.modW f c g).fn j = s.fn j := rfl
@[simp] theorem State.modW_et (f c : Nat) (g : CtxWork → CtxWork) (j : Nat) : (s.modW f c g).et j = s.et j := rfl
@[simp] theorem State.modW_link (f c : Nat) (g : CtxWork → CtxWork) (j : Nat) : (s.modW f c g).link j = s.link j := rfl
@[simp] theorem State.modW_portq (f c : Nat) (g : CtxWork → CtxWork) (j : Nat) : (s.modW f c g).portq j = s.portq j := rfl
@[simp] theorem State.modW_tport (f c : Nat) (g : CtxWork → CtxWork) (j : Nat) : (s.modW f c g).tport j = s.tport j := rfl
@[simp] theorem State.modW_gate (f c : Nat) (g : CtxWork → CtxWork) (j : Nat) : (s.modW f c g).gate j = s.gate j := rfl
@[simp] theorem State.modW_pt (f c : Nat) (g : CtxWork → CtxWork) (j : Nat) : (s.modW f c g).pt j = s.pt j := rfl
@[simp] theorem State.modW_sem (f c : Nat) (g : CtxWork → CtxWork) (j : Nat) : (s.modW f c g).sem j = s.sem j := rfl
@[simp] theorem State.modW_mctx (f c : Nat) (g : CtxWork → CtxWork) (j c' : Nat) : (s.modW f c g).mctx j c' = s.mctx j c' := rfl
@[simp] theorem State.modW_win (f c : Nat) (g : CtxWork → CtxWork) (j c' : Nat) : (s.modW f c g).win j c' = s.win j c' := rfl
@[simp] theorem State.modW_tree (f c : Nat) (g : CtxWork → CtxWork) (j : Nat) : (s.modW f c g).tree j = s.tree j := rfl
@[simp] theorem State.modW_eq? (f c : Nat) (g : CtxWork → CtxWork) (j c' : Nat) : (s.modW f c g).eq? j c' = s.eq? j c' := rfl
@[simp] theorem State.modW_cfg (f c : Nat) (g : CtxWork → CtxWork) (j c' : Nat) : (s.modW f c g).cfg j c' = s.cfg j c' := rfl
@[simp] theorem State.modW_inMode (f c : Nat) (g : CtxWork → CtxWork) (j : Mode) : (s.modW f c g).inMode j = s.inMode j := rfl
@[simp] theorem State.modW_island (f c : Nat) (g : CtxWork → CtxWork) (j : Nat) : (s.modW f c g).island j = s.island j := rfl
@[simp] theorem State.modM_hostPort (f c : Nat) (g : CtxMatch → CtxMatch) (j : Nat) : (s.modM f c g).hostPort j = s.hostPort j := rfl
@[simp] theorem State.modM_fn (f c : Nat) (g : CtxMatch → CtxMatch) (j : Nat) : (s.modM f c g).fn j = s.fn j := rfl
@[simp] theorem State.modM_et (f c : Nat) (g : CtxMatch → CtxMatch) (j : Nat) : (s.modM f c g).et j = s.et j := rfl
@[simp] theorem State.modM_link (f c : Nat) (g : CtxMatch → CtxMatch) (j : Nat) : (s.modM f c g).link j = s.link j := rfl
@[simp] theorem State.modM_portq (f c : Nat) (g : CtxMatch → CtxMatch) (j : Nat) : (s.modM f c g).portq j = s.portq j := rfl
@[simp] theorem State.modM_tport (f c : Nat) (g : CtxMatch → CtxMatch) (j : Nat) : (s.modM f c g).tport j = s.tport j := rfl
@[simp] theorem State.modM_gate (f c : Nat) (g : CtxMatch → CtxMatch) (j : Nat) : (s.modM f c g).gate j = s.gate j := rfl
@[simp] theorem State.modM_pt (f c : Nat) (g : CtxMatch → CtxMatch) (j : Nat) : (s.modM f c g).pt j = s.pt j := rfl
@[simp] theorem State.modM_sem (f c : Nat) (g : CtxMatch → CtxMatch) (j : Nat) : (s.modM f c g).sem j = s.sem j := rfl
@[simp] theorem State.modM_mctx (f c : Nat) (g : CtxMatch → CtxMatch) (j c' : Nat) : (s.modM f c g).mctx j c' = s.mctx j c' := rfl
@[simp] theorem State.modM_win (f c : Nat) (g : CtxMatch → CtxMatch) (j c' : Nat) : (s.modM f c g).win j c' = s.win j c' := rfl
@[simp] theorem State.modM_tree (f c : Nat) (g : CtxMatch → CtxMatch) (j : Nat) : (s.modM f c g).tree j = s.tree j := rfl
@[simp] theorem State.modM_eq? (f c : Nat) (g : CtxMatch → CtxMatch) (j c' : Nat) : (s.modM f c g).eq? j c' = s.eq? j c' := rfl
@[simp] theorem State.modM_cfg (f c : Nat) (g : CtxMatch → CtxMatch) (j c' : Nat) : (s.modM f c g).cfg j c' = s.cfg j c' := rfl
@[simp] theorem State.modM_inMode (f c : Nat) (g : CtxMatch → CtxMatch) (j : Mode) : (s.modM f c g).inMode j = s.inMode j := rfl
@[simp] theorem State.modM_island (f c : Nat) (g : CtxMatch → CtxMatch) (j : Nat) : (s.modM f c g).island j = s.island j := rfl
@[simp] theorem State.modEq_hostPort (f q : Nat) (g : EventQ → EventQ) (j : Nat) : (s.modEq f q g).hostPort j = s.hostPort j := rfl
@[simp] theorem State.modEq_fn (f q : Nat) (g : EventQ → EventQ) (j : Nat) : (s.modEq f q g).fn j = s.fn j := rfl
@[simp] theorem State.modEq_ctx (f q : Nat) (g : EventQ → EventQ) (j c' : Nat) : (s.modEq f q g).ctx j c' = s.ctx j c' := rfl
@[simp] theorem State.modEq_et (f q : Nat) (g : EventQ → EventQ) (j : Nat) : (s.modEq f q g).et j = s.et j := rfl
@[simp] theorem State.modEq_link (f q : Nat) (g : EventQ → EventQ) (j : Nat) : (s.modEq f q g).link j = s.link j := rfl
@[simp] theorem State.modEq_portq (f q : Nat) (g : EventQ → EventQ) (j : Nat) : (s.modEq f q g).portq j = s.portq j := rfl
@[simp] theorem State.modEq_tport (f q : Nat) (g : EventQ → EventQ) (j : Nat) : (s.modEq f q g).tport j = s.tport j := rfl
@[simp] theorem State.modEq_gate (f q : Nat) (g : EventQ → EventQ) (j : Nat) : (s.modEq f q g).gate j = s.gate j := rfl
@[simp] theorem State.modEq_pt (f q : Nat) (g : EventQ → EventQ) (j : Nat) : (s.modEq f q g).pt j = s.pt j := rfl
@[simp] theorem State.modEq_sem (f q : Nat) (g : EventQ → EventQ) (j : Nat) : (s.modEq f q g).sem j = s.sem j := rfl
@[simp] theorem State.modEq_mctx (f q : Nat) (g : EventQ → EventQ) (j c' : Nat) : (s.modEq f q g).mctx j c' = s.mctx j c' := rfl
@[simp] theorem State.modEq_win (f q : Nat) (g : EventQ → EventQ) (j c' : Nat) : (s.modEq f q g).win j c' = s.win j c' := rfl
@[simp] theorem State.modEq_tree (f q : Nat) (g : EventQ → EventQ) (j : Nat) : (s.modEq f q g).tree j = s.tree j := rfl
@[simp] theorem State.modEq_cfg (f q : Nat) (g : EventQ → EventQ) (j c' : Nat) : (s.modEq f q g).cfg j c' = s.cfg j c' := rfl
@[simp] theorem State.modEq_inMode (f q : Nat) (g : EventQ → EventQ) (j : Mode) : (s.modEq f q g).inMode j = s.inMode j := rfl
@[simp] theorem State.modEq_island (f q : Nat) (g : EventQ → EventQ) (j : Nat) : (s.modEq f q g).island j = s.island j := rfl
@[simp] theorem State.modEt_hostPort (n : Nat) (g : EtTile → EtTile) (j : Nat) : (s.modEt n g).hostPort j = s.hostPort j := rfl
@[simp] theorem State.modEt_fn (n : Nat) (g : EtTile → EtTile) (j : Nat) : (s.modEt n g).fn j = s.fn j := rfl
@[simp] theorem State.modEt_ctx (n : Nat) (g : EtTile → EtTile) (j c' : Nat) : (s.modEt n g).ctx j c' = s.ctx j c' := rfl
@[simp] theorem State.modEt_link (n : Nat) (g : EtTile → EtTile) (j : Nat) : (s.modEt n g).link j = s.link j := rfl
@[simp] theorem State.modEt_portq (n : Nat) (g : EtTile → EtTile) (j : Nat) : (s.modEt n g).portq j = s.portq j := rfl
@[simp] theorem State.modEt_tport (n : Nat) (g : EtTile → EtTile) (j : Nat) : (s.modEt n g).tport j = s.tport j := rfl
@[simp] theorem State.modEt_gate (n : Nat) (g : EtTile → EtTile) (j : Nat) : (s.modEt n g).gate j = s.gate j := rfl
@[simp] theorem State.modEt_pt (n : Nat) (g : EtTile → EtTile) (j : Nat) : (s.modEt n g).pt j = s.pt j := rfl
@[simp] theorem State.modEt_sem (n : Nat) (g : EtTile → EtTile) (j : Nat) : (s.modEt n g).sem j = s.sem j := rfl
@[simp] theorem State.modEt_mctx (n : Nat) (g : EtTile → EtTile) (j c' : Nat) : (s.modEt n g).mctx j c' = s.mctx j c' := rfl
@[simp] theorem State.modEt_win (n : Nat) (g : EtTile → EtTile) (j c' : Nat) : (s.modEt n g).win j c' = s.win j c' := rfl
@[simp] theorem State.modEt_tree (n : Nat) (g : EtTile → EtTile) (j : Nat) : (s.modEt n g).tree j = s.tree j := rfl
@[simp] theorem State.modEt_eq? (n : Nat) (g : EtTile → EtTile) (j c' : Nat) : (s.modEt n g).eq? j c' = s.eq? j c' := rfl
@[simp] theorem State.modEt_cfg (n : Nat) (g : EtTile → EtTile) (j c' : Nat) : (s.modEt n g).cfg j c' = s.cfg j c' := rfl
@[simp] theorem State.modEt_inMode (n : Nat) (g : EtTile → EtTile) (j : Mode) : (s.modEt n g).inMode j = s.inMode j := rfl
@[simp] theorem State.modEt_island (n : Nat) (g : EtTile → EtTile) (j : Nat) : (s.modEt n g).island j = s.island j := rfl
@[simp] theorem State.modLink_hostPort (p : Nat) (g : Link → Link) (j : Nat) : (s.modLink p g).hostPort j = s.hostPort j := rfl
@[simp] theorem State.modLink_fn (p : Nat) (g : Link → Link) (j : Nat) : (s.modLink p g).fn j = s.fn j := rfl
@[simp] theorem State.modLink_ctx (p : Nat) (g : Link → Link) (j c' : Nat) : (s.modLink p g).ctx j c' = s.ctx j c' := rfl
@[simp] theorem State.modLink_et (p : Nat) (g : Link → Link) (j : Nat) : (s.modLink p g).et j = s.et j := rfl
@[simp] theorem State.modLink_portq (p : Nat) (g : Link → Link) (j : Nat) : (s.modLink p g).portq j = s.portq j := rfl
@[simp] theorem State.modLink_tport (p : Nat) (g : Link → Link) (j : Nat) : (s.modLink p g).tport j = s.tport j := rfl
@[simp] theorem State.modLink_gate (p : Nat) (g : Link → Link) (j : Nat) : (s.modLink p g).gate j = s.gate j := rfl
@[simp] theorem State.modLink_pt (p : Nat) (g : Link → Link) (j : Nat) : (s.modLink p g).pt j = s.pt j := rfl
@[simp] theorem State.modLink_sem (p : Nat) (g : Link → Link) (j : Nat) : (s.modLink p g).sem j = s.sem j := rfl
@[simp] theorem State.modLink_mctx (p : Nat) (g : Link → Link) (j c' : Nat) : (s.modLink p g).mctx j c' = s.mctx j c' := rfl
@[simp] theorem State.modLink_win (p : Nat) (g : Link → Link) (j c' : Nat) : (s.modLink p g).win j c' = s.win j c' := rfl
@[simp] theorem State.modLink_tree (p : Nat) (g : Link → Link) (j : Nat) : (s.modLink p g).tree j = s.tree j := rfl
@[simp] theorem State.modLink_eq? (p : Nat) (g : Link → Link) (j c' : Nat) : (s.modLink p g).eq? j c' = s.eq? j c' := rfl
@[simp] theorem State.modLink_cfg (p : Nat) (g : Link → Link) (j c' : Nat) : (s.modLink p g).cfg j c' = s.cfg j c' := rfl
@[simp] theorem State.modLink_inMode (p : Nat) (g : Link → Link) (j : Mode) : (s.modLink p g).inMode j = s.inMode j := rfl
@[simp] theorem State.modLink_island (p : Nat) (g : Link → Link) (j : Nat) : (s.modLink p g).island j = s.island j := rfl
@[simp] theorem State.modPortq_hostPort (p : Nat) (g : PortQ → PortQ) (j : Nat) : (s.modPortq p g).hostPort j = s.hostPort j := rfl
@[simp] theorem State.modPortq_fn (p : Nat) (g : PortQ → PortQ) (j : Nat) : (s.modPortq p g).fn j = s.fn j := rfl
@[simp] theorem State.modPortq_ctx (p : Nat) (g : PortQ → PortQ) (j c' : Nat) : (s.modPortq p g).ctx j c' = s.ctx j c' := rfl
@[simp] theorem State.modPortq_et (p : Nat) (g : PortQ → PortQ) (j : Nat) : (s.modPortq p g).et j = s.et j := rfl
@[simp] theorem State.modPortq_link (p : Nat) (g : PortQ → PortQ) (j : Nat) : (s.modPortq p g).link j = s.link j := rfl
@[simp] theorem State.modPortq_tport (p : Nat) (g : PortQ → PortQ) (j : Nat) : (s.modPortq p g).tport j = s.tport j := rfl
@[simp] theorem State.modPortq_gate (p : Nat) (g : PortQ → PortQ) (j : Nat) : (s.modPortq p g).gate j = s.gate j := rfl
@[simp] theorem State.modPortq_pt (p : Nat) (g : PortQ → PortQ) (j : Nat) : (s.modPortq p g).pt j = s.pt j := rfl
@[simp] theorem State.modPortq_sem (p : Nat) (g : PortQ → PortQ) (j : Nat) : (s.modPortq p g).sem j = s.sem j := rfl
@[simp] theorem State.modPortq_mctx (p : Nat) (g : PortQ → PortQ) (j c' : Nat) : (s.modPortq p g).mctx j c' = s.mctx j c' := rfl
@[simp] theorem State.modPortq_win (p : Nat) (g : PortQ → PortQ) (j c' : Nat) : (s.modPortq p g).win j c' = s.win j c' := rfl
@[simp] theorem State.modPortq_tree (p : Nat) (g : PortQ → PortQ) (j : Nat) : (s.modPortq p g).tree j = s.tree j := rfl
@[simp] theorem State.modPortq_eq? (p : Nat) (g : PortQ → PortQ) (j c' : Nat) : (s.modPortq p g).eq? j c' = s.eq? j c' := rfl
@[simp] theorem State.modPortq_cfg (p : Nat) (g : PortQ → PortQ) (j c' : Nat) : (s.modPortq p g).cfg j c' = s.cfg j c' := rfl
@[simp] theorem State.modPortq_inMode (p : Nat) (g : PortQ → PortQ) (j : Mode) : (s.modPortq p g).inMode j = s.inMode j := rfl
@[simp] theorem State.modPortq_island (p : Nat) (g : PortQ → PortQ) (j : Nat) : (s.modPortq p g).island j = s.island j := rfl
@[simp] theorem State.modTport_hostPort (p : Nat) (g : TimePort → TimePort) (j : Nat) : (s.modTport p g).hostPort j = s.hostPort j := rfl
@[simp] theorem State.modTport_fn (p : Nat) (g : TimePort → TimePort) (j : Nat) : (s.modTport p g).fn j = s.fn j := rfl
@[simp] theorem State.modTport_ctx (p : Nat) (g : TimePort → TimePort) (j c' : Nat) : (s.modTport p g).ctx j c' = s.ctx j c' := rfl
@[simp] theorem State.modTport_et (p : Nat) (g : TimePort → TimePort) (j : Nat) : (s.modTport p g).et j = s.et j := rfl
@[simp] theorem State.modTport_link (p : Nat) (g : TimePort → TimePort) (j : Nat) : (s.modTport p g).link j = s.link j := rfl
@[simp] theorem State.modTport_portq (p : Nat) (g : TimePort → TimePort) (j : Nat) : (s.modTport p g).portq j = s.portq j := rfl
@[simp] theorem State.modTport_gate (p : Nat) (g : TimePort → TimePort) (j : Nat) : (s.modTport p g).gate j = s.gate j := rfl
@[simp] theorem State.modTport_pt (p : Nat) (g : TimePort → TimePort) (j : Nat) : (s.modTport p g).pt j = s.pt j := rfl
@[simp] theorem State.modTport_sem (p : Nat) (g : TimePort → TimePort) (j : Nat) : (s.modTport p g).sem j = s.sem j := rfl
@[simp] theorem State.modTport_mctx (p : Nat) (g : TimePort → TimePort) (j c' : Nat) : (s.modTport p g).mctx j c' = s.mctx j c' := rfl
@[simp] theorem State.modTport_win (p : Nat) (g : TimePort → TimePort) (j c' : Nat) : (s.modTport p g).win j c' = s.win j c' := rfl
@[simp] theorem State.modTport_tree (p : Nat) (g : TimePort → TimePort) (j : Nat) : (s.modTport p g).tree j = s.tree j := rfl
@[simp] theorem State.modTport_eq? (p : Nat) (g : TimePort → TimePort) (j c' : Nat) : (s.modTport p g).eq? j c' = s.eq? j c' := rfl
@[simp] theorem State.modTport_cfg (p : Nat) (g : TimePort → TimePort) (j c' : Nat) : (s.modTport p g).cfg j c' = s.cfg j c' := rfl
@[simp] theorem State.modTport_inMode (p : Nat) (g : TimePort → TimePort) (j : Mode) : (s.modTport p g).inMode j = s.inMode j := rfl
@[simp] theorem State.modTport_island (p : Nat) (g : TimePort → TimePort) (j : Nat) : (s.modTport p g).island j = s.island j := rfl
@[simp] theorem State.modGate_hostPort (p : Nat) (g : Gate → Gate) (j : Nat) : (s.modGate p g).hostPort j = s.hostPort j := rfl
@[simp] theorem State.modGate_fn (p : Nat) (g : Gate → Gate) (j : Nat) : (s.modGate p g).fn j = s.fn j := rfl
@[simp] theorem State.modGate_ctx (p : Nat) (g : Gate → Gate) (j c' : Nat) : (s.modGate p g).ctx j c' = s.ctx j c' := rfl
@[simp] theorem State.modGate_et (p : Nat) (g : Gate → Gate) (j : Nat) : (s.modGate p g).et j = s.et j := rfl
@[simp] theorem State.modGate_link (p : Nat) (g : Gate → Gate) (j : Nat) : (s.modGate p g).link j = s.link j := rfl
@[simp] theorem State.modGate_portq (p : Nat) (g : Gate → Gate) (j : Nat) : (s.modGate p g).portq j = s.portq j := rfl
@[simp] theorem State.modGate_tport (p : Nat) (g : Gate → Gate) (j : Nat) : (s.modGate p g).tport j = s.tport j := rfl
@[simp] theorem State.modGate_pt (p : Nat) (g : Gate → Gate) (j : Nat) : (s.modGate p g).pt j = s.pt j := rfl
@[simp] theorem State.modGate_sem (p : Nat) (g : Gate → Gate) (j : Nat) : (s.modGate p g).sem j = s.sem j := rfl
@[simp] theorem State.modGate_mctx (p : Nat) (g : Gate → Gate) (j c' : Nat) : (s.modGate p g).mctx j c' = s.mctx j c' := rfl
@[simp] theorem State.modGate_win (p : Nat) (g : Gate → Gate) (j c' : Nat) : (s.modGate p g).win j c' = s.win j c' := rfl
@[simp] theorem State.modGate_tree (p : Nat) (g : Gate → Gate) (j : Nat) : (s.modGate p g).tree j = s.tree j := rfl
@[simp] theorem State.modGate_eq? (p : Nat) (g : Gate → Gate) (j c' : Nat) : (s.modGate p g).eq? j c' = s.eq? j c' := rfl
@[simp] theorem State.modGate_cfg (p : Nat) (g : Gate → Gate) (j c' : Nat) : (s.modGate p g).cfg j c' = s.cfg j c' := rfl
@[simp] theorem State.modGate_inMode (p : Nat) (g : Gate → Gate) (j : Mode) : (s.modGate p g).inMode j = s.inMode j := rfl
@[simp] theorem State.modGate_island (p : Nat) (g : Gate → Gate) (j : Nat) : (s.modGate p g).island j = s.island j := rfl
@[simp] theorem State.modPt_hostPort (n : Nat) (g : PtTile → PtTile) (j : Nat) : (s.modPt n g).hostPort j = s.hostPort j := rfl
@[simp] theorem State.modPt_fn (n : Nat) (g : PtTile → PtTile) (j : Nat) : (s.modPt n g).fn j = s.fn j := rfl
@[simp] theorem State.modPt_ctx (n : Nat) (g : PtTile → PtTile) (j c' : Nat) : (s.modPt n g).ctx j c' = s.ctx j c' := rfl
@[simp] theorem State.modPt_et (n : Nat) (g : PtTile → PtTile) (j : Nat) : (s.modPt n g).et j = s.et j := rfl
@[simp] theorem State.modPt_link (n : Nat) (g : PtTile → PtTile) (j : Nat) : (s.modPt n g).link j = s.link j := rfl
@[simp] theorem State.modPt_portq (n : Nat) (g : PtTile → PtTile) (j : Nat) : (s.modPt n g).portq j = s.portq j := rfl
@[simp] theorem State.modPt_tport (n : Nat) (g : PtTile → PtTile) (j : Nat) : (s.modPt n g).tport j = s.tport j := rfl
@[simp] theorem State.modPt_gate (n : Nat) (g : PtTile → PtTile) (j : Nat) : (s.modPt n g).gate j = s.gate j := rfl
@[simp] theorem State.modPt_sem (n : Nat) (g : PtTile → PtTile) (j : Nat) : (s.modPt n g).sem j = s.sem j := rfl
@[simp] theorem State.modPt_mctx (n : Nat) (g : PtTile → PtTile) (j c' : Nat) : (s.modPt n g).mctx j c' = s.mctx j c' := rfl
@[simp] theorem State.modPt_win (n : Nat) (g : PtTile → PtTile) (j c' : Nat) : (s.modPt n g).win j c' = s.win j c' := rfl
@[simp] theorem State.modPt_tree (n : Nat) (g : PtTile → PtTile) (j : Nat) : (s.modPt n g).tree j = s.tree j := rfl
@[simp] theorem State.modPt_eq? (n : Nat) (g : PtTile → PtTile) (j c' : Nat) : (s.modPt n g).eq? j c' = s.eq? j c' := rfl
@[simp] theorem State.modPt_cfg (n : Nat) (g : PtTile → PtTile) (j c' : Nat) : (s.modPt n g).cfg j c' = s.cfg j c' := rfl
@[simp] theorem State.modPt_inMode (n : Nat) (g : PtTile → PtTile) (j : Mode) : (s.modPt n g).inMode j = s.inMode j := rfl
@[simp] theorem State.modPt_island (n : Nat) (g : PtTile → PtTile) (j : Nat) : (s.modPt n g).island j = s.island j := rfl
@[simp] theorem State.setSem_hostPort (n : Nat) (x : Sem) (j : Nat) : (s.setSem n x).hostPort j = s.hostPort j := rfl
@[simp] theorem State.setSem_fn (n : Nat) (x : Sem) (j : Nat) : (s.setSem n x).fn j = s.fn j := rfl
@[simp] theorem State.setSem_ctx (n : Nat) (x : Sem) (j c' : Nat) : (s.setSem n x).ctx j c' = s.ctx j c' := rfl
@[simp] theorem State.setSem_et (n : Nat) (x : Sem) (j : Nat) : (s.setSem n x).et j = s.et j := rfl
@[simp] theorem State.setSem_link (n : Nat) (x : Sem) (j : Nat) : (s.setSem n x).link j = s.link j := rfl
@[simp] theorem State.setSem_portq (n : Nat) (x : Sem) (j : Nat) : (s.setSem n x).portq j = s.portq j := rfl
@[simp] theorem State.setSem_tport (n : Nat) (x : Sem) (j : Nat) : (s.setSem n x).tport j = s.tport j := rfl
@[simp] theorem State.setSem_gate (n : Nat) (x : Sem) (j : Nat) : (s.setSem n x).gate j = s.gate j := rfl
@[simp] theorem State.setSem_pt (n : Nat) (x : Sem) (j : Nat) : (s.setSem n x).pt j = s.pt j := rfl
@[simp] theorem State.setSem_mctx (n : Nat) (x : Sem) (j c' : Nat) : (s.setSem n x).mctx j c' = s.mctx j c' := rfl
@[simp] theorem State.setSem_win (n : Nat) (x : Sem) (j c' : Nat) : (s.setSem n x).win j c' = s.win j c' := rfl
@[simp] theorem State.setSem_tree (n : Nat) (x : Sem) (j : Nat) : (s.setSem n x).tree j = s.tree j := rfl
@[simp] theorem State.setSem_eq? (n : Nat) (x : Sem) (j c' : Nat) : (s.setSem n x).eq? j c' = s.eq? j c' := rfl
@[simp] theorem State.setSem_cfg (n : Nat) (x : Sem) (j c' : Nat) : (s.setSem n x).cfg j c' = s.cfg j c' := rfl
@[simp] theorem State.setSem_inMode (n : Nat) (x : Sem) (j : Mode) : (s.setSem n x).inMode j = s.inMode j := rfl
@[simp] theorem State.setSem_island (n : Nat) (x : Sem) (j : Nat) : (s.setSem n x).island j = s.island j := rfl
@[simp] theorem State.modMctx_hostPort (f m : Nat) (g : MatchCtx → MatchCtx) (j : Nat) : (s.modMctx f m g).hostPort j = s.hostPort j := rfl
@[simp] theorem State.modMctx_fn (f m : Nat) (g : MatchCtx → MatchCtx) (j : Nat) : (s.modMctx f m g).fn j = s.fn j := rfl
@[simp] theorem State.modMctx_ctx (f m : Nat) (g : MatchCtx → MatchCtx) (j c' : Nat) : (s.modMctx f m g).ctx j c' = s.ctx j c' := rfl
@[simp] theorem State.modMctx_et (f m : Nat) (g : MatchCtx → MatchCtx) (j : Nat) : (s.modMctx f m g).et j = s.et j := rfl
@[simp] theorem State.modMctx_link (f m : Nat) (g : MatchCtx → MatchCtx) (j : Nat) : (s.modMctx f m g).link j = s.link j := rfl
@[simp] theorem State.modMctx_portq (f m : Nat) (g : MatchCtx → MatchCtx) (j : Nat) : (s.modMctx f m g).portq j = s.portq j := rfl
@[simp] theorem State.modMctx_tport (f m : Nat) (g : MatchCtx → MatchCtx) (j : Nat) : (s.modMctx f m g).tport j = s.tport j := rfl
@[simp] theorem State.modMctx_gate (f m : Nat) (g : MatchCtx → MatchCtx) (j : Nat) : (s.modMctx f m g).gate j = s.gate j := rfl
@[simp] theorem State.modMctx_pt (f m : Nat) (g : MatchCtx → MatchCtx) (j : Nat) : (s.modMctx f m g).pt j = s.pt j := rfl
@[simp] theorem State.modMctx_sem (f m : Nat) (g : MatchCtx → MatchCtx) (j : Nat) : (s.modMctx f m g).sem j = s.sem j := rfl
@[simp] theorem State.modMctx_win (f m : Nat) (g : MatchCtx → MatchCtx) (j c' : Nat) : (s.modMctx f m g).win j c' = s.win j c' := rfl
@[simp] theorem State.modMctx_tree (f m : Nat) (g : MatchCtx → MatchCtx) (j : Nat) : (s.modMctx f m g).tree j = s.tree j := rfl
@[simp] theorem State.modMctx_eq? (f m : Nat) (g : MatchCtx → MatchCtx) (j c' : Nat) : (s.modMctx f m g).eq? j c' = s.eq? j c' := rfl
@[simp] theorem State.modMctx_cfg (f m : Nat) (g : MatchCtx → MatchCtx) (j c' : Nat) : (s.modMctx f m g).cfg j c' = s.cfg j c' := rfl
@[simp] theorem State.modMctx_inMode (f m : Nat) (g : MatchCtx → MatchCtx) (j : Mode) : (s.modMctx f m g).inMode j = s.inMode j := rfl
@[simp] theorem State.modMctx_island (f m : Nat) (g : MatchCtx → MatchCtx) (j : Nat) : (s.modMctx f m g).island j = s.island j := rfl
@[simp] theorem State.modWin_hostPort (n k : Nat) (g : Win → Win) (j : Nat) : (s.modWin n k g).hostPort j = s.hostPort j := rfl
@[simp] theorem State.modWin_fn (n k : Nat) (g : Win → Win) (j : Nat) : (s.modWin n k g).fn j = s.fn j := rfl
@[simp] theorem State.modWin_ctx (n k : Nat) (g : Win → Win) (j c' : Nat) : (s.modWin n k g).ctx j c' = s.ctx j c' := rfl
@[simp] theorem State.modWin_et (n k : Nat) (g : Win → Win) (j : Nat) : (s.modWin n k g).et j = s.et j := rfl
@[simp] theorem State.modWin_link (n k : Nat) (g : Win → Win) (j : Nat) : (s.modWin n k g).link j = s.link j := rfl
@[simp] theorem State.modWin_portq (n k : Nat) (g : Win → Win) (j : Nat) : (s.modWin n k g).portq j = s.portq j := rfl
@[simp] theorem State.modWin_tport (n k : Nat) (g : Win → Win) (j : Nat) : (s.modWin n k g).tport j = s.tport j := rfl
@[simp] theorem State.modWin_gate (n k : Nat) (g : Win → Win) (j : Nat) : (s.modWin n k g).gate j = s.gate j := rfl
@[simp] theorem State.modWin_pt (n k : Nat) (g : Win → Win) (j : Nat) : (s.modWin n k g).pt j = s.pt j := rfl
@[simp] theorem State.modWin_sem (n k : Nat) (g : Win → Win) (j : Nat) : (s.modWin n k g).sem j = s.sem j := rfl
@[simp] theorem State.modWin_mctx (n k : Nat) (g : Win → Win) (j c' : Nat) : (s.modWin n k g).mctx j c' = s.mctx j c' := rfl
@[simp] theorem State.modWin_tree (n k : Nat) (g : Win → Win) (j : Nat) : (s.modWin n k g).tree j = s.tree j := rfl
@[simp] theorem State.modWin_eq? (n k : Nat) (g : Win → Win) (j c' : Nat) : (s.modWin n k g).eq? j c' = s.eq? j c' := rfl
@[simp] theorem State.modWin_cfg (n k : Nat) (g : Win → Win) (j c' : Nat) : (s.modWin n k g).cfg j c' = s.cfg j c' := rfl
@[simp] theorem State.modWin_inMode (n k : Nat) (g : Win → Win) (j : Mode) : (s.modWin n k g).inMode j = s.inMode j := rfl
@[simp] theorem State.modWin_island (n k : Nat) (g : Win → Win) (j : Nat) : (s.modWin n k g).island j = s.island j := rfl
@[simp] theorem State.modTree_hostPort (n : Nat) (g : Tree → Tree) (j : Nat) : (s.modTree n g).hostPort j = s.hostPort j := rfl
@[simp] theorem State.modTree_fn (n : Nat) (g : Tree → Tree) (j : Nat) : (s.modTree n g).fn j = s.fn j := rfl
@[simp] theorem State.modTree_ctx (n : Nat) (g : Tree → Tree) (j c' : Nat) : (s.modTree n g).ctx j c' = s.ctx j c' := rfl
@[simp] theorem State.modTree_et (n : Nat) (g : Tree → Tree) (j : Nat) : (s.modTree n g).et j = s.et j := rfl
@[simp] theorem State.modTree_link (n : Nat) (g : Tree → Tree) (j : Nat) : (s.modTree n g).link j = s.link j := rfl
@[simp] theorem State.modTree_portq (n : Nat) (g : Tree → Tree) (j : Nat) : (s.modTree n g).portq j = s.portq j := rfl
@[simp] theorem State.modTree_tport (n : Nat) (g : Tree → Tree) (j : Nat) : (s.modTree n g).tport j = s.tport j := rfl
@[simp] theorem State.modTree_gate (n : Nat) (g : Tree → Tree) (j : Nat) : (s.modTree n g).gate j = s.gate j := rfl
@[simp] theorem State.modTree_pt (n : Nat) (g : Tree → Tree) (j : Nat) : (s.modTree n g).pt j = s.pt j := rfl
@[simp] theorem State.modTree_sem (n : Nat) (g : Tree → Tree) (j : Nat) : (s.modTree n g).sem j = s.sem j := rfl
@[simp] theorem State.modTree_mctx (n : Nat) (g : Tree → Tree) (j c' : Nat) : (s.modTree n g).mctx j c' = s.mctx j c' := rfl
@[simp] theorem State.modTree_win (n : Nat) (g : Tree → Tree) (j c' : Nat) : (s.modTree n g).win j c' = s.win j c' := rfl
@[simp] theorem State.modTree_eq? (n : Nat) (g : Tree → Tree) (j c' : Nat) : (s.modTree n g).eq? j c' = s.eq? j c' := rfl
@[simp] theorem State.modTree_cfg (n : Nat) (g : Tree → Tree) (j c' : Nat) : (s.modTree n g).cfg j c' = s.cfg j c' := rfl
@[simp] theorem State.modTree_inMode (n : Nat) (g : Tree → Tree) (j : Mode) : (s.modTree n g).inMode j = s.inMode j := rfl
@[simp] theorem State.modTree_island (n : Nat) (g : Tree → Tree) (j : Nat) : (s.modTree n g).island j = s.island j := rfl
@[simp] theorem State.setCfg_hostPort (i k v : Nat) (j : Nat) : (s.setCfg i k v).hostPort j = s.hostPort j := rfl
@[simp] theorem State.setCfg_fn (i k v : Nat) (j : Nat) : (s.setCfg i k v).fn j = s.fn j := rfl
@[simp] theorem State.setCfg_ctx (i k v : Nat) (j c' : Nat) : (s.setCfg i k v).ctx j c' = s.ctx j c' := rfl
@[simp] theorem State.setCfg_et (i k v : Nat) (j : Nat) : (s.setCfg i k v).et j = s.et j := rfl
@[simp] theorem State.setCfg_link (i k v : Nat) (j : Nat) : (s.setCfg i k v).link j = s.link j := rfl
@[simp] theorem State.setCfg_portq (i k v : Nat) (j : Nat) : (s.setCfg i k v).portq j = s.portq j := rfl
@[simp] theorem State.setCfg_tport (i k v : Nat) (j : Nat) : (s.setCfg i k v).tport j = s.tport j := rfl
@[simp] theorem State.setCfg_gate (i k v : Nat) (j : Nat) : (s.setCfg i k v).gate j = s.gate j := rfl
@[simp] theorem State.setCfg_pt (i k v : Nat) (j : Nat) : (s.setCfg i k v).pt j = s.pt j := rfl
@[simp] theorem State.setCfg_sem (i k v : Nat) (j : Nat) : (s.setCfg i k v).sem j = s.sem j := rfl
@[simp] theorem State.setCfg_mctx (i k v : Nat) (j c' : Nat) : (s.setCfg i k v).mctx j c' = s.mctx j c' := rfl
@[simp] theorem State.setCfg_win (i k v : Nat) (j c' : Nat) : (s.setCfg i k v).win j c' = s.win j c' := rfl
@[simp] theorem State.setCfg_tree (i k v : Nat) (j : Nat) : (s.setCfg i k v).tree j = s.tree j := rfl
@[simp] theorem State.setCfg_eq? (i k v : Nat) (j c' : Nat) : (s.setCfg i k v).eq? j c' = s.eq? j c' := rfl
@[simp] theorem State.setCfg_inMode (i k v : Nat) (j : Mode) : (s.setCfg i k v).inMode j = s.inMode j := rfl
@[simp] theorem State.setCfg_island (i k v : Nat) (j : Nat) : (s.setCfg i k v).island j = s.island j := rfl
@[simp] theorem State.emit_hostPort (o : Out) (j : Nat) : (s.emit o).hostPort j = s.hostPort j := rfl
@[simp] theorem State.emit_fn (o : Out) (j : Nat) : (s.emit o).fn j = s.fn j := rfl
@[simp] theorem State.emit_ctx (o : Out) (j c' : Nat) : (s.emit o).ctx j c' = s.ctx j c' := rfl
@[simp] theorem State.emit_et (o : Out) (j : Nat) : (s.emit o).et j = s.et j := rfl
@[simp] theorem State.emit_link (o : Out) (j : Nat) : (s.emit o).link j = s.link j := rfl
@[simp] theorem State.emit_portq (o : Out) (j : Nat) : (s.emit o).portq j = s.portq j := rfl
@[simp] theorem State.emit_tport (o : Out) (j : Nat) : (s.emit o).tport j = s.tport j := rfl
@[simp] theorem State.emit_gate (o : Out) (j : Nat) : (s.emit o).gate j = s.gate j := rfl
@[simp] theorem State.emit_pt (o : Out) (j : Nat) : (s.emit o).pt j = s.pt j := rfl
@[simp] theorem State.emit_sem (o : Out) (j : Nat) : (s.emit o).sem j = s.sem j := rfl
@[simp] theorem State.emit_mctx (o : Out) (j c' : Nat) : (s.emit o).mctx j c' = s.mctx j c' := rfl
@[simp] theorem State.emit_win (o : Out) (j c' : Nat) : (s.emit o).win j c' = s.win j c' := rfl
@[simp] theorem State.emit_tree (o : Out) (j : Nat) : (s.emit o).tree j = s.tree j := rfl
@[simp] theorem State.emit_eq? (o : Out) (j c' : Nat) : (s.emit o).eq? j c' = s.eq? j c' := rfl
@[simp] theorem State.emit_cfg (o : Out) (j c' : Nat) : (s.emit o).cfg j c' = s.cfg j c' := rfl
@[simp] theorem State.emit_inMode (o : Out) (j : Mode) : (s.emit o).inMode j = s.inMode j := rfl
@[simp] theorem State.emit_island (o : Out) (j : Nat) : (s.emit o).island j = s.island j := rfl
@[simp] theorem State.nextFree_hostPort (j : Nat) : (s.nextFree).hostPort j = s.hostPort j := rfl
@[simp] theorem State.nextFree_fn (j : Nat) : (s.nextFree).fn j = s.fn j := rfl
@[simp] theorem State.nextFree_ctx (j c' : Nat) : (s.nextFree).ctx j c' = s.ctx j c' := rfl
@[simp] theorem State.nextFree_et (j : Nat) : (s.nextFree).et j = s.et j := rfl
@[simp] theorem State.nextFree_link (j : Nat) : (s.nextFree).link j = s.link j := rfl
@[simp] theorem State.nextFree_portq (j : Nat) : (s.nextFree).portq j = s.portq j := rfl
@[simp] theorem State.nextFree_tport (j : Nat) : (s.nextFree).tport j = s.tport j := rfl
@[simp] theorem State.nextFree_gate (j : Nat) : (s.nextFree).gate j = s.gate j := rfl
@[simp] theorem State.nextFree_pt (j : Nat) : (s.nextFree).pt j = s.pt j := rfl
@[simp] theorem State.nextFree_sem (j : Nat) : (s.nextFree).sem j = s.sem j := rfl
@[simp] theorem State.nextFree_mctx (j c' : Nat) : (s.nextFree).mctx j c' = s.mctx j c' := rfl
@[simp] theorem State.nextFree_win (j c' : Nat) : (s.nextFree).win j c' = s.win j c' := rfl
@[simp] theorem State.nextFree_tree (j : Nat) : (s.nextFree).tree j = s.tree j := rfl
@[simp] theorem State.nextFree_eq? (j c' : Nat) : (s.nextFree).eq? j c' = s.eq? j c' := rfl
@[simp] theorem State.nextFree_cfg (j c' : Nat) : (s.nextFree).cfg j c' = s.cfg j c' := rfl
@[simp] theorem State.nextFree_inMode (j : Mode) : (s.nextFree).inMode j = s.inMode j := rfl
@[simp] theorem State.nextFree_island (j : Nat) : (s.nextFree).island j = s.island j := rfl
@[simp] theorem State.report_hostPort (f : FaultReport) (j : Nat) : (s.report f).hostPort j = s.hostPort j := rfl
@[simp] theorem State.report_fn (f : FaultReport) (j : Nat) : (s.report f).fn j = s.fn j := rfl
@[simp] theorem State.report_ctx (f : FaultReport) (j c' : Nat) : (s.report f).ctx j c' = s.ctx j c' := rfl
@[simp] theorem State.report_et (f : FaultReport) (j : Nat) : (s.report f).et j = s.et j := rfl
@[simp] theorem State.report_link (f : FaultReport) (j : Nat) : (s.report f).link j = s.link j := rfl
@[simp] theorem State.report_portq (f : FaultReport) (j : Nat) : (s.report f).portq j = s.portq j := rfl
@[simp] theorem State.report_tport (f : FaultReport) (j : Nat) : (s.report f).tport j = s.tport j := rfl
@[simp] theorem State.report_gate (f : FaultReport) (j : Nat) : (s.report f).gate j = s.gate j := rfl
@[simp] theorem State.report_pt (f : FaultReport) (j : Nat) : (s.report f).pt j = s.pt j := rfl
@[simp] theorem State.report_sem (f : FaultReport) (j : Nat) : (s.report f).sem j = s.sem j := rfl
@[simp] theorem State.report_mctx (f : FaultReport) (j c' : Nat) : (s.report f).mctx j c' = s.mctx j c' := rfl
@[simp] theorem State.report_win (f : FaultReport) (j c' : Nat) : (s.report f).win j c' = s.win j c' := rfl
@[simp] theorem State.report_tree (f : FaultReport) (j : Nat) : (s.report f).tree j = s.tree j := rfl
@[simp] theorem State.report_eq? (f : FaultReport) (j c' : Nat) : (s.report f).eq? j c' = s.eq? j c' := rfl
@[simp] theorem State.report_cfg (f : FaultReport) (j c' : Nat) : (s.report f).cfg j c' = s.cfg j c' := rfl
@[simp] theorem State.report_inMode (f : FaultReport) (j : Mode) : (s.report f).inMode j = s.inMode j := rfl
@[simp] theorem State.report_island (f : FaultReport) (j : Nat) : (s.report f).island j = s.island j := rfl

/-! ### Accessors after an update -/

@[simp] theorem State.modHost_hostPort (k : Nat) (f : HostPort → HostPort) : (s.modHost k f).hostPort k = f (s.hostPort k) := by
  simp [State.modHost, State.hostPort]
theorem State.modHost_hostPort_other {k j : Nat} (f : HostPort → HostPort) (h : j ≠ k) : (s.modHost k f).hostPort j = s.hostPort j := by
  simp [State.modHost, State.hostPort, Tbl.getD_put_other _ _ _ h]

@[simp] theorem State.modFn_fn (k : Nat) (g : Fn → Fn) : (s.modFn k g).fn k = g (s.fn k) := by
  simp [State.modFn, State.fn]
theorem State.modFn_fn_other {k j : Nat} (g : Fn → Fn) (h : j ≠ k) : (s.modFn k g).fn j = s.fn j := by
  simp [State.modFn, State.fn, Tbl.getD_put_other _ _ _ h]

@[simp] theorem State.modEt_et (k : Nat) (g : EtTile → EtTile) : (s.modEt k g).et k = g (s.et k) := by
  simp [State.modEt, State.et]
theorem State.modEt_et_other {k j : Nat} (g : EtTile → EtTile) (h : j ≠ k) : (s.modEt k g).et j = s.et j := by
  simp [State.modEt, State.et, Tbl.getD_put_other _ _ _ h]

@[simp] theorem State.modLink_link (k : Nat) (g : Link → Link) : (s.modLink k g).link k = g (s.link k) := by
  simp [State.modLink, State.link]
theorem State.modLink_link_other {k j : Nat} (g : Link → Link) (h : j ≠ k) : (s.modLink k g).link j = s.link j := by
  simp [State.modLink, State.link, Tbl.getD_put_other _ _ _ h]

@[simp] theorem State.modPortq_portq (k : Nat) (g : PortQ → PortQ) : (s.modPortq k g).portq k = g (s.portq k) := by
  simp [State.modPortq, State.portq]
theorem State.modPortq_portq_other {k j : Nat} (g : PortQ → PortQ) (h : j ≠ k) : (s.modPortq k g).portq j = s.portq j := by
  simp [State.modPortq, State.portq, Tbl.getD_put_other _ _ _ h]

@[simp] theorem State.modTport_tport (k : Nat) (g : TimePort → TimePort) : (s.modTport k g).tport k = g (s.tport k) := by
  simp [State.modTport, State.tport]
theorem State.modTport_tport_other {k j : Nat} (g : TimePort → TimePort) (h : j ≠ k) : (s.modTport k g).tport j = s.tport j := by
  simp [State.modTport, State.tport, Tbl.getD_put_other _ _ _ h]

@[simp] theorem State.modGate_gate (k : Nat) (g : Gate → Gate) : (s.modGate k g).gate k = g (s.gate k) := by
  simp [State.modGate, State.gate]
theorem State.modGate_gate_other {k j : Nat} (g : Gate → Gate) (h : j ≠ k) : (s.modGate k g).gate j = s.gate j := by
  simp [State.modGate, State.gate, Tbl.getD_put_other _ _ _ h]

@[simp] theorem State.modPt_pt (k : Nat) (g : PtTile → PtTile) : (s.modPt k g).pt k = g (s.pt k) := by
  simp [State.modPt, State.pt]
theorem State.modPt_pt_other {k j : Nat} (g : PtTile → PtTile) (h : j ≠ k) : (s.modPt k g).pt j = s.pt j := by
  simp [State.modPt, State.pt, Tbl.getD_put_other _ _ _ h]

@[simp] theorem State.modTree_tree (k : Nat) (g : Tree → Tree) : (s.modTree k g).tree k = g (s.tree k) := by
  simp [State.modTree, State.tree]
theorem State.modTree_tree_other {k j : Nat} (g : Tree → Tree) (h : j ≠ k) : (s.modTree k g).tree j = s.tree j := by
  simp [State.modTree, State.tree, Tbl.getD_put_other _ _ _ h]

@[simp] theorem State.setSem_sem (k : Nat) (x : Sem) : (s.setSem k x).sem k = x := by
  simp [State.setSem, State.sem]
theorem State.setSem_sem_other {k j : Nat} (x : Sem) (h : j ≠ k) : (s.setSem k x).sem j = s.sem j := by
  simp [State.setSem, State.sem, Tbl.getD_put_other _ _ _ h]

@[simp] theorem State.modCtx_ctx (f c : Nat) (g : CtxAll → CtxAll) : (s.modCtx f c g).ctx f c = g (s.ctx f c) := by
  simp [State.modCtx, State.ctx]
theorem State.modCtx_ctx_other {f c f' c' : Nat} (g : CtxAll → CtxAll) (h : ckey f' c' ≠ ckey f c) :
    (s.modCtx f c g).ctx f' c' = s.ctx f' c' := by
  simp [State.modCtx, State.ctx, Tbl.getD_put_other _ _ _ h]
@[simp] theorem State.modC_ctx (f c : Nat) (g : Ctx → Ctx) : (s.modC f c g).ctx f c = { s.ctx f c with c := g (s.ctx f c).c } := by
  simp [State.modC]
@[simp] theorem State.modW_ctx (f c : Nat) (g : CtxWork → CtxWork) : (s.modW f c g).ctx f c = { s.ctx f c with w := g (s.ctx f c).w } := by
  simp [State.modW]
@[simp] theorem State.modM_ctx (f c : Nat) (g : CtxMatch → CtxMatch) : (s.modM f c g).ctx f c = { s.ctx f c with m := g (s.ctx f c).m } := by
  simp [State.modM]

@[simp] theorem State.modMctx_mctx (f m : Nat) (g : MatchCtx → MatchCtx) : (s.modMctx f m g).mctx f m = g (s.mctx f m) := by
  simp [State.modMctx, State.mctx]
@[simp] theorem State.modWin_win (n k : Nat) (g : Win → Win) : (s.modWin n k g).win n k = g (s.win n k) := by
  simp [State.modWin, State.win]

@[simp] theorem State.modEq_eq? (f q : Nat) (g : EventQ → EventQ) : (s.modEq f q g).eq? f q = (s.eq? f q).map g := by
  simp [State.modEq, State.eq?, Tbl.get?_modify]

@[simp] theorem State.setCfg_cfg (i k v : Nat) : (s.setCfg i k v).cfg i k = v := by
  simp [State.setCfg, State.cfg]
theorem State.setCfg_cfg_other {i k j l : Nat} (v : Nat) (h : okey j l ≠ okey i k) : (s.setCfg i k v).cfg j l = s.cfg j l := by
  simp [State.setCfg, State.cfg, Tbl.get?_put_other _ _ h]

@[simp] theorem State.report_coming (f : FaultReport) : (s.report f).faults.coming = s.faults.coming ++ [f] := rfl
@[simp] theorem State.emit_out (o : Out) : (s.emit o).out = s.out ++ [o] := rfl

end Sys2Proof.Machine
end

