-- ==== Sys2Proof/Laws/Transfer.lean ====
section
/-! SUPPORT. Everything that a transfer of master 10, 11 or 12 can do (R63, R88, R92, R93). -/

namespace Sys2Proof.Machine

theorem State.sramWrite_frame (s : State) (a : Nat) (l : List Byte) :
    s.sramWrite a l = { s with priv := { s.priv with sram := (s.sramWrite a l).priv.sram } } := by
  induction l generalizing s a with
  | nil => rfl
  | cons b l ih => exact ih _ _

theorem State.fillPieces_frame (s : State) (l : List (Nat × Nat)) (d : List Byte) :
    s.fillPieces l d = { s with priv := { s.priv with sram := (s.fillPieces l d).priv.sram, bad := (s.fillPieces l d).priv.bad } } := by
  induction l generalizing s d with
  | nil => rfl
  | cons p l ih =>
    unfold State.fillPieces
    rw [State.sramWrite_frame s p.1 (d.take p.2)]
    exact ih _ _

/-- The pieces of a transfer that is not translated: itself, at its internal address. -/
theorem State.transferPieces_plain (s : State) (m a len : Nat) (wr : Bool) (hp : m ≠ 10 ∨ bitAt (s.cfg 0x2018 1) 0 = false) :
    s.transferPieces m a len wr = (s, .ok [(a, len)]) :=
  if_neg (fun h => hp.elim (fun k => k h.1) (fun k => by rw [k] at h; exact Bool.noConfusion h.2))

/-- What a transfer changes that is not translated: the access-control unit's count of refusals and of accesses in flight, the
buffer's bytes, a fault on its way, and the next free value. -/
theorem State.transfer_frame (s : State) (m len : Nat) (wr : Bool) (d : List Byte) (hp : m ≠ 10 ∨ bitAt (s.cfg 0x2018 1) 0 = false) :
    (s.transfer m len wr d).1 = { s with
      acu := { s.acu with
        flying := (s.transfer m len wr d).1.acu.flying, denied := (s.transfer m len wr d).1.acu.denied
        lastDenied := (s.transfer m len wr d).1.acu.lastDenied }
      priv := { s.priv with sram := (s.transfer m len wr d).1.priv.sram, bad := (s.transfer m len wr d).1.priv.bad }
      free := (s.transfer m len wr d).1.free
      faults := { s.faults with coming := (s.transfer m len wr d).1.faults.coming } } := by
  unfold State.transfer
  simp only [State.transferPieces_plain s m _ len wr hp]
  split
  · cases wr
    · rfl
    · simp only [if_true]; rw [State.fillPieces_frame]; rfl
  · unfold State.acuDeny; simp only []; split <;> rfl

end Sys2Proof.Machine
end

