-- ==== Sys2Proof/Tests/Slice0.lean ====
section
/-! SUPPORT. Ill-formed terms that the check refuses, tests of single commands, and for every statement with hypotheses a
theorem that gives a state and operands meeting them, clause by clause. -/

namespace Sys2Proof.Tests

set_option Elab.async false

open Sys2Proof.Machine

/-! ### Small states -/

/-- A device in RUN with every island out of reset, ten seconds after reset, host port 0 in L0 with its PF and VF 1. -/
def run : State :=
  { State.reset with
    now := 10 ^ 10, etNow := 10 ^ 10, arch := { islands := 0x7FFF }, mode := { mode := .run, target := .run }
    sup := { powered := true, seatA := false, seatB := false, debounced := true, switch := true, rampDone := true,
             converters := true, powerGood := true, mv := 48000 }
    hosts := [(0, { perst := false, train := .l0, rate := 6, width := 16, flit := true, vfEnable := true, numVfs := 4 })]
    fns := [(0, { state := 1 }), (1, { state := 1 })] }

/-- Fabric port p at stage st. -/
def withStage (p st : Nat) (s : State) : State := s.modLink p (fun l => { l with stage := st, lxSame := true })

/-- Fabric port p up at full width, its peer's lanes locked. -/
def withPort (p : Nat) (s : State) : State :=
  s.modLink p (fun l => { l with stage := 9, active := 0xF, rxLock := 0xF, rxUsable := 0xF, peerLock := 0xF, peerUsable := 0xF })

/-- The device at the coordinate with group g, row r and column c. -/
def withCoord (g r c : Nat) (s : State) : State := s.setCfg 0x2000 1 (64 * g + 8 * r + c)

/-- A request packet of the coordinate form to a device. -/
def request (dst : Nat) : Packet := { kind := kindReq, hlen := 8, dstDev := dst, srcDev := 0 }

/-- The same packet as it waits in a tile since the instant of `run`. -/
def waiting (k : Packet) : QPkt := { pkt := k, vc := vcOf k, ingress := 64, arr := 10 ^ 10, blocks := ceilDiv (max 64 (pktSize k)) 8 }

/-- A work entry of an opcode, with more bits set. -/
def entry (op more : Nat) : Entry := { idx := 0, words := BitVec.ofNat 512 (op + more) }

/-- Context 5 of function 0, open, with work entries. -/
def withEntries (l : List Entry) (s : State) : State :=
  s.modCtx 0 5 (fun x => { x with c := { x.c with state := 1, sqLog2 := 6, sqDb := 1 }, w := { x.w with entries := l } })

/-- Tree 0 installed for the barriers of function 0. -/
def barrierTree : Tree := { installed := true, entry := BitVec.ofNat 512 (2 ^ 128) }

/-- A walk of function 0 for address 0x5000 that reads its entry at a level. -/
def walkAt (level : Nat) : Walk := { fn := 0, va := 0x5000, kind := .read, level := level, table := 0x100000 }

/-- Word 0 of the link exchange of the coordinate that port 0 of (3, 4, 5) must meet. -/
def roleCoord0 : BitVec 48 := 0xE0

/-- Port 0 in the exchange, with two words of its table the same as before and its next one coming. -/
def lxState (b : BitVec 48) : State :=
  (withCoord 3 4 5 run).modLink 0 (fun l => { l with stage := 7, lxCur := [roleCoord0, b], lxPrev := [roleCoord0, b, 2] })

/-- A CTX_OPEN of context 5 in the flat form, with a ring of 16 entries whose events go to queue 1. -/
def openCmd : BitVec 512 := BitVec.ofNat 512 (5 * 2 ^ 8 + 2 ^ 84 + 4 * 2 ^ 256 + 2 ^ 264)

/-- Event queue 1 of function 0, with its context and window commands waiting. -/
def withCmds (ctx win : List (BitVec 512)) : State :=
  { run with eqs := [(qkey 0 1, { log2 := 4, vector := 3, base := 0, modCount := 4, modTime := 10 })],
             fns := [(0, { state := 1, ctxCmds := ctx, winCmds := win })] }

/-- Context 5 of function 0, open towards this device, with more of its record set. -/
def withCtx (g : CtxAll → CtxAll) : State := (withCoord 0 0 0 run).modCtx 0 5 (fun x => g { x with c := { x.c with state := 1 } })

/-- A packet for context 5 of function 0 with its extended header. -/
def toCtx (kind ext : Nat) : Packet := { request 0 with kind := kind, dstCtx := 5, ext := ext }

/-- Window 1 of endpoint tile 0: 4 KiB that function 0 may read and write. -/
def withWin (s : State) : State := s.modWin 0 1 (fun w => { w with reg := true, rd := true, wr := true, len := 4096 })

/-- A read of 8 bytes at an address of window 1. -/
def readOf (addr : Nat) : Packet :=
  toCtx kindReq (opRead * 2 ^ 128 + 2 ^ 136 + 0x10001 * 2 ^ 160 + addr * 2 ^ 192 + 8 * 2 ^ 288)

/-- Tree 0 installed here, with children and flags of its entry. -/
def withTree (entry : Nat) (s : State) : State := s.modTree 0 (fun x => { x with installed := true, entry := BitVec.ofNat 512 entry })

/-- A collective packet of a kind for tree 0. -/
def coll (kind ext : Nat) : Packet := { request 0 with kind := kind, ext := ext }

/-- A request of the management path. -/
def mgmtReq : Req := ⟨.mgmt, 1, 7⟩

/-- `run` in another mode. -/
def inMode (m : Mode) (s : State) : State := { s with mode := { mode := m, target := m } }

/-- `run` with more of its supervisor, its mode state, its firmware or its store set. -/
def supOf (g : Supervisor → Supervisor) : State := { run with sup := g run.sup }
def modeStOf (g : ModeSt → ModeSt) : State := { run with mode := g run.mode }
def fwOf (g : Firmware → Firmware) : State := { run with fw := g {} }
def storeOf (g : Store → Store) : State := { run with store := g {} }

/-- A PDU of version 1 with a service, and more of its header set. -/
def pduOf (svc more : Nat) : List Byte := (List.range 16).map (fun k => BitVec.ofNat 8 (bf (1 + 16 * svc + more) (8 * k) 8))

/-- An image that passes every check has its whole length. -/
theorem verify_take (y : Slot) (hy : ({} : Firmware).verify y = 0) :
    ({} : Firmware).verify { y with image := y.image.take (imageLen y.hdr) } = 0 := by
  have h : y.image.length = imageLen y.hdr := by
    unfold Firmware.verify at hy
    dsimp only at hy
    split at hy
    · cases hy
    · split at hy
      · contradiction
      · split at hy
        · cases hy
        · rename_i h; exact Decidable.not_not.mp h
  rw [← h, List.take_length]
  exact hy


/-- What the decoder finds in a codeword, as one of the counters of LANE_FEC_STATS. -/
theorem fec_of (x : Nat) : ∃ v n, (rsDecode x).2 = .corrected n ∧ v = min n 15 ∨ (rsDecode x).2 = .uncorrectable ∧ v = 16 := by
  cases h : (rsDecode x).2 with
  | corrected n => exact ⟨min n 15, n, Or.inl ⟨rfl, rfl⟩⟩
  | uncorrectable => exact ⟨16, 0, Or.inr ⟨rfl, rfl⟩⟩

/-- `s` with one region that lets every master in, and with no region at all. -/
def openAll (s : State) : State := { s with acu := { s.acu with regions := [⟨true, 0, 2 ^ 34 - 1, 0xFFFF, 0xFFFF⟩] } }
def shutAll (s : State) : State := { s with acu := { s.acu with regions := [] } }

theorem shut_transfer (m len : Nat) (wr : Bool) (d : List Byte) (s : State) (hp : m ≠ 10 ∨ bitAt (s.cfg 0x2018 1) 0 = false)
    (h : s.acu.regions = []) : (s.transfer m len wr d).2 = false := by
  simp [State.transfer, State.transferPieces_plain s m _ len wr hp, State.acuCheckAll, State.acuCheck, h]

theorem low_bits : ∀ m, m < 16 → bitAt 0xFFFF m = true := by decide

theorem open_transfer (m len : Nat) (wr : Bool) (d : List Byte) (s : State) (hm : m < 16) (hl : len ≤ 4096)
    (hp : m ≠ 10 ∨ bitAt (s.cfg 0x2018 1) 0 = false) (h : s.acu.regions = [⟨true, 0, 2 ^ 34 - 1, 0xFFFF, 0xFFFF⟩]) :
    (s.transfer m len wr d).2 = true := by
  have ha : s.bufferAddr m < 2 ^ 28 := by
    have h1 := Nat.mod_lt (Config.free s.free) (show 0 < 2 ^ 11 by decide)
    have h2 := Nat.mod_lt (Config.free s.free) (show 0 < 2 ^ 6 by decide)
    unfold State.bufferAddr State.freeVal
    split
    · rw [hp.resolve_left (fun k => k rfl)]; simp only [Bool.false_eq_true, if_false]; omega
    · omega
    · omega
  have hb : bitAt 0xFFFF m = true := low_bits m hm
  have e1 : s.bufferAddr m / 64 ≤ 2 ^ 34 - 1 := by omega
  have e2 : (s.bufferAddr m + (len - 1)) / 64 ≤ 2 ^ 34 - 1 := by omega
  have h3 : s.acuCheckAll m [(s.bufferAddr m, len)] wr = none := by
    simp only [State.acuCheckAll, State.acuCheck, h, List.find?, Region.holds, e1, e2, decide_true, Nat.zero_le, Bool.and_self]
    cases wr <;> simp [hb]
  simp [State.transfer, State.transferPieces_plain s m _ len wr hp, h3]

theorem open_then (m len : Nat) (d : List Byte) (s : State) (hm : m < 16) (hl : len ≤ 4096) (hp : m ≠ 10)
    (h : s.acu.regions = [⟨true, 0, 2 ^ 34 - 1, 0xFFFF, 0xFFFF⟩]) : ((s.transfer m len true d).1.transfer m len false).2 = true := by
  refine open_transfer m len false [] _ hm hl (Or.inl hp) ?_
  rw [State.transfer_frame s m len true d (Or.inl hp)]
  exact h

/-! ### Well-formedness: for each check the last operand it takes and the first it refuses -/

theorem test_wf_isFn : (Instr.ctxOpen 255).wf = true ∧ (Instr.ctxOpen 256).wf = false := by decide

theorem test_wf_isCtx : (Instr.entryNop 0 (2 ^ 20 - 1)).wf = true ∧ (Instr.entryNop 0 (2 ^ 20)).wf = false := by decide

theorem test_wf_isHostPort : (Instr.hostLinkDown 3).wf = true ∧ (Instr.hostLinkDown 4).wf = false := by decide

theorem test_wf_isPort : (Instr.linkDown 63).wf = true ∧ (Instr.linkDown 64).wf = false := by decide

theorem test_wf_isPt : (Instr.hintDecay 7).wf = true ∧ (Instr.hintDecay 8).wf = false := by decide

theorem test_wf_isEt : (Instr.dataRx 3).wf = true ∧ (Instr.dataRx 4).wf = false := by decide

theorem test_wf_isSem : (Instr.semTry (.die 8) 255).wf = true ∧ (Instr.semTry (.die 8) 256).wf = false := by decide

theorem test_wf_isIsland : (Instr.tileResetRelease 14).wf = true ∧ (Instr.tileResetRelease 15).wf = false := by decide

theorem test_wf_isLane : (Instr.laneRelock 0 3).wf = true ∧ (Instr.laneRelock 0 4).wf = false := by decide

theorem test_wf_isVc : (Instr.xoffStuck 0 9).wf = true ∧ (Instr.xoffStuck 0 10).wf = false := by decide

theorem test_wf_isTree : (Instr.treeUninstall ⟨.fw, 0, 0⟩ 4095 0).wf = true ∧ (Instr.treeUninstall ⟨.fw, 0, 0⟩ 4096 0).wf = false := by decide

theorem test_wf_isEventQueue : (Instr.eqModTimer 0 4095).wf = true ∧ (Instr.eqModTimer 0 4096).wf = false := by decide

theorem test_wf_accessMaster : (Instr.acuAccess (.die 12) 0 4 { kind := .read }).wf = true ∧ (Instr.acuAccess (.die 13) 0 4 { kind := .read }).wf = false := by decide

theorem test_wf_isCtrSub : (Instr.ctrCfgWrite ⟨.fw, 0, 0⟩ 0x6C 0).wf = true ∧ (Instr.ctrCfgWrite ⟨.fw, 0, 0⟩ 0x6D 0).wf = false := by decide

theorem test_wf_isCtrSub_low : (Instr.ctrCfgWrite ⟨.fw, 0, 0⟩ 1 0).wf = true ∧ (Instr.ctrCfgWrite ⟨.fw, 0, 0⟩ 0 0).wf = false := by decide

theorem test_wf_isBlock : (Instr.programFail 65535).wf = true ∧ (Instr.programFail 65536).wf = false := by decide

theorem test_wf_isReq : (Instr.acuSyncRead ⟨.host 255, 0, 0⟩).wf = true ∧ (Instr.acuSyncRead ⟨.host 256, 0, 0⟩).wf = false := by decide

theorem test_wf_isSemMaster : (Instr.semStatus (.die 12) 0).wf = true ∧ (Instr.semStatus (.die 13) 0).wf = false := by decide

theorem test_wf_isSemMaster_low : (Instr.semStatus (.die 8) 0).wf = true ∧ (Instr.semStatus (.die 7) 0).wf = false := by decide

theorem test_wf_isSemMaster_host : (Instr.semStatus (.host 255) 0).wf = true ∧ (Instr.semStatus (.host 256) 0).wf = false := by decide

theorem test_wf_channelPorts : (Instr.flitArrival (128 * 0 + 8 * 7 + 7)).wf = true ∧ (Instr.flitArrival (128 * 7 + 8 * 7 + 7)).wf = false := by decide

theorem test_wf_channelEndpoint : (Instr.flitArrival (128 * 8 + 8 * 0 + 1)).wf = true ∧ (Instr.flitArrival (128 * 8 + 8 * 0 + 2)).wf = false := by decide

theorem test_wf_channelManagement : (Instr.flitArrival (128 * 12 + 8 * 13 + 0)).wf = true ∧ (Instr.flitArrival (128 * 12 + 8 * 13 + 1)).wf = false := by decide

theorem test_wf_channelNoTile : (Instr.flitArrival (128 * 14 + 8 * 0)).wf = true ∧ (Instr.flitArrival (128 * 15 + 8 * 0)).wf = false := by decide

theorem test_wf_numVfs : (Instr.vfEnable 0 63).wf = true ∧ (Instr.vfEnable 0 64).wf = false := by decide

theorem test_wf_numVfs_disable : (Instr.vfDisable 0 true 63).wf = true ∧ (Instr.vfDisable 0 true 64).wf = false := by decide

theorem test_wf_accessAddress : (Instr.acuAccess (.die 8) (2 ^ 64 - 1) 1 { kind := .read }).wf = true ∧ (Instr.acuAccess (.die 8) (2 ^ 64) 1 { kind := .read }).wf = false := by decide

theorem test_wf_accessLength : (Instr.acuAccess (.die 8) 0 4096 { kind := .read }).wf = true ∧ (Instr.acuAccess (.die 8) 0 4097 { kind := .read }).wf = false := by decide

theorem test_wf_accessEmpty : (Instr.acuAccess (.die 8) 0 1 { kind := .read }).wf = true ∧ (Instr.acuAccess (.die 8) 0 0 { kind := .read }).wf = false := by decide

theorem test_wf_accessData : (Instr.acuAccess (.die 8) 0 2 { kind := .write, data := [1, 2] }).wf = true ∧ (Instr.acuAccess (.die 8) 0 2 { kind := .write, data := [1] }).wf = false := by decide

theorem test_wf_accessFetch : (Instr.acuAccess (.die 8) 0 4 { kind := .fetch }).wf = true ∧ (Instr.acuAccess (.host 0) 0x2000000 4 { kind := .fetch }).wf = false := by decide

theorem test_wf_accessAtomic : (Instr.acuAccess (.die 8) 0 8 { kind := .read }).wf = true ∧ (Instr.acuAccess (.die 8) 0 8 { kind := .atomic }).wf = false := by decide

theorem test_wf_accessBehalf : (Instr.acuAccess (.die 10) 0 4 { kind := .read, behalf := some 255 }).wf = true ∧ (Instr.acuAccess (.die 11) 0 4 { kind := .read, behalf := some 255 }).wf = false := by decide

theorem test_wf_accessBehalfFn : (Instr.acuAccess (.die 10) 0 4 { kind := .read, behalf := some 255 }).wf = true ∧ (Instr.acuAccess (.die 10) 0 4 { kind := .read, behalf := some 256 }).wf = false := by decide

theorem test_wf_accessWindow : (Instr.acuAccess (.host 3) 0x2003FFC 4 { kind := .read }).wf = true ∧ (Instr.acuAccess (.host 3) 0x2003FFD 4 { kind := .read }).wf = false := by decide

theorem test_wf_accessCounterPage : (Instr.acuAccess (.host 3) 0x2203FFC 4 { kind := .read }).wf = true ∧ (Instr.acuAccess (.host 3) 0x2204000 4 { kind := .read }).wf = false := by decide

theorem test_wf_hostPayload : (Instr.hostLinkUp 0 6 { width := 16 } true { mps := 512 }).wf = true ∧ (Instr.hostLinkUp 0 6 { width := 16 } true { mps := 1024 }).wf = false := by decide

theorem test_wf_hostReadSize : (Instr.hostLinkUp 0 6 { width := 16 } true { mrrs := 4096 }).wf = true ∧ (Instr.hostLinkUp 0 6 { width := 16 } true { mrrs := 8192 }).wf = false := by decide

theorem test_wf_hostBar : (Instr.hostLinkUp 0 6 { width := 16 } true { bar0 := 2 ^ 25 }).wf = true ∧ (Instr.hostLinkUp 0 6 { width := 16 } true { bar0 := 2 ^ 24 }).wf = false := by decide

theorem test_wf_hostVectors : (Instr.hostLinkUp 0 6 { width := 16 } true { msix := [{}, { table := List.replicate 16 {} }] }).wf = true ∧ (Instr.hostLinkUp 0 6 { width := 16 } true { msix := [{}, { table := List.replicate 17 {} }] }).wf = false := by decide

theorem test_wf_region : (Instr.acuRegionWrite ⟨.fw, 0, 0⟩ 63 0).wf = true ∧ (Instr.acuRegionWrite ⟨.fw, 0, 0⟩ 64 0).wf = false := by decide

theorem test_wf_priority : (Instr.semAcquire (.die 8) 0 3).wf = true ∧ (Instr.semAcquire (.die 8) 0 4).wf = false := by decide

theorem test_wf_lxWord : (Instr.lxWordRx 0 3 0).wf = true ∧ (Instr.lxWordRx 0 4 0).wf = false := by decide

theorem test_wf_lseq : (Instr.sopRx 0 4095 15).wf = true ∧ (Instr.sopRx 0 4096 15).wf = false := by decide

theorem test_wf_sopVc : (Instr.sopRx 0 4095 15).wf = true ∧ (Instr.sopRx 0 4095 16).wf = false := by decide

theorem test_wf_lpsState : (Instr.portLpsEnterReq ⟨.fw, 0, 0⟩ 0 3).wf = true ∧ (Instr.portLpsEnterReq ⟨.fw, 0, 0⟩ 0 4).wf = false := by decide

theorem test_wf_lpiReq : (Instr.lpiReqRx 0 3 false).wf = true ∧ (Instr.lpiReqRx 0 4 false).wf = false := by decide

theorem test_wf_lpiAck : (Instr.lpiAckRx 0 3).wf = true ∧ (Instr.lpiAckRx 0 4).wf = false := by decide

theorem test_wf_lpiNak : (Instr.lpiNakRx 0 3).wf = true ∧ (Instr.lpiNakRx 0 4).wf = false := by decide

theorem test_wf_cable : (Instr.cablePowerTrip 15).wf = true ∧ (Instr.cablePowerTrip 16).wf = false := by decide

theorem test_wf_deliverTile : (Instr.packetDeliver 12).wf = true ∧ (Instr.packetDeliver 13).wf = false := by decide

theorem test_wf_deliverTile_low : (Instr.packetDeliver 8).wf = true ∧ (Instr.packetDeliver 7).wf = false := by decide

theorem test_wf_generation : (Instr.genQuietEnd 1).wf = true ∧ (Instr.genQuietEnd 2).wf = false := by decide

theorem test_wf_gateClass : (Instr.gateEvent 0 3).wf = true ∧ (Instr.gateEvent 0 4).wf = false := by decide

theorem test_wf_comm : (Instr.migrateTombExpiry 0 0 65535).wf = true ∧ (Instr.migrateTombExpiry 0 0 65536).wf = false := by decide

theorem test_wf_dictQueue : (Instr.dictRead 6).wf = true ∧ (Instr.dictRead 7).wf = false := by decide

theorem test_wf_smbusCmd : (Instr.smbusBlockRead 0 255).wf = true ∧ (Instr.smbusBlockRead 0 256).wf = false := by decide

theorem test_wf_seatPin : (Instr.seatPinChange 1 true).wf = true ∧ (Instr.seatPinChange 2 true).wf = false := by decide

theorem test_wf_die : (Instr.dieFailed 63).wf = true ∧ (Instr.dieFailed 64).wf = false := by decide

theorem test_wf_attestSub : (Instr.attestQuoteDone 6).wf = true ∧ (Instr.attestQuoteDone 7).wf = false := by decide

theorem test_wf_attestSub_low : (Instr.attestQuoteDone 1).wf = true ∧ (Instr.attestQuoteDone 0).wf = false := by decide

/-! ### The spec's worked examples -/

/-- What a command leaves, when it answers a next state. -/
def result (i : Instr) (s : State) : State := match exec i s with | .next t => t | _ => s

/-- H1.VF17 is 0x51: its host port in bits 7 and 6, its function field below (00, R5). -/
theorem test_function_identity : etOf 0x51 = 1 ∧ 0x51 % 64 = 17 ∧ isPf 0x51 = false := by decide

/-- A ring of 16 with head 0xFFFFFFF8 and doorbell 0xFFFFFFFC (02, steps 2, 4 and 6 of the ring example). -/
def ring : Ctx := { state := 1, sqLog2 := 4, head := 0xFFFFFFF8, sqDb := 0xFFFFFFFC }

theorem test_doorbell_fills_the_ring :
    ((result (.sqDoorbell 0 5 0 4 8) (withCtx (fun x => { x with c := ring }))).ctx 0 5).c.sqDb = 8 := by decide +kernel

theorem test_doorbell_past_the_ring :
    ((result (.sqDoorbell 0 5 0 4 9) (withCtx (fun x => { x with c := { ring with sqDb := 8 } }))).fn 0).badDoorbells = 1 ∧
    ((result (.sqDoorbell 0 5 0 4 9) (withCtx (fun x => { x with c := { ring with sqDb := 8, head := 0 } }))).ctx 0 5).c.sqDb = 9 := by
  decide +kernel

/-- The table entries a walk of 0x00007F3AC0601A40 reads and the bus address of its 2 MiB leaf (03, one translation). -/
theorem test_walk_entries :
    ([(4, 0x100000000), (3, 0x100003000), (2, 0x100005000)].map (fun e =>
      ({ fn := 137, va := 0x7F3AC0601A40, kind := .read, level := e.1, table := e.2 } : Walk).entryAddr))
      = [0x1000007F0, 0x100003758, 0x100005018] ∧
    run.leafAccess 137 0x7F3AC0601A40 2 .read (leafOf 137 0x7F3AC0601A40 2 0x1234400097) = .ok 0x1234401A40 := by
  decide +kernel

/-- Semaphore 5 of the inversion example (04): H1.VF17 holds its one unit, H2.PF and H3.VF2 wait. -/
def semOf (holder : SemMaster) (abandoned : Bool) (avail : Nat) : State :=
  run.setSem 5 { limit := 1, enable := true, avail := avail, abandoned := abandoned,
                 holds := if avail = 0 then [⟨holder, 1, 1⟩] else [],
                 waiters := if avail = 0 then [⟨.host 0x80, 2, 0, 10 ^ 10 - 40000, some 40000⟩, ⟨.host 0xC2, 2, 1, 10 ^ 10 - 37000, some 40000⟩] else [] }

theorem test_sem_abandoned_grant :
    (result (.semAcquire (.die 8) 5 3) (semOf (.host 0x51) true 1)).out = [.semWord (.die 8) 5 3] := by decide +kernel

theorem test_sem_timeout : (result (.semWaitTimeout 5 0) (semOf (.host 0x51) false 0)).out = [.semWord (.host 0x80) 5 8] := by
  decide +kernel

theorem test_sem_release_grants :
    (result (.semRelease (.die 8) 5) (semOf (.die 8) false 0)).out.getLast? = some (.semWord (.host 0x80) 5 1) := by decide +kernel

/-- The default VC_HEADROOM of 64 KiB puts the XOFF of REQ0 above 96 KiB held (05, headroom). -/
theorem test_headroom : run.vcLimit 20 0 = 160 * 1024 ∧ run.vcLimit 20 0 - run.vcHeadroom 20 = 96 * 1024 := by decide +kernel

/-- A lane lost at one end: RX_USABLE 0b1011 and ACTIVE 0b0011 at the other (05, one lane lost). -/
theorem test_lane_leaves_usable :
    ((result (.laneFailTimer 20 2) ((withPort 20 run).modLink 20 (fun l => { l with lanes := l.lanes.set 2 { lostAt := some 0 }, rxLock := 0xB }))).link 20).rxUsable
      = 0xB := by decide +kernel

theorem test_active_narrows : ((result (.peerMarkerChange 33 0xB 0xB) (withPort 33 run)).link 33).active = 3 := by decide +kernel

/-- Hops 1 and 3 of the minimal path (06): 95 ns of residence and 25 ns of link make AGE 192 ns, 180 ns and 150 ns take 448 ns
to 832 ns, in units of 64 ns. -/
theorem test_age_of_a_hop :
    (run.modPortq 2 (fun x => { x with linkDelay := 25 })).ageOut 2 { waiting (request 5) with arr := 10 ^ 10 - 95 } = 192 / 64 ∧
    (run.modPortq 40 (fun x => { x with linkDelay := 150 })).ageOut 40
      { waiting { request 5 with age := 448 / 64 } with arr := 10 ^ 10 - 180 } = 832 / 64 := by decide +kernel

/-- The longest that a packet takes to leave, over every place in a codeword where it can start (07, table of R179): 522 blocks
at widths 4 and 1, 10 blocks at widths 4, 2 and 1. At width 4, 45 ns before the close the long one fits, 3 ns before it only the short one. -/
def longest (k : Packet) (w : Nat) : Nat :=
  (List.range 1088).foldl (fun m n => max m (leaveTime { txDeal := BitVec.ofNat 4 (2 ^ w - 1) } n k)) 0

theorem test_closing_gate :
    [4, 1].map (longest { request 0 with plen := 4096 }) = [42, 165] ∧ [4, 2, 1].map (longest (request 0)) = [3, 4, 5] := by
  decide +kernel

/-- Rates under incast (08): 800 falls to 572 at 7,000 ns and 572 to 474 at 4,600 ns; below the target 474 rises to 476. -/
theorem test_rates :
    (((withCtx id).ccRate 0 5 7000).ctx 0 5).c.rate = 572 ∧
    (((withCtx (fun x => { x with c := { x.c with rate := 572 } })).ccRate 0 5 4600).ctx 0 5).c.rate = 474 ∧
    (((withCtx (fun x => { x with c := { x.c with rate := 474 } })).ccRate 0 5 2900).ctx 0 5).c.rate = 476 := by decide +kernel

/-- The inner WRITE of the relayed request (12): its header's fields and its one data byte. -/
theorem test_pdu_fields :
    let pdu : List Byte := [0x11, 0x02, 0x07, 0x01, 0x00, 0x40, 0x01, 0x00, 0x01, 0x00, 0x00, 0x00, 0x01, 0x00, 0x00, 0x00, 0x01]
    let h := pduHdr pdu
    dVersion h = 1 ∧ dService h = 1 ∧ dLast h = true ∧ dTxid h = 0x0107 ∧ dIndex h = 0x4000 ∧ dSub h = 1 ∧ dLen h = 1 ∧
      dOffset h = 0 ∧ dTotal h = 1 ∧ pduData pdu = [1] := by decide +kernel

/-- Debounce of 100 ms, then the ramp (13, seating): at 104.0 ms, not before. -/
theorem test_debounce :
    (result .seatDebounceEnd (supOf (fun x => { x with debounced := false, seatLowAt := some (10 ^ 10 - 10 ^ 8) }))).sup.debounced = true ∧
    (result .seatDebounceEnd (supOf (fun x => { x with debounced := false, seatLowAt := some (10 ^ 10 - 10 ^ 8 + 1) }))).sup.debounced = false := by
  decide +kernel


/-! ### States that meet the hypotheses of each statement, clause by clause -/

theorem witness_IdleStepPassesTime :
    ∃ s : State, s.pending = [] :=
  ⟨State.reset, by decide +kernel⟩

theorem witness_StableModeIsItsTarget :
    ∃ s : State, ∃ t : State, (s.mode.changing = false → s.mode.target = s.mode.mode) ∧ step s = Host.Outcome.next t ∧ t.mode.changing = false :=
  ⟨State.reset, _, ⟨fun _ => rfl, rfl, by decide +kernel⟩⟩

theorem witness_ResetIsStableSeat :
    (∃ k : Nat, k < 15) ∧
    (∃ n : Nat, 0 < n) :=
  ⟨⟨14, by decide +kernel⟩,
   ⟨1, by decide +kernel⟩⟩

theorem witness_IslandsAndScrubbing :
    (∃ k : Nat, ∃ s : State, k < 15 ∧ s.island k = false ∧ s.sup.powerGood = true ∧ s.sup.flushAt = none ∧ s.sup.resetAt = none ∧ s.faults.checkstop = false ∧ (bitAt (modeIslands s.mode.mode).toNat k = true ∨   s.mode.changing = true ∧ bitAt (modeIslands s.mode.target).toNat k = true)) ∧
    (∃ k : Nat, ∃ s : State, s.island 14 = true ∧ s.island k = true ∧ s.faults.checkstop = false ∧ (∀ (a : Nat), s.arch.beaconAt.get? k = some a → a + 1000 ≤ s.now)) ∧
    (∃ k : Nat, ∃ s : State, s.island 14 = true ∧ s.island k = true ∧ s.faults.checkstop = false ∧ ∃ a : Nat, s.arch.beaconAt.get? k = some a ∧ s.now < a + 1000) ∧
    (∃ x : SramSite, ∃ s : State, s.island (s.siteTile x).1 = true ∧ s.faults.checkstop = false ∧ s.arch.scrubNext ≤ s.now) ∧
    (∃ x : SramSite, ∃ s : State, s.island (s.siteTile x).1 = true ∧ s.faults.checkstop = false ∧ s.arch.scrubNext ≤ s.now ∧ (x = SramSite.staging ∨ ∃ (a : Nat), x = SramSite.management a)) ∧
    (∃ x : SramSite, ∃ s : State, s.island (s.siteTile x).1 = true ∧ s.faults.checkstop = false ∧ s.arch.scrubNext ≤ s.now ∧ ∃ pt : Nat, ∃ g : Nat, ∃ grp : Nat, x = SramSite.routeTable pt g grp) ∧
    (∃ x : SramSite, ∃ s : State, s.island (s.siteTile x).1 = true ∧ s.faults.checkstop = false ∧ s.arch.scrubNext ≤ s.now ∧ ∃ g : Nat, ∃ fl : Nat, x = SramSite.flatTable g fl) ∧
    (∃ ch : Nat, ∃ s : State, ∃ f : Flit, ∃ rest : List Flit, s.faults.checkstop = false ∧ s.arch.chans.getD ch [] = f :: rest ∧ s.island (ch / 8 % 16) = true ∧ s.arch.mayServe ch = true ∧ ∃ q : QPkt, (f.x = Cross.packet q ∨ f.k + 1 ≠ f.n)) ∧
    (∃ ch : Nat, ∃ s : State, ∃ f : Flit, ∃ rest : List Flit, s.faults.checkstop = false ∧ s.arch.chans.getD ch [] = f :: rest ∧ s.island (ch / 8 % 16) = true ∧ s.arch.mayServe ch = true ∧ ∃ p : Nat, ∃ q : QPkt, f.x = Cross.egress p q ∧ f.k + 1 = f.n) ∧
    (∃ ch : Nat, ∃ s : State, ∃ f : Flit, ∃ rest : List Flit, s.faults.checkstop = false ∧ s.arch.chans.getD ch [] = f :: rest ∧ s.island (ch / 8 % 16) = true ∧ s.arch.mayServe ch = true ∧ f.x = Cross.gone) ∧
    (∃ ch : Nat, ∃ s : State, s.island (ch / 8 % 16) = true ∧ s.arch.mayServe ch = false) ∧
    (∃ ch : Nat, ∃ s : State, ∃ f : Flit, ∃ rest : List Flit, s.faults.checkstop = false ∧ s.arch.chans.getD ch [] = f :: rest ∧ s.island (ch / 8 % 16) = false) :=
  ⟨⟨14, { run with arch := {} }, ⟨by decide +kernel, by decide +kernel, rfl, rfl, rfl, rfl, Or.inl (by decide +kernel)⟩⟩,
   ⟨14, run, ⟨by decide +kernel, by decide +kernel, rfl, fun a h => by cases h⟩⟩,
   ⟨0, { run with arch := { islands := 0x7FFF, beaconAt := [(0, 10 ^ 10 - 999)] } }, ⟨by decide +kernel, by decide +kernel, rfl, 10 ^ 10 - 999, by decide +kernel⟩⟩,
   ⟨.management 0, run, by decide +kernel⟩,
   ⟨.management 0, run, ⟨by decide +kernel, rfl, by decide +kernel, Or.inr ⟨0, rfl⟩⟩⟩,
   ⟨.routeTable 7 1 4095, run, ⟨by decide +kernel, rfl, by decide +kernel, 7, 1, 4095, rfl⟩⟩,
   ⟨.flatTable 1 262143, run, ⟨by decide +kernel, rfl, by decide +kernel, 1, 262143, rfl⟩⟩,
   ⟨0, { run with arch := { islands := 0x7FFF, chans := [(0, [⟨.packet (waiting (request 0)), 1, 2⟩])] } }, ⟨.packet (waiting (request 0)), 1, 2⟩, [], ⟨rfl, rfl, by decide +kernel, by decide +kernel, waiting (request 0), Or.inl rfl⟩⟩,
   ⟨0, { run with arch := { islands := 0x7FFF, chans := [(0, [⟨.egress 3 (waiting (request 0)), 1, 2⟩])] } }, ⟨.egress 3 (waiting (request 0)), 1, 2⟩, [], ⟨rfl, rfl, by decide +kernel, by decide +kernel, 3, waiting (request 0), rfl, rfl⟩⟩,
   ⟨0, { run with arch := { islands := 0x7FFF, chans := [(0, [⟨.gone, 1, 2⟩])] } }, ⟨.gone, 1, 2⟩, [], by decide +kernel⟩,
   ⟨0, { run with arch := { islands := 0x7FFF, chans := [(0, [⟨.packet (waiting (request 0)), 1, 2⟩]), (1, [⟨.packet (waiting (request 0)), 1, 2⟩])], behind := [(1, [0])] } }, by decide +kernel⟩,
   ⟨0, { run with arch := { chans := [(0, [⟨.packet (waiting (request 0)), 1, 2⟩])] } }, ⟨.packet (waiting (request 0)), 1, 2⟩, [], by decide +kernel⟩⟩

theorem witness_HostPortTraining :
    (∃ hp : Nat, ∃ s : State, s.pcieOn hp = true ∧ (s.hostPort hp).train = HostTrain.detect) ∧
    (∃ hp : Nat, ∃ s : State, s.pcieOn hp = true ∧ (s.hostPort hp).train = HostTrain.detect ∧ (s.hostPort hp).perst = false ∧ (s.hostPort hp).retryAt ≤ s.now) ∧
    (∃ hp : Nat, ∃ _rate : Nat, ∃ width : Nat, ∃ _reversed : Bool, ∃ _cfg : HostCfg, ∃ s : State, s.pcieOn hp = true ∧ (s.hostPort hp).train = HostTrain.training ∧ (s.hostPort hp).perst = false ∧ 4 ≤ width) ∧
    (∃ hp : Nat, ∃ _rate : Nat, ∃ width : Nat, ∃ _reversed : Bool, ∃ _cfg : HostCfg, ∃ s : State, s.pcieOn hp = true ∧ (s.hostPort hp).train = HostTrain.training ∧ (s.hostPort hp).perst = false ∧ 4 ≤ width ∧ (s.fn (64 * hp)).state = 0) ∧
    (∃ hp : Nat, ∃ _rate : Nat, ∃ width : Nat, ∃ flit : Bool, ∃ _reversed : Bool, ∃ _cfg : HostCfg, ∃ s : State, s.pcieOn hp = true ∧ (s.hostPort hp).train = HostTrain.training ∧ (s.hostPort hp).perst = false ∧ (flit = false ∨ width < 4)) ∧
    (∃ hp : Nat, ∃ s : State, (s.hostPort hp).train ≠ HostTrain.l0) :=
  ⟨⟨3, run, by decide +kernel⟩,
   ⟨3, { run with hosts := [(3, { perst := false })] }, by decide +kernel⟩,
   ⟨3, 6, 4, false, {}, { run with hosts := [(3, { perst := false, train := .training })] }, by decide +kernel⟩,
   ⟨3, 6, 4, false, {}, { run with hosts := [(3, { perst := false, train := .training })] }, by decide +kernel⟩,
   ⟨3, 6, 3, true, true, {}, { run with hosts := [(3, { perst := false, train := .training })] }, by decide +kernel⟩,
   ⟨3, run, by decide +kernel⟩⟩

theorem witness_HostLinkLoss :
    (∃ hp : Nat, ∃ s : State, (s.hostPort hp).train = HostTrain.l0) ∧
    (∃ hp : Nat, ∃ s : State, (s.hostPort hp).train ≠ HostTrain.l0) :=
  ⟨⟨0, run, by decide +kernel⟩,
   ⟨1, run, by decide +kernel⟩⟩

theorem witness_FunctionsComeAndGo :
    (∃ hp : Nat, ∃ n : Nat, ∃ s : State, (s.hostPort hp).train = HostTrain.l0 ∧ n ≤ 63 ∧ (∀ f ∈ s.fnsOf hp, f % 64 ≤ n)) ∧
    (∃ hp : Nat, ∃ _n : Nat, ∃ s : State, (s.hostPort hp).train = HostTrain.l0) ∧
    (∃ f : Nat, ∃ s : State, f % 64 ≠ 0 ∧ (s.fn f).state = 1) ∧
    (∃ f : Nat, ∃ s : State, f % 64 = 0 ∧ (s.fn f).state = 1) ∧
    (∃ f : Nat, ∃ s : State, (s.fn f).state ≠ 1) ∧
    (∃ hp : Nat, ∃ n : Nat, ∃ lim : Nat, ∃ enable : Bool, ∃ s : State, (lim = if ((s.hostPort hp).vfEnable && enable) = true then min (s.hostPort hp).numVfs n else 0)) ∧
    (∃ f : Nat, ∃ s : State, (s.fn f).state = 2 ∧ (s.fn f).flrReads = []) :=
  ⟨⟨0, 1, run, by decide +kernel⟩,
   ⟨0, 1, run, by decide +kernel⟩,
   ⟨1, run, by decide +kernel⟩,
   ⟨0, run, by decide +kernel⟩,
   ⟨2, run, by decide +kernel⟩,
   ⟨0, 63, 4, true, run, by decide +kernel⟩,
   ⟨0, { run with fns := [(0, { state := 2 })] }, by decide +kernel⟩⟩

theorem witness_Doorbells :
    (∃ f : Nat, ∃ c : Nat, ∃ sz : Nat, ∃ v : BitVec 64, ∃ s : State, s.doorbellsOn = true ∧ s.present f = true ∧ (sz = 4 ∨ sz = 8) ∧ (s.ctx f c).c.state = 1 ∧ (s.ctx f c).w.zeroOwed = false ∧ (s.ctx f c).c.takes (BitVec.ofNat 32 v.toNat) = true) ∧
    (∃ f : Nat, ∃ c : Nat, ∃ sz : Nat, ∃ v : BitVec 64, ∃ s : State, s.doorbellsOn = true ∧ s.present f = true ∧ (sz = 4 ∨ sz = 8) ∧ (s.ctx f c).c.state = 1 ∧ (s.ctx f c).w.zeroOwed = false ∧ (s.ctx f c).c.takes (BitVec.ofNat 32 v.toNat) = true ∧ (s.ctx f c).w.fetching = true) ∧
    (∃ f : Nat, ∃ c : Nat, ∃ sz : Nat, ∃ v : BitVec 64, ∃ s : State, s.doorbellsOn = true ∧ s.present f = true ∧ (sz = 4 ∨ sz = 8) ∧ (s.ctx f c).c.state = 1 ∧ (s.ctx f c).w.zeroOwed = false ∧ (s.ctx f c).c.takes (BitVec.ofNat 32 v.toNat) = false) ∧
    (∃ f : Nat, ∃ c : Nat, ∃ off : Nat, ∃ sz : Nat, ∃ _v : BitVec 64, ∃ s : State, s.doorbellsOn = true ∧ s.present f = true ∧ (off ≠ 0 ∨ sz ≠ 4 ∧ sz ≠ 8 ∨ (s.ctx f c).c.state ≠ 1)) ∧
    (∃ f : Nat, ∃ q : Nat, ∃ sz : Nat, ∃ v : BitVec 64, ∃ e : EventQ, ∃ s : State, s.doorbellsOn = true ∧ s.present f = true ∧ (sz = 4 ∨ sz = 8) ∧ s.eq? f q = some e ∧ dist (BitVec.ofNat 32 v.toNat) e.consumer ≤ dist e.producer e.consumer) ∧
    (∃ f : Nat, ∃ q : Nat, ∃ sz : Nat, ∃ v : BitVec 64, ∃ e : EventQ, ∃ s : State, s.doorbellsOn = true ∧ s.present f = true ∧ (sz = 4 ∨ sz = 8) ∧ s.eq? f q = some e ∧ dist e.producer e.consumer < dist (BitVec.ofNat 32 v.toNat) e.consumer) ∧
    (∃ e : EventQ, ∃ _v : U32, ∃ _now : Nat, e.armed = false ∧ e.vector ≠ 65535) ∧
    (∃ e : EventQ, ∃ _v : U32, ∃ arm : Bool, ∃ _now : Nat, (arm = false ∨ e.armed = true ∨ e.vector = 65535)) ∧
    (∃ f : Nat, ∃ q : Nat, ∃ off : Nat, ∃ sz : Nat, ∃ _v : BitVec 64, ∃ s : State, s.doorbellsOn = true ∧ s.present f = true ∧ (off ≠ 0 ∨ sz ≠ 4 ∧ sz ≠ 8 ∨ s.eq? f q = none)) ∧
    (∃ f : Nat, ∃ q : Nat, ∃ e : EventQ, ∃ s : State, s.eq? f q = some e ∧ e.armed = true ∧ e.vector ≠ 65535 ∧ 0 < e.counted ∧ (max 1 e.modCount ≤ e.counted ∨ e.modTime = 0 ∨ ∃ (a : Nat), e.timerAt = some a ∧ a + 100 * e.modTime ≤ s.etNow) ∧ (s.fn f).msix.enable = true ∧ (s.fn f).msix.fmask = false ∧ ((s.fn f).msix.table.getD e.vector { }).masked = false) ∧
    (∃ f : Nat, ∃ q : Nat, ∃ e : EventQ, ∃ s : State, s.eq? f q = some e ∧ e.armed = true ∧ e.vector ≠ 65535 ∧ 0 < e.counted ∧ (max 1 e.modCount ≤ e.counted ∨ e.modTime = 0 ∨ ∃ (a : Nat), e.timerAt = some a ∧ a + 100 * e.modTime ≤ s.etNow) ∧ ((s.fn f).msix.enable = false ∨ (s.fn f).msix.fmask = true ∨ ((s.fn f).msix.table.getD e.vector { }).masked = true)) ∧
    (∃ f : Nat, ∃ q : Nat, ∃ e : EventQ, ∃ s : State, s.eq? f q = some e ∧ (e.armed = false ∨   e.vector = 65535 ∨     e.counted = 0 ∨       e.counted < max 1 e.modCount ∧ e.modTime ≠ 0 ∧ ∀ (a : Nat), e.timerAt = some a → s.etNow < a + 100 * e.modTime)) :=
  ⟨⟨0, 5, 4, 1, { withEntries [] run with ctxs := [(ckey 0 5, { c := { state := 1, sqLog2 := 4 }, w := { fetching := false } })] }, by decide +kernel⟩,
   ⟨0, 5, 8, 16, { withEntries [] run with ctxs := [(ckey 0 5, { c := { state := 1, sqLog2 := 4 }, w := { fetching := true } })] }, by decide +kernel⟩,
   ⟨0, 5, 8, 17, { withEntries [] run with ctxs := [(ckey 0 5, { c := { state := 1, sqLog2 := 4 }, w := { fetching := false } })] }, by decide +kernel⟩,
   ⟨0, 0, 4, 8, 0, run, by decide +kernel⟩,
   ⟨0, 4095, 4, 2, { log2 := 4, vector := 3, base := 0, modCount := 4, modTime := 10, producer := 2, armed := true, counted := 4 }, { run with eqs := [(qkey 0 4095, { log2 := 4, vector := 3, base := 0, modCount := 4, modTime := 10, producer := 2, armed := true, counted := 4 })] }, by decide +kernel⟩,
   ⟨0, 4095, 8, 3, { log2 := 4, vector := 3, base := 0, modCount := 4, modTime := 10, producer := 2, armed := true, counted := 4 }, { run with eqs := [(qkey 0 4095, { log2 := 4, vector := 3, base := 0, modCount := 4, modTime := 10, producer := 2, armed := true, counted := 4 })] }, by decide +kernel⟩,
   ⟨{ log2 := 4, vector := 3, base := 0, modCount := 4, modTime := 10 }, 1, 0, by decide +kernel⟩,
   ⟨{ log2 := 4, vector := 3, base := 0, modCount := 4, modTime := 10 }, 0, false, 0, by decide +kernel⟩,
   ⟨0, 4095, 0, 4, 0, run, by decide +kernel⟩,
   ⟨0, 4095, { log2 := 4, vector := 3, base := 0, modCount := 4, modTime := 10, producer := 2, counted := 4, armed := true }, { run with eqs := [(qkey 0 4095, { log2 := 4, vector := 3, base := 0, modCount := 4, modTime := 10, producer := 2, counted := 4, armed := true })], fns := [(0, { state := 1, msix := { enable := true, table := List.replicate 4 { masked := false } } })] }, ⟨by decide +kernel, rfl, by decide, by decide, Or.inl (by decide), by decide +kernel, by decide +kernel, by decide +kernel⟩⟩,
   ⟨0, 4095, { log2 := 4, vector := 3, base := 0, modCount := 4, modTime := 10, producer := 2, counted := 4, armed := true }, { run with eqs := [(qkey 0 4095, { log2 := 4, vector := 3, base := 0, modCount := 4, modTime := 10, producer := 2, counted := 4, armed := true })], fns := [(0, { state := 1 })] }, ⟨by decide +kernel, rfl, by decide, by decide, Or.inl (by decide), by decide +kernel⟩⟩,
   ⟨0, 4095, { log2 := 4, vector := 3, base := 0, modCount := 4, modTime := 10, producer := 2, counted := 4 }, { run with eqs := [(qkey 0 4095, { log2 := 4, vector := 3, base := 0, modCount := 4, modTime := 10, producer := 2, counted := 4 })], fns := [(0, { state := 1 })] }, ⟨by decide +kernel, Or.inl rfl⟩⟩⟩

theorem witness_OccupancyNeverExceedsTheRing :
    ∃ x : Ctx, ∃ v : U32, x.sqLog2 ≤ 16 ∧ dist x.sqDb x.head ≤ 2 ^ x.sqLog2 ∧ x.takes v = true :=
  ⟨{ sqLog2 := 16, sqDb := 0xFFFF }, 0x10000, by decide +kernel⟩

theorem witness_EntriesStart :
    (∃ f : Nat, ∃ c : Nat, ∃ e : Entry, ∃ s : State, s.startable f c opNop = some e) ∧
    (∃ i : Nat → Nat → Instr, ∃ op : Nat, ∃ total : Nat, ∃ awaited : Nat, ∃ f : Nat, ∃ c : Nat, ∃ e : Entry, ∃ s : State, s.startable f c op = some e ∧ ((i = Instr.entrySend ∧     op = opSend ∧       awaited = 0 ∧         if             (wInline e.words.toNat ||                 decide (wLength e.words.toNat ≤ s.cfg 24592 f)) =               true then           total = entryPackets (wLength e.words.toNat)         else total = 1) ∨   i = Instr.entryWrite ∧       op = opWrite ∧         total = entryPackets (wLength e.words.toNat) ∧ awaited = 1 ∨     i = Instr.entryWriteNotify ∧         op = opWriteNotify ∧           total = entryPackets (wLength e.words.toNat) ∧ awaited = 1 ∨       i = Instr.entryRead ∧           op = opRead ∧             total = entryPackets (wLength e.words.toNat) ∧ awaited = total ∨         i = Instr.entryFetchAdd ∧ op = opFetchAdd ∧ total = 1 ∧ awaited = 1 ∨           i = Instr.entrySwap ∧ op = opSwap ∧ total = 1 ∧ awaited = 1 ∨             i = Instr.entryCswap ∧ op = opCswap ∧ total = 1 ∧ awaited = 1) ∧ s.canReach (s.ctx f c).c = true) ∧
    (∃ i : Nat → Nat → Instr, ∃ op : Nat, ∃ total : Nat, ∃ awaited : Nat, ∃ f : Nat, ∃ c : Nat, ∃ e : Entry, ∃ s : State, s.startable f c op = some e ∧ ((i = Instr.entrySend ∧     op = opSend ∧       awaited = 0 ∧         if             (wInline e.words.toNat ||                 decide (wLength e.words.toNat ≤ s.cfg 24592 f)) =               true then           total = entryPackets (wLength e.words.toNat)         else total = 1) ∨   i = Instr.entryWrite ∧       op = opWrite ∧         total = entryPackets (wLength e.words.toNat) ∧ awaited = 1 ∨     i = Instr.entryWriteNotify ∧         op = opWriteNotify ∧           total = entryPackets (wLength e.words.toNat) ∧ awaited = 1 ∨       i = Instr.entryRead ∧           op = opRead ∧             total = entryPackets (wLength e.words.toNat) ∧ awaited = total ∨         i = Instr.entryFetchAdd ∧ op = opFetchAdd ∧ total = 1 ∧ awaited = 1 ∨           i = Instr.entrySwap ∧ op = opSwap ∧ total = 1 ∧ awaited = 1 ∨             i = Instr.entryCswap ∧ op = opCswap ∧ total = 1 ∧ awaited = 1) ∧ s.canReach (s.ctx f c).c = false) :=
  ⟨⟨0, 5, entry opNop (0), withEntries [entry opNop (0)] run, by decide +kernel⟩,
   ⟨Instr.entrySend, opSend, 1, 0, 0, 5, entry opSend (2 ^ 18 + 32 * 2 ^ 32), withCoord 0 4 5 (withEntries [entry opSend (2 ^ 18 + 32 * 2 ^ 32)] run), ⟨by decide +kernel, Or.inl ⟨rfl, rfl, rfl, by decide +kernel⟩, by decide +kernel⟩⟩,
   ⟨Instr.entrySend, opSend, 1, 0, 0, 5, entry opSend (2 ^ 18 + 32 * 2 ^ 32), (withEntries [entry opSend (2 ^ 18 + 32 * 2 ^ 32)] run).modCtx 0 5 (fun x => { x with c := { x.c with peerDev := 3 } }), ⟨by decide +kernel, Or.inl ⟨rfl, rfl, rfl, by decide +kernel⟩, by decide +kernel⟩⟩⟩

theorem witness_ReceivesAndCollectivesStart :
    (∃ f : Nat, ∃ c : Nat, ∃ e : Entry, ∃ e1 : Entry, ∃ s : State, ∃ u : State, s.startable f c opRecv = some e ∧ s.matchFull f = false ∧ (u =   (s.entryStarted f c e).modEntry f c e.idx fun (e : Entry) =>     { e with st := EntrySt.started }) ∧ u.fenced f (wComm e.words.toNat) = false ∧ (((u.et (etOf f)).items.any fun (i : EngItem) =>     i.key == (f, wComm e.words.toNat) &&       match i with       | EngItem.posting fn ctx idx comm engine => true       | x => false) =   false) ∧ u.entry? f c e.idx = some e1 ∧ e1.words = e.words ∧ ((u.mCount (etOf f) 1).engOp f (wComm e.words.toNat)).findUnexpected f     (postedOfEntry c e1 (u.mctx f (wComm e.words.toNat)).pseq) =   none) ∧
    (∃ f : Nat, ∃ c : Nat, ∃ e : Entry, ∃ s : State, s.startable f c opCollective = some e ∧ e.op = none ∧ s.badCollective f e.words.toNat = true) ∧
    (∃ f : Nat, ∃ c : Nat, ∃ e : Entry, ∃ s : State, s.startable f c opCollective = some e ∧ e.op = none ∧ s.badCollective f e.words.toNat = false ∧ (s.tree (wTree e.words.toNat)).broken = true) ∧
    (∃ f : Nat, ∃ c : Nat, ∃ e : Entry, ∃ s : State, s.startable f c opCollective = some e ∧ e.op = none ∧ ∃ num : Nat, ∃ u : State, s.badCollective f e.words.toNat = false ∧ (s.tree (wTree e.words.toNat)).broken = false ∧ num = (s.tree (wTree e.words.toNat)).next.getD f 0 ∧ (u =   ((s.modTree (wTree e.words.toNat) fun (x : Tree) =>             { x with next := x.next.put f ((num + 1) % 65536) }).modEntry         f c e.idx fun (e : Entry) =>         { e with op := some num }).tagEntry     f c e.idx)) ∧
    (∃ f : Nat, ∃ c : Nat, ∃ num : Nat, ∃ e : Entry, ∃ s : State, s.startable f c opCollective = some e ∧ e.op = some num ∧ s.fenceMet f c e = true ∧ s.collMayStart (wTree e.words.toNat) f num = true) ∧
    (∃ f : Nat, ∃ c : Nat, ∃ num : Nat, ∃ e : Entry, ∃ s : State, s.startable f c opCollective = some e ∧ e.op = some num ∧ (s.fenceMet f c e = false ∨ s.collMayStart (wTree e.words.toNat) f num = false)) :=
  ⟨⟨0, 5, entry opRecv (0), { entry opRecv (0) with st := .started }, withEntries [entry opRecv (0)] run, _, ⟨by decide +kernel, by decide +kernel, rfl, by decide +kernel, by decide +kernel, by decide +kernel, rfl, by decide +kernel⟩⟩,
   ⟨0, 5, entry opCollective (0), withEntries [entry opCollective (0)] run, by decide +kernel⟩,
   ⟨0, 5, entry opCollective (0), (withEntries [entry opCollective (0)] run).modTree 0 (fun x => { barrierTree with broken := true }), by decide +kernel⟩,
   ⟨0, 5, entry opCollective (0), (withEntries [entry opCollective (0)] run).modTree 0 (fun x => barrierTree), ⟨by decide +kernel, rfl, 0, _, by decide +kernel, by decide +kernel, by decide +kernel, rfl⟩⟩,
   ⟨0, 5, 0, { entry opCollective 0 with op := some 0 }, (withEntries [{ entry opCollective 0 with op := some 0 }] run).modTree 0 (fun x => barrierTree), by decide +kernel⟩,
   ⟨0, 5, 2, { entry opCollective 0 with op := some 2 }, (withEntries [{ entry opCollective 0 with op := some 2 }] run).modTree 0 (fun x => barrierTree), ⟨by decide +kernel, rfl, Or.inr (by decide +kernel)⟩⟩⟩

theorem witness_EntriesFinish :
    (∃ f : Nat, ∃ c : Nat, ∃ idx : U32, ∃ e : Entry, ∃ st : Nat, ∃ len : Nat, ∃ s : State, s.entry? f c idx = some e ∧ e.st = EntrySt.done st len ∧ s.entryWritten f c idx = true ∧ s.faults.checkstop = false ∧ (s.ctx f c).resident = true) ∧
    (∃ f : Nat, ∃ c : Nat, ∃ idx : U32, ∃ e : Entry, ∃ st : Nat, ∃ len : Nat, ∃ s : State, s.entry? f c idx = some e ∧ e.st = EntrySt.done st len ∧ s.entryWritten f c idx = true ∧ s.faults.checkstop = false ∧ (s.ctx f c).resident = true ∧ wSignal e.words.toNat = false) ∧
    (∃ f : Nat, ∃ c : Nat, ∃ idx : U32, ∃ e : Entry, ∃ st : Nat, ∃ len : Nat, ∃ s : State, s.entry? f c idx = some e ∧ e.st = EntrySt.done st len ∧ s.entryWritten f c idx = true ∧ s.faults.checkstop = false ∧ (s.ctx f c).resident = true ∧ wSignal e.words.toNat = true ∧ wOpcode e.words.toNat ≠ opRecv) ∧
    (∃ f : Nat, ∃ c : Nat, ∃ idx : U32, ∃ s : State, s.entryWritten f c idx = false) ∧
    (∃ f : Nat, ∃ c : Nat, ∃ a : Nat, ∃ s : State, (s.ctx f c).w.headLag = some a ∧ a + 1000 ≤ s.etNow ∧ s.writePending f (AddrUse.head c) = false ∧ (s.ctx f c).c.state ≠ 0 ∧ (s.ctx f c).resident = true) ∧
    (∃ f : Nat, ∃ c : Nat, ∃ a : Nat, ∃ s : State, (s.ctx f c).w.headLag = some a ∧ s.etNow < a + 1000) :=
  ⟨⟨0, 5, 0, { entry opNop (0) with st := .done 0 64 }, 0, 64, withEntries [{ entry opNop (0) with st := .done 0 64 }] run, by decide +kernel⟩,
   ⟨0, 5, 0, { entry opNop (0) with st := .done 0 64 }, 0, 64, withEntries [{ entry opNop (0) with st := .done 0 64 }] run, by decide +kernel⟩,
   ⟨0, 5, 0, { entry opNop (2 ^ 17) with st := .done 0 64 }, 0, 64, withEntries [{ entry opNop (2 ^ 17) with st := .done 0 64 }] run, by decide +kernel⟩,
   ⟨0, 5, 0, run.modFn 0 (fun x => { x with writes := [{ use := .result 5 0 }] }), by decide +kernel⟩,
   ⟨0, 5, 10 ^ 10 - 1000, (withEntries [] run).modW 0 5 (fun w => { w with headLag := some (10 ^ 10 - 1000) }), by decide +kernel⟩,
   ⟨0, 5, 10 ^ 10, (withEntries [] run).modW 0 5 (fun w => { w with headLag := some (10 ^ 10) }), by decide +kernel⟩⟩

theorem witness_ReadsEnd :
    (∃ i : Instr, ∃ tag : Nat, ∃ r : HostRead, ∃ res : ReadResult, ∃ s : State, s.reads.get? tag = some r ∧ (r.pieces.isSome = true ∨ r.fault.isSome = true ∨ r.dead = true) ∧ (i = Instr.hostReadComplete tag res ∨   (i = Instr.entryFetchDone tag res ∧       ∃ (c : Nat) (k : U32) (n : Nat), r.use = ReadFor.entries c k n) ∨     i = Instr.walkStep tag res ∧ r.use = ReadFor.table ∨       (i = Instr.contextFill tag res ∧ ∃ (c : Nat), r.use = ReadFor.spill c) ∨         (i = Instr.overflowReadDone tag res ∧             ∃ (c : Nat) (m : Nat) (o : Nat) (b : Nat), r.use = ReadFor.overflow c m o b) ∨           (i = Instr.targetReadDone tag res ∧               ∃ (c : Nat) (p : U32), r.use = ReadFor.target c p) ∨             i = Instr.collOperandReady tag res ∧               ∃ (c : Nat) (k : U32), r.use = ReadFor.operand c k)) ∧
    (∃ i : Instr, ∃ tag : Nat, ∃ r : HostRead, ∃ res : ReadResult, ∃ s : State, s.reads.get? tag = some r ∧ (r.pieces.isSome = true ∨ r.fault.isSome = true ∨ r.dead = true) ∧ (i = Instr.hostReadComplete tag res ∨   (i = Instr.entryFetchDone tag res ∧       ∃ (c : Nat) (k : U32) (n : Nat), r.use = ReadFor.entries c k n) ∨     i = Instr.walkStep tag res ∧ r.use = ReadFor.table ∨       (i = Instr.contextFill tag res ∧ ∃ (c : Nat), r.use = ReadFor.spill c) ∨         (i = Instr.overflowReadDone tag res ∧             ∃ (c : Nat) (m : Nat) (o : Nat) (b : Nat), r.use = ReadFor.overflow c m o b) ∨           (i = Instr.targetReadDone tag res ∧               ∃ (c : Nat) (p : U32), r.use = ReadFor.target c p) ∨             i = Instr.collOperandReady tag res ∧               ∃ (c : Nat) (k : U32), r.use = ReadFor.operand c k) ∧ r.dead = true) ∧
    (∃ i : Instr, ∃ tag : Nat, ∃ r : HostRead, ∃ res : ReadResult, ∃ s : State, s.reads.get? tag = some r ∧ (r.pieces.isSome = true ∨ r.fault.isSome = true ∨ r.dead = true) ∧ (i = Instr.hostReadComplete tag res ∨   (i = Instr.entryFetchDone tag res ∧       ∃ (c : Nat) (k : U32) (n : Nat), r.use = ReadFor.entries c k n) ∨     i = Instr.walkStep tag res ∧ r.use = ReadFor.table ∨       (i = Instr.contextFill tag res ∧ ∃ (c : Nat), r.use = ReadFor.spill c) ∨         (i = Instr.overflowReadDone tag res ∧             ∃ (c : Nat) (m : Nat) (o : Nat) (b : Nat), r.use = ReadFor.overflow c m o b) ∨           (i = Instr.targetReadDone tag res ∧               ∃ (c : Nat) (p : U32), r.use = ReadFor.target c p) ∨             i = Instr.collOperandReady tag res ∧               ∃ (c : Nat) (k : U32), r.use = ReadFor.operand c k) ∧ r.dead = false) ∧
    (∃ _tag : Nat, ∃ c : Nat, ∃ n : Nat, ∃ first : U32, ∃ _data : List Byte, ∃ r : HostRead, ∃ s : State, r.use = ReadFor.entries c first n ∧ (s.ctx r.fn c).c.state = 1) ∧
    (∃ _tag : Nat, ∃ c : Nat, ∃ r : HostRead, ∃ s : State, r.use = ReadFor.spill c ∧ (s.ctx r.fn c).c.state ≠ 0 ∧ (s.ctx r.fn c).resident = false ∧ r.fault = none) ∧
    (∃ _tag : Nat, ∃ c : Nat, ∃ r : HostRead, ∃ s : State, r.use = ReadFor.spill c ∧ (s.ctx r.fn c).c.state ≠ 0 ∧ (s.ctx r.fn c).resident = false ∧ ∃ data : List Byte, leNat (List.take 4 (List.drop 248 data)) ≠ spillCheck r.fn c (List.take 248 data)) ∧
    (∃ _tag : Nat, ∃ c : Nat, ∃ msn : Nat, ∃ off : Nat, ∃ blk : Nat, ∃ _res : ReadResult, ∃ r : HostRead, ∃ s : State, r.use = ReadFor.overflow c msn off blk ∧ s.msg? r.fn c msn = none) ∧
    (∃ _tag : Nat, ∃ c : Nat, ∃ psn : U32, ∃ o : TargetOp, ∃ r : HostRead, ∃ s : State, r.use = ReadFor.target c psn ∧ s.target? r.fn c psn = some o ∧ r.fault = none ∧ ∃ _data : List Byte, isAtomic o.opc = false) ∧
    (∃ _tag : Nat, ∃ c : Nat, ∃ psn : U32, ∃ o : TargetOp, ∃ r : HostRead, ∃ s : State, r.use = ReadFor.target c psn ∧ s.target? r.fn c psn = some o ∧ r.fault = none) ∧
    (∃ _tag : Nat, ∃ c : Nat, ∃ num : Nat, ∃ idx : U32, ∃ _data : List Byte, ∃ e : Entry, ∃ r : HostRead, ∃ s : State, r.use = ReadFor.operand c idx ∧ s.entry? r.fn c idx = some e ∧ e.op = some num ∧ e.open = true) ∧
    (∃ tag : Nat, ∃ _res : ReadResult, ∃ s : State, s.reads.get? tag = none) :=
  ⟨⟨.hostReadComplete 3 .failed, 3, { hp := 0, fn := 0, addr := 4096, len := 8, use := .table, pieces := some [] }, .failed, { run with reads := [(3, { hp := 0, fn := 0, addr := 4096, len := 8, use := .table, pieces := some [] })] }, ⟨by decide +kernel, Or.inl rfl, Or.inl rfl⟩⟩,
   ⟨.walkStep 3 .failed, 3, { hp := 0, fn := 0, addr := 4096, len := 8, use := .table, dead := true }, .failed, { run with reads := [(3, { hp := 0, fn := 0, addr := 4096, len := 8, use := .table, dead := true })] }, ⟨by decide +kernel, Or.inr (Or.inr rfl), Or.inr (Or.inr (Or.inl ⟨rfl, rfl⟩)), rfl⟩⟩,
   ⟨.contextFill 3 .failed, 3, { hp := 0, fn := 0, addr := 4096, len := 8, use := .spill 5, pieces := some [] }, .failed, { run with reads := [(3, { hp := 0, fn := 0, addr := 4096, len := 8, use := .spill 5, pieces := some [] })] }, ⟨by decide +kernel, Or.inl rfl, Or.inr (Or.inr (Or.inr (Or.inl ⟨rfl, 5, rfl⟩))), rfl⟩⟩,
   ⟨3, 5, 1, 0, [], { hp := 0, fn := 0, addr := 4096, len := 8, use := .entries 5 0 1 }, withEntries [] run, by decide +kernel⟩,
   ⟨3, 5, { hp := 0, fn := 0, addr := 4096, len := 8, use := .spill 5 }, (withEntries [] run).modCtx 0 5 (fun x => { x with resident := false }), by decide +kernel⟩,
   ⟨3, 5, { hp := 0, fn := 0, addr := 4096, len := 8, use := .spill 5 }, (withEntries [] run).modCtx 0 5 (fun x => { x with resident := false }), ⟨rfl, by decide +kernel, by decide +kernel, List.replicate 252 0, by decide +kernel⟩⟩,
   ⟨3, 5, 1, 0, 0, .failed, { hp := 0, fn := 0, addr := 4096, len := 8, use := .overflow 5 1 0 0 }, run, by decide +kernel⟩,
   ⟨3, 5, 7, { fn := 0, ctx := 5, psn := 7, opc := opRead, rkey := 0, raddr := 0, len := 8 }, { hp := 0, fn := 0, addr := 4096, len := 8, use := .target 5 7 }, run.modEt 0 (fun e => { e with targets := [{ fn := 0, ctx := 5, psn := 7, opc := opRead, rkey := 0, raddr := 0, len := 8 }] }), ⟨rfl, by decide +kernel, rfl, [], by decide⟩⟩,
   ⟨3, 5, 7, { fn := 0, ctx := 5, psn := 7, opc := opRead, rkey := 0, raddr := 0, len := 8 }, { hp := 0, fn := 0, addr := 4096, len := 8, use := .target 5 7 }, run.modEt 0 (fun e => { e with targets := [{ fn := 0, ctx := 5, psn := 7, opc := opRead, rkey := 0, raddr := 0, len := 8 }] }), by decide +kernel⟩,
   ⟨3, 5, 2, 0, [], { entry opCollective 0 with op := some 2 }, { hp := 0, fn := 0, addr := 4096, len := 8, use := .operand 5 0 }, withEntries [{ entry opCollective 0 with op := some 2 }] run, by decide +kernel⟩,
   ⟨3, .failed, run, by decide +kernel⟩⟩

theorem witness_WalkEntries :
    (∃ _w : Walk, ∃ e : Nat, ∃ _s : State, pteValid e = false) ∧
    (∃ w : Walk, ∃ e : Nat, ∃ _s : State, pteValid e = true ∧ w.level = 4 ∧ pteLeaf e = true) ∧
    (∃ w : Walk, ∃ e : Nat, ∃ _s : State, pteValid e = true ∧ (w.level = 2 ∨ w.level = 3) ∧ pteLeaf e = true ∧ pteAddr e % 2 ^ levelShift w.level ≠ 0) ∧
    (∃ w : Walk, ∃ e : Nat, ∃ s : State, pteValid e = true ∧ (w.level = 1 ∨ (w.level = 2 ∨ w.level = 3) ∧ pteLeaf e = true) ∧ pteAddr e % 2 ^ levelShift w.level = 0 ∧ w.stale = false ∧ w.since = [] ∧ (∃ (b : Nat),   s.leafBy w.excl w.fn w.va w.level w.kind (leafOf w.fn w.va w.level e) = XRes.ok b)) ∧
    (∃ w : Walk, ∃ e : Nat, ∃ s : State, pteValid e = true ∧ (w.level = 1 ∨ (w.level = 2 ∨ w.level = 3) ∧ pteLeaf e = true) ∧ pteAddr e % 2 ^ levelShift w.level = 0 ∧ w.stale = false ∧ w.since = [] ∧ (∃ (code : Nat),   s.leafBy w.excl w.fn w.va w.level w.kind (leafOf w.fn w.va w.level e) =     XRes.fault code w.level)) ∧
    (∃ w : Walk, ∃ e : Nat, ∃ _s : State, pteValid e = true ∧ (w.level = 1 ∨ (w.level = 2 ∨ w.level = 3) ∧ pteLeaf e = true) ∧ pteAddr e % 2 ^ levelShift w.level = 0 ∧ w.stale = true) ∧
    (∃ w : Walk, ∃ e : Nat, ∃ s : State, pteValid e = true ∧ (w.level = 2 ∨ w.level = 3 ∨ w.level = 4) ∧ pteLeaf e = false ∧ s.forbiddenBy w.excl (etOf w.fn) (pteAddr e) = true) ∧
    (∃ w : Walk, ∃ e : Nat, ∃ s : State, pteValid e = true ∧ (w.level = 2 ∨ w.level = 3 ∨ w.level = 4) ∧ pteLeaf e = false ∧ s.forbiddenBy w.excl (etOf w.fn) (pteAddr e) = false ∧ w.stale = false ∧ w.since = []) ∧
    (∃ w : Walk, ∃ e : Nat, ∃ s : State, pteValid e = true ∧ (w.level = 2 ∨ w.level = 3 ∨ w.level = 4) ∧ pteLeaf e = false ∧ s.forbiddenBy w.excl (etOf w.fn) (pteAddr e) = false ∧ w.stale = true) ∧
    (∃ w : Walk, ∃ s : State, s.walksIn (etOf w.fn) < 64 ∧ s.readRoom (etOf w.fn) 1 = true) ∧
    (∃ w : Walk, ∃ s : State, (64 ≤ s.walksIn (etOf w.fn) ∨ s.readRoom (etOf w.fn) 1 = false)) ∧
    (∃ tag : Nat, ∃ r : HostRead, ∃ w : Walk, ∃ s : State, s.reads.get? tag = some r ∧ r.use = ReadFor.table ∧ r.dead = false ∧ r.fault = none ∧ r.pieces.isSome = true ∧ (List.find? (fun (w : Walk) => w.tag == some tag) s.walks = some w)) :=
  ⟨⟨walkAt 4, 0, run, by decide +kernel⟩,
   ⟨walkAt 4, 0x81, run, by decide +kernel⟩,
   ⟨walkAt 2, 0x1081, run, by decide +kernel⟩,
   ⟨walkAt 1, 0x17, run, ⟨by decide, Or.inl rfl, by decide, rfl, rfl, 0, by decide +kernel⟩⟩,
   ⟨walkAt 1, 0x11, run, ⟨by decide, Or.inl rfl, by decide, rfl, rfl, 0x0720, by decide +kernel⟩⟩,
   ⟨{ walkAt 2 with stale := true }, 0x97, run, ⟨by decide, Or.inr ⟨Or.inl rfl, by decide⟩, by decide, rfl⟩⟩,
   ⟨walkAt 4, 0x200001, run.modFn 0 (fun x => { x with bar0 := 0x200000, memOn := true }), by decide +kernel⟩,
   ⟨walkAt 4, 0x200001, run, by decide +kernel⟩,
   ⟨{ walkAt 4 with stale := true }, 0x200001, run, by decide +kernel⟩,
   ⟨walkAt 4, run, by decide +kernel⟩,
   ⟨walkAt 4, { run with reads := [(3, { hp := 0, fn := 0, addr := 0, len := 8, use := .table, pieces := some [], tags := List.replicate 8192 0 })] }, by decide +kernel⟩,
   ⟨3, { hp := 0, fn := 0, addr := 4096, len := 8, use := .table, pieces := some [] }, { walkAt 4 with tag := some 3 }, { run with reads := [(3, { hp := 0, fn := 0, addr := 4096, len := 8, use := .table, pieces := some [] })], walks := [{ walkAt 4 with tag := some 3 }] }, by decide +kernel⟩⟩

theorem witness_LeafRights :
    (∃ _f : Nat, ∃ _va : Nat, ∃ _level : Nat, ∃ k : AccKind, ∃ l : Leaf, ∃ _s : State, k ≠ AccKind.fetch ∧ (k = AccKind.read ∨ k = AccKind.atomic → l.r = true) ∧ (k = AccKind.write ∨ k = AccKind.atomic → l.w = true) ∧ l.u = true) ∧
    (∃ _f : Nat, ∃ _va : Nat, ∃ _level : Nat, ∃ k : AccKind, ∃ l : Leaf, ∃ _s : State, k ≠ AccKind.fetch ∧ ((k = AccKind.read ∨ k = AccKind.atomic) ∧ l.r = false ∨   (k = AccKind.write ∨ k = AccKind.atomic) ∧ l.w = false)) ∧
    (∃ _f : Nat, ∃ _va : Nat, ∃ _level : Nat, ∃ k : AccKind, ∃ l : Leaf, ∃ _s : State, (k = AccKind.read ∨ k = AccKind.atomic → l.r = true) ∧ (k = AccKind.write ∨ k = AccKind.atomic → l.w = true) ∧ l.u = false) ∧
    (∃ f : Nat, ∃ _va : Nat, ∃ k : AccKind, ∃ s : State, k ≠ AccKind.fetch ∧ bitAt (s.cfg 8215 f) 0 = false) ∧
    (∃ f : Nat, ∃ va : Nat, ∃ k : AccKind, ∃ s : State, k ≠ AccKind.fetch ∧ bitAt (s.cfg 8215 f) 0 = true ∧ 2 ^ 48 ≤ va) :=
  ⟨⟨0, 0, 1, .atomic, { fn := 0, base := 0, log2 := 12, out := 0, r := true, w := true, x := false, u := true }, run, by decide +kernel⟩,
   ⟨0, 0, 1, .atomic, { fn := 0, base := 0, log2 := 12, out := 0, r := true, w := false, x := false, u := true }, run, by decide +kernel⟩,
   ⟨0, 0, 1, .write, { fn := 0, base := 0, log2 := 12, out := 0, r := true, w := true, x := false, u := false }, run, by decide +kernel⟩,
   ⟨0, 0, .read, run, by decide +kernel⟩,
   ⟨0, 2 ^ 48, .read, run.setCfg 0x2017 0 1, by decide +kernel⟩⟩

theorem witness_InvalidationsComplete :
    (∃ f : Nat, ∃ v : Inval, ∃ rest : List Inval, ∃ s : State, (s.fn f).invals = v :: rest ∧ v.reads = [] ∧ v.walks = [] ∧ v.compl % 4096 ≤ 4092) ∧
    (∃ f : Nat, ∃ v : Inval, ∃ rest : List Inval, ∃ s : State, (s.fn f).invals = v :: rest ∧ (v.reads ≠ [] ∨ v.walks ≠ [])) ∧
    (∃ f : Nat, ∃ s : State, (s.fn f).invals = []) :=
  ⟨⟨0, { all := true, lo := 0, hi := 0, compl := 0, token := 1, at_ := 0 }, [], run.modFn 0 (fun x => { x with invals := [{ all := true, lo := 0, hi := 0, compl := 0, token := 1, at_ := 0 }] }), by decide +kernel⟩,
   ⟨0, { all := true, lo := 0, hi := 0, compl := 0, token := 1, at_ := 0, reads := [3] }, [], run.modFn 0 (fun x => { x with invals := [{ all := true, lo := 0, hi := 0, compl := 0, token := 1, at_ := 0, reads := [3] }] }), by decide +kernel⟩,
   ⟨0, run, by decide +kernel⟩⟩

theorem witness_AccessControl :
    (∃ who : SemMaster, ∃ a : Nat, ∃ len : Nat, ∃ k : AccKind, ∃ _data : List Byte, ∃ s : State, (match who with | SemMaster.host fn => s.semOpen who = true | SemMaster.die m => 11 ≤ m ∨ bitAt (s.cfg 8216 1) 0 = false) ∧ ∃ g : Region, (List.find? (fun (g : Region) => g.holds a) s.acu.regions = some g) ∧ g.holds (a + (len - 1)) = true ∧ k = AccKind.read ∧ bitAt g.rmask.toNat (semId who) = true ∧ inSram a = true ∧ inSram (a + (len - 1)) = true) ∧
    (∃ who : SemMaster, ∃ a : Nat, ∃ len : Nat, ∃ k : AccKind, ∃ data : List Byte, ∃ s : State, (match who with | SemMaster.host fn => s.semOpen who = true | SemMaster.die m => 11 ≤ m ∨ bitAt (s.cfg 8216 1) 0 = false) ∧ ∃ g : Region, (List.find? (fun (g : Region) => g.holds a) s.acu.regions = some g) ∧ g.holds (a + (len - 1)) = true ∧ k = AccKind.write ∧ bitAt g.wmask.toNat (semId who) = true ∧ inSram a = true ∧ data.length = len) ∧
    (∃ who : SemMaster, ∃ a : Nat, ∃ len : Nat, ∃ k : AccKind, ∃ _data : List Byte, ∃ s : State, (match who with | SemMaster.host fn => s.semOpen who = true | SemMaster.die m => 11 ≤ m ∨ bitAt (s.cfg 8216 1) 0 = false) ∧ ∃ code : Nat, (List.find? (fun (g : Region) => g.holds a) s.acu.regions = none ∧ code = 784 ∨   (∃ (g : Region),       List.find? (fun (g : Region) => g.holds a) s.acu.regions = some g ∧         g.holds (a + (len - 1)) = false ∧ code = 816) ∨     ∃ (g : Region),       List.find? (fun (g : Region) => g.holds a) s.acu.regions = some g ∧         g.holds (a + (len - 1)) = true ∧           bitAt (if k = AccKind.write then g.wmask.toNat else g.rmask.toNat)                 (semId who) =               false ∧             code = 800)) ∧
    (∃ who : SemMaster, ∃ a : Nat, ∃ len : Nat, ∃ k : AccKind, ∃ _data : List Byte, ∃ s : State, (match who with | SemMaster.host fn => s.semOpen who = true | SemMaster.die m => 11 ≤ m ∨ bitAt (s.cfg 8216 1) 0 = false) ∧ ∃ code : Nat, (List.find? (fun (g : Region) => g.holds a) s.acu.regions = none ∧ code = 784 ∨   (∃ (g : Region),       List.find? (fun (g : Region) => g.holds a) s.acu.regions = some g ∧         g.holds (a + (len - 1)) = false ∧ code = 816) ∨     ∃ (g : Region),       List.find? (fun (g : Region) => g.holds a) s.acu.regions = some g ∧         g.holds (a + (len - 1)) = true ∧           bitAt (if k = AccKind.write then g.wmask.toNat else g.rmask.toNat)                 (semId who) =               false ∧             code = 800) ∧ semId who ≤ 7) ∧
    (∃ who : SemMaster, ∃ a : Nat, ∃ len : Nat, ∃ k : AccKind, ∃ _data : List Byte, ∃ s : State, (match who with | SemMaster.host fn => s.semOpen who = true | SemMaster.die m => 11 ≤ m ∨ bitAt (s.cfg 8216 1) 0 = false) ∧ ∃ code : Nat, (List.find? (fun (g : Region) => g.holds a) s.acu.regions = none ∧ code = 784 ∨   (∃ (g : Region),       List.find? (fun (g : Region) => g.holds a) s.acu.regions = some g ∧         g.holds (a + (len - 1)) = false ∧ code = 816) ∨     ∃ (g : Region),       List.find? (fun (g : Region) => g.holds a) s.acu.regions = some g ∧         g.holds (a + (len - 1)) = true ∧           bitAt (if k = AccKind.write then g.wmask.toNat else g.rmask.toNat)                 (semId who) =               false ∧             code = 800) ∧ 7 < semId who) ∧
    (∃ m : Nat, ∃ a : Nat, ∃ len : Nat, ∃ code : Nat, ∃ k : AccKind, ∃ _data : List Byte, ∃ s : State, ∃ u : State, m < 11 ∧ bitAt (s.cfg 8216 1) 0 = true ∧ s.privAll m k (pagePieces a len) = (u, Except.error code)) :=
  ⟨⟨.die 11, 0, 64, .read, [], { run with acu := { regions := [⟨true, 0, 0x1FFFF, 0xFFFF, 0xFFFF⟩] } }, ⟨Or.inl (by decide), ⟨true, 0, 0x1FFFF, 0xFFFF, 0xFFFF⟩, by decide +kernel⟩⟩,
   ⟨.die 8, 0, 1, .write, [0], run, ⟨Or.inr (by decide +kernel), ⟨true, 0, 0x1FFFF, 0x0300, 0x0300⟩, by decide +kernel⟩⟩,
   ⟨.host 0, 0, 64, .write, [], run, ⟨by decide +kernel, 0x0320, Or.inr (Or.inr ⟨⟨true, 0, 0x1FFFF, 0x0300, 0x0300⟩, by decide +kernel⟩)⟩⟩,
   ⟨.host 0, 0, 64, .write, [], run, ⟨by decide +kernel, 0x0320, Or.inr (Or.inr ⟨⟨true, 0, 0x1FFFF, 0x0300, 0x0300⟩, by decide +kernel⟩), by decide +kernel⟩⟩,
   ⟨.die 10, 0, 64, .read, [], run, ⟨Or.inr (by decide +kernel), 0x0320, Or.inr (Or.inr ⟨⟨true, 0, 0x1FFFF, 0x0300, 0x0300⟩, by decide +kernel⟩), by decide +kernel⟩⟩,
   ⟨8, 2 ^ 48, 1, 0x0740, .read, [], run.setCfg 0x2018 1 1, run.setCfg 0x2018 1 1, ⟨by decide, by decide +kernel, rfl⟩⟩⟩

theorem witness_SemaphoreCommands :
    (∃ who : SemMaster, ∃ n : Nat, ∃ p : Nat, ∃ p' : Nat, ∃ s : State, s.semOpen who = true ∧ (p' =   match who with   | SemMaster.host f => s.cfg 8228 f   | SemMaster.die m => p % 4) ∧ s.acuCheck (semId who) (semAddr n + 4 * p') 4 false = none ∧ (s.sem n).enable = true ∧ who ≠ SemMaster.die 11 ∧ who ≠ SemMaster.die 12 ∧ 0 < (s.sem n).avail ∧ (s.sem n).waiters = [] ∧ s.holdUse < 4096) ∧
    (∃ who : SemMaster, ∃ n : Nat, ∃ p : Nat, ∃ p' : Nat, ∃ s : State, s.semOpen who = true ∧ (p' =   match who with   | SemMaster.host f => s.cfg 8228 f   | SemMaster.die m => p % 4) ∧ s.acuCheck (semId who) (semAddr n + 4 * p') 4 false = none ∧ (s.sem n).enable = false) ∧
    (∃ who : SemMaster, ∃ n : Nat, ∃ p : Nat, ∃ p' : Nat, ∃ s : State, s.semOpen who = true ∧ (p' =   match who with   | SemMaster.host f => s.cfg 8228 f   | SemMaster.die m => p % 4) ∧ s.acuCheck (semId who) (semAddr n + 4 * p') 4 false = none ∧ (s.sem n).enable = true ∧ who ≠ SemMaster.die 11 ∧ who ≠ SemMaster.die 12 ∧ (s.sem n).avail = 0 ∧ s.waitLimit who = false ∧ (∀ (f : Nat), who = SemMaster.host f → s.cfg 8227 (etOf f + 1) ≠ 0) ∧ (∀ h ∈ (s.sem n).holds, p' ≤ h.eff)) ∧
    (∃ who : SemMaster, ∃ n : Nat, ∃ s : State, s.semOpen who = true ∧ s.acuCheck (semId who) (semAddr n + 16) 4 false = none ∧ (s.sem n).enable = true ∧ who ≠ SemMaster.die 11 ∧ who ≠ SemMaster.die 12 ∧ 0 < (s.sem n).avail ∧ (s.sem n).waiters = [] ∧ s.holdUse < 4096) ∧
    (∃ who : SemMaster, ∃ n : Nat, ∃ s : State, s.semOpen who = true ∧ s.acuCheck (semId who) (semAddr n + 16) 4 false = none ∧ (s.sem n).enable = false) ∧
    (∃ who : SemMaster, ∃ n : Nat, ∃ s : State, s.semOpen who = true ∧ s.acuCheck (semId who) (semAddr n + 16) 4 false = none ∧ (s.sem n).enable = true ∧ who ≠ SemMaster.die 11 ∧ who ≠ SemMaster.die 12 ∧ ((s.sem n).avail = 0 ∨ (s.sem n).waiters ≠ [])) ∧
    (∃ who : SemMaster, ∃ n : Nat, ∃ s : State, s.semOpen who = true ∧ s.acuCheck (semId who) (semAddr n + 48) 4 false = none) ∧
    (∃ who : SemMaster, ∃ n : Nat, ∃ s : State, s.semOpen who = true ∧ s.acuCheck (semId who) (semAddr n + 32) 4 true = none ∧ (∀ h ∈ (s.sem n).holds, h.who ≠ who)) ∧
    (∃ who : SemMaster, ∃ n : Nat, ∃ s : State, s.semOpen who = true ∧ s.acuCheck (semId who) (semAddr n + 32) 4 true = none ∧ ∃ c : Nat, ∃ e : Nat, (s.sem n).holds = [{ who := who, count := c, eff := e }] ∧ 2 ≤ c ∧ (s.sem n).waiters = []) ∧
    (∃ n : Nat, ∃ k : Nat, ∃ b : Nat, ∃ w : Waiter, ∃ s : State, (List.find? (fun (w : Waiter) => w.ticket == k) (s.sem n).waiters = some w) ∧ w.bound = some b ∧ w.at_ + b ≤ s.now) :=
  ⟨⟨.die 9, 0, 3, 3, run, by decide +kernel⟩,
   ⟨.die 9, 1, 0, 0, run, by decide +kernel⟩,
   ⟨.die 9, 0, 3, 3, run.setSem 0 { limit := 1, enable := true, avail := 0, holds := [⟨.die 8, 1, 3⟩] }, ⟨by decide +kernel, rfl, by decide +kernel, by decide +kernel, by decide, by decide, by decide +kernel, by decide +kernel, (fun _ h => by cases h), by decide +kernel⟩⟩,
   ⟨.die 10, 0, run, by decide +kernel⟩,
   ⟨.die 10, 1, run, by decide +kernel⟩,
   ⟨.die 10, 0, run.setSem 0 { limit := 1, enable := true, avail := 0 }, by decide +kernel⟩,
   ⟨.die 10, 255, run, by decide +kernel⟩,
   ⟨.die 10, 0, run, by decide +kernel⟩,
   ⟨.die 9, 0, run.setSem 0 { limit := 2, enable := true, avail := 0, holds := [⟨.die 9, 2, 3⟩] }, ⟨by decide +kernel, by decide +kernel, 2, 3, by decide +kernel⟩⟩,
   ⟨0, 4, 500, ⟨.die 8, 1, 4, 10 ^ 10 - 500, some 500⟩, run.setSem 0 { limit := 1, enable := true, avail := 0, waiters := [⟨.die 8, 1, 4, 10 ^ 10 - 500, some 500⟩] }, by decide +kernel⟩⟩

theorem witness_SemaphoreUnitsConserved :
    (∃ who : SemMaster, ∃ n : Nat, ∃ _p : Nat, ∃ s : State, s.semOpen who = true ∧ (s.sem n).waiters = [] ∧ ((List.map (fun (x : Hold) => x.who) (s.sem n).holds).Nodup) ∧ (∀ h ∈ (s.sem n).holds, 0 < h.count) ∧ s.acuCheck (semId who) (semAddr n + 32) 4 true = none ∧ (((s.sem n).holds.any fun (h : Hold) => h.who == who) = true)) ∧
    (∃ who : SemMaster, ∃ n : Nat, ∃ p : Nat, ∃ s : State, s.semOpen who = true ∧ (s.sem n).waiters = [] ∧ ((List.map (fun (x : Hold) => x.who) (s.sem n).holds).Nodup) ∧ (∀ h ∈ (s.sem n).holds, 0 < h.count) ∧ (s.acuCheck (semId who)     (semAddr n +       4 *         match who with         | SemMaster.host f => s.cfg 8228 f         | SemMaster.die m => p % 4)     4 false =   none) ∧ (s.sem n).enable = true ∧ who ≠ SemMaster.die 11 ∧ who ≠ SemMaster.die 12 ∧ 0 < (s.sem n).avail ∧ s.holdUse < 4096) :=
  ⟨⟨.die 9, 0, 0, run.setSem 0 { limit := 2, enable := true, avail := 1, holds := [⟨.die 9, 1, 3⟩] }, by decide +kernel⟩,
   ⟨.die 9, 0, 0, run, by decide +kernel⟩⟩

theorem witness_BringUp :
    (∃ p : Nat, ∃ s : State, (s.link p).stage = 1 ∧ (s.link p).silentAt = none ∧ s.bringsUp = true) ∧
    (∃ p : Nat, ∃ _x : StageInfo, ∃ s : State, (s.link p).stage = 2 ∧ ((if (s.link p).lps = 5 then (s.link p).lpsExitAt.getD (s.link p).stageAt + 1000000 else (s.link p).stageAt + 50000000) ≤   s.now)) ∧
    (∃ p : Nat, ∃ _x : StageInfo, ∃ s : State, (s.link p).stage = 2 ∧ (s.now <   if (s.link p).lps = 5 then (s.link p).lpsExitAt.getD (s.link p).stageAt + 1000000 else (s.link p).stageAt + 50000000)) ∧
    (∃ p : Nat, ∃ _x : StageInfo, ∃ s : State, (s.link p).stage = 3) ∧
    (∃ p : Nat, ∃ _x : StageInfo, ∃ s : State, (s.link p).stage = 4 ∧ (∀ y ∈ (s.link p).lanes, 4 ≤ y.goodRun)) ∧
    (∃ p : Nat, ∃ _x : StageInfo, ∃ s : State, (s.link p).stage = 4 ∧ (∃ y ∈ (s.link p).lanes, y.goodRun < 4)) ∧
    (∃ p : Nat, ∃ x : StageInfo, ∃ s : State, (s.link p).stage = 5 ∧ (x.lanes = [0, 1, 2, 3] ∨ x.lanes = [3, 2, 1, 0]) ∧ x.skew ≤ 96 ∧ (∀ a ∈ x.ports, ∀ b ∈ x.ports, a = b)) ∧
    (∃ p : Nat, ∃ x : StageInfo, ∃ s : State, (s.link p).stage = 5 ∧ (x.lanes = [0, 1, 2, 3] ∨ x.lanes = [3, 2, 1, 0]) ∧ x.skew ≤ 96 ∧ (∃ a ∈ x.ports, ∃ b ∈ x.ports, a ≠ b)) ∧
    (∃ p : Nat, ∃ _x : StageInfo, ∃ s : State, (s.link p).stage = 6 ∧ (s.link p).lps ≠ 5 ∧ 6 ≤ (s.link p).peerStage) ∧
    (∃ p : Nat, ∃ _x : StageInfo, ∃ s : State, (s.link p).stage = 6 ∧ (s.link p).lps ≠ 5 ∧ (s.link p).peerStage < 6) ∧
    (∃ p : Nat, ∃ _x : StageInfo, ∃ s : State, (s.link p).stage = 7) ∧
    (∃ p : Nat, ∃ _x : StageInfo, ∃ s : State, (s.link p).stage = 8 ∧ (s.tport p).locked = true) ∧
    (∃ p : Nat, ∃ s : State, (s.link p).stage = 8 ∧ (s.link p).stageAt + (s.link p).timeWait * 1000 ≤ s.now) ∧
    (∃ p : Nat, ∃ v : BitVec 48, ∃ s : State, (s.link p).stage = 7 ∧ (s.link p).miscabled = false ∧ (s.link p).lxSame = true ∧ v.getLsbD 0 = true) ∧
    (∃ p : Nat, ∃ a : BitVec 48, ∃ b : BitVec 48, ∃ c : BitVec 48, ∃ f : Bool, ∃ m : Bool, ∃ s : State, (s.link p).stage = 7 ∧ (s.link p).miscabled = false ∧ (s.link p).lxSame = false ∧ (s.link p).lxCur = [a, b] ∧ (s.link p).lxPrev = [a, b, c] ∧ bf b.toNat 8 8 = 1 ∧ s.peerCheck p a.toNat = some (f, m)) ∧
    (∃ l : Link, l.stage = 2) ∧
    (∃ l : Link, (l.stage = 3 ∨ l.stage = 4 ∨ l.stage = 5 ∨ l.stage = 7)) ∧
    (∃ l : Link, l.stage = 6) ∧
    (∃ p : Nat, ∃ s : State, 2 ≤ (s.link p).stage ∧ (s.link p).stage ≤ 7 ∧ (s.link p).stageAt + (s.link p).stageLimit ≤ s.now ∧ (s.link p).miscabled = false) ∧
    (∃ p : Nat, ∃ x : StageInfo, ∃ s : State, (s.link p).stage = 5 ∧ x.lanes ≠ [0, 1, 2, 3] ∧ x.lanes ≠ [3, 2, 1, 0]) ∧
    (∃ p : Nat, ∃ x : StageInfo, ∃ s : State, (s.link p).stage = 5 ∧ (x.lanes = [0, 1, 2, 3] ∨ x.lanes = [3, 2, 1, 0]) ∧ 96 < x.skew) ∧
    (∃ p : Nat, ∃ _code : Nat, ∃ s : State, (s.link p).lps ≠ 5) ∧
    (∃ p : Nat, ∃ _code : Nat, ∃ s : State, (s.link p).lps ≠ 5 ∧ (s.link p).attempts + 1 < s.cfg 12295 1) ∧
    (∃ p : Nat, ∃ _code : Nat, ∃ s : State, (s.link p).lps ≠ 5 ∧ s.cfg 12295 1 ≤ (s.link p).attempts + 1 ∧ (s.link p).failRec = false) ∧
    (∃ p : Nat, ∃ a : Nat, ∃ s : State, (s.link p).silentAt = some a ∧ ((a + if s.cfg 12295 1 ≤ (s.link p).attempts then 1000000000 else 10000000) ≤ s.now)) ∧
    (∃ p : Nat, ∃ s : State, 2 ≤ (s.link p).stage ∧ (s.link p).stage ≤ 8 ∧ (s.link p).lps ≠ 5) ∧
    (∃ p : Nat, ∃ a : BitVec 48, ∃ b : BitVec 48, ∃ c : BitVec 48, ∃ s : State, (s.link p).stage = 7 ∧ (s.link p).miscabled = false ∧ (s.link p).lxSame = false ∧ (s.link p).lxCur = [a, b] ∧ (s.link p).lxPrev = [a, b, c] ∧ (bf b.toNat 8 8 ≠ 1 ∨ s.peerCheck p a.toNat = none)) :=
  ⟨⟨0, run.modLink 0 (fun l => { l with stage := 1 }), by decide +kernel⟩,
   ⟨63, {}, run.modLink 63 (fun l => { l with stage := 2 }), by decide +kernel⟩,
   ⟨0, {}, run.modLink 0 (fun l => { l with stage := 2, stageAt := 10 ^ 10 - 49999999 }), by decide +kernel⟩,
   ⟨0, {}, withStage 0 3 run, by decide +kernel⟩,
   ⟨0, {}, run.modLink 0 (fun l => { l with stage := 4, lanes := List.replicate 4 { goodRun := 4 } }), by decide +kernel⟩,
   ⟨0, {}, run.modLink 0 (fun l => { l with stage := 4, lanes := [{ goodRun := 4 }, { goodRun := 4 }, { goodRun := 4 }, { goodRun := 3 }] }), by decide +kernel⟩,
   ⟨0, { lanes := [3, 2, 1, 0], skew := 96, ports := [5, 5, 5, 5] }, run.modLink 0 (fun l => { l with stage := 5 }), by decide +kernel⟩,
   ⟨63, { lanes := [0, 1, 2, 3], skew := 0, ports := [5, 5, 6, 5] }, run.modLink 63 (fun l => { l with stage := 5 }), by decide +kernel⟩,
   ⟨0, {}, run.modLink 0 (fun l => { l with stage := 6, peerStage := 6 }), by decide +kernel⟩,
   ⟨0, {}, run.modLink 0 (fun l => { l with stage := 6, peerStage := 5 }), by decide +kernel⟩,
   ⟨0, {}, run.modLink 0 (fun l => { l with stage := 7, lxSame := true }), by decide +kernel⟩,
   ⟨0, {}, (withStage 0 8 run).modTport 0 (fun t => { t with locked := true }), by decide +kernel⟩,
   ⟨0, run.modLink 0 (fun l => { l with stage := 8 }), by decide +kernel⟩,
   ⟨0, 1, withStage 0 7 run, by decide +kernel⟩,
   ⟨0, roleCoord0, 0x100, 2, false, false, lxState 0x100, by decide +kernel⟩,
   ⟨{ stage := 2 }, by decide +kernel⟩,
   ⟨{ stage := 7 }, by decide +kernel⟩,
   ⟨{ stage := 6 }, by decide +kernel⟩,
   ⟨0, run.modLink 0 (fun l => { l with stage := 2 }), by decide +kernel⟩,
   ⟨0, { lanes := [1, 0, 2, 3] }, withStage 0 5 run, by decide +kernel⟩,
   ⟨0, { skew := 97 }, withStage 0 5 run, by decide +kernel⟩,
   ⟨0, 0x0412, run.modLink 0 (fun l => { l with stage := 3 }), by decide +kernel⟩,
   ⟨0, 0x0412, run.modLink 0 (fun l => { l with stage := 3 }), by decide +kernel⟩,
   ⟨0, 0x0412, run.modLink 0 (fun l => { l with stage := 3, attempts := 1000 }), by decide +kernel⟩,
   ⟨0, 0, run.modLink 0 (fun l => { l with stage := 1, silentAt := some 0 }), by decide +kernel⟩,
   ⟨0, run.modLink 0 (fun l => { l with stage := 8 }), by decide +kernel⟩,
   ⟨0, roleCoord0, 0x200, 2, lxState 0x200, by decide +kernel⟩⟩

theorem witness_PacketReception :
    (∃ p : Nat, ∃ lseq : Nat, ∃ vc : Nat, ∃ s : State, s.rxOn p = true ∧ (s.link p).rx = none ∧ (lseq + 4096 - (s.link p).rxSeq.toNat) % 4096 ≤ 2047 ∧ (∀ (k : Nat),   policerOf vc = some k →     bitAt (bf (s.cfg 53281 (p + 1)) (64 * k) 64) 0 = false)) ∧
    (∃ p : Nat, ∃ lseq : Nat, ∃ _vc : Nat, ∃ s : State, s.rxOn p = true ∧ (s.link p).rx = none ∧ 2047 < (lseq + 4096 - (s.link p).rxSeq.toNat) % 4096) ∧
    (∃ p : Nat, ∃ x : RxPkt, ∃ _data : List Byte, ∃ s : State, s.rxOn p = true ∧ (s.link p).rx = some x ∧ Block.bad ∉ (s.link p).stream) ∧
    (∃ p : Nat, ∃ k : Nat, ∃ x : RxPkt, ∃ data : List Byte, ∃ crc : BitVec 32, ∃ s : State, s.rxOn p = true ∧ (s.link p).rx = some x ∧ Block.bad ∉ (s.link p).stream ∧ (x.bad = true ∧ k = 2 ∨   x.bad = false ∧ x.old = true ∧ k = 4 ∨     x.bad = false ∧ x.old = false ∧ (10 ≤ x.vc ∨ 520 < data.length / 8) ∧ k = 5 ∨       x.bad = false ∧           x.old = false ∧             x.vc < 10 ∧ data.length / 8 ≤ 520 ∧ linkCrc x.lseq x.vc data ≠ crc.toNat ∧ k = 7 ∨         x.bad = false ∧           x.old = false ∧             x.vc < 10 ∧               data.length / 8 ≤ 520 ∧                 linkCrc x.lseq x.vc data = crc.toNat ∧                   x.policed = false ∧                     s.vcLimit p x.vc < nth (s.link p).held x.vc + data.length ∧ k = 8)) ∧
    (∃ p : Nat, ∃ x : RxPkt, ∃ data : List Byte, ∃ crc : BitVec 32, ∃ s : State, s.rxOn p = true ∧ (s.link p).rx = some x ∧ Block.bad ∉ (s.link p).stream ∧ x.bad = false ∧ x.old = false ∧ x.vc < 10 ∧ data.length / 8 ≤ 520 ∧ linkCrc x.lseq x.vc data = crc.toNat ∧ x.policed = false ∧ nth (s.link p).held x.vc + data.length ≤ s.vcLimit p x.vc ∧ s.tracing = false) ∧
    (∃ p : Nat, ∃ x : RxPkt, ∃ data : List Byte, ∃ crc : BitVec 32, ∃ s : State, s.rxOn p = true ∧ (s.link p).rx = some x ∧ Block.bad ∉ (s.link p).stream ∧ x.bad = false ∧ x.old = false ∧ x.vc < 10 ∧ data.length / 8 ≤ 520 ∧ linkCrc x.lseq x.vc data = crc.toNat ∧ x.policed = false ∧ nth (s.link p).held x.vc + data.length ≤ s.vcLimit p x.vc ∧ s.tracing = false ∧ s.carries x.vc = true) ∧
    (∃ p : Nat, ∃ x : RxPkt, ∃ data : List Byte, ∃ crc : BitVec 32, ∃ s : State, s.rxOn p = true ∧ (s.link p).rx = some x ∧ Block.bad ∉ (s.link p).stream ∧ x.bad = false ∧ x.old = false ∧ x.vc < 10 ∧ data.length / 8 ≤ 520 ∧ linkCrc x.lseq x.vc data = crc.toNat ∧ x.policed = false ∧ nth (s.link p).held x.vc + data.length ≤ s.vcLimit p x.vc ∧ s.tracing = false ∧ s.carries x.vc = false) ∧
    (∃ _p : Nat, ∃ vc : Nat, ∃ _a : Nat, ∃ _len : Nat, ∃ _k : Packet, ∃ _s : State, vc ≠ 6 ∧ vc ≠ 7) :=
  ⟨⟨0, 4095, 8, (withPort 0 run).modLink 0 (fun l => { l with rxSeq := 0xFFF }), ⟨by decide +kernel, by decide +kernel, by decide +kernel, fun k h => by cases h⟩⟩,
   ⟨0, 0, 8, (withPort 0 run).modLink 0 (fun l => { l with rxSeq := 1 }), by decide +kernel⟩,
   ⟨0, { lseq := 1, vc := 8, at_ := 0 }, [], (withPort 0 run).modLink 0 (fun l => { l with rx := some { lseq := 1, vc := 8, at_ := 0 } }), by decide +kernel⟩,
   ⟨0, 5, { lseq := 1, vc := 10, at_ := 0 }, [], 0, (withPort 0 run).modLink 0 (fun l => { l with rx := some { lseq := 1, vc := 10, at_ := 0 } }), by decide +kernel⟩,
   ⟨0, { lseq := 1, vc := 8, at_ := 0 }, [1, 2, 3, 4, 5, 6, 7, 8], BitVec.ofNat 32 (linkCrc 1 8 [1, 2, 3, 4, 5, 6, 7, 8]), (withPort 0 run).modLink 0 (fun l => { l with rx := some { lseq := 1, vc := 8, at_ := 0 } }), by decide +kernel⟩,
   ⟨0, { lseq := 1, vc := 8, at_ := 0 }, [1, 2, 3, 4, 5, 6, 7, 8], BitVec.ofNat 32 (linkCrc 1 8 [1, 2, 3, 4, 5, 6, 7, 8]), (withPort 0 run).modLink 0 (fun l => { l with rx := some { lseq := 1, vc := 8, at_ := 0 } }), by decide +kernel⟩,
   ⟨0, { lseq := 1, vc := 0, at_ := 0 }, [1, 2, 3, 4, 5, 6, 7, 8], BitVec.ofNat 32 (linkCrc 1 0 [1, 2, 3, 4, 5, 6, 7, 8]), { (withPort 0 run).modLink 0 (fun l => { l with rx := some { lseq := 1, vc := 0, at_ := 0 } }) with mode := { mode := .train, target := .train } }, by decide +kernel⟩,
   ⟨0, 8, 0, 64, request 0, run, by decide +kernel⟩⟩

theorem witness_FlowControl :
    (∃ p : Nat, ∃ _x : BitVec 10, ∃ s : State, s.rxOn p = true) ∧
    (∃ p : Nat, ∃ s : State, s.rxOn p = true ∧ (s.link p).fcAt + 25 ≤ s.now) ∧
    (∃ p : Nat, ∃ v : Nat, ∃ a : Nat, ∃ s : State, (s.link p).xoffAt.getD v none = some a ∧ a + s.cfg 12298 1 * 1000 < s.now ∧ (s.link p).xoffRec.getD v false = false) ∧
    (∃ p : Nat, ∃ k : Nat, ∃ v : Nat, ∃ msg : BitVec 5140, ∃ par : BitVec 300, ∃ s : State, s.loop p = 0 ∧ 4 ≤ (s.link p).stage ∧ ((s.link p).lps = 0 ∨ 4 ≤ (s.link p).lps) ∧ (s.link p).foundRev = false ∧ k < (s.link p).lanes.length ∧ ((s.link p).lanes.getD k { }).fec.length = 19 ∧ (∃ (n : Nat),   (rsDecode             (if (s.link p).foundInv.getLsbD k = true then swapPairs (par ++ msg).toNat             else (par ++ msg).toNat)).2 =         Fec.corrected n ∧       v = min n 15 ∨     (rsDecode             (if (s.link p).foundInv.getLsbD k = true then swapPairs (par ++ msg).toNat             else (par ++ msg).toNat)).2 =         Fec.uncorrectable ∧       v = 16)) :=
  ⟨⟨0, 0x3FF, withPort 0 run, by decide +kernel⟩,
   ⟨0, withPort 0 run, by decide +kernel⟩,
   ⟨0, 9, 0, (withPort 0 run).modLink 0 (fun l => { l with xoffAt := List.replicate 10 (some 0) }), by decide +kernel⟩,
   ⟨0, 3, (fec_of (if ((withPort 0 run).link 0).foundInv.getLsbD 3 = true then swapPairs ((0#300) ++ (0#5140)).toNat else ((0#300) ++ (0#5140)).toNat)).choose, 0, 0, withPort 0 run, ⟨by decide +kernel, by decide +kernel, by decide +kernel, by decide +kernel, by decide +kernel, by decide +kernel, (fec_of _).choose_spec⟩⟩⟩

theorem witness_LanesAndLinkDown :
    (∃ p : Nat, ∃ k : Nat, ∃ s : State, k < 4 ∧ s.portUp p = true ∧ (s.link p).lps = 0 ∧ (s.link p).rxLock.getLsbD k = true ∧ 4 ≤ ((s.link p).lanes.getD k { }).badRun) ∧
    (∃ p : Nat, ∃ k : Nat, ∃ s : State, k < 4 ∧ s.portUp p = true ∧ (s.link p).lps = 0 ∧ (s.link p).rxLock.getLsbD k = true ∧ 4 ≤ ((s.link p).lanes.getD k { }).badRun ∧ (s.link p).foundRev = false ∧ k < (s.link p).lanes.length) ∧
    (∃ p : Nat, ∃ k : Nat, ∃ s : State, k < 4 ∧ s.portUp p = true ∧ (s.link p).lps = 0 ∧ (s.link p).rxLock.getLsbD k = true ∧ 4 ≤ ((s.link p).lanes.getD k { }).badRun ∧ (s.link p).foundRev = true ∧ (s.link p).lanes.length = 4) ∧
    (∃ p : Nat, ∃ k : Nat, ∃ s : State, k < 4 ∧ s.portUp p = true ∧ (s.link p).lps = 0 ∧ (s.link p).rxLock.getLsbD k = false ∧ (s.link p).relocks k = true ∧ s.narrowOver p = false) ∧
    (∃ p : Nat, ∃ k : Nat, ∃ a : Nat, ∃ s : State, k < 4 ∧ s.portUp p = true ∧ (s.link p).lps = 0 ∧ ((s.link p).lanes.getD k { }).lostAt = some a ∧ a + s.cfg 12293 1 * 1000 ≤ s.now) ∧
    (∃ p : Nat, ∃ k : Nat, ∃ s : State, k < 4 ∧ s.portUp p = true ∧ (s.link p).rxLock.getLsbD k = true ∧ ((s.link p).lanes.getD k { }).lockAt + 100000000 ≤ s.now) ∧
    (∃ p : Nat, ∃ lock : BitVec 4, ∃ usable : BitVec 4, ∃ a : BitVec 4, ∃ s : State, s.portUp p = true ∧ chooseActive (s.cfg 12291 (p + 1)) lock usable = some a) ∧
    (∃ p : Nat, ∃ lock : BitVec 4, ∃ usable : BitVec 4, ∃ a : BitVec 4, ∃ s : State, s.portUp p = true ∧ chooseActive (s.cfg 12291 (p + 1)) lock usable = some a ∧ (lanesOf (s.link p).active).length ≤ (lanesOf a).length) ∧
    (∃ p : Nat, ∃ lock : BitVec 4, ∃ usable : BitVec 4, ∃ a : BitVec 4, ∃ s : State, s.portUp p = true ∧ chooseActive (s.cfg 12291 (p + 1)) lock usable = some a ∧ (lanesOf a).length < (lanesOf (s.link p).active).length) ∧
    (∃ p : Nat, ∃ lock : BitVec 4, ∃ usable : BitVec 4, ∃ s : State, s.portUp p = true ∧ chooseActive (s.cfg 12291 (p + 1)) lock usable = none) ∧
    (∃ m : Nat, ∃ _lock : BitVec 4, ∃ _usable : BitVec 4, (m = 1 ∨ m = 2 ∨ m = 4)) ∧
    (∃ m : Nat, ∃ _lock : BitVec 4, ∃ usable : BitVec 4, (m = 1 ∨ m = 2 ∨ m = 4) ∧ ∃ w : Nat, (w = 1 ∨ w = 2 ∨ w = 4) ∧ m ≤ w ∧ w ≤ (lanesOf usable).length ∧ (∀ (v : Nat), v = 2 ∨ v = 4 → w < v → (lanesOf usable).length < v)) ∧
    (∃ m : Nat, ∃ lock : BitVec 4, ∃ usable : BitVec 4, (m = 1 ∨ m = 2 ∨ m = 4) ∧ m ≤ (lanesOf lock).length ∧ (lanesOf usable).length < m) ∧
    (∃ p : Nat, ∃ a : Nat, ∃ s : State, s.portUp p = true ∧ (s.link p).lps = 0 ∧ (s.link p).narrowAt = some a ∧ a + s.cfg 12292 1 * 1000 ≤ s.now) :=
  ⟨⟨0, 3, (withPort 0 run).modLink 0 (fun l => { l with lanes := [{}, {}, {}, { badRun := 4 }] }), by decide +kernel⟩,
   ⟨0, 3, (withPort 0 run).modLink 0 (fun l => { l with lanes := [{}, {}, {}, { badRun := 4 }] }), by decide +kernel⟩,
   ⟨0, 3, (withPort 0 run).modLink 0 (fun l => { l with foundRev := true, lanes := List.replicate 4 { badRun := 4 } }), by decide +kernel⟩,
   ⟨0, 3, (withPort 0 run).modLink 0 (fun l => { l with rxLock := 7, lanes := [{}, {}, {}, { synced := true, goodRun := 4, marker := 3 * 2 ^ 24 }] }), by decide +kernel⟩,
   ⟨0, 3, 0, (withPort 0 run).modLink 0 (fun l => { l with lanes := [{}, {}, {}, { lostAt := some 0 }] }), by decide +kernel⟩,
   ⟨0, 3, withPort 0 run, by decide +kernel⟩,
   ⟨0, 0xF, 0xF, 0xF, withPort 0 run, by decide +kernel⟩,
   ⟨0, 0xF, 0xF, 0xF, withPort 0 run, by decide +kernel⟩,
   ⟨0, 0x3, 0x3, 0x3, withPort 0 run, by decide +kernel⟩,
   ⟨0, 0, 0, withPort 0 run, by decide +kernel⟩,
   ⟨4, 0xF, 7, by decide +kernel⟩,
   ⟨4, 0xF, 0xF, ⟨by decide, 4, by decide, by decide, by decide, fun v h1 h2 => by omega⟩⟩,
   ⟨2, 0x3, 0x1, by decide +kernel⟩,
   ⟨0, 0, (withPort 0 run).modLink 0 (fun l => { l with narrowAt := some 0 }), by decide +kernel⟩⟩

theorem witness_LowPowerStates :
    (∃ p : Nat, ∃ _st : Nat, ∃ force : Bool, ∃ s : State, s.portUp p = true ∧ (s.link p).lpsReqAt = none ∧ (s.link p).lps = 0 ∧ (bitAt (s.cfg 12301 (p + 1)) 0 || force) = true) ∧
    (∃ p : Nat, ∃ _st : Nat, ∃ force : Bool, ∃ s : State, s.portUp p = true ∧ (s.link p).lpsReqAt = none ∧ (s.link p).lps = 0 ∧ (bitAt (s.cfg 12301 (p + 1)) 0 || force) = false) ∧
    (∃ _p : Nat, ∃ kind : Nat, ∃ _st : Nat, ∃ _force : Bool, ∃ _s : State, kind = 2) ∧
    (∃ _p : Nat, ∃ kind : Nat, ∃ _st : Nat, ∃ _force : Bool, ∃ _s : State, kind ≠ 2) ∧
    (∃ p : Nat, ∃ st : Nat, ∃ a : Nat, ∃ _force : Bool, ∃ s : State, s.portUp p = true ∧ (s.link p).lpsReqAt = some a ∧ (s.link p).lpsGoal = st) ∧
    (∃ p : Nat, ∃ st : Nat, ∃ a : Nat, ∃ _force : Bool, ∃ s : State, s.portUp p = true ∧ (s.link p).lpsReqAt = some a ∧ (s.link p).lpsGoal ≠ st) ∧
    (∃ p : Nat, ∃ _st : Nat, ∃ s : State, ∃ w : State, (w = s.breakTrees (fun (x v : Nat) => (tEdges v).contains p) 2592 (some p))) ∧
    (∃ p : Nat, ∃ a : Nat, ∃ s : State, (s.link p).lpsReqAt = some a ∧ a + 10000 ≤ s.now) ∧
    (∃ p : Nat, ∃ s : State, (s.link p).lps = 1 ∧ bitAt (s.cfg 12301 (p + 1)) 1 = true ∧ (s.portq p).egress ≠ []) ∧
    (∃ p : Nat, ∃ s : State, (s.link p).lps = 5 ∧ (s.link p).stage = 9 ∧ (s.mode.changing = false ∨ s.mode.drained = false ∨ s.mode.target ≠ Mode.hold) ∧ (s.link p).lpsGoal = 1) ∧
    (∃ p : Nat, ∃ s : State, (s.link p).lps = 5 ∧ (s.link p).stage = 9 ∧ (s.mode.changing = false ∨ s.mode.drained = false ∨ s.mode.target ≠ Mode.hold) ∧ (s.link p).lpsGoal = 2) ∧
    (∃ p : Nat, ∃ s : State, (s.link p).lps = 5 ∧ (s.link p).stage = 9 ∧ (s.mode.changing = false ∨ s.mode.drained = false ∨ s.mode.target ≠ Mode.hold) ∧ (s.link p).lpsGoal = 3) ∧
    (∃ p : Nat, ∃ s : State, (s.link p).lps = 1 ∧ (s.mode.changing = false ∨ s.mode.drained = false ∨ s.mode.target ≠ Mode.hold)) ∧
    (∃ p : Nat, ∃ s : State, (s.link p).lps = 2) ∧
    (∃ p : Nat, ∃ a : Nat, ∃ s : State, (s.link p).lpsExitAt = some a ∧ (s.link p).lps = 5 ∧ (s.link p).stage ≠ 8 ∧ a + 2 * exitTime (s.link p).lpsGoal ≤ s.now) ∧
    (∃ c : Nat, ∃ s : State, (∃ p ∈ cablePorts c, s.cableOn p = true)) ∧
    (∃ p : Nat, ∃ s : State, s.portUp p = true) ∧
    (∃ p : Nat, ∃ s : State, s.portUp p = false ∧ (s.link p).lps ≠ 5) ∧
    (∃ p : Nat, ∃ s : State, s.portUp p = false ∧ (s.link p).lps ≠ 5 ∧ (s.link p).stage = 0) ∧
    (∃ p : Nat, ∃ s : State, s.portUp p = false ∧ (s.link p).lps ≠ 5 ∧ (s.link p).stage ≠ 0) ∧
    (∃ c : Nat, ∃ s : State, (∀ p ∈ cablePorts c, (s.link p).stage ≠ 9 ∧ (s.link p).lps ≠ 5) ∧ (∃ p ∈ cablePorts c, s.cableOn p = true)) :=
  ⟨⟨0, 1, true, withPort 0 run, by decide +kernel⟩,
   ⟨0, 1, false, (withPort 0 run).setCfg 0x300D 1 0, by decide +kernel⟩,
   ⟨0, 2, 1, false, withPort 0 run, by decide +kernel⟩,
   ⟨0, 1, 1, false, withPort 0 run, by decide +kernel⟩,
   ⟨0, 2, 0, false, (withPort 0 run).modLink 0 (fun l => { l with lpsReqAt := some 0, lpsGoal := 2 }), by decide +kernel⟩,
   ⟨0, 2, 0, false, (withPort 0 run).modLink 0 (fun l => { l with lpsReqAt := some 0, lpsGoal := 1 }), by decide +kernel⟩,
   ⟨0, 1, withPort 0 run, _, rfl⟩,
   ⟨0, 0, (withPort 0 run).modLink 0 (fun l => { l with lpsReqAt := some 0, lpsGoal := 2 }), by decide +kernel⟩,
   ⟨0, (((withPort 0 run).modLink 0 (fun l => { l with lps := 1 })).setCfg 0x300D 1 2).modPortq 0 (fun x => { x with egress := [waiting (request 5)] }), by decide +kernel⟩,
   ⟨0, (withPort 0 run).modLink 0 (fun l => { l with lps := 5, lpsGoal := 1 }), by decide +kernel⟩,
   ⟨0, (withPort 0 run).modLink 0 (fun l => { l with lps := 5, lpsGoal := 2 }), by decide +kernel⟩,
   ⟨0, (withPort 0 run).modLink 0 (fun l => { l with lps := 5, lpsGoal := 3 }), by decide +kernel⟩,
   ⟨0, (withPort 0 run).modLink 0 (fun l => { l with lps := 1 }), by decide +kernel⟩,
   ⟨0, (withPort 0 run).modLink 0 (fun l => { l with lps := 2 }), by decide +kernel⟩,
   ⟨0, 0, (withPort 0 run).modLink 0 (fun l => { l with lps := 5, lpsGoal := 3, lpsExitAt := some 0 }), by decide +kernel⟩,
   ⟨3, run.setCfg 0x3002 13 1, by decide +kernel⟩,
   ⟨0, withPort 0 run, by decide +kernel⟩,
   ⟨0, run, by decide +kernel⟩,
   ⟨0, run, by decide +kernel⟩,
   ⟨0, run.modLink 0 (fun l => { l with stage := 3 }), by decide +kernel⟩,
   ⟨3, run.setCfg 0x3002 13 1, by decide +kernel⟩⟩

theorem witness_RoutersForward :
    (∃ p : Nat, ∃ q : QPkt, ∃ rest : List QPkt, ∃ s : State, ∃ v : State, ∃ u : State, ∃ h : Hop, (s.portq p).ingress = q :: rest ∧ q.stomp = false ∧ q.ghost = false ∧ q.blocks = ceilDiv (max 64 (pktSize q.pkt)) 8 ∧ (v =   s.modPortq p fun (x : PortQ) =>     { x with ingress := rest }) ∧ v.routeIt p q.vc q.pkt = (h, u) ∧ ∃ r : Nat, ∃ k : Packet, h = Hop.out r k ∧ ptOf r = ptOf p) ∧
    (∃ p : Nat, ∃ q : QPkt, ∃ rest : List QPkt, ∃ s : State, ∃ v : State, ∃ u : State, ∃ h : Hop, (s.portq p).ingress = q :: rest ∧ q.stomp = false ∧ q.ghost = false ∧ q.blocks = ceilDiv (max 64 (pktSize q.pkt)) 8 ∧ (v =   s.modPortq p fun (x : PortQ) =>     { x with ingress := rest }) ∧ v.routeIt p q.vc q.pkt = (h, u) ∧ ∃ r : Nat, ∃ k : Packet, h = Hop.out r k ∧ ptOf r ≠ ptOf p) ∧
    (∃ p : Nat, ∃ q : QPkt, ∃ rest : List QPkt, ∃ s : State, ∃ v : State, ∃ u : State, ∃ h : Hop, (s.portq p).ingress = q :: rest ∧ q.stomp = false ∧ q.ghost = false ∧ q.blocks = ceilDiv (max 64 (pktSize q.pkt)) 8 ∧ (v =   s.modPortq p fun (x : PortQ) =>     { x with ingress := rest }) ∧ v.routeIt p q.vc q.pkt = (h, u) ∧ h = Hop.here) ∧
    (∃ p : Nat, ∃ q : QPkt, ∃ rest : List QPkt, ∃ s : State, ∃ v : State, ∃ u : State, ∃ h : Hop, (s.portq p).ingress = q :: rest ∧ q.stomp = false ∧ q.ghost = false ∧ q.blocks = ceilDiv (max 64 (pktSize q.pkt)) 8 ∧ (v =   s.modPortq p fun (x : PortQ) =>     { x with ingress := rest }) ∧ v.routeIt p q.vc q.pkt = (h, u) ∧ ∃ c : Nat, h = Hop.drop c ∧ q.ingress < 64 ∧ c < 16 ∧ (s.pt q.tile).drops.length = 16 ∧ ptOf p = q.tile) :=
  ⟨⟨3, { waiting (request 5) with ingress := 3 }, [], ((withCoord 0 0 0 run).modPortq 3 (fun x => { x with ingress := [{ waiting (request 5) with ingress := 3 }] })).modLink 4 (fun l => { l with stage := 9 }), _, _, .out 4 { request 5 with ltgt := 5, hops := 0 }, ⟨by decide +kernel, rfl, rfl, by decide +kernel, rfl, Prod.ext (by decide +kernel) rfl, 4, _, rfl, by decide⟩⟩,
   ⟨11, { waiting (request 5) with ingress := 11 }, [], ((withCoord 0 0 0 run).modPortq 11 (fun x => { x with ingress := [{ waiting (request 5) with ingress := 11 }] })).modLink 4 (fun l => { l with stage := 9 }), _, _, .out 4 { request 5 with ltgt := 5, hops := 0 }, ⟨by decide +kernel, rfl, rfl, by decide +kernel, rfl, Prod.ext (by decide +kernel) rfl, 4, _, rfl, by decide⟩⟩,
   ⟨3, { waiting (request 0) with ingress := 3 }, [], ((withCoord 0 0 0 run).modPortq 3 (fun x => { x with ingress := [{ waiting (request 0) with ingress := 3 }] })).modLink 4 (fun l => { l with stage := 9 }), _, _, .here, ⟨by decide +kernel, rfl, rfl, by decide +kernel, rfl, Prod.ext (by decide +kernel) rfl, rfl⟩⟩,
   ⟨3, { waiting (request 5) with ingress := 3 }, [], ((withCoord 0 0 0 run).modPortq 3 (fun x => { x with ingress := [{ waiting (request 5) with ingress := 3 }] })).modLink 4 (fun l => { l with stage := 0 }), _, _, .drop 8, ⟨by decide +kernel, rfl, rfl, by decide +kernel, rfl, Prod.ext (by decide +kernel) rfl, 8, rfl, by decide +kernel⟩⟩⟩

theorem witness_RoutersDecide :
    (∃ _p : Nat, ∃ vc : Nat, ∃ k : Packet, ∃ _s : State, badFormat k vc = true) ∧
    (∃ _p : Nat, ∃ vc : Nat, ∃ k : Packet, ∃ _s : State, badFormat k vc = false ∧ reservedDev k.dform k.dstDev = true) ∧
    (∃ p : Nat, ∃ c : Nat, ∃ k : Packet, ∃ s : State, badFormat k (vcOf k) = false ∧ reservedDev k.dform k.dstDev = false ∧ p < 64 ∧ (s.link p).mgmtOnly = false ∧ s.entryLost (ptOf p) p (vcOf k) k = false ∧ vcOf k < 8 ∧ s.coord? = some c ∧ c = k.dstDev) ∧
    (∃ p : Nat, ∃ c : Nat, ∃ k : Packet, ∃ s : State, badFormat k (vcOf k) = false ∧ reservedDev k.dform k.dstDev = false ∧ p < 64 ∧ (s.link p).mgmtOnly = false ∧ s.entryLost (ptOf p) p (vcOf k) k = false ∧ vcOf k < 8 ∧ s.coord? = some c ∧ c ≠ k.dstDev ∧ c / 64 = k.dstDev / 64 ∧ k.hops < 15 ∧ c % 8 ≠ k.dstDev % 8 ∧ (s.portCarries (if k.dstDev % 8 < c % 8 then k.dstDev % 8 else k.dstDev % 8 - 1) 0 = true)) ∧
    (∃ p : Nat, ∃ c : Nat, ∃ k : Packet, ∃ s : State, badFormat k (vcOf k) = false ∧ reservedDev k.dform k.dstDev = false ∧ p < 64 ∧ (s.link p).mgmtOnly = false ∧ s.entryLost (ptOf p) p (vcOf k) k = false ∧ vcOf k < 8 ∧ s.coord? = some c ∧ c ≠ k.dstDev ∧ c / 64 = k.dstDev / 64 ∧ k.hops < 15 ∧ c % 8 = k.dstDev % 8 ∧ (s.portCarries (if k.dstDev / 8 % 8 < c / 8 % 8 then 7 + k.dstDev / 8 % 8 else 6 + k.dstDev / 8 % 8) 0 = true)) ∧
    (∃ p : Nat, ∃ c : Nat, ∃ k : Packet, ∃ s : State, badFormat k (vcOf k) = false ∧ reservedDev k.dform k.dstDev = false ∧ p < 64 ∧ (s.link p).mgmtOnly = false ∧ s.entryLost (ptOf p) p (vcOf k) k = false ∧ vcOf k < 8 ∧ s.coord? = some c ∧ c ≠ k.dstDev ∧ c / 64 = k.dstDev / 64 ∧ k.hops < 15 ∧ c % 8 ≠ k.dstDev % 8 ∧ (s.portCarries (if k.dstDev % 8 < c % 8 then k.dstDev % 8 else k.dstDev % 8 - 1) 0 = false)) ∧
    (∃ p : Nat, ∃ c : Nat, ∃ k : Packet, ∃ s : State, badFormat k (vcOf k) = false ∧ reservedDev k.dform k.dstDev = false ∧ p < 64 ∧ (s.link p).mgmtOnly = false ∧ s.entryLost (ptOf p) p (vcOf k) k = false ∧ vcOf k < 8 ∧ s.coord? = some c ∧ c ≠ k.dstDev ∧ c / 64 = k.dstDev / 64 ∧ k.hops = 15) ∧
    (∃ _p : Nat, ∃ k : Packet, ∃ _s : State, k.gv = 2) ∧
    (∃ p : Nat, ∃ k : Packet, ∃ s : State, k.gv < 2 ∧ k.hops < 15 ∧ s.portCarries p 0 = true) :=
  ⟨⟨0, 1, request 0, run, by decide +kernel⟩,
   ⟨0, 0, request 262143, run, by decide +kernel⟩,
   ⟨63, 229, request 229, withCoord 3 4 5 run, by decide +kernel⟩,
   ⟨0, 229, request 231, withPort 6 (withCoord 3 4 5 run), by decide +kernel⟩,
   ⟨0, 229, request 253, withPort 13 (withCoord 3 4 5 run), by decide +kernel⟩,
   ⟨0, 229, request 192, withCoord 3 4 5 run, by decide +kernel⟩,
   ⟨0, 229, { request 192 with hops := 15 }, withCoord 3 4 5 run, by decide +kernel⟩,
   ⟨14, { request 0 with gv := 2 }, run, by decide +kernel⟩,
   ⟨14, { request 0 with gv := 1, hops := 14 }, withPort 14 run, by decide +kernel⟩⟩

theorem witness_EscapeTreeRoutes :
    (∃ k : Packet, ∃ s : State, ∃ valid : Nat, ∃ down : Nat, ∃ port : Nat, ∃ up : Nat, s.treeLook k = (valid, down, port) ∧ up = s.cfg 16385 (b2n k.gen + 1) ∧ valid = 0) ∧
    (∃ k : Packet, ∃ s : State, ∃ valid : Nat, ∃ down : Nat, ∃ port : Nat, ∃ up : Nat, s.treeLook k = (valid, down, port) ∧ up = s.cfg 16385 (b2n k.gen + 1) ∧ valid ≠ 0 ∧ down = 1 ∧ k.hops < 15 ∧ s.portCarries port (vcOf k) = true) ∧
    (∃ k : Packet, ∃ s : State, ∃ valid : Nat, ∃ down : Nat, ∃ port : Nat, ∃ up : Nat, s.treeLook k = (valid, down, port) ∧ up = s.cfg 16385 (b2n k.gen + 1) ∧ valid ≠ 0 ∧ down ≠ 1 ∧ k.tdown = true) ∧
    (∃ k : Packet, ∃ s : State, ∃ valid : Nat, ∃ down : Nat, ∃ port : Nat, ∃ up : Nat, s.treeLook k = (valid, down, port) ∧ up = s.cfg 16385 (b2n k.gen + 1) ∧ valid ≠ 0 ∧ down ≠ 1 ∧ k.tdown = false ∧ up = 255) ∧
    (∃ k : Packet, ∃ s : State, ∃ valid : Nat, ∃ down : Nat, ∃ port : Nat, ∃ up : Nat, s.treeLook k = (valid, down, port) ∧ up = s.cfg 16385 (b2n k.gen + 1) ∧ valid ≠ 0 ∧ down ≠ 1 ∧ k.tdown = false ∧ up ≠ 255 ∧ k.hops < 15 ∧ s.portCarries up (vcOf k) = true) ∧
    (∃ k : Packet, ∃ s : State, ∃ valid : Nat, ∃ down : Nat, ∃ port : Nat, ∃ up : Nat, s.treeLook k = (valid, down, port) ∧ up = s.cfg 16385 (b2n k.gen + 1) ∧ valid ≠ 0 ∧ (down = 1 ∨ k.tdown = false ∧ up ≠ 255) ∧ k.hops < 15 ∧ (s.portCarries (if down = 1 then port else up) (vcOf k) = false)) ∧
    (∃ k : Packet, ∃ s : State, ∃ valid : Nat, ∃ down : Nat, ∃ port : Nat, ∃ up : Nat, s.treeLook k = (valid, down, port) ∧ up = s.cfg 16385 (b2n k.gen + 1) ∧ valid ≠ 0 ∧ (down = 1 ∨ k.tdown = false ∧ up ≠ 255) ∧ k.hops = 15) :=
  ⟨⟨request 0, run, 0, 0, 0, run.cfg 0x4001 1, by decide +kernel⟩,
   ⟨request 0, withPort 20 (run.setCfg 0x4100 0 (5 + 8 * 20)), 1, 1, 20, (withPort 20 (run.setCfg 0x4100 0 (5 + 8 * 20))).cfg 0x4001 1, by decide +kernel⟩,
   ⟨{ request 0 with tdown := true }, run.setCfg 0x4100 0 1, 1, 0, 0, (run.setCfg 0x4100 0 1).cfg 0x4001 1, by decide +kernel⟩,
   ⟨request 0, (run.setCfg 0x4100 0 1).setCfg 0x4001 1 0xFF, 1, 0, 0, 0xFF, by decide +kernel⟩,
   ⟨request 0, withPort 9 ((run.setCfg 0x4100 0 1).setCfg 0x4001 1 9), 1, 0, 0, 9, by decide +kernel⟩,
   ⟨request 0, run.setCfg 0x4100 0 (5 + 8 * 20), 1, 1, 20, (run.setCfg 0x4100 0 (5 + 8 * 20)).cfg 0x4001 1, by decide +kernel⟩,
   ⟨{ request 0 with hops := 15 }, run.setCfg 0x4100 0 (5 + 8 * 20), 1, 1, 20, (run.setCfg 0x4100 0 (5 + 8 * 20)).cfg 0x4001 1, by decide +kernel⟩⟩

theorem witness_InjectionAndDelivery :
    (∃ n : Nat, ∃ q : QPkt, ∃ rest : List QPkt, ∃ s : State, s.injectStopped = false ∧ s.arch.inbox.getD n [] = q :: rest ∧ (s.pt n).throttle = 0 ∧ (s.carries (vcOf q.pkt) = true ∨   s.inMode Mode.test = true ∧ s.isSelf q.pkt.dform q.pkt.dstDev = true)) ∧
    (∃ _n : Nat, ∃ k : Packet, ∃ s : State, (∀ (c : Nat), s.coord? = some c → c / 64 = k.dstDev / 64)) ∧
    (∃ n : Nat, ∃ q : QPkt, ∃ rest : List QPkt, ∃ s : State, s.injectStopped = false ∧ s.arch.inbox.getD n [] = q :: rest ∧ (s.pt n).throttle = 0 ∧ s.carries (vcOf q.pkt) = false ∧ (s.inMode Mode.test = false ∨ s.isSelf q.pkt.dform q.pkt.dstDev = false)) ∧
    (∃ n : Nat, ∃ s : State, (s.pt n).throttle = 2 ∧ (∀ q ∈ s.arch.inbox.getD n [], q.pkt.kind = kindReq)) ∧
    (∃ _n : Nat, ∃ s : State, s.injectStopped = true) ∧
    (∃ tile : Nat, ∃ q : QPkt, ∃ rest : List QPkt, ∃ s : State, s.arch.inbox.getD tile [] = q :: rest ∧ min 65535 (q.pkt.age + ceilDiv (s.now - q.arr) 64) ≤ 31250 ∧ 8 ≤ tile ∧ tile < 12 ∧ knownTop q.pkt = true ∧ (q.pkt.dform = false ∨   q.pkt.kind ≠ kindReq ∨ (s.et (tile - 8)).rx.length ≤ Config.deliveryRoom)) ∧
    (∃ tile : Nat, ∃ q : QPkt, ∃ rest : List QPkt, ∃ s : State, s.arch.inbox.getD tile [] = q :: rest ∧ min 65535 (q.pkt.age + ceilDiv (s.now - q.arr) 64) ≤ 31250 ∧ 8 ≤ tile ∧ tile < 12 ∧ knownTop q.pkt = false ∧ (q.pkt.dform = false ∨   q.pkt.kind ≠ kindReq ∨ (s.et (tile - 8)).rx.length ≤ Config.deliveryRoom)) ∧
    (∃ tile : Nat, ∃ q : QPkt, ∃ rest : List QPkt, ∃ s : State, s.arch.inbox.getD tile [] = q :: rest ∧ 31250 < min 65535 (q.pkt.age + ceilDiv (s.now - q.arr) 64) ∧ (s.pt q.tile).drops.length = 16) ∧
    (∃ tile : Nat, ∃ q : QPkt, ∃ rest : List QPkt, ∃ s : State, s.arch.inbox.getD tile [] = q :: rest ∧ min 65535 (q.pkt.age + ceilDiv (s.now - q.arr) 64) ≤ 31250 ∧ tile = 12 ∧ isRequest q.pkt = true ∧ 64 ≤ s.mgtHeld ∧ (s.pt q.tile).drops.length = 16) ∧
    (∃ tile : Nat, ∃ q : QPkt, ∃ rest : List QPkt, ∃ s : State, s.arch.inbox.getD tile [] = q :: rest ∧ min 65535 (q.pkt.age + ceilDiv (s.now - q.arr) 64) ≤ 31250 ∧ tile = 12 ∧ (isRequest q.pkt = false ∨ s.mgtHeld < 64)) ∧
    (∃ tile : Nat, ∃ q : QPkt, ∃ rest : List QPkt, ∃ s : State, s.arch.inbox.getD tile [] = q :: rest ∧ min 65535 (q.pkt.age + ceilDiv (s.now - q.arr) 64) ≤ 31250 ∧ 8 ≤ tile ∧ tile < 12 ∧ q.pkt.dform = true ∧ q.pkt.kind = kindReq ∧ Config.deliveryRoom < (s.et (tile - 8)).rx.length ∧ (s.pt q.tile).drops.length = 16) :=
  ⟨⟨7, waiting (request 0), [], { run with arch := { run.arch with inbox := [(7, [waiting (request 0)])] } }, by decide +kernel⟩,
   ⟨0, request 192, withCoord 3 4 5 run, fun c h => by cases h; decide⟩,
   ⟨0, waiting (request 0), [], inMode .train ({ run with arch := { run.arch with inbox := [(0, [waiting (request 0)])] } }), by decide +kernel⟩,
   ⟨0, { run with arch := { run.arch with inbox := [(0, [waiting (request 0)])] }, pts := [(0, { throttle := 2 })] }, by decide +kernel⟩,
   ⟨0, inMode .hold run, by decide +kernel⟩,
   ⟨11, waiting (toCtx kindReq topData), [], { run with arch := { run.arch with inbox := [(11, [waiting (toCtx kindReq topData)])] } }, ⟨by decide +kernel, by decide +kernel, by decide, by decide, by decide +kernel, Or.inl rfl⟩⟩,
   ⟨8, waiting (toCtx kindRsp 0), [], { run with arch := { run.arch with inbox := [(8, [waiting (toCtx kindRsp 0)])] } }, ⟨by decide +kernel, by decide +kernel, by decide, by decide, by decide +kernel, Or.inl rfl⟩⟩,
   ⟨8, waiting { request 0 with age := 31251 }, [], { run with arch := { run.arch with inbox := [(8, [waiting { request 0 with age := 31251 }])] } }, by decide +kernel⟩,
   ⟨12, waiting { request 0 with kind := 4 }, [], { run with arch := { run.arch with inbox := [(12, [waiting { request 0 with kind := 4 }])] }, dict := { rx := List.replicate 64 (request 0) } }, by decide +kernel⟩,
   ⟨12, waiting (request 0), [], { run with arch := { run.arch with inbox := [(12, [waiting (request 0)])] } }, by decide +kernel⟩,
   ⟨8, waiting { request 0 with dform := true }, [], { { run with arch := { run.arch with inbox := [(8, [waiting { request 0 with dform := true }])] } } with ets := [(0, { rx := List.replicate (Config.deliveryRoom + 1) (waiting (request 0)) })] }, ⟨by decide +kernel, by decide +kernel, by decide, by decide, rfl, rfl, by simp [State.et, Tbl.getD, Tbl.get?], by decide +kernel⟩⟩⟩

theorem witness_PacketsLeave :
    (∃ p : Nat, ∃ q : QPkt, ∃ vcs : List Nat, ∃ s : State, s.txOn p = true ∧ s.selectPkt p = some (q, vcs) ∧ s.ageOut p q ≤ 31250 ∧ 64 ≤ q.ingress ∧ q.vc ≠ 6 ∧ q.vc ≠ 7 ∧ s.shaper p q.vc = none ∧ q.stomp = false) ∧
    (∃ p : Nat, ∃ q : QPkt, ∃ vcs : List Nat, ∃ s : State, s.txOn p = true ∧ s.selectPkt p = some (q, vcs) ∧ 31250 < s.ageOut p q ∧ 64 ≤ q.ingress ∧ q.vc ≠ 6 ∧ q.vc ≠ 7 ∧ (s.pt (ptOf p)).drops.length = 16) ∧
    (∃ _x : PortQ, ∃ vcs : List Nat, 8 ∈ vcs) ∧
    (∃ x : PortQ, ∃ vcs : List Nat, 8 ∉ vcs ∧ 9 ∈ vcs ∧ 15 ≤ x.escSkip) ∧
    (∃ x : PortQ, ∃ vcs : List Nat, ∃ v : Nat, nextVc x vcs = some v) ∧
    (∃ p : Nat, ∃ s : State, s.selectPkt p = none) :=
  ⟨⟨0, waiting (request 5), [0], (withPort 0 run).modPortq 0 (fun x => { x with egress := [waiting (request 5)] }), by decide +kernel⟩,
   ⟨0, waiting { request 5 with age := 31251 }, [0], (withPort 0 run).modPortq 0 (fun x => { x with egress := [waiting { request 5 with age := 31251 }] }), by decide +kernel⟩,
   ⟨{}, [0, 8], by decide +kernel⟩,
   ⟨{ escSkip := 15 }, [0, 9], by decide +kernel⟩,
   ⟨{}, [3], 3, by decide +kernel⟩,
   ⟨0, run, by decide +kernel⟩⟩

theorem witness_DepthsHintsAndGenerations :
    (∃ n : Nat, ∃ s : State, (s.pt n).qpubAt + 32 ≤ s.now) ∧
    (∃ n : Nat, ∃ _g : Nat, ∃ s : State, (s.pt n).decayAt + (s.pt n).decayOld.getD (s.cfg 16384 6) * 1000 ≤ s.now) ∧
    (∃ g : Nat, ∃ a : Nat, ∃ s : State, s.quiet.getD g none = some a ∧ a ≤ s.now) :=
  ⟨⟨7, run, by decide +kernel⟩,
   ⟨0, 1, run, by decide +kernel⟩,
   ⟨1, 5, { run with quiet := [none, some 5] }, by decide +kernel⟩⟩

theorem witness_TimeSetsExchanged :
    (∃ p : Nat, ∃ d : Nat, ∃ s : State, s.timeSends p = true ∧ (s.tport p).sentAt + s.cfg 53248 6 ≤ s.now ∧ d = (s.time.ft.toNat + ((s.link p).upToNow s.now).leavesIn s.now 0 * 65536 / 225) % 2 ^ 80) ∧
    (∃ p : Nat, ∃ d : Nat, ∃ s : State, s.timeSends p = true ∧ (s.tport p).sentAt + s.cfg 53248 6 ≤ s.now ∧ d = (s.time.ft.toNat + ((s.link p).upToNow s.now).leavesIn s.now 0 * 65536 / 225) % 2 ^ 80 ∧ s.time.st < 16) ∧
    (∃ p : Nat, ∃ d : Nat, ∃ s : State, s.timeSends p = true ∧ (s.tport p).sentAt + s.cfg 53248 6 ≤ s.now ∧ d = (s.time.ft.toNat + ((s.link p).upToNow s.now).leavesIn s.now 0 * 65536 / 225) % 2 ^ 80 ∧ s.time.steps < 16) ∧
    (∃ p : Nat, ∃ x : TimeSet, ∃ s : State, s.timeSends p = true ∧ setRtt (s.tport p) x = none) ∧
    (∃ p : Nat, ∃ x : TimeSet, ∃ rtt : Int, ∃ s : State, s.timeSends p = true ∧ setRtt (s.tport p) x = some rtt ∧ (s.time.st = 4 ∨ s.time.st = 5)) ∧
    (∃ p : Nat, ∃ s : State, (s.tport p).locked = true ∧ (s.tport p).lastAt + 8 * s.cfg 53248 6 ≤ s.now) :=
  ⟨⟨0, _, withStage 0 6 run, ⟨by decide +kernel, by decide +kernel, rfl⟩⟩,
   ⟨0, _, withStage 0 6 run, ⟨by decide +kernel, by decide +kernel, rfl, by decide +kernel⟩⟩,
   ⟨0, _, withStage 0 6 run, ⟨by decide +kernel, by decide +kernel, rfl, by decide +kernel⟩⟩,
   ⟨0, { seq := 0, inOrder := true, word0 := 0, word1 := 0, word2 := 3, word3 := 0, arrival := 0 }, withStage 0 6 run, by decide +kernel⟩,
   ⟨0, { seq := 0, inOrder := true, word0 := 0, word1 := 0, word2 := 3, word3 := 0, arrival := 1310720000 }, 1310720000, { (withStage 0 6 run).modTport 0 (fun t => { t with departs := [(3, 0)] }) with time := { st := 4 } }, by decide +kernel⟩,
   ⟨0, run.modTport 0 (fun t => { t with locked := true }), by decide +kernel⟩⟩

theorem witness_TimeFollowsItsParent :
    (∃ _th : Int, ∃ s : State, s.time.st = 1 ∧ s.time.stepped = false ∧ s.time.condStep = false) ∧
    (∃ _th : Int, ∃ s : State, s.time.st = 1 ∧ s.time.stepped = true) ∧
    (∃ th : Int, ∃ s : State, (s.time.st = 2 ∨ s.time.st = 3) ∧ s.stepLimit < th.natAbs ∧ s.time.farRun < 3) ∧
    (∃ th : Int, ∃ s : State, (s.time.st = 2 ∨ s.time.st = 3) ∧ s.stepLimit < th.natAbs ∧ 3 ≤ s.time.farRun) ∧
    (∃ s : State, s.time.st = 3 ∧ s.time.parent = none ∧ s.time.holdAt + s.cfg 53248 8 * 1000000 ≤ s.now) ∧
    (∃ s : State, ∃ a : Nat, ∃ p : Nat, s.betterParent a = some p) ∧
    (∃ s : State, ∃ a : Nat, ∃ p : Nat, s.time.parent = some a ∧ s.betterParent a = some p) ∧
    (∃ s : State, ∃ a : Nat, ∃ p : Nat, s.time.parent = some a ∧ s.betterParent a = some p ∧ s.time.st = 2) ∧
    (∃ s : State, ∃ a : Nat, s.time.parent = some a ∧ s.betterParent a = none) ∧
    (∃ s : State, ∃ p : Nat, s.bestParent = some p) ∧
    (∃ s : State, ∃ p : Nat, s.bestParent = some p ∧ ∃ q : Nat, q < 64 ∧ s.eligibleParent q = true) ∧
    (∃ s : State, ∃ p : Nat, s.bestParent = some p ∧ ∃ q : Nat, q < 64 ∧ s.eligibleParent q = true ∧ s.parentBefore p q = false) :=
  ⟨⟨70, { run with time := { st := 1 } }, by decide +kernel⟩,
   ⟨-70, { run with time := { st := 1, stepped := true } }, by decide +kernel⟩,
   ⟨-(10 ^ 12), { run with time := { st := 2, farRun := 2 } }, by decide +kernel⟩,
   ⟨10 ^ 12, { run with time := { st := 3, farRun := 3 } }, by decide +kernel⟩,
   ⟨{ run with now := 10 ^ 14,  time := { st := 3 } }, by decide +kernel⟩,
   ⟨(run.modTport 5 (fun t => { t with locked := true, peerState := 2, peerSteps := 14 })).modTport 9 (fun t => { t with locked := true, peerState := 4, peerSteps := 12, betterAt := some 0 }), 5, 9, by decide +kernel⟩,
   ⟨{ (run.modTport 5 (fun t => { t with locked := true, peerState := 2, peerSteps := 14 })).modTport 9 (fun t => { t with locked := true, peerState := 4, peerSteps := 12, betterAt := some 0 }) with time := { parent := some 5 } }, 5, 9, by decide +kernel⟩,
   ⟨{ (run.modTport 5 (fun t => { t with locked := true, peerState := 2, peerSteps := 14 })).modTport 9 (fun t => { t with locked := true, peerState := 4, peerSteps := 12, betterAt := some 0 }) with time := { parent := some 5, st := 2 } }, 5, 9, by decide +kernel⟩,
   ⟨{ run.modTport 5 (fun t => { t with locked := true, peerState := 2, peerSteps := 14 }) with time := { parent := some 5 } }, 5, by decide +kernel⟩,
   ⟨run.modTport 5 (fun t => { t with locked := true, peerState := 2, peerSteps := 14 }), 5, by decide +kernel⟩,
   ⟨(run.modTport 5 (fun t => { t with locked := true, peerState := 2, peerSteps := 14 })).modTport 9 (fun t => { t with locked := true, peerState := 4, peerSteps := 12 }), 9, ⟨by decide +kernel, 5, by decide +kernel⟩⟩,
   ⟨(run.modTport 5 (fun t => { t with locked := true, peerState := 2, peerSteps := 14 })).modTport 9 (fun t => { t with locked := true, peerState := 4, peerSteps := 14 }), 5, ⟨by decide +kernel, 9, by decide +kernel⟩⟩⟩

theorem witness_TimeInAndTimeOut :
    (∃ _b : List Byte, ∃ d : List Byte, ∃ s : State, d = List.map (Config.freeByte s.free) (List.range 16) ∧ (s.transfer 12 16 true d).2 = true) ∧
    (∃ _b : List Byte, ∃ d : List Byte, ∃ s : State, d = List.map (Config.freeByte s.free) (List.range 16) ∧ (s.transfer 12 16 true d).2 = false) ∧
    (∃ m : Nat, ∃ _len : Nat, ∃ _wr : Bool, ∃ _d : List Byte, ∃ s : State, (m ≠ 10 ∨ bitAt (s.cfg 8216 1) 0 = false)) ∧
    (∃ m : Nat, ∃ len : Nat, ∃ wr : Bool, ∃ d : List Byte, ∃ s : State, (m ≠ 10 ∨ bitAt (s.cfg 8216 1) 0 = false) ∧ (s.transfer m len wr d).2 = true) ∧
    (∃ m : Nat, ∃ len : Nat, ∃ wr : Bool, ∃ d : List Byte, ∃ s : State, (m ≠ 10 ∨ bitAt (s.cfg 8216 1) 0 = false) ∧ (s.transfer m len wr d).2 = true ∧ wr = false) ∧
    (∃ m : Nat, ∃ len : Nat, ∃ wr : Bool, ∃ d : List Byte, ∃ s : State, (m ≠ 10 ∨ bitAt (s.cfg 8216 1) 0 = false) ∧ (s.transfer m len wr d).2 = false) ∧
    (∃ d : List Byte, ∃ s : State, d = List.map (Config.freeByte s.free) (List.range 16) ∧ (s.transfer 12 16 true d).2 = true) ∧
    (∃ d : List Byte, ∃ s : State, d = List.map (Config.freeByte s.free) (List.range 16) ∧ (s.transfer 12 16 true d).2 = true ∧ (∃ (a : Nat) (k : Nat),   s.time.pulseAt = some a ∧     a + 999000000 ≤ s.now ∧ s.now ≤ a + 1001000000 ∧ s.time.pulseSec = some k ∧ s.time.msgSec = some (k + 1))) ∧
    (∃ d : List Byte, ∃ s : State, d = List.map (Config.freeByte s.free) (List.range 16) ∧ (s.transfer 12 16 true d).2 = true ∧ ¬∃ (a : Nat) (k : Nat),     s.time.pulseAt = some a ∧       a + 999000000 ≤ s.now ∧ s.now ≤ a + 1001000000 ∧ s.time.pulseSec = some k ∧ s.time.msgSec = some (k + 1)) ∧
    (∃ d : List Byte, ∃ s : State, d = List.map (Config.freeByte s.free) (List.range 16) ∧ (s.transfer 12 16 true d).2 = true ∧ s.time.st ≠ 5) ∧
    (∃ s : State, ∃ a : Nat, ∃ k : Nat, (s.transfer 12 16 true (List.map (Config.freeByte s.free) (List.range 16))).2 = true ∧ s.time.st = 5 ∧ 2 ≤ s.time.validRun ∧ s.time.pulseAt = some a ∧ a + 999000000 ≤ s.now ∧ s.now ≤ a + 1001000000 ∧ s.time.pulseSec = some k ∧ s.time.msgSec = some (k + 1)) ∧
    (∃ s : State, s.time.st = 4 ∧ s.time.lastValid + 1500000000 ≤ s.now) ∧
    (∃ s : State, s.outDue = true ∧ (bitAt s.outCfg.1 1 = false ∨ s.ftUsable = true)) ∧
    (∃ s : State, ∃ a : Nat, s.time.outPulseAt = some a ∧ a + 500000000 ≤ s.now) :=
  ⟨⟨[], _, openAll run, ⟨rfl, open_transfer 12 16 _ _ _ (by decide) (by decide) (Or.inl (by decide)) rfl⟩⟩,
   ⟨[], _, shutAll run, ⟨rfl, shut_transfer _ _ _ _ _ (Or.inl (by decide)) rfl⟩⟩,
   ⟨12, 16, true, [], run, Or.inl (by decide)⟩,
   ⟨10, 4096, true, [], openAll run, ⟨Or.inr (by decide +kernel), open_transfer 10 4096 _ _ _ (by decide) (by decide) (Or.inr (by decide +kernel)) rfl⟩⟩,
   ⟨12, 16, false, [], openAll run, ⟨Or.inl (by decide), open_transfer 12 16 _ _ _ (by decide) (by decide) (Or.inl (by decide)) rfl, rfl⟩⟩,
   ⟨12, 16, true, [], shutAll run, ⟨Or.inl (by decide), shut_transfer _ _ _ _ _ (Or.inl (by decide)) rfl⟩⟩,
   ⟨_, openAll run, ⟨rfl, open_transfer 12 16 _ _ _ (by decide) (by decide) (Or.inl (by decide)) rfl⟩⟩,
   ⟨_, openAll ({ run with time := { pulseAt := some (10 ^ 10 - 999000000), pulseSec := some 7, msgSec := some 8 } }), ⟨rfl, open_transfer 12 16 _ _ _ (by decide) (by decide) (Or.inl (by decide)) rfl, 10 ^ 10 - 999000000, 7, by decide +kernel⟩⟩,
   ⟨_, openAll run, ⟨rfl, open_transfer 12 16 _ _ _ (by decide) (by decide) (Or.inl (by decide)) rfl, fun ⟨_, _, h, _⟩ => by cases h⟩⟩,
   ⟨_, openAll run, ⟨rfl, open_transfer 12 16 _ _ _ (by decide) (by decide) (Or.inl (by decide)) rfl, by decide +kernel⟩⟩,
   ⟨openAll ({ run with time := { st := 5, validRun := 2, pulseAt := some (10 ^ 10 - 1001000000), pulseSec := some 7, msgSec := some 8 } }), 10 ^ 10 - 1001000000, 7, ⟨open_transfer 12 16 _ _ _ (by decide) (by decide) (Or.inl (by decide)) rfl, by decide +kernel⟩⟩,
   ⟨{ run with time := { st := 4, lastValid := 10 ^ 10 - 1500000000 } }, by decide +kernel⟩,
   ⟨{ run.setCfg 0xD000 11 1 with time := { ft := BitVec.ofNat 80 (1000000000*65536) } }, by decide +kernel⟩,
   ⟨{ run with time := { outPulseAt := some (10 ^ 10 - 500000000) } }, 10 ^ 10 - 500000000, by decide +kernel⟩⟩

theorem witness_GatesAndSamples :
    (∃ _p : Nat, ∃ c : Nat, ∃ _s : State, c < 4) ∧
    (∃ v : Nat, ∃ c : Nat, ∃ _ft : Nat, ∃ s : State, (gEnable v = false ∨   gUnlockedOpen v = true ∧ s.ftUsable = false ∨ gEntries v c = [])) ∧
    (∃ p : Nat, ∃ at_ : Nat, ∃ v : BitVec 2176, ∃ s : State, (s.gate p).pend = some (v, at_) ∧ at_ ≤ s.ftNs) ∧
    (∃ p : Nat, ∃ at_ : Nat, ∃ v : BitVec 2176, ∃ s : State, (s.gate p).pend = some (v, at_) ∧ s.ftNs < at_) ∧
    (∃ n : Nat, ∃ i : Nat, ∃ s : State, i < 8 ∧ (if s.ftUsable = true then   s.ftNs % (s.cfg 53296 1 * 1000) < 2 ∧     (s.ftNs / (s.cfg 53296 1 * 1000) ≠ bf (s.portq (8 * n)).sample 0 64 / (s.cfg 53296 1 * 1000) ∨       (s.pt n).sampleAt + 4 ≤ s.now) else (s.pt n).sampleAt + s.cfg 53296 1 * 1000 ≤ s.now)) :=
  ⟨⟨0, 3, run, by decide +kernel⟩,
   ⟨0, 0, 0, run, by decide +kernel⟩,
   ⟨0, 0, 7, run.modGate 0 (fun g => { g with pend := some (7, 0) }), by decide +kernel⟩,
   ⟨0, 1, 7, run.modGate 0 (fun g => { g with pend := some (7, 1) }), by decide +kernel⟩,
   ⟨7, 0, run, by decide +kernel⟩⟩

theorem witness_ContextCommands :
    (∃ f : Nat, ∃ b : BitVec 512, ∃ rest : List (BitVec 512), ∃ s : State, (s.fn f).ctxCmds = b :: rest ∧ s.faults.checkstop = false ∧ (s.ctx f (ccCtx b.toNat)).resident = true ∧ ccOp b.toNat = 0 ∧ s.badOpen f b.toNat = false ∧ (bitAt b.toNat 84 = true ∨ s.coord?.isSome = true) ∧ s.slotsOf f < s.ctxQuota f ∧ s.slotsIn (etOf f) < 262144) ∧
    (∃ f : Nat, ∃ b : BitVec 512, ∃ rest : List (BitVec 512), ∃ s : State, (s.fn f).ctxCmds = b :: rest ∧ s.faults.checkstop = false ∧ (s.ctx f (ccCtx b.toNat)).resident = true ∧ ccOp b.toNat = 1 ∧ (s.ctx f (ccCtx b.toNat)).c.state = 1) ∧
    (∃ f : Nat, ∃ b : BitVec 512, ∃ rest : List (BitVec 512), ∃ s : State, (s.fn f).ctxCmds = b :: rest ∧ s.faults.checkstop = false ∧ (s.ctx f (ccCtx b.toNat)).resident = true ∧ ccOp b.toNat = 2) ∧
    (∃ f : Nat, ∃ b : BitVec 512, ∃ rest : List (BitVec 512), ∃ s : State, (s.fn f).ctxCmds = b :: rest ∧ s.faults.checkstop = false ∧ ccOp b.toNat = 0 ∧ s.badOpen f b.toNat = true) ∧
    (∃ f : Nat, ∃ b : BitVec 512, ∃ rest : List (BitVec 512), ∃ s : State, (s.fn f).ctxCmds = b :: rest ∧ s.faults.checkstop = false ∧ ccOp b.toNat = 0 ∧ s.badOpen f b.toNat = false ∧ bitAt b.toNat 84 = false ∧ s.coord? = none) ∧
    (∃ f : Nat, ∃ b : BitVec 512, ∃ rest : List (BitVec 512), ∃ s : State, (s.fn f).ctxCmds = b :: rest ∧ s.faults.checkstop = false ∧ ccOp b.toNat = 0 ∧ s.badOpen f b.toNat = false ∧ (bitAt b.toNat 84 = true ∨ s.coord?.isSome = true) ∧ s.makeRoom f = none) ∧
    (∃ f : Nat, ∃ b : BitVec 512, ∃ rest : List (BitVec 512), ∃ s : State, (s.fn f).ctxCmds = b :: rest ∧ s.faults.checkstop = false ∧ ccOp b.toNat = 1 ∧ (s.ctx f (ccCtx b.toNat)).c.state ≠ 1) ∧
    (∃ f : Nat, ∃ v : Nat, ∃ s : State, s.ctx f (ccCtx v) = { } ∧ s.badOpen f v = false) ∧
    (∃ f : Nat, ∃ v : Nat, ∃ s : State, s.ctx f (ccCtx v) = { } ∧ s.badOpen f v = false ∧ ∃ t : Tombstone, t ∈ (s.et (etOf f)).tombs ∧ t.fn = f ∧ t.ctx = ccCtx v) ∧
    (∃ f : Nat, ∃ c : Nat, ∃ s : State, s.closable f c = true ∧ s.faults.checkstop = false ∧ (s.ctx f c).resident = true ∧ (s.et (etOf f)).tombs.length < 262144 ∧ (s.ctx f c).w.tombFull = false ∧ ∃ v : State, v = s.closeMatching f c) ∧
    (∃ f : Nat, ∃ c : Nat, ∃ s : State, s.closable f c = true ∧ s.faults.checkstop = false ∧ (s.ctx f c).resident = true ∧ (s.et (etOf f)).tombs.length < 262144 ∧ (s.ctx f c).w.tombFull = false ∧ ∃ v : State, v = s.closeMatching f c ∧ (s.ctx f c).w.closeTok = none) :=
  ⟨⟨0, openCmd, [], withCmds [openCmd] [], by decide +kernel⟩,
   ⟨0, 0x501, [], (withCmds [0x501] []).modC 0 5 (fun x => { x with state := 1 }), by decide +kernel⟩,
   ⟨0, 0x502, [], withCmds [0x502] [], by decide +kernel⟩,
   ⟨0, 0x500, [], withCmds [0x500] [], by decide +kernel⟩,
   ⟨0, openCmd ^^^ BitVec.ofNat 512 (2 ^ 84), [], withCmds [openCmd ^^^ BitVec.ofNat 512 (2 ^ 84)] [], by decide +kernel⟩,
   ⟨0, openCmd, [], (withCmds [openCmd] []).setCfg 0x2012 0 0, by decide +kernel⟩,
   ⟨0, 0x501, [], withCmds [0x501] [], by decide +kernel⟩,
   ⟨0, openCmd.toNat, withCmds [] [], by decide +kernel⟩,
   ⟨0, openCmd.toNat, { withCmds [] [] with ets := [(0, { tombs := [⟨0, 5, 4097, 0⟩] })] }, ⟨by decide +kernel, by decide +kernel, ⟨0, 5, 4097, 0⟩, by decide +kernel⟩⟩,
   ⟨0, 5, run.modC 0 5 (fun x => { x with state := 2 }), ⟨by decide +kernel, by decide +kernel, by decide +kernel, by decide +kernel, by decide +kernel, _, rfl⟩⟩,
   ⟨0, 5, run.modC 0 5 (fun x => { x with state := 2 }), ⟨by decide +kernel, by decide +kernel, by decide +kernel, by decide +kernel, by decide +kernel, _, rfl, by decide +kernel⟩⟩⟩

theorem witness_PacketsAreNumberedOnce :
    (∃ f : Nat, ∃ c : Nat, ∃ e : Entry, ∃ d : List Byte, ∃ s : State, (s.ctx f c).c.state = 1 ∧ (s.ctx f c).resident = true ∧ (s.ctx f c).w.resends = [] ∧ s.injectOk f c = true ∧ (s.ctx f c).w.owed = [] ∧ s.nextTx f c = some e ∧ s.entry? f c e.idx = some e ∧ (wOpcode e.words.toNat = opSend ∧     e.rndv = false ∧       (s.ctx f c).c.credit           (landSlots (min 4096 (wLength e.words.toNat - 4096 * e.sent))) =         true ∨   wOpcode e.words.toNat = opWrite) ∧ s.mayStart f c (wOpcode e.words.toNat == opWrite && e.sent + 1 == e.total) = true ∧ wFence e.words.toNat = false ∧ s.canReach (s.ctx f c).c = true ∧ s.txData f c e (4096 * e.sent) (min 4096 (wLength e.words.toNat - 4096 * e.sent)) = some d) ∧
    (∃ f : Nat, ∃ c : Nat, ∃ s : State, (s.ctx f c).c.state = 1 ∧ (s.ctx f c).resident = true ∧ (s.ctx f c).w.resends = [] ∧ (s.ctx f c).w.owed = [] ∧ (dist (s.ctx f c).c.nextPsn (s.ctx f c).c.una = 64 ∨   (s.ctx f c).m.refused ≠ [] ∨ s.etNow < (s.ctx f c).w.pacerAt ∨ s.injectStopped = true)) ∧
    (∃ f : Nat, ∃ c : Nat, ∃ s : State, (s.ctx f c).c.state = 1 ∧ (s.ctx f c).resident = true ∧ (s.ctx f c).w.resends ≠ [] ∧ s.injectStopped = false ∧ (s.ctx f c).w.pacerAt ≤ s.etNow) ∧
    (∃ f : Nat, ∃ c : Nat, ∃ s : State, (s.ctx f c).c.state = 1 ∧ (s.ctx f c).resident = true ∧ (s.ctx f c).w.resends ≠ [] ∧ s.injectStopped = false ∧ s.etNow < (s.ctx f c).w.pacerAt) ∧
    (∃ f : Nat, ∃ c : Nat, ∃ s : State, (s.ctx f c).c.state = 0) :=
  ⟨⟨0, 5, { entry opSend (2 ^ 18 + 32 * 2 ^ 32) with st := .started, total := 1 }, inlineBytes ({ entry opSend (2 ^ 18 + 32 * 2 ^ 32) with st := .started, total := 1 }).words.toNat, withCtx (fun x => { x with c := { x.c with txLimit := 64 }, w := { x.w with entries := [{ entry opSend (2 ^ 18 + 32 * 2 ^ 32) with st := .started, total := 1 }] } }), by decide +kernel⟩,
   ⟨0, 5, withCtx (fun x => { x with c := { x.c with nextPsn := 64 } }), by decide +kernel⟩,
   ⟨0, 5, withCtx (fun x => { x with w := { x.w with resends := [(0, some [])] } }), by decide +kernel⟩,
   ⟨0, 5, withCtx (fun x => { x with w := { x.w with resends := [(0, some [])], pacerAt := 10 ^ 10 + 1 } }), by decide +kernel⟩,
   ⟨0, 5, run, by decide +kernel⟩⟩

theorem witness_AtMostOnce :
    (∃ x : Ctx, ∃ psn : U32, x.duplicate psn = false ∧ x.beyond psn = false) ∧
    (∃ x : Ctx, ∃ psn : U32, x.duplicate psn = false ∧ x.beyond psn = false ∧ ∃ q : U32, x.duplicate q = true ∧ (dist q x.rxEpsn < 2 ^ 31 ∨ 2 ^ 31 + 65 ≤ dist q x.rxEpsn)) :=
  ⟨⟨{ rxEpsn := 10, rxMap := 1 }, 12, by decide +kernel⟩,
   ⟨{ rxEpsn := 10, rxMap := 1 }, 12, ⟨by decide, by decide, 11, by decide⟩⟩⟩

theorem witness_PacketsAreReceived :
    (∃ n : Nat, ∃ q : QPkt, ∃ rest : List QPkt, ∃ s : State, (s.et n).rx = q :: rest ∧ s.faults.checkstop = false ∧ s.island (8 + n) = true ∧ s.spilled q.pkt = false ∧ q.pkt.kind = kindReq) ∧
    (∃ n : Nat, ∃ q : QPkt, ∃ rest : List QPkt, ∃ s : State, (s.et n).rx = q :: rest ∧ s.faults.checkstop = false ∧ s.island (8 + n) = true ∧ s.spilled q.pkt = false ∧ q.pkt.kind = kindReq ∧ xTop q.pkt = topData ∧ s.rxValid q.pkt = false) ∧
    (∃ n : Nat, ∃ q : QPkt, ∃ rest : List QPkt, ∃ s : State, (s.et n).rx = q :: rest ∧ s.faults.checkstop = false ∧ s.island (8 + n) = true ∧ s.spilled q.pkt = false ∧ q.pkt.kind = kindReq ∧ xTop q.pkt = topResync ∧ s.rxValid q.pkt = false) ∧
    (∃ n : Nat, ∃ q : QPkt, ∃ rest : List QPkt, ∃ s : State, (s.et n).rx = q :: rest ∧ s.faults.checkstop = false ∧ s.island (8 + n) = true ∧ s.spilled q.pkt = false ∧ q.pkt.kind = kindReq ∧ xTop q.pkt = topResync ∧ s.rxValid q.pkt = true) ∧
    (∃ n : Nat, ∃ q : QPkt, ∃ rest : List QPkt, ∃ s : State, (s.et n).rx = q :: rest ∧ s.faults.checkstop = false ∧ s.island (8 + n) = true ∧ s.spilled q.pkt = false ∧ q.pkt.kind = kindReq ∧ xTop q.pkt = topData ∧ s.rxValid q.pkt = true ∧ (s.ctx q.pkt.dstFn q.pkt.dstCtx).c.duplicate (xPsn q.pkt) = true) ∧
    (∃ n : Nat, ∃ q : QPkt, ∃ rest : List QPkt, ∃ s : State, (s.et n).rx = q :: rest ∧ s.faults.checkstop = false ∧ s.island (8 + n) = true ∧ s.spilled q.pkt = false ∧ q.pkt.kind = kindReq ∧ xTop q.pkt = topData ∧ s.rxValid q.pkt = true ∧ (s.ctx q.pkt.dstFn q.pkt.dstCtx).c.duplicate (xPsn q.pkt) = false ∧ (s.ctx q.pkt.dstFn q.pkt.dstCtx).c.beyond (xPsn q.pkt) = true) ∧
    (∃ n : Nat, ∃ q : QPkt, ∃ rest : List QPkt, ∃ s : State, (s.et n).rx = q :: rest ∧ s.faults.checkstop = false ∧ s.island (8 + n) = true ∧ s.spilled q.pkt = true ∧ q.pkt.kind = kindReq ∧ s.missesIn n < 1024 ∧ xTop q.pkt = topData) ∧
    (∃ n : Nat, ∃ q : QPkt, ∃ rest : List QPkt, ∃ s : State, (s.et n).rx = q :: rest ∧ s.faults.checkstop = false ∧ s.island (8 + n) = true ∧ s.spilled q.pkt = true ∧ q.pkt.kind = kindReq ∧ s.missesIn n < 1024 ∧ xTop q.pkt = topResync) ∧
    (∃ n : Nat, ∃ q : QPkt, ∃ rest : List QPkt, ∃ s : State, (s.et n).rx = q :: rest ∧ s.faults.checkstop = false ∧ s.island (8 + n) = true ∧ s.spilled q.pkt = true ∧ q.pkt.kind = kindReq ∧ xTop q.pkt = topData ∧ 1024 ≤ s.missesIn n ∧ (s.et n).tCounts.length = 16) :=
  ⟨⟨0, waiting (toCtx kindReq (0)), [], (withCtx id).modEt 0 (fun e => { e with rx := [waiting (toCtx kindReq (0))] }), by decide +kernel⟩,
   ⟨0, waiting (toCtx kindReq (topData + 2 ^ 16)), [], (withCtx id).modEt 0 (fun e => { e with rx := [waiting (toCtx kindReq (topData + 2 ^ 16))] }), by decide +kernel⟩,
   ⟨0, waiting (toCtx kindReq (topResync + 2 ^ 16)), [], (withCtx id).modEt 0 (fun e => { e with rx := [waiting (toCtx kindReq (topResync + 2 ^ 16))] }), by decide +kernel⟩,
   ⟨0, waiting (toCtx kindReq (topResync)), [], (withCtx id).modEt 0 (fun e => { e with rx := [waiting (toCtx kindReq (topResync))] }), by decide +kernel⟩,
   ⟨0, waiting (toCtx kindReq (topData)), [], (withCtx (fun x => { x with c := { x.c with rxEpsn := 1 } })).modEt 0 (fun e => { e with rx := [waiting (toCtx kindReq (topData))] }), by decide +kernel⟩,
   ⟨0, waiting (toCtx kindReq (topData + 65 * 2 ^ 64)), [], (withCtx (fun x => { x with c := { x.c with rxEpsn := 0 } })).modEt 0 (fun e => { e with rx := [waiting (toCtx kindReq (topData + 65 * 2 ^ 64))] }), by decide +kernel⟩,
   ⟨0, waiting (toCtx kindReq (topData)), [], (withCtx (fun x => { x with resident := false })).modEt 0 (fun e => { e with rx := [waiting (toCtx kindReq (topData))] }), by decide +kernel⟩,
   ⟨0, waiting (toCtx kindReq (topResync)), [], (withCtx (fun x => { x with resident := false })).modEt 0 (fun e => { e with rx := [waiting (toCtx kindReq (topResync))] }), by decide +kernel⟩,
   ⟨0, waiting (toCtx kindReq (topData)), [], { (withCtx (fun x => { x with resident := false })).modEt 0 (fun e => { e with tCounts := List.replicate 16 0, rx := [waiting (toCtx kindReq (topData))] }) with reads := List.replicate 1024 (3, { hp := 0, fn := 0, addr := 4096, len := 8, use := .spill 5 }) }, by decide +kernel⟩⟩

theorem witness_AcksMoveTheWindow :
    (∃ f : Nat, ∃ c : Nat, ∃ l : U16, ∃ s : State, BitVec.toNat (l - (s.ctx f c).c.txLimit) < 2 ^ 15) ∧
    (∃ f : Nat, ∃ c : Nat, ∃ l : U16, ∃ s : State, 2 ^ 15 ≤ BitVec.toNat (l - (s.ctx f c).c.txLimit)) ∧
    (∃ n : Nat, ∃ q : QPkt, ∃ rest : List QPkt, ∃ s : State, (s.et n).rx = q :: rest ∧ s.faults.checkstop = false ∧ s.island (8 + n) = true ∧ s.spilled q.pkt = false ∧ q.pkt.kind = kindRsp) ∧
    (∃ n : Nat, ∃ q : QPkt, ∃ rest : List QPkt, ∃ s : State, (s.et n).rx = q :: rest ∧ s.faults.checkstop = false ∧ s.island (8 + n) = true ∧ s.spilled q.pkt = false ∧ q.pkt.kind = kindRsp ∧ xTop q.pkt = topAck ∧ s.fromPeer q.pkt = true) ∧
    (∃ n : Nat, ∃ q : QPkt, ∃ rest : List QPkt, ∃ s : State, (s.et n).rx = q :: rest ∧ s.faults.checkstop = false ∧ s.island (8 + n) = true ∧ s.spilled q.pkt = false ∧ q.pkt.kind = kindRsp ∧ xTop q.pkt = topAck ∧ s.fromPeer q.pkt = false) ∧
    (∃ n : Nat, ∃ q : QPkt, ∃ rest : List QPkt, ∃ s : State, (s.et n).rx = q :: rest ∧ s.faults.checkstop = false ∧ s.island (8 + n) = true ∧ s.spilled q.pkt = false ∧ q.pkt.kind = kindRsp ∧ xTop q.pkt = topResyncAck ∧ s.fromPeer q.pkt = true ∧ (s.ctx q.pkt.dstFn q.pkt.dstCtx).w.resyncAt ≠ 0 ∧ cTs q.pkt = (s.ctx q.pkt.dstFn q.pkt.dstCtx).w.resyncTs) ∧
    (∃ n : Nat, ∃ q : QPkt, ∃ rest : List QPkt, ∃ s : State, (s.et n).rx = q :: rest ∧ s.faults.checkstop = false ∧ s.island (8 + n) = true ∧ s.spilled q.pkt = false ∧ q.pkt.kind = kindRsp ∧ xTop q.pkt = topNak ∧ cCode q.pkt = 1 ∧ s.nakFor q.pkt = true ∧ (s.ctx q.pkt.dstFn q.pkt.dstCtx).c.unacked (xPsn q.pkt) = true) ∧
    (∃ n : Nat, ∃ q : QPkt, ∃ rest : List QPkt, ∃ s : State, (s.et n).rx = q :: rest ∧ s.faults.checkstop = false ∧ s.island (8 + n) = true ∧ s.spilled q.pkt = false ∧ q.pkt.kind = kindRsp ∧ xTop q.pkt = topNak ∧ cCode q.pkt = 1 ∧ s.nakFor q.pkt = false) ∧
    (∃ n : Nat, ∃ q : QPkt, ∃ rest : List QPkt, ∃ s : State, (s.et n).rx = q :: rest ∧ s.faults.checkstop = false ∧ s.island (8 + n) = true ∧ s.spilled q.pkt = false ∧ q.pkt.kind = kindRsp ∧ xTop q.pkt = topNak ∧ cCode q.pkt = 2 ∧ s.nakFor q.pkt = true ∧ (s.ctx q.pkt.dstFn q.pkt.dstCtx).c.unacked (xPsn q.pkt) = true) ∧
    (∃ n : Nat, ∃ q : QPkt, ∃ rest : List QPkt, ∃ s : State, (s.et n).rx = q :: rest ∧ s.faults.checkstop = false ∧ s.island (8 + n) = true ∧ s.spilled q.pkt = false ∧ q.pkt.kind = kindRsp ∧ xTop q.pkt = topNak ∧ cCode q.pkt = 2 ∧ s.nakFor q.pkt = false) ∧
    (∃ n : Nat, ∃ q : QPkt, ∃ rest : List QPkt, ∃ s : State, (s.et n).rx = q :: rest ∧ s.faults.checkstop = false ∧ s.island (8 + n) = true ∧ s.spilled q.pkt = false ∧ q.pkt.kind = kindRsp ∧ xTop q.pkt = topResyncAck ∧ s.fromPeer q.pkt = true ∧ cTs q.pkt ≠ (s.ctx q.pkt.dstFn q.pkt.dstCtx).w.resyncTs) ∧
    (∃ n : Nat, ∃ q : QPkt, ∃ rest : List QPkt, ∃ s : State, (s.et n).rx = q :: rest ∧ s.faults.checkstop = false ∧ s.island (8 + n) = true ∧ s.spilled q.pkt = false ∧ q.pkt.kind = kindRsp ∧ xTop q.pkt = topResp ∧ oOpc q.pkt ≠ 1 ∧ s.fromPeer q.pkt = true) ∧
    (∃ n : Nat, ∃ q : QPkt, ∃ rest : List QPkt, ∃ s : State, (s.et n).rx = q :: rest ∧ s.faults.checkstop = false ∧ s.island (8 + n) = true ∧ s.spilled q.pkt = false ∧ q.pkt.kind = kindRsp ∧ xTop q.pkt = topResp ∧ oOpc q.pkt = 1 ∧ s.fromPeer q.pkt = true) ∧
    (∃ p : Packet, ∃ _force : Bool, ∃ s : State, 1 ≤ dist (xPsn p) (s.ctx p.dstFn p.dstCtx).c.una ∧ dist (xPsn p) (s.ctx p.dstFn p.dstCtx).c.una ≤   dist (s.ctx p.dstFn p.dstCtx).c.nextPsn (s.ctx p.dstFn p.dstCtx).c.una) ∧
    (∃ p : Packet, ∃ force : Bool, ∃ s : State, 1 ≤ dist (xPsn p) (s.ctx p.dstFn p.dstCtx).c.una ∧ dist (xPsn p) (s.ctx p.dstFn p.dstCtx).c.una ≤   dist (s.ctx p.dstFn p.dstCtx).c.nextPsn (s.ctx p.dstFn p.dstCtx).c.una ∧ ∃ r : Replay, r ∈ ((s.takeAck p force).ctx p.dstFn p.dstCtx).w.replay ∧ r.acked = true) ∧
    (∃ p : Packet, ∃ _force : Bool, ∃ s : State, dist (s.ctx p.dstFn p.dstCtx).c.nextPsn (s.ctx p.dstFn p.dstCtx).c.una <   dist (xPsn p) (s.ctx p.dstFn p.dstCtx).c.una ∧ dist (xPsn p) (s.ctx p.dstFn p.dstCtx).c.una < 2 ^ 31) ∧
    (∃ f : Nat, ∃ c : Nat, ∃ _psn : U32, ∃ s : State, (s.ctx f c).m.rnr = none ∧ (s.cfg 24576 2 = 255 ∨ (s.ctx f c).m.rnrRounds + 1 ≤ s.cfg 24576 2)) :=
  ⟨⟨0, 5, 0x7FFF, withCtx id, by decide +kernel⟩,
   ⟨0, 5, 0x8000, withCtx id, by decide +kernel⟩,
   ⟨3, waiting (toCtx kindRsp (0)), [], (withCtx id).modEt 3 (fun e => { e with rx := [waiting (toCtx kindRsp (0))] }), by decide +kernel⟩,
   ⟨0, waiting (toCtx kindRsp (topAck)), [], (withCtx (fun x => { x with c := { x.c with retries := 0 }, w := { x.w with rtoLen := 0 } })).modEt 0 (fun e => { e with rx := [waiting (toCtx kindRsp (topAck))] }), by decide +kernel⟩,
   ⟨0, waiting (toCtx kindRsp (topAck + 2 ^ 16)), [], (withCtx (fun x => { x with c := { x.c with retries := 0 }, w := { x.w with rtoLen := 0 } })).modEt 0 (fun e => { e with rx := [waiting (toCtx kindRsp (topAck + 2 ^ 16))] }), by decide +kernel⟩,
   ⟨0, waiting (toCtx kindRsp (topResyncAck + 9 * 2 ^ 96)), [], (withCtx (fun x => { x with c := { x.c with retries := 0 }, w := { x.w with resyncAt := 1, resyncTs := 9 } })).modEt 0 (fun e => { e with rx := [waiting (toCtx kindRsp (topResyncAck + 9 * 2 ^ 96))] }), by decide +kernel⟩,
   ⟨0, waiting (toCtx kindRsp (topNak + 2 ^ 8)), [], (withCtx (fun x => { x with c := { x.c with nextPsn := 1 }, w := { x.w with rtoLen := 0 } })).modEt 0 (fun e => { e with rx := [waiting (toCtx kindRsp (topNak + 2 ^ 8))] }), by decide +kernel⟩,
   ⟨0, waiting (toCtx kindRsp (topNak + 2 ^ 8 + 2 ^ 32)), [], (withCtx (fun x => { x with c := { x.c with retries := 0 }, w := { x.w with rtoLen := 0 } })).modEt 0 (fun e => { e with rx := [waiting (toCtx kindRsp (topNak + 2 ^ 8 + 2 ^ 32))] }), by decide +kernel⟩,
   ⟨0, waiting (toCtx kindRsp (topNak + 2 * 2 ^ 8)), [], (withCtx (fun x => { x with c := { x.c with nextPsn := 1 }, w := { x.w with rtoLen := 0 } })).modEt 0 (fun e => { e with rx := [waiting (toCtx kindRsp (topNak + 2 * 2 ^ 8))] }), by decide +kernel⟩,
   ⟨0, waiting (toCtx kindRsp (topNak + 2 * 2 ^ 8 + 2 ^ 32)), [], (withCtx (fun x => { x with c := { x.c with retries := 0 }, w := { x.w with rtoLen := 0 } })).modEt 0 (fun e => { e with rx := [waiting (toCtx kindRsp (topNak + 2 * 2 ^ 8 + 2 ^ 32))] }), by decide +kernel⟩,
   ⟨0, waiting (toCtx kindRsp (topResyncAck + 9 * 2 ^ 96)), [], (withCtx (fun x => { x with c := { x.c with retries := 0 }, w := { x.w with resyncAt := 1, resyncTs := 8 } })).modEt 0 (fun e => { e with rx := [waiting (toCtx kindRsp (topResyncAck + 9 * 2 ^ 96))] }), by decide +kernel⟩,
   ⟨0, waiting (toCtx kindRsp (topResp + opRead * 2 ^ 128)), [], (withCtx (fun x => { x with c := { x.c with retries := 0 }, w := { x.w with rtoLen := 0 } })).modEt 0 (fun e => { e with rx := [waiting (toCtx kindRsp (topResp + opRead * 2 ^ 128))] }), by decide +kernel⟩,
   ⟨0, waiting (toCtx kindRsp (topResp + 2 ^ 128)), [], (withCtx (fun x => { x with c := { x.c with retries := 0 }, w := { x.w with rtoLen := 0 } })).modEt 0 (fun e => { e with rx := [waiting (toCtx kindRsp (topResp + 2 ^ 128))] }), by decide +kernel⟩,
   ⟨toCtx kindRsp (2 ^ 64), false, withCtx (fun x => { x with c := { x.c with nextPsn := 3 } }), by decide +kernel⟩,
   ⟨toCtx kindRsp (2 ^ 64), false, withCtx (fun x => { x with c := { x.c with nextPsn := 3 }, w := { x.w with replay := [{ psn := 0, idx := 0, off := 0, len := 0, opc := opSend, slots := 1, hdr := 0, acked := false }, { psn := 1, idx := 0, off := 0, len := 0, opc := opSend, slots := 1, hdr := 0, acked := false }, { psn := 2, idx := 0, off := 0, len := 0, opc := opSend, slots := 1, hdr := 0, resp := true, acked := true }] } }), ⟨by decide +kernel, by decide +kernel, { psn := 2, idx := 0, off := 0, len := 0, opc := opSend, slots := 1, hdr := 0, resp := true, acked := true }, by decide +kernel⟩⟩,
   ⟨toCtx kindRsp (4 * 2 ^ 64), false, withCtx (fun x => { x with c := { x.c with nextPsn := 3 } }), by decide +kernel⟩,
   ⟨0, 5, 0, withCtx id, by decide +kernel⟩⟩

theorem witness_TransportTimers :
    (∃ f : Nat, ∃ c : Nat, ∃ s : State, (s.ctx f c).c.state ≠ 0 ∧ (s.ctx f c).resident = true ∧ s.injectStopped = false ∧ (after (s.ctx f c).w.ackAt (s.cfg 20480 2) s.etNow = true ∨   after (s.ctx f c).w.credAt (s.cfg 20480 2) s.etNow = true) ∧ s.secured f c = true) ∧
    (∃ f : Nat, ∃ c : Nat, ∃ s : State, (s.ctx f c).c.state ≠ 0 ∧ (s.ctx f c).resident = true ∧ s.injectStopped = false ∧ (after (s.ctx f c).w.ackAt (s.cfg 20480 2) s.etNow = true ∨   after (s.ctx f c).w.credAt (s.cfg 20480 2) s.etNow = true) ∧ s.secured f c = false) ∧
    (∃ f : Nat, ∃ c : Nat, ∃ s : State, (s.ctx f c).c.state ≠ 0 ∧ (s.ctx f c).resident = true ∧ s.injectStopped = false ∧ after (s.ctx f c).w.ackAt (s.cfg 20480 2) s.etNow = false ∧ after (s.ctx f c).w.credAt (s.cfg 20480 2) s.etNow = false) ∧
    (∃ f : Nat, ∃ c : Nat, ∃ s : State, (s.ctx f c).c.state ≠ 0 ∧ (s.ctx f c).resident = true ∧ s.injectStopped = false ∧ after (s.ctx f c).w.rtoAt (s.ctx f c).w.rtoLen s.etNow = false) ∧
    (∃ f : Nat, ∃ c : Nat, ∃ s : State, (s.ctx f c).c.state ≠ 0 ∧ (s.ctx f c).resident = true ∧ s.injectStopped = false ∧ s.etNow < (s.ctx f c).w.resyncBase + (s.ctx f c).w.resyncLen) ∧
    (∃ f : Nat, ∃ c : Nat, ∃ s : State, (s.ctx f c).c.state ≠ 0 ∧ (s.ctx f c).resident = true ∧ s.injectStopped = false ∧ ∃ r : RnrRound, (s.ctx f c).m.rnr = some r ∧ s.etNow < r.start + r.wait) ∧
    (∃ f : Nat, ∃ c : Nat, ∃ s : State, (s.ctx f c).c.state ≠ 0 ∧ (s.ctx f c).resident = true ∧ s.injectStopped = false ∧ ∃ psn : U32, after (s.ctx f c).w.rtoAt (s.ctx f c).w.rtoLen s.etNow = true ∧ (s.ctx f c).oldest = some psn ∧ (s.ctx f c).c.retries < s.cfg 20480 4) ∧
    (∃ f : Nat, ∃ c : Nat, ∃ s : State, (s.ctx f c).c.state ≠ 0 ∧ (s.ctx f c).resident = true ∧ s.injectStopped = false ∧ ∃ psn : U32, after (s.ctx f c).w.rtoAt (s.ctx f c).w.rtoLen s.etNow = true ∧ (s.ctx f c).oldest = some psn ∧ s.cfg 20480 4 ≤ (s.ctx f c).c.retries) ∧
    (∃ f : Nat, ∃ c : Nat, ∃ s : State, (s.ctx f c).c.state ≠ 0 ∧ (s.ctx f c).resident = true ∧ s.injectStopped = false ∧ (s.ctx f c).w.resyncBase + (s.ctx f c).w.resyncLen ≤ s.etNow ∧ s.resyncDue f c = true) ∧
    (∃ f : Nat, ∃ c : Nat, ∃ s : State, (s.ctx f c).c.state ≠ 0 ∧ (s.ctx f c).resident = true ∧ s.injectStopped = false ∧ ∃ r : RnrRound, (s.ctx f c).m.rnr = some r ∧ r.resent = false ∧ r.start + r.wait ≤ s.etNow) ∧
    (∃ f : Nat, ∃ c : Nat, ∃ s : State, ((s.ctx f c).c.state = 0 ∨ s.injectStopped = true)) ∧
    (∃ n : Nat, ∃ s : State, after (s.et n).fullAt 1000000 s.etNow = true ∧ (s.et n).fullRec = false) :=
  ⟨⟨0, 5, withCtx (fun x => { x with w := { x.w with ackAt := some 0 }, c := { x.c with state := 1 } }), by decide +kernel⟩,
   ⟨0, 5, { withCtx (fun x => { x with w := { x.w with ackAt := some 0 }, c := { x.c with state := 1 } }) with ets := [(0, { ops := [(0, 5, request 0)] })] }, by decide +kernel⟩,
   ⟨0, 5, withCtx id, by decide +kernel⟩,
   ⟨0, 5, withCtx id, by decide +kernel⟩,
   ⟨0, 5, withCtx (fun x => { x with w := { x.w with resyncBase := 10 ^ 10, resyncLen := 1 }, c := { x.c with state := 1 } }), by decide +kernel⟩,
   ⟨0, 5, withCtx (fun x => { x with m := { x.m with rnr := some { start := 10 ^ 10, psns := [3], wait := 100 } } }), ⟨by decide +kernel, by decide +kernel, by decide +kernel, { start := 10 ^ 10, psns := [3], wait := 100 }, by decide +kernel⟩⟩,
   ⟨0, 5, withCtx (fun x => { x with w := { x.w with rtoAt := some 0, rtoLen := 1000 }, c := { x.c with state := 1, nextPsn := 2 } }), ⟨by decide +kernel, by decide +kernel, by decide +kernel, 0, by decide +kernel⟩⟩,
   ⟨0, 5, withCtx (fun x => { x with w := { x.w with rtoAt := some 0, rtoLen := 1000 }, c := { x.c with state := 1, nextPsn := 2, retries := 255 } }), ⟨by decide +kernel, by decide +kernel, by decide +kernel, 0, by decide +kernel⟩⟩,
   ⟨0, 5, withCtx (fun x => { x with c := { x.c with nextPsn := 1 } }), by decide +kernel⟩,
   ⟨0, 5, withCtx (fun x => { x with m := { x.m with rnr := some { start := 0, psns := [3], wait := 100 } } }), ⟨by decide +kernel, by decide +kernel, by decide +kernel, { start := 0, psns := [3], wait := 100 }, by decide +kernel⟩⟩,
   ⟨0, 5, run, by decide +kernel⟩,
   ⟨0, { run with ets := [(0, { fullAt := some 0 })] }, by decide +kernel⟩⟩

theorem witness_MessagesMeetReceives :
    (∃ h : Nat, ∃ f : Nat, ∃ c : Nat, ∃ k : Nat, ∃ e : Entry, ∃ rest : List EngItem, ∃ s : State, (s.et h).items = EngItem.posting f c e.idx (wComm e.words.toNat) k :: rest ∧ s.faults.checkstop = false ∧ s.entry? f c e.idx = some e ∧ e.st = EntrySt.started ∧ s.fenced f (wComm e.words.toNat) = false) ∧
    (∃ f : Nat, ∃ c : Nat, ∃ e : Entry, ∃ s : State, s.findUnexpected f (postedOfEntry c e (s.mctx f (wComm e.words.toNat)).pseq) = none) ∧
    (∃ f : Nat, ∃ c : Nat, ∃ d : Nat, ∃ e : Entry, ∃ m : Msg, ∃ s : State, s.findUnexpected f (postedOfEntry c e (s.mctx f (wComm e.words.toNat)).pseq) =   some (d, m)) ∧
    (∃ f : Nat, ∃ c : Nat, ∃ r : Posted, ∃ m : Msg, ∃ s : State, s.findUnexpected f r = some (c, m)) ∧
    (∃ h : Nat, ∃ f : Nat, ∃ c : Nat, ∃ k : Nat, ∃ p : Packet, ∃ d : PayloadDest, ∃ rest : List EngItem, ∃ s : State, (s.et h).items = EngItem.header f c p d k :: rest ∧ s.faults.checkstop = false ∧ s.fenced f (oComm p) = false) ∧
    (∃ f : Nat, ∃ c : Nat, ∃ p : Packet, ∃ _d : PayloadDest, ∃ s : State, s.msg? f c (oMsn p) = none ∧ (oMkind p = 3 ∨ 64 ≤ s.msnAbove f c (oMsn p))) ∧
    (∃ f : Nat, ∃ c : Nat, ∃ p : Packet, ∃ d : PayloadDest, ∃ s : State, s.msg? f c (oMsn p) = none ∧ (oMkind p = 3 ∨ 64 ≤ s.msnAbove f c (oMsn p)) ∧ ∃ n : Nat, d = PayloadDest.landing n) ∧
    (∃ f : Nat, ∃ _c : Nat, ∃ _m : Msg, ∃ s : State, bitAt (s.cfg 24596 f) 0 = false) ∧
    (∃ h : Nat, ∃ f : Nat, ∃ c : Nat, ∃ p : Packet, ∃ s : State, s.firstOp h 2 = some (f, c, p) ∧ (s.ctx f c).c.state ≠ 0) ∧
    (∃ h : Nat, ∃ f : Nat, ∃ c : Nat, ∃ p : Packet, ∃ s : State, s.firstOp h 2 = some (f, c, p) ∧ (s.ctx f c).c.state ≠ 0 ∧ s.rndv? f c (oMsn p) = none) ∧
    (∃ h : Nat, ∃ f : Nat, ∃ c : Nat, ∃ p : Packet, ∃ r : Rndv, ∃ s : State, s.firstOp h 4 = some (f, c, p) ∧ (s.ctx f c).c.state ≠ 0 ∧ s.rndv? f c (oMsn p) = some r) :=
  ⟨⟨0, 0, 5, 0, { entry opRecv 0 with st := .started }, [], (withEntries [{ entry opRecv 0 with st := .started }] run).modEt 0 (fun e => { e with items := [.posting 0 5 0 0 0] }), by decide +kernel⟩,
   ⟨0, 5, { entry opRecv 0 with st := .started }, withEntries [{ entry opRecv 0 with st := .started }] run, by decide +kernel⟩,
   ⟨0, 5, 5, entry opRecv 0, { msn := 1, rts := false, comm := 0, tag := 7, source := some 0, srcFn := 0, mlen := 0, st := .unexpected }, (withCtx (fun x => { x with m := { x.m with msgs := [{ msn := 1, rts := false, comm := 0, tag := 7, source := some 0, srcFn := 0, mlen := 0, st := .unexpected }] } })).modMctx 0 0 (fun x => { x with unexp := [(5, 1)] }), by decide +kernel⟩,
   ⟨0, 5, { pseq := 0, ctx := 5, idx := 0, comm := 0, tag := 0, mask := 0, anySrc := true, source := 0, addr := 0, len := 0 }, { msn := 1, rts := false, comm := 0, tag := 7, source := none, srcFn := 0, mlen := 0, st := .unexpected }, (withCtx (fun x => { x with m := { x.m with msgs := [{ msn := 1, rts := false, comm := 0, tag := 7, source := none, srcFn := 0, mlen := 0, st := .unexpected }] } })).modMctx 0 0 (fun x => { x with unexp := [(5, 1)] }), by decide +kernel⟩,
   ⟨0, 0, 5, 0, toCtx kindReq 0, .straight, [], (withCtx id).modEt 0 (fun e => { e with items := [.header 0 5 (toCtx kindReq 0) .straight 0] }), by decide +kernel⟩,
   ⟨0, 5, toCtx kindReq (3 * 2 ^ 136), .straight, withCtx id, by decide +kernel⟩,
   ⟨0, 5, toCtx kindReq (3 * 2 ^ 136), .landing 1, withCtx id, ⟨by decide +kernel, by decide +kernel, 1, rfl⟩⟩,
   ⟨0, 5, { msn := 1, rts := false, comm := 0, tag := 7, source := none, srcFn := 0, mlen := 0, st := .unexpected }, run.setCfg 0x6014 0 0, by decide +kernel⟩,
   ⟨0, 0, 5, toCtx kindReq (2 * 2 ^ 136), { withCtx id with ets := [(0, { ops := [(0, 5, toCtx kindReq (2 * 2 ^ 136))] })] }, by decide +kernel⟩,
   ⟨0, 0, 5, toCtx kindReq (2 * 2 ^ 136), { withCtx id with ets := [(0, { ops := [(0, 5, toCtx kindReq (2 * 2 ^ 136))] })] }, by decide +kernel⟩,
   ⟨0, 0, 5, toCtx kindReq (4 * 2 ^ 136), ⟨0, 5, 0, 0⟩, { withCtx id with ets := [(0, { ops := [(0, 5, toCtx kindReq (4 * 2 ^ 136))], rndv := [⟨0, 5, 0, 0⟩] })] }, by decide +kernel⟩⟩

theorem witness_EnginesAreBalanced :
    (∃ n : Nat, ∃ s : State, s.landFree n = 0 ∧ after (s.et n).landZeroAt 1000000 s.etNow = true ∧ (s.et n).landRec = false) ∧
    (∃ n : Nat, ∃ s : State, (s.landFree n ≠ 0 ∨ after (s.et n).landZeroAt 1000000 s.etNow = false ∨ (s.et n).landRec = true)) ∧
    (∃ n : Nat, ∃ s : State, (s.et n).balanceAt + bf (s.balanceCfg n) 16 16 * 1000 ≤ s.etNow ∧ s.island (8 + n) = true) ∧
    (∃ n : Nat, ∃ s : State, (s.etNow < (s.et n).balanceAt + bf (s.balanceCfg n) 16 16 * 1000 ∨ s.island (8 + n) = false)) ∧
    (∃ h : Nat, ∃ i : EngItem, ∃ rest : List EngItem, ∃ s : State, (s.et h).items = i :: rest ∧ s.faults.checkstop = false ∧ s.fenced i.key.1 i.key.2 = true) ∧
    (∃ n : Nat, ∃ m : Move, ∃ s : State, (List.find? (fun (m : Move) => decide (m.at_ + 2000 ≤ s.etNow)) (s.et n).moves = some m)) ∧
    (∃ n : Nat, ∃ s : State, (∀ m ∈ (s.et n).moves, s.etNow < m.at_ + 2000)) :=
  ⟨⟨0, { run with ets := [(0, { landZeroAt := some 0, items := [.header 0 5 (request 0) (.landing 32768) 0] })] }, by decide +kernel⟩,
   ⟨3, run, Or.inl (by decide +kernel)⟩,
   ⟨3, run, by decide +kernel⟩,
   ⟨3, { run with ets := [(3, { balanceAt := 10 ^ 10 + 1 })] }, by decide +kernel⟩,
   ⟨0, .posting 0 5 0 0 0, [], ((withEntries [{ entry opRecv 0 with st := .started }] run).modEt 0 (fun e => { e with items := [.posting 0 5 0 0 0] })).modEt 0 (fun e => { e with moves := [{ fn := 0, comm := 0, src := 1, at_ := 0 }] }), by decide +kernel⟩,
   ⟨0, { fn := 0, comm := 0, src := 1, at_ := 0 }, run.modEt 0 (fun e => { e with moves := [{ fn := 0, comm := 0, src := 1, at_ := 0 }], heldItems := [.commit 0 5 0] }), by decide +kernel⟩,
   ⟨3, run, by decide +kernel⟩⟩

theorem witness_WindowCommands :
    (∃ f : Nat, ∃ b : BitVec 512, ∃ rest : List (BitVec 512), ∃ s : State, (s.fn f).winCmds = b :: rest ∧ s.faults.checkstop = false ∧ wcOp b.toNat = 0 ∧ s.badRegister f b.toNat = true) ∧
    (∃ f : Nat, ∃ b : BitVec 512, ∃ rest : List (BitVec 512), ∃ s : State, (s.fn f).winCmds = b :: rest ∧ s.faults.checkstop = false ∧ wcOp b.toNat = 0 ∧ s.badRegister f b.toNat = false ∧ (s.winQuota f ≤ s.winUse f ∨ s.freeSlot (etOf f) = none)) ∧
    (∃ f : Nat, ∃ b : BitVec 512, ∃ rest : List (BitVec 512), ∃ s : State, (s.fn f).winCmds = b :: rest ∧ s.faults.checkstop = false ∧ wcOp b.toNat = 0 ∧ ∃ k : Nat, s.badRegister f b.toNat = false ∧ s.winUse f < s.winQuota f ∧ s.freeSlot (etOf f) = some k) ∧
    (∃ f : Nat, ∃ b : BitVec 512, ∃ rest : List (BitVec 512), ∃ s : State, (s.fn f).winCmds = b :: rest ∧ s.faults.checkstop = false ∧ wcOp b.toNat = 1 ∧ s.heldKey f (wcRkey b.toNat) = true) ∧
    (∃ f : Nat, ∃ b : BitVec 512, ∃ rest : List (BitVec 512), ∃ s : State, (s.fn f).winCmds = b :: rest ∧ s.faults.checkstop = false ∧ wcOp b.toNat = 1 ∧ s.heldKey f (wcRkey b.toNat) = false) ∧
    (∃ f : Nat, ∃ b : BitVec 512, ∃ rest : List (BitVec 512), ∃ s : State, (s.fn f).winCmds = b :: rest ∧ s.faults.checkstop = false ∧ wcOp b.toNat = 2 ∧ s.heldKey f (wcRkey b.toNat) = true) ∧
    (∃ f : Nat, ∃ b : BitVec 512, ∃ rest : List (BitVec 512), ∃ s : State, (s.fn f).winCmds = b :: rest ∧ s.faults.checkstop = false ∧ wcOp b.toNat = 2 ∧ s.heldKey f (wcRkey b.toNat) = false) ∧
    (∃ f : Nat, ∃ r : RevokeWait, ∃ rest : List RevokeWait, ∃ s : State, (s.fn f).revokes = r :: rest ∧ s.revokeDone f r = true) ∧
    (∃ f : Nat, ∃ r : RevokeWait, ∃ rest : List RevokeWait, ∃ s : State, (s.fn f).revokes = r :: rest ∧ s.revokeDone f r = false) :=
  ⟨⟨0, 0, [], withCmds [] [0], by decide +kernel⟩,
   ⟨0, BitVec.ofNat 512 (8 + 4096 * 2 ^ 128), [], (withCmds [] [BitVec.ofNat 512 (8 + 4096 * 2 ^ 128)]).setCfg 0x5031 0 0, by decide +kernel⟩,
   ⟨0, BitVec.ofNat 512 (8 + 4096 * 2 ^ 128), [], withCmds [] [BitVec.ofNat 512 (8 + 4096 * 2 ^ 128)], ⟨by decide +kernel, by decide +kernel, by decide +kernel, 0, by decide +kernel⟩⟩,
   ⟨0, 0x1000100000001, [], withWin (withCmds [] [0x1000100000001]), by decide +kernel⟩,
   ⟨0, 0x1000100000001, [], withCmds [] [0x1000100000001], by decide +kernel⟩,
   ⟨0, 0x1000100000002, [], withWin (withCmds [] [0x1000100000002]), by decide +kernel⟩,
   ⟨0, 0x1000100000002, [], withCmds [] [0x1000100000002], by decide +kernel⟩,
   ⟨0, ⟨0x10001, 0, 1, []⟩, [], run.modFn 0 (fun x => { x with revokes := [⟨0x10001, 0, 1, []⟩] }), by decide +kernel⟩,
   ⟨0, ⟨0x10001, 0, 1, [3]⟩, [], run.modFn 0 (fun x => { x with revokes := [⟨0x10001, 0, 1, [3]⟩] }), by decide +kernel⟩⟩

theorem witness_RemoteAccessIsChecked :
    (∃ f : Nat, ∃ c : Nat, ∃ p : Packet, ∃ s : State, (s.rmaCheck f c p).1 = stOk) ∧
    (∃ f : Nat, ∃ c : Nat, ∃ p : Packet, ∃ s : State, (s.rmaCheck f c p).1 = stOk ∧ oOpc p = opRead) ∧
    (∃ f : Nat, ∃ c : Nat, ∃ p : Packet, ∃ s : State, (s.rmaCheck f c p).1 = stOk ∧ oOpc p = opWrite) ∧
    (∃ f : Nat, ∃ c : Nat, ∃ p : Packet, ∃ s : State, (s.rmaCheck f c p).1 = stOk ∧ oOpc p = opWriteNotify) ∧
    (∃ f : Nat, ∃ c : Nat, ∃ p : Packet, ∃ s : State, (s.rmaCheck f c p).1 = stOk ∧ oOpc p ≠ opRead ∧ oOpc p ≠ opWrite ∧ oOpc p ≠ opWriteNotify) ∧
    (∃ f : Nat, ∃ c : Nat, ∃ p : Packet, ∃ s : State, (s.rmaCheck f c p).1 ≠ stOk) ∧
    (∃ _f : Nat, ∃ _c : Nat, ∃ p : Packet, ∃ _s : State, oOpc p ≠ opRead) ∧
    (∃ h : Nat, ∃ _x : AtomWord, ∃ s : State, s.cacheOn h = true ∧ (s.et h).atoms.length ≤ 1024) ∧
    (∃ h : Nat, ∃ x : AtomWord, ∃ s : State, s.cacheOn h = true ∧ (s.et h).atoms.length ≤ 1024 ∧ ∃ y : AtomWord, y ∈ ((s.cacheWord h x).et h).atoms ∧ y.fn = x.fn ∧ y.bus = x.bus) ∧
    (∃ h : Nat, ∃ s : State, after (s.et h).saveAt 1000000 s.etNow = true ∧ (s.et h).saveRec = false) ∧
    (∃ h : Nat, ∃ s : State, (after (s.et h).saveAt 1000000 s.etNow = false ∨ (s.et h).saveRec = true)) ∧
    (∃ f : Nat, ∃ _c : Nat, ∃ _p : Packet, ∃ r : Saved, ∃ s : State, r ∈ (s.et (etOf f)).saved) :=
  ⟨⟨0, 5, readOf 4088, withWin run, by decide +kernel⟩,
   ⟨0, 5, readOf 4088, withWin run, by decide +kernel⟩,
   ⟨0, 5, { toCtx kindReq (opWrite * 2 ^ 128 + 2 ^ 136 + 0x10001 * 2 ^ 160 + 8 * 2 ^ 288) with plen := 8 }, run.modWin 0 1 (fun w => { w with reg := true, rd := true, wr := true, nt := true, atm := true, len := 4096 }), by decide +kernel⟩,
   ⟨0, 5, { toCtx kindReq (opWriteNotify * 2 ^ 128 + 2 ^ 136 + 0x10001 * 2 ^ 160 + 8 * 2 ^ 288) with plen := 8 }, run.modWin 0 1 (fun w => { w with reg := true, rd := true, wr := true, nt := true, atm := true, len := 4096 }), by decide +kernel⟩,
   ⟨0, 5, { toCtx kindReq (opCswap * 2 ^ 128 + 2 ^ 136 + 0x10001 * 2 ^ 160 + 8 * 2 ^ 288) with plen := 16 }, run.modWin 0 1 (fun w => { w with reg := true, rd := true, wr := true, nt := true, atm := true, len := 4096 }), by decide +kernel⟩,
   ⟨0, 5, readOf 4089, withWin run, by decide +kernel⟩,
   ⟨0, 5, toCtx kindReq (opWrite * 2 ^ 128), run, by decide +kernel⟩,
   ⟨3, { fn := 0, va := 0, bus := 4096, val := 7 }, run.setCfg 0x5034 4 1, by decide +kernel⟩,
   ⟨3, { fn := 0, va := 0, bus := 4096, val := 7 }, run.setCfg 0x5034 4 1, ⟨by decide +kernel, by decide +kernel, { fn := 0, va := 0, bus := 4096, val := 7 }, by decide +kernel⟩⟩,
   ⟨0, { run with ets := [(0, { saveAt := some 0 })] }, by decide +kernel⟩,
   ⟨0, run, by decide +kernel⟩,
   ⟨0, 5, readOf 0, ⟨0, 5, 7, opRead, 0x10001, 0, 0, [], 0, 15⟩, { run with ets := [(0, { saved := [⟨0, 5, 7, opRead, 0x10001, 0, 0, [], 0, 15⟩] })] }, by decide +kernel⟩⟩

theorem witness_CollectivePacketsArrive :
    (∃ p : Nat, ∃ q : QPkt, ∃ rest : List QPkt, ∃ s : State, (s.portq p).coll = q :: rest ∧ s.faults.checkstop = false) ∧
    (∃ p : Nat, ∃ q : QPkt, ∃ rest : List QPkt, ∃ s : State, (s.portq p).coll = q :: rest ∧ s.faults.checkstop = false ∧ q.pkt.kind = kindCup ∧ kCtype q.pkt ≠ 1 ∧ kCtype q.pkt ≠ 2) ∧
    (∃ p : Nat, ∃ q : QPkt, ∃ rest : List QPkt, ∃ s : State, (s.portq p).coll = q :: rest ∧ s.faults.checkstop = false ∧ q.pkt.kind = kindCdn ∧ kCtype q.pkt ≠ 1 ∧ kCtype q.pkt ≠ 2) ∧
    (∃ p : Nat, ∃ q : QPkt, ∃ rest : List QPkt, ∃ s : State, (s.portq p).coll = q :: rest ∧ s.faults.checkstop = false ∧ kCtype q.pkt = 1) ∧
    (∃ p : Nat, ∃ q : QPkt, ∃ rest : List QPkt, ∃ s : State, (s.portq p).coll = q :: rest ∧ s.faults.checkstop = false ∧ kCtype q.pkt = 2) ∧
    (∃ _p : Nat, ∃ k : Packet, ∃ s : State, ((s.tree (kTree k)).installed = false ∨   kInst k ≠ tInst (s.tree (kTree k)).entry.toNat)) ∧
    (∃ _p : Nat, ∃ k : Packet, ∃ s : State, (s.tree (kTree k)).installed = true ∧ kInst k = tInst (s.tree (kTree k)).entry.toNat ∧ (s.tree (kTree k)).broken = true) ∧
    (∃ p : Nat, ∃ k : Packet, ∃ s : State, (s.tree (kTree k)).installed = true ∧ kInst k = tInst (s.tree (kTree k)).entry.toNat ∧ (s.tree (kTree k)).broken = false ∧ (2 < kCtype k ∨ tChild (s.tree (kTree k)).entry.toNat p = false)) ∧
    (∃ p : Nat, ∃ k : Packet, ∃ s : State, (s.tree (kTree k)).installed = true ∧ kInst k = tInst (s.tree (kTree k)).entry.toNat ∧ (s.tree (kTree k)).broken = false ∧ (2 < kCtype k ∨   tRoot (s.tree (kTree k)).entry.toNat = true ∨     p ≠ tParent (s.tree (kTree k)).entry.toNat)) ∧
    (∃ p : Nat, ∃ k : Packet, ∃ s : State, (s.tree (kTree k)).installed = true ∧ kInst k = tInst (s.tree (kTree k)).entry.toNat ∧ (s.tree (kTree k)).broken = false ∧ (k.kind = kindCup ∧     tChild (s.tree (kTree k)).entry.toNat p = true ∨   k.kind = kindCdn ∧     tRoot (s.tree (kTree k)).entry.toNat = false ∧       p = tParent (s.tree (kTree k)).entry.toNat)) ∧
    (∃ s : State, s.inMode Mode.run = true ∧ s.injectStopped = false ∧ s.keepAt + s.cfg 28672 1 * 1000 / 4 ≤ s.now) ∧
    (∃ s : State, (s.inMode Mode.run = false ∨ s.injectStopped = true ∨ s.now < s.keepAt + s.cfg 28672 1 * 1000 / 4)) ∧
    (∃ p : Nat, ∃ s : State, s.inMode Mode.run = true ∧ s.faults.checkstop = false ∧ s.treeEdge p = true ∧ (s.portq p).collAt + s.cfg 28672 1 * 1000 ≤ s.now) ∧
    (∃ p : Nat, ∃ s : State, (s.inMode Mode.run = false ∨ s.treeEdge p = false ∨ s.now < (s.portq p).collAt + s.cfg 28672 1 * 1000)) ∧
    (∃ t : Nat, ∃ _code : Nat, ∃ _arr : Option Nat, ∃ _port : Option Nat, ∃ _fn : Option Nat, ∃ s : State, (s.tree t).installed = true ∧ (s.tree t).broken = false) ∧
    (∃ t : Nat, ∃ code : Nat, ∃ _arr : Option Nat, ∃ _port : Option Nat, ∃ _fn : Option Nat, ∃ s : State, (s.tree t).installed = true ∧ (s.tree t).broken = false ∧ (code = 2576 ∨ code = 2592 ∨ code = 2624)) ∧
    (∃ t : Nat, ∃ code : Nat, ∃ _arr : Option Nat, ∃ _port : Option Nat, ∃ _fn : Option Nat, ∃ s : State, (s.tree t).installed = true ∧ (s.tree t).broken = false ∧ code = 2608) ∧
    (∃ t : Nat, ∃ code : Nat, ∃ _arr : Option Nat, ∃ _port : Option Nat, ∃ _fn : Option Nat, ∃ s : State, (s.tree t).installed = true ∧ (s.tree t).broken = false ∧ (code = 2656 ∨ code = 2672 ∨ code = 2688)) ∧
    (∃ n : Nat, ∃ p : Nat, ∃ _ext : Nat, ∃ _up : Bool, ∃ _bytes : List Byte, ∃ _s : State, n = ptOf p) ∧
    (∃ n : Nat, ∃ p : Nat, ∃ _ext : Nat, ∃ _up : Bool, ∃ _bytes : List Byte, ∃ _s : State, n = ptOf p ∧ ∃ j : Nat, j ≠ p) ∧
    (∃ n : Nat, ∃ p : Nat, ∃ _ext : Nat, ∃ _up : Bool, ∃ _bytes : List Byte, ∃ _s : State, n ≠ ptOf p) ∧
    (∃ t : Nat, ∃ _code : Nat, ∃ _arr : Option Nat, ∃ _port : Option Nat, ∃ _fn : Option Nat, ∃ s : State, ((s.tree t).installed = false ∨ (s.tree t).broken = true)) ∧
    (∃ t : Nat, ∃ _s : State, ∃ j : Nat, j ≠ t) :=
  ⟨⟨0, waiting (coll kindCup 0), [], run.modPortq 0 (fun x => { x with coll := [waiting (coll kindCup 0)] }), by decide +kernel⟩,
   ⟨0, waiting (coll kindCup 0), [], run.modPortq 0 (fun x => { x with coll := [waiting (coll kindCup 0)] }), by decide +kernel⟩,
   ⟨0, waiting (coll kindCdn 0), [], run.modPortq 0 (fun x => { x with coll := [waiting (coll kindCdn 0)] }), by decide +kernel⟩,
   ⟨0, waiting (coll kindCup 1), [], run.modPortq 0 (fun x => { x with coll := [waiting (coll kindCup 1)] }), by decide +kernel⟩,
   ⟨0, waiting (coll kindCup 2), [], run.modPortq 0 (fun x => { x with coll := [waiting (coll kindCup 2)] }), by decide +kernel⟩,
   ⟨0, coll kindCup 0, run, by decide +kernel⟩,
   ⟨0, coll kindCup 0, (withTree 0 run).modTree 0 (fun x => { x with broken := true }), by decide +kernel⟩,
   ⟨1, coll kindCup 0, withTree (2 ^ 64) run, by decide +kernel⟩,
   ⟨1, coll kindCdn 0, withTree 2 run, by decide +kernel⟩,
   ⟨0, coll kindCup 0, withTree (2 ^ 64) run, by decide +kernel⟩,
   ⟨run, by decide +kernel⟩,
   ⟨{ run with keepAt := 10 ^ 10 }, by decide +kernel⟩,
   ⟨0, withTree (2 ^ 64) run, by decide +kernel⟩,
   ⟨1, withTree (2 ^ 64) run, by decide +kernel⟩,
   ⟨0, 0x41, none, none, none, withTree 0 run, by decide +kernel⟩,
   ⟨0, 0x0A10, none, none, none, withTree 0 run, by decide +kernel⟩,
   ⟨0, 0x0A30, none, none, none, withTree 0 run, by decide +kernel⟩,
   ⟨0, 0x0A60, none, none, none, withTree 0 run, by decide +kernel⟩,
   ⟨0, 3, 0, true, [], run, by decide +kernel⟩,
   ⟨0, 3, 0, true, [], run, ⟨by decide, 4, by decide⟩⟩,
   ⟨1, 3, 0, true, [], run, by decide +kernel⟩,
   ⟨0, 0x41, none, none, none, run, by decide +kernel⟩,
   ⟨0, run, 1, by decide +kernel⟩⟩

theorem witness_ExactSumsAnyOrder :
    (∃ a : Nat, ∃ b : Nat, bf a 318 2 = 0 ∧ bf b 318 2 = 0 ∧ -2 ^ 317 ≤ signed 318 a + signed 318 b ∧ signed 318 a + signed 318 b < 2 ^ 317) ∧
    (∃ d : Nat, ∃ x : Nat, (d = 5 ∨ d = 6 ∨ d = 7) ∧ x < 2 ^ fpWidth d ∧ isNaN d x = true) ∧
    (∃ d : Nat, ∃ x : Nat, (d = 5 ∨ d = 6 ∨ d = 7) ∧ x < 2 ^ fpWidth d ∧ isNaN d x = false ∧ x ≠ 2 ^ (fpWidth d - 1)) ∧
    (∃ d : Nat, ∃ op : Nat, ∃ a : Nat, ∃ b : Nat, 4 ≤ d ∧ d ≤ 7 ∧ op ≤ 2 ∧ (isNaN d a = true ∨ isNaN d b = true)) :=
  ⟨⟨2 ^ 317 - 1, 2 ^ 318 - 1, by decide +kernel⟩,
   ⟨5, 0x7FC00000, by decide +kernel⟩,
   ⟨6, 0, by decide +kernel⟩,
   ⟨4, 2, 0x7FF8000000000000, 0, by decide +kernel⟩⟩

theorem witness_WireSizes :
    (∃ k : Nat, ∃ _d : Nat, ∃ _len : Nat, (k = 2 ∨ k = 3)) ∧
    (∃ k : Nat, ∃ d : Nat, ∃ a : List Byte, (k = 2 ∨ k = 3) ∧ a.length % dtSize d = 0) ∧
    (∃ k : Nat, ∃ d : Nat, ∃ a : List Byte, (k = 2 ∨ k = 3) ∧ a.length % dtSize d = 0 ∧ ∃ b : List Byte, b.length = a.length ∧ ∃ _op : Nat, True) ∧
    (∃ _f : Nat, ∃ w : Nat, ∃ s : State, (256 * tUbuf (s.tree (wTree w)).entry.toNat <     upWire (wKind w) (wDtype w) (wExact w)       (wLength w) ∨   256 * tDbuf (s.tree (wTree w)).entry.toNat <     downWire (wKind w) (wLength w))) :=
  ⟨⟨2, 0, 8, by decide +kernel⟩,
   ⟨3, 1, List.replicate 16 0, by decide +kernel⟩,
   ⟨3, 1, List.replicate 16 0, ⟨by decide, by decide, List.replicate 16 1, rfl, 0, trivial⟩⟩,
   ⟨0, 2 ^ 140 + 4 * 2 ^ 32, run, by decide +kernel⟩⟩

theorem witness_RequestsReachTheEngine :
    (∃ f : Nat, ∃ ctrl : BitVec 32, ∃ _buf : List Byte, ∃ s : State, s.present f = true ∧ (s.fn f).mbGo = false ∧ s.faults.checkstop = false ∧ s.inMode Mode.seat = false ∧ bitAt ctrl.toNat 0 = true ∧ 1 ≤ bf ctrl.toNat 1 11 ∧ bf ctrl.toNat 1 11 ≤ 511) ∧
    (∃ f : Nat, ∃ ctrl : BitVec 32, ∃ _buf : List Byte, ∃ s : State, s.present f = true ∧ (s.fn f).mbGo = false ∧ s.faults.checkstop = false ∧ s.inMode Mode.seat = false ∧ bitAt ctrl.toNat 0 = true ∧ (bf ctrl.toNat 1 11 = 0 ∨ 511 < bf ctrl.toNat 1 11)) ∧
    (∃ f : Nat, ∃ _ctrl : BitVec 32, ∃ _buf : List Byte, ∃ s : State, s.present f = false) ∧
    (∃ f : Nat, ∃ _ctrl : BitVec 32, ∃ _buf : List Byte, ∃ s : State, s.present f = true ∧ s.faults.checkstop = false ∧ s.inMode Mode.seat = false) ∧
    (∃ f : Nat, ∃ _ctrl : BitVec 32, ∃ _buf : List Byte, ∃ s : State, s.present f = true ∧ s.faults.checkstop = false ∧ s.inMode Mode.seat = false ∧ (s.fn f).mbGo = true) ∧
    (∃ f : Nat, ∃ ctrl : BitVec 32, ∃ _buf : List Byte, ∃ s : State, s.present f = true ∧ s.faults.checkstop = false ∧ s.inMode Mode.seat = false ∧ (s.fn f).mbGo = false ∧ bitAt ctrl.toNat 0 = false) ∧
    (∃ src : Nat, ∃ dest : Nat, ∃ v6 : Bool, ∃ pdu : List Byte, ∃ s : State, ∃ u : State × Bool, (s.pathOpen     { pr := Principal.mgmt, src := src + if v6 = true then 2 ^ 144 else 0,       txid := dTxid (pduHdr pdu) } =   true) ∧ s.dict.mgmtLink = true ∧ s.mgmtOwns v6 dest = true ∧ datagramLen v6 pdu + 4 ≤ 1518 ∧ (u =   { s with dict :=           have __src := s.dict;           { __src with amberAt := some s.now } }.transfer     11 (datagramLen v6 pdu) true (s.frameBytes (if v6 = true then 62 else 42) pdu))) ∧
    (∃ src : Nat, ∃ dest : Nat, ∃ v6 : Bool, ∃ pdu : List Byte, ∃ s : State, ∃ u : State × Bool, (s.pathOpen     { pr := Principal.mgmt, src := src + if v6 = true then 2 ^ 144 else 0,       txid := dTxid (pduHdr pdu) } =   true) ∧ s.dict.mgmtLink = true ∧ s.mgmtOwns v6 dest = true ∧ datagramLen v6 pdu + 4 ≤ 1518 ∧ (u =   { s with dict :=           have __src := s.dict;           { __src with amberAt := some s.now } }.transfer     11 (datagramLen v6 pdu) true (s.frameBytes (if v6 = true then 62 else 42) pdu)) ∧ u.2 = true ∧ s.mgmtAllows v6 (src / 65536) = true ∧ (s.dictQueue 1).length < 64) ∧
    (∃ src : Nat, ∃ dest : Nat, ∃ v6 : Bool, ∃ pdu : List Byte, ∃ s : State, ∃ u : State × Bool, (s.pathOpen     { pr := Principal.mgmt, src := src + if v6 = true then 2 ^ 144 else 0,       txid := dTxid (pduHdr pdu) } =   true) ∧ s.dict.mgmtLink = true ∧ s.mgmtOwns v6 dest = true ∧ datagramLen v6 pdu + 4 ≤ 1518 ∧ (u =   { s with dict :=           have __src := s.dict;           { __src with amberAt := some s.now } }.transfer     11 (datagramLen v6 pdu) true (s.frameBytes (if v6 = true then 62 else 42) pdu)) ∧ u.2 = true ∧ s.mgmtAllows v6 (src / 65536) = true ∧ 64 ≤ (s.dictQueue 1).length) ∧
    (∃ src : Nat, ∃ dest : Nat, ∃ v6 : Bool, ∃ pdu : List Byte, ∃ s : State, ∃ u : State × Bool, (s.pathOpen     { pr := Principal.mgmt, src := src + if v6 = true then 2 ^ 144 else 0,       txid := dTxid (pduHdr pdu) } =   true) ∧ s.dict.mgmtLink = true ∧ s.mgmtOwns v6 dest = true ∧ datagramLen v6 pdu + 4 ≤ 1518 ∧ (u =   { s with dict :=           have __src := s.dict;           { __src with amberAt := some s.now } }.transfer     11 (datagramLen v6 pdu) true (s.frameBytes (if v6 = true then 62 else 42) pdu)) ∧ (u.2 = false ∨ s.mgmtAllows v6 (src / 65536) = false)) ∧
    (∃ _src : Nat, ∃ dest : Nat, ∃ v6 : Bool, ∃ pdu : List Byte, ∃ s : State, (s.dict.mgmtLink = false ∨ s.mgmtOwns v6 dest = false ∨ 1518 < datagramLen v6 pdu + 4)) ∧
    (∃ k : Packet, ∃ s : State, List.find? isRequest s.dict.rx = some k) ∧
    (∃ _up : Bool, ∃ _mdix : Bool, ∃ s : State, s.island 12 = true) ∧
    (∃ _up : Bool, ∃ _mdix : Bool, ∃ s : State, s.island 12 = false) ∧
    (∃ x : MgmtFrame, ∃ s : State, ∃ u : State × Bool, s.island 12 = true ∧ s.dict.mgmtLink = true ∧ (u =   { s with dict :=           have __src := s.dict;           { __src with amberAt := some s.now } }.transfer     11 x.size true (s.frameBytes x.size []))) ∧
    (∃ x : MgmtFrame, ∃ s : State, ∃ u : State × Bool, s.island 12 = true ∧ s.dict.mgmtLink = true ∧ (u =   { s with dict :=           have __src := s.dict;           { __src with amberAt := some s.now } }.transfer     11 x.size true (s.frameBytes x.size [])) ∧ u.2 = true ∧ (u.1.transfer 11 x.size false).2 = true) ∧
    (∃ x : MgmtFrame, ∃ s : State, ∃ u : State × Bool, s.island 12 = true ∧ s.dict.mgmtLink = true ∧ (u =   { s with dict :=           have __src := s.dict;           { __src with amberAt := some s.now } }.transfer     11 x.size true (s.frameBytes x.size [])) ∧ u.2 = false) ∧
    (∃ addr : Nat, ∃ cmd : Nat, ∃ o : Nat × Nat, ∃ s : State, s.island 12 = true ∧ addr = 88 + s.dict.smbAddr ∧ smbObject cmd = some o) ∧
    (∃ addr : Nat, ∃ cmd : Nat, ∃ s : State, (s.island 12 = false ∨ addr ≠ 88 + s.dict.smbAddr ∨ smbObject cmd = none)) :=
  ⟨⟨0, 1023, [], run, by decide +kernel⟩,
   ⟨0, 1, [], run, by decide +kernel⟩,
   ⟨5, 0, [], run, by decide +kernel⟩,
   ⟨0, 1, [], run, by decide +kernel⟩,
   ⟨0, 1, [], run.modFn 0 (fun x => { x with mbGo := true }), by decide +kernel⟩,
   ⟨0, 0, [], run, by decide +kernel⟩,
   ⟨1, 5, false, [], State.setCfg { run with dict := { mgmtLink := true } } 0x1010 2 5, _, ⟨by decide +kernel, rfl, by decide +kernel, by decide, rfl⟩⟩,
   ⟨1, 5, false, [], openAll (State.setCfg { run with dict := { mgmtLink := true } } 0x1010 2 5), _, ⟨by decide +kernel, rfl, by decide +kernel, by decide, rfl, open_transfer 11 _ _ _ _ (by decide) (by decide) (Or.inl (by decide)) rfl, by decide +kernel, by decide +kernel⟩⟩,
   ⟨1, 5, false, [], openAll (State.setCfg { run with dict := { mgmtLink := true, queues := [(1, List.replicate 64 { r := mgmtReq, pdu := [] })] } } 0x1010 2 5), _, ⟨by decide +kernel, rfl, by decide +kernel, by decide, rfl, open_transfer 11 _ _ _ _ (by decide) (by decide) (Or.inl (by decide)) rfl, by decide +kernel, by decide +kernel⟩⟩,
   ⟨1, 5, false, [], shutAll (State.setCfg { run with dict := { mgmtLink := true } } 0x1010 2 5), _, ⟨by decide +kernel, rfl, by decide +kernel, by decide, rfl, Or.inl (shut_transfer _ _ _ _ _ (Or.inl (by decide)) rfl)⟩⟩,
   ⟨1, 5, false, List.replicate 1473 0, State.setCfg { run with dict := { mgmtLink := true } } 0x1010 2 5, Or.inr (Or.inr (by simp only [datagramLen, List.length_replicate]; decide))⟩,
   ⟨coll 4 0, { run with dict := { rx := [coll 4 0] } }, by decide +kernel⟩,
   ⟨true, false, run, by decide +kernel⟩,
   ⟨true, false, { run with arch := {} }, by decide +kernel⟩,
   ⟨.icmpEcho 5 (List.replicate 1472 0), State.setCfg { run with dict := { mgmtLink := true } } 0x1010 2 5, _, ⟨by decide +kernel, rfl, rfl⟩⟩,
   ⟨.arpRequest 5, openAll (State.setCfg { run with dict := { mgmtLink := true } } 0x1010 2 5), _, ⟨by decide +kernel, rfl, rfl, open_transfer 11 _ _ _ _ (by decide) (by decide) (Or.inl (by decide)) rfl, open_then 11 _ _ _ (by decide) (by decide) (by decide) rfl⟩⟩,
   ⟨.oversize, shutAll { run with dict := { mgmtLink := true } }, _, ⟨by decide +kernel, rfl, rfl, shut_transfer _ _ _ _ _ (Or.inl (by decide)) rfl⟩⟩,
   ⟨91, 1, (0x1000, 1), run, by decide +kernel⟩,
   ⟨90, 1, run, by decide +kernel⟩⟩

theorem witness_TheEngineServes :
    (∃ q : Nat, ∃ x : DictReq, ∃ rest : List DictReq, ∃ s : State, s.dictQueue q = x :: rest ∧ s.pathOpen x.r = true ∧ s.dictTurn q = true) ∧
    (∃ q : Nat, ∃ x : DictReq, ∃ rest : List DictReq, ∃ s : State, s.dictQueue q = x :: rest ∧ s.pathOpen x.r = true ∧ s.dictTurn q = true ∧ dService (pduHdr x.pdu) = 0) ∧
    (∃ q : Nat, ∃ x : DictReq, ∃ rest : List DictReq, ∃ s : State, s.dictQueue q = x :: rest ∧ s.pathOpen x.r = true ∧ s.dictTurn q = true ∧ dService (pduHdr x.pdu) = 1) ∧
    (∃ q : Nat, ∃ x : DictReq, ∃ rest : List DictReq, ∃ s : State, s.dictQueue q = x :: rest ∧ s.pathOpen x.r = true ∧ s.dictTurn q = true ∧ dService (pduHdr x.pdu) = 2) ∧
    (∃ q : Nat, ∃ x : DictReq, ∃ rest : List DictReq, ∃ s : State, s.dictQueue q = x :: rest ∧ s.pathOpen x.r = true ∧ s.dictTurn q = true ∧ dService (pduHdr x.pdu) = 3) ∧
    (∃ q : Nat, ∃ x : DictReq, ∃ rest : List DictReq, ∃ s : State, s.dictQueue q = x :: rest ∧ s.pathOpen x.r = true ∧ s.dictTurn q = true ∧ dService (pduHdr x.pdu) = 4) ∧
    (∃ q : Nat, ∃ x : DictReq, ∃ rest : List DictReq, ∃ s : State, s.dictQueue q = x :: rest ∧ (s.pathOpen x.r = false ∨ s.dictTurn q = false)) ∧
    (∃ x : DictReq, ∃ s : State, s.keptFor x.r (pduHdr x.pdu) = none ∧ badPdu x.r x.pdu = true ∧ dService (pduHdr x.pdu) ≠ 4) ∧
    (∃ x : DictReq, ∃ s : State, s.keptFor x.r (pduHdr x.pdu) = none ∧ badPdu x.r x.pdu = false ∧ dService (pduHdr x.pdu) = 0 ∧ ∃ a : Abort, s.reach x.r (dIndex (pduHdr x.pdu))     (dSub (pduHdr x.pdu)) false =   some a) ∧
    (∃ x : DictReq, ∃ s : State, s.keptFor x.r (pduHdr x.pdu) = none ∧ badPdu x.r x.pdu = false ∧ dService (pduHdr x.pdu) = 1 ∧ dOffset (pduHdr x.pdu) = 0 ∧ dLast (pduHdr x.pdu) = true ∧ dLen (pduHdr x.pdu) = dTotal (pduHdr x.pdu)) ∧
    (∃ x : DictReq, ∃ s : State, s.keptFor x.r (pduHdr x.pdu) = none ∧ badPdu x.r x.pdu = false ∧ ∃ o : Obj, dService (pduHdr x.pdu) = 2 ∧ s.reach x.r (dIndex (pduHdr x.pdu))     (dSub (pduHdr x.pdu)) false =   none ∧ s.obj? (dIndex (pduHdr x.pdu))     (dSub (pduHdr x.pdu)) =   some o) ∧
    (∃ x : DictReq, ∃ s : State, s.keptFor x.r (pduHdr x.pdu) = none ∧ badPdu x.r x.pdu = false ∧ dService (pduHdr x.pdu) = 3 ∧ s.segOf x.r = none) ∧
    (∃ x : DictReq, ∃ s : State, s.keptFor x.r (pduHdr x.pdu) = none ∧ badPdu x.r x.pdu = false ∧ ∃ g : Seg, dService (pduHdr x.pdu) = 3 ∧ s.segOf x.r = some g) ∧
    (∃ x : DictReq, ∃ s : State, s.keptFor x.r (pduHdr x.pdu) = none ∧ badPdu x.r x.pdu = false ∧ dService (pduHdr x.pdu) = 4 ∧ 24 ≤ (pduData x.pdu).length ∧ s.mayRelay x.r = true ∧ s.dict.relays.length < 64 ∧ s.isSelf (bitAt (leNat (List.take 8 (pduData x.pdu))) 20)     (bf (leNat (List.take 8 (pduData x.pdu))) 0 20) =   false) ∧
    (∃ k : Packet, ∃ s : State, (List.find? (fun (p : Packet) => !isRequest p) s.dict.rx = some k) ∧ ∃ y : Relay, s.relayOf k = some y) ∧
    (∃ k : Packet, ∃ s : State, (List.find? (fun (p : Packet) => !isRequest p) s.dict.rx = some k) ∧ s.relayOf k = none) ∧
    (∃ id : Nat, ∃ y : Relay, ∃ s : State, (List.find? (fun (y : Relay) => y.id == id) s.dict.relays = some y) ∧ s.now < y.at_ + y.limit) ∧
    (∃ id : Nat, ∃ y : Relay, ∃ s : State, (List.find? (fun (y : Relay) => y.id == id) s.dict.relays = some y) ∧ y.at_ + y.limit ≤ s.now) ∧
    (∃ id : Nat, ∃ g : Seg, ∃ s : State, (List.find? (fun (g : Seg) => g.id == id && g.write) s.dict.segs = some g) ∧ s.now ≤ g.at_ + 1000000000) ∧
    (∃ id : Nat, ∃ g : Seg, ∃ s : State, (List.find? (fun (g : Seg) => g.id == id && g.write) s.dict.segs = some g) ∧ g.at_ + 1000000000 < s.now) ∧
    (∃ id : Nat, ∃ g : Seg, ∃ s : State, (List.find? (fun (g : Seg) => g.id == id && !g.write) s.dict.segs = some g) ∧ s.now < g.at_ + 1000000000) ∧
    (∃ id : Nat, ∃ g : Seg, ∃ s : State, (List.find? (fun (g : Seg) => g.id == id && !g.write) s.dict.segs = some g) ∧ g.at_ + 1000000000 ≤ s.now) ∧
    (∃ y : SyncRead, ∃ rest : List SyncRead, ∃ s : State, s.acu.syncs = y :: rest ∧ s.now < y.ahead) ∧
    (∃ y : SyncRead, ∃ rest : List SyncRead, ∃ s : State, s.acu.syncs = y :: rest ∧ y.ahead ≤ s.now) ∧
    (∃ y : SyncRead, ∃ rest : List SyncRead, ∃ s : State, s.acu.syncs = y :: rest ∧ y.ahead ≤ s.now ∧ y.bus = none) :=
  ⟨⟨0, { r := mgmtReq, pdu := pduOf 0 (0) }, [], { run with dict := { queues := [(0, [{ r := mgmtReq, pdu := pduOf 0 (0) }])] } }, by decide +kernel⟩,
   ⟨0, { r := mgmtReq, pdu := pduOf 0 (0) }, [], { run with dict := { queues := [(0, [{ r := mgmtReq, pdu := pduOf 0 (0) }])] } }, by decide +kernel⟩,
   ⟨0, { r := mgmtReq, pdu := pduOf 1 (0) }, [], { run with dict := { queues := [(0, [{ r := mgmtReq, pdu := pduOf 1 (0) }])] } }, by decide +kernel⟩,
   ⟨0, { r := mgmtReq, pdu := pduOf 2 (0) }, [], { run with dict := { queues := [(0, [{ r := mgmtReq, pdu := pduOf 2 (0) }])] } }, by decide +kernel⟩,
   ⟨0, { r := mgmtReq, pdu := pduOf 3 (0) }, [], { run with dict := { queues := [(0, [{ r := mgmtReq, pdu := pduOf 3 (0) }])] } }, by decide +kernel⟩,
   ⟨0, { r := mgmtReq, pdu := pduOf 4 (0) }, [], { run with dict := { queues := [(0, [{ r := mgmtReq, pdu := pduOf 4 (0) }])] } }, by decide +kernel⟩,
   ⟨0, { r := mgmtReq, pdu := [] }, [], { inMode .seat run with dict := { queues := [(0, [{ r := mgmtReq, pdu := [] }])] } }, by decide +kernel⟩,
   ⟨{ r := mgmtReq, pdu := pduOf 5 (0) }, run, by decide +kernel⟩,
   ⟨{ r := mgmtReq, pdu := pduOf 0 (0) }, run, ⟨by decide +kernel, by decide +kernel, by decide +kernel, .noObject, by decide +kernel⟩⟩,
   ⟨{ r := mgmtReq, pdu := pduOf 1 (2 ^ 9) }, run, by decide +kernel⟩,
   ⟨{ r := mgmtReq, pdu := pduOf 2 (0x1000 * 2 ^ 32 + 2 ^ 48) }, run, ⟨by decide +kernel, by decide +kernel, { idx := 0x1000, lo := 1, hi := 1, ty := 2, acc := .const, len := 2, dflt := 0 }, by decide +kernel⟩⟩,
   ⟨{ r := mgmtReq, pdu := pduOf 3 (0) }, run, by decide +kernel⟩,
   ⟨{ r := mgmtReq, pdu := pduOf 3 (0) }, { run with dict := { segs := [{ id := 4, r := mgmtReq, idx := 0x1000, sub := 1, total := 600, bytes := [], write := true, at_ := 0 }] } }, ⟨by decide +kernel, by decide +kernel, { id := 4, r := mgmtReq, idx := 0x1000, sub := 1, total := 600, bytes := [], write := true, at_ := 0 }, by decide +kernel⟩⟩,
   ⟨{ r := mgmtReq, pdu := pduOf 4 (24 * 2 ^ 64) ++ List.replicate 24 1 }, run, by decide +kernel⟩,
   ⟨{ coll 4 (2 ^ 8) with srcDev := 9 }, { run with dict := { rx := [{ coll 4 (2 ^ 8) with srcDev := 9 }], relays := [{ id := 4, r := mgmtReq, dev := 9, form := false, txid := 0, at_ := 0, limit := 10 ^ 9 }] } }, ⟨by decide +kernel, { id := 4, r := mgmtReq, dev := 9, form := false, txid := 0, at_ := 0, limit := 10 ^ 9 }, by decide +kernel⟩⟩,
   ⟨{ coll 4 (2 ^ 8) with srcDev := 9 }, { run with dict := { rx := [{ coll 4 (2 ^ 8) with srcDev := 9 }] } }, by decide +kernel⟩,
   ⟨4, { id := 4, r := mgmtReq, dev := 9, form := false, txid := 7, at_ := 10 ^ 10 - 10 ^ 9 + 1, limit := 10 ^ 9 }, { run with dict := { relays := [{ id := 4, r := mgmtReq, dev := 9, form := false, txid := 7, at_ := 10 ^ 10 - 10 ^ 9 + 1, limit := 10 ^ 9 }] } }, by decide +kernel⟩,
   ⟨4, { id := 4, r := mgmtReq, dev := 9, form := false, txid := 7, at_ := 10 ^ 10 - 10 ^ 9, limit := 10 ^ 9 }, { run with dict := { relays := [{ id := 4, r := mgmtReq, dev := 9, form := false, txid := 7, at_ := 10 ^ 10 - 10 ^ 9, limit := 10 ^ 9 }] } }, by decide +kernel⟩,
   ⟨4, { id := 4, r := mgmtReq, idx := 0x1000, sub := 1, total := 600, bytes := [], write := true, at_ := 10 ^ 10 - 10 ^ 9 }, { run with dict := { segs := [{ id := 4, r := mgmtReq, idx := 0x1000, sub := 1, total := 600, bytes := [], write := true, at_ := 10 ^ 10 - 10 ^ 9 }] } }, by decide +kernel⟩,
   ⟨4, { id := 4, r := mgmtReq, idx := 0x1000, sub := 1, total := 600, bytes := [], write := true, at_ := 10 ^ 10 - 10 ^ 9 - 1 }, { run with dict := { segs := [{ id := 4, r := mgmtReq, idx := 0x1000, sub := 1, total := 600, bytes := [], write := true, at_ := 10 ^ 10 - 10 ^ 9 - 1 }] } }, by decide +kernel⟩,
   ⟨4, { id := 4, r := mgmtReq, idx := 0x1000, sub := 1, total := 600, bytes := [], write := false, at_ := 10 ^ 10 - 10 ^ 9 + 1 }, { run with dict := { segs := [{ id := 4, r := mgmtReq, idx := 0x1000, sub := 1, total := 600, bytes := [], write := false, at_ := 10 ^ 10 - 10 ^ 9 + 1 }] } }, by decide +kernel⟩,
   ⟨4, { id := 4, r := mgmtReq, idx := 0x1000, sub := 1, total := 600, bytes := [], write := false, at_ := 10 ^ 10 - 10 ^ 9 }, { run with dict := { segs := [{ id := 4, r := mgmtReq, idx := 0x1000, sub := 1, total := 600, bytes := [], write := false, at_ := 10 ^ 10 - 10 ^ 9 }] } }, by decide +kernel⟩,
   ⟨{ r := mgmtReq, epoch := 0, ahead := 10 ^ 10 + 1 }, [], { run with acu := { syncs := [{ r := mgmtReq, epoch := 0, ahead := 10 ^ 10 + 1 }] } }, by decide +kernel⟩,
   ⟨{ r := mgmtReq, epoch := 0, ahead := 0 }, [], { run with acu := { syncs := [{ r := mgmtReq, epoch := 0, ahead := 0 }] } }, by decide +kernel⟩,
   ⟨{ r := mgmtReq, epoch := 0, ahead := 0 }, [], { run with acu := { syncs := [{ r := mgmtReq, epoch := 0, ahead := 0 }] } }, by decide +kernel⟩⟩

theorem witness_WritesAreDecidedInOneStep :
    (∃ r : Req, ∃ idx : Nat, ∃ sub : Nat, ∃ bytes : List Byte, ∃ a : Abort, ∃ s : State, idx ≠ 49153 ∧ ¬(idx = 49154 ∧ sub = 2) ∧ (s.writeStep r idx sub bytes).2 = some a) ∧
    (∃ r : Req, ∃ idx : Nat, ∃ sub : Nat, ∃ bytes : List Byte, ∃ o : Obj, ∃ s : State, idx ≠ 49153 ∧ ¬(idx = 49154 ∧ sub = 2) ∧ s.obj? idx sub = some o ∧ s.openCheck r idx sub bytes.length = none ∧ s.valueCheck r idx sub (o.valueOf bytes) = none ∧ (o.persist = true → s.journalTakes (s.allRecs idx sub (o.valueOf bytes)) = true)) ∧
    (∃ r : Req, ∃ idx : Nat, ∃ sub : Nat, ∃ bytes : List Byte, ∃ o : Obj, ∃ s : State, idx ≠ 49153 ∧ ¬(idx = 49154 ∧ sub = 2) ∧ s.obj? idx sub = some o ∧ s.openCheck r idx sub bytes.length = none ∧ s.valueCheck r idx sub (o.valueOf bytes) = none ∧ (o.persist = true → s.journalTakes (s.allRecs idx sub (o.valueOf bytes)) = true) ∧ o.persist = false) ∧
    (∃ r : Req, ∃ idx : Nat, ∃ sub : Nat, ∃ bytes : List Byte, ∃ o : Obj, ∃ s : State, idx ≠ 49153 ∧ ¬(idx = 49154 ∧ sub = 2) ∧ s.obj? idx sub = some o ∧ s.openCheck r idx sub bytes.length = none ∧ s.valueCheck r idx sub (o.valueOf bytes) = none ∧ (o.persist = true → s.journalTakes (s.allRecs idx sub (o.valueOf bytes)) = true) ∧ o.persist = true) ∧
    (∃ idx : Nat, ∃ sub : Nat, ∃ _v : Nat, ∃ _s : State, ∃ i : Nat, ∃ j : Nat, okey i j ≠ okey idx sub) ∧
    (∃ _f : Nat, ∃ idx : Nat, ∃ sub : Nat, ∃ _v : Nat, ∃ _s : State, idx ∈   [4112, 4146, 8227, 12291, 12292, 12293, 12294, 12295, 12298, 12299, 12301, 16385, 16387, 16390, 20480, 20500, 20531,     24576, 24592, 28672] ∧ (idx = 24576 → sub ≠ 4)) ∧
    (∃ r : Req, ∃ _idx : Nat, ∃ _sub : Nat, ∃ bytes : List Byte, ∃ s : State, s.atOnce r = false ∧ segSize r < bytes.length) ∧
    (∃ r : Req, ∃ _idx : Nat, ∃ _sub : Nat, ∃ bytes : List Byte, ∃ s : State, s.atOnce r = false ∧ bytes.length ≤ segSize r ∧ (∀ (f : Nat), r.pr ≠ Principal.host f) ∧ s.pathOpen r = false) ∧
    (∃ r : Req, ∃ _idx : Nat, ∃ _sub : Nat, ∃ bytes : List Byte, ∃ s : State, s.atOnce r = false ∧ bytes.length ≤ segSize r ∧ (∀ (f : Nat), r.pr ≠ Principal.host f) ∧ s.pathOpen r = true) ∧
    (∃ r : Req, ∃ _idx : Nat, ∃ _sub : Nat, ∃ bytes : List Byte, ∃ s : State, ∃ f : Nat, s.atOnce r = false ∧ bytes.length ≤ segSize r ∧ r.pr = Principal.host f) ∧
    (∃ r : Req, ∃ _idx : Nat, ∃ _sub : Nat, ∃ _bytes : List Byte, ∃ s : State, s.atOnce r = true) ∧
    (∃ r : Req, ∃ idx : Nat, ∃ sub : Nat, ∃ bytes : List Byte, ∃ s : State, s.atOnce r = true ∧ s.keptFor r (writeHdr r idx sub bytes.length) = none) :=
  ⟨⟨mgmtReq, 0x1000, 1, [1], .readOnly, run, by decide +kernel⟩,
   ⟨⟨.fw, 0, 7⟩, 0x300A, 1, [1, 2, 0, 0], { idx := 0x300A, lo := 1, hi := 1, ty := 3, acc := .live, len := 4, dflt := 1000, persist := true }, run, by decide +kernel⟩,
   ⟨⟨.fw, 0, 7⟩, 0xA002, 1, [0], { idx := 0xA002, lo := 1, hi := 1, ty := 0, acc := .live, len := 1, dflt := 0 }, run, by decide +kernel⟩,
   ⟨⟨.fw, 0, 7⟩, 0x300A, 1, [1, 2, 0, 0], { idx := 0x300A, lo := 1, hi := 1, ty := 3, acc := .live, len := 4, dflt := 1000, persist := true }, run, by decide +kernel⟩,
   ⟨0x300A, 1, 5, run, 0x300A, 2, by decide +kernel⟩,
   ⟨0, 0x300A, 1, 500, run, by decide +kernel⟩,
   ⟨mgmtReq, 0x1000, 1, List.replicate 1025 0, inMode .seat run, ⟨by decide +kernel, by simp only [List.length_replicate]; decide +kernel⟩⟩,
   ⟨mgmtReq, 0x300A, 1, [1], inMode .seat run, ⟨by decide +kernel, by decide +kernel, (fun f h => by cases h), by decide +kernel⟩⟩,
   ⟨mgmtReq, 0x300A, 1, [1], { run with dict := { queues := [(1, [{ r := mgmtReq, pdu := [] }])] } }, ⟨by decide +kernel, by decide +kernel, (fun f h => by cases h), by decide +kernel⟩⟩,
   ⟨⟨.host 1, 0, 7⟩, 0x300A, 1, [1], run.modFn 1 (fun x => { x with mbGo := true }), 1, by decide +kernel⟩,
   ⟨mgmtReq, 0x300A, 1, [1], run, by decide +kernel⟩,
   ⟨mgmtReq, 0x300A, 1, [1], run, by decide +kernel⟩⟩

theorem witness_TypedRequests :
    (∃ r : Req, ∃ idx : Nat, ∃ sub : Nat, ∃ len : Nat, ∃ v : Nat, ∃ w : Nat, ∃ s : State, idx ≠ 49153 ∧ ¬(idx = 49154 ∧ sub = 2) ∧ Safety.passes s r idx sub len v w) ∧
    (∃ r : Req, ∃ s : State, s.atOnce r = true ∧ s.keptFor r (readHdr r 8224 65) = none ∧ s.reach r 8224 65 false = none) ∧
    (∃ _f : Nat, ∃ q : Nat, ∃ _v : Nat, ∃ _s : State, q < 4096) ∧
    (∃ _f : Nat, ∃ q : Nat, ∃ v : Nat, ∃ _s : State, q < 4096 ∧ bitAt v 0 = true) ∧
    (∃ _f : Nat, ∃ q : Nat, ∃ v : Nat, ∃ _s : State, q < 4096 ∧ bitAt v 0 = false) ∧
    (∃ _f : Nat, ∃ p : Nat, ∃ v : Nat, ∃ s : State, v = 1 ∧ (s.link p).stage = 0) ∧
    (∃ _f : Nat, ∃ p : Nat, ∃ v : Nat, ∃ s : State, v = 1 ∧ (s.link p).stage ≠ 0) ∧
    (∃ _f : Nat, ∃ p : Nat, ∃ v : Nat, ∃ s : State, v = 0 ∧ (s.link p).stage ≠ 0) ∧
    (∃ _f : Nat, ∃ _p : Nat, ∃ v : Nat, ∃ _s : State, v ≠ 0) ∧
    (∃ _f : Nat, ∃ p : Nat, ∃ v : Nat, ∃ s : State, v = 0 ∧ 1 ≤ (s.link p).lps ∧ (s.link p).lps ≤ 3) ∧
    (∃ _f : Nat, ∃ p : Nat, ∃ v : Nat, ∃ s : State, bitAt v 7 = true ∧ bitAt (s.cfg 12302 (p + 1)) 7 = false) ∧
    (∃ _f : Nat, ∃ v : Nat, ∃ s : State, v ≤ 1 ∧ s.cfg 16384 1 ≤ 1 ∧ s.quiet.length = 2 ∧ v ≠ s.cfg 16384 1 ∧ s.arch.islands &&& 255 ≠ 0) ∧
    (∃ _f : Nat, ∃ t : Nat, ∃ v : Nat, ∃ _s : State, t < 4096 ∧ bitAt v 0 = true) ∧
    (∃ _f : Nat, ∃ t : Nat, ∃ v : Nat, ∃ _s : State, t < 4096 ∧ bitAt v 0 = false) ∧
    (∃ _f : Nat, ∃ v : Nat, ∃ _s : State, bitAt v 28 = true) ∧
    (∃ _f : Nat, ∃ v : Nat, ∃ _s : State, bitAt v 28 = false) :=
  ⟨⟨⟨.fw, 0, 7⟩, 0x300A, 1, 4, 500, 500, run, ⟨by decide, by decide, ⟨by decide +kernel, by decide +kernel, by decide +kernel, by decide +kernel, { idx := 0x300A, lo := 1, hi := 1, ty := 3, acc := .live, len := 4, dflt := 1000, persist := true }, by decide +kernel, by decide +kernel, fun _ => by decide +kernel⟩⟩⟩,
   ⟨mgmtReq, run, by decide +kernel⟩,
   ⟨0, 4095, 1, run, by decide +kernel⟩,
   ⟨0, 4095, 1, run, by decide +kernel⟩,
   ⟨0, 4095, 2, run, by decide +kernel⟩,
   ⟨0, 0, 1, run, by decide +kernel⟩,
   ⟨0, 0, 1, withStage 0 9 run, by decide +kernel⟩,
   ⟨0, 0, 0, withStage 0 9 run, by decide +kernel⟩,
   ⟨0, 0, 3, run, by decide +kernel⟩,
   ⟨0, 0, 0, run.modLink 0 (fun l => { l with lps := 3 }), by decide +kernel⟩,
   ⟨0, 0, 0x80, run, by decide +kernel⟩,
   ⟨0, 1, run.setCfg 0x4000 1 0, by decide +kernel⟩,
   ⟨0, 4095, 1, run, by decide +kernel⟩,
   ⟨0, 4095, 0, run, by decide +kernel⟩,
   ⟨0, 2 ^ 28, run, by decide +kernel⟩,
   ⟨0, 0, run, by decide +kernel⟩⟩

theorem witness_ModeChanges :
    (∃ r : Req, ∃ v : Nat, ∃ w : Nat, ∃ s : State, Safety.passes s r 32768 1 1 v w) ∧
    (∃ _r : Req, ∃ _v : Nat, ∃ s : State, s.faults.checkstop = false ∧ s.mode.changing = true) ∧
    (∃ _r : Req, ∃ v : Nat, ∃ s : State, s.faults.checkstop = false ∧ s.mode.changing = false ∧ (v < 2 ∨ 7 < v)) ∧
    (∃ _r : Req, ∃ v : Nat, ∃ s : State, s.faults.checkstop = false ∧ ∃ m : Mode, s.mode.changing = false ∧ 2 ≤ v ∧ modeOf v = some m) ∧
    (∃ _f : Nat, ∃ v : Nat, ∃ m : Mode, ∃ s : State, modeOf v = some m ∧ m = s.mode.mode) ∧
    (∃ _f : Nat, ∃ v : Nat, ∃ m : Mode, ∃ s : State, modeOf v = some m ∧ m ≠ s.mode.mode) ∧
    (∃ _k : Nat, ∃ s : State, s.mode.mode = Mode.run) ∧
    (∃ t : Nat, ∃ s : State, (s.tree t).installed = true) ∧
    (∃ s : State, s.mode.quiesced = true ∧ s.mode.drained = false ∧ s.mode.changeAt + 100000 ≤ s.now ∧ s.sup.flushAt = none) ∧
    (∃ s : State, s.mode.quiesced = true ∧ s.mode.drained = false ∧ s.mode.changeAt + 100000 ≤ s.now ∧ s.sup.flushAt = none ∧ s.mode.target ≠ Mode.hold) ∧
    (∃ s : State, s.mode.quiesced = true ∧ s.mode.drained = false ∧ s.mode.changeAt + 100000 ≤ s.now ∧ s.sup.flushAt = none ∧ s.mode.target = Mode.hold) ∧
    (∃ s : State, s.mode.quiesced = true ∧ s.mode.drained = false ∧ (s.now < s.mode.changeAt + 100000 ∨ s.sup.flushAt ≠ none)) ∧
    (∃ s : State, s.mode.changing = true ∧ (s.mode.quiesced = false ∨ s.mode.drained = true) ∧ s.portsSettled = true ∧ s.sup.flushAt = none ∧ (s.mode.react = [] ∨ s.mode.target ≠ Mode.run ∧ s.mode.target ≠ Mode.pass)) ∧
    (∃ s : State, (s.mode.changing = false ∨   s.mode.quiesced = true ∧ s.mode.drained = false ∨ s.portsSettled = false ∨ s.sup.flushAt ≠ none)) ∧
    (∃ _a : Nat, ∃ s : State, s.mode.changing = false ∧ (s.mode.mode = Mode.run ∨ s.mode.mode = Mode.pass)) ∧
    (∃ _a : Nat, ∃ s : State, s.mode.changing = false ∧ s.mode.mode ≠ Mode.run ∧ s.mode.mode ≠ Mode.pass) ∧
    (∃ _a : Nat, ∃ s : State, s.mode.changing = true) :=
  ⟨⟨⟨.fw, 0, 7⟩, 6, 6, run, ⟨by decide +kernel, by decide +kernel, by decide +kernel, by decide +kernel, { idx := 0x8000, lo := 1, hi := 1, ty := 1, acc := .live, len := 1, dflt := 0xff }, by decide +kernel, by decide +kernel, fun _ => by decide +kernel⟩⟩,
   ⟨mgmtReq, 4, modeStOf (fun m => { m with changing := true, target := .hold }), by decide +kernel⟩,
   ⟨mgmtReq, 8, run, by decide +kernel⟩,
   ⟨mgmtReq, 5, run, ⟨by decide +kernel, .hold, by decide +kernel⟩⟩,
   ⟨0, 4, .run, run, by decide +kernel⟩,
   ⟨0, 7, .test, run, by decide +kernel⟩,
   ⟨3, run, by decide +kernel⟩,
   ⟨0, withTree 0 run, by decide +kernel⟩,
   ⟨modeStOf (fun m => { m with quiesced := true, changeAt := 10 ^ 10 - 100000 }), by decide +kernel⟩,
   ⟨modeStOf (fun m => { m with quiesced := true, changeAt := 10 ^ 10 - 100000 }), by decide +kernel⟩,
   ⟨modeStOf (fun m => { m with quiesced := true, changeAt := 10 ^ 10 - 100000, target := .hold }), by decide +kernel⟩,
   ⟨modeStOf (fun m => { m with quiesced := true, changeAt := 10 ^ 10 - 99999 }), by decide +kernel⟩,
   ⟨modeStOf (fun m => { m with changing := true, target := .hold, react := [.hold] }), by decide +kernel⟩,
   ⟨run, by decide +kernel⟩,
   ⟨0, run, by decide +kernel⟩,
   ⟨0, inMode .train run, by decide +kernel⟩,
   ⟨0, modeStOf (fun m => { m with changing := true, target := .hold }), by decide +kernel⟩⟩

theorem witness_SeatingAndPower :
    (∃ pin : Nat, ∃ _s : State, pin = 0) ∧
    (∃ pin : Nat, ∃ _s : State, pin ≠ 0) ∧
    (∃ a : Nat, ∃ s : State, s.sup.switch = true ∧ (s.sup.seatHighA = some a ∨ s.sup.seatHighB = some a) ∧ a + 1000 ≤ s.now) ∧
    (∃ pin : Nat, ∃ s : State, pin = 0 ∧ s.sup.seatB = false ∧ s.sup.seatLowAt = none) ∧
    (∃ pin : Nat, ∃ s : State, pin ≠ 0 ∧ s.sup.seatA = false ∧ s.sup.seatLowAt = none) ∧
    (∃ _pin : Nat, ∃ s : State, s.sup.seatHighA = none ∧ s.sup.seatHighB = none) ∧
    (∃ a : Nat, ∃ s : State, s.sup.seatLowAt = some a ∧ s.sup.powered = true ∧ s.sup.debounced = false ∧ a + 100000000 ≤ s.now) ∧
    (∃ a : Nat, ∃ s : State, s.sup.seatLowAt = some a ∧ s.now < a + 100000000) ∧
    (∃ s : State, s.sup.powered = true ∧ s.sup.debounced = true ∧ s.sup.latched = false ∧ s.sup.seatA = false ∧ s.sup.seatB = false ∧ 40000 ≤ s.sup.mv ∧ s.sup.mv ≤ 60000 ∧ s.sup.switch = false ∧ s.sup.flushAt = none) ∧
    (∃ s : State, (s.sup.debounced = false ∨   s.sup.latched = true ∨     s.sup.seatA = true ∨ s.sup.seatB = true ∨ s.sup.mv < 40000 ∨ 60000 < s.sup.mv ∨ s.sup.switch = true)) ∧
    (∃ s : State, s.sup.ramping = true) ∧
    (∃ s : State, s.sup.ramping = false) ∧
    (∃ s : State, s.sup.rampDone = true ∧ s.sup.converters = true ∧ s.sup.powerGood = false ∧ s.sup.timerAt = none ∧ (∀ a ∈ s.sup.convAt, a ≤ s.now)) ∧
    (∃ s : State, s.sup.rampDone = true ∧ s.sup.converters = true ∧ s.sup.powerGood = false ∧ s.sup.timerAt = none ∧ (∀ a ∈ s.sup.convAt, a ≤ s.now) ∧ s.sup.resetAt = none) ∧
    (∃ s : State, s.sup.rampDone = true ∧ s.sup.converters = true ∧ s.sup.powerGood = false ∧ s.sup.timerAt = none ∧ (∀ a ∈ s.sup.convAt, a ≤ s.now) ∧ s.sup.resetAt ≠ none) ∧
    (∃ s : State, s.sup.rampDone = true ∧ s.sup.converters = true ∧ s.sup.powerGood = false ∧ (s.sup.timerAt ≠ none ∨ ∃ a ∈ s.sup.convAt, s.now < a)) ∧
    (∃ s : State, (s.sup.latched = true ∨ s.sup.flushAt.isSome = true)) ∧
    (∃ s : State, s.sup.latched = false ∧ s.sup.flushAt = none) ∧
    (∃ a : Nat, ∃ s : State, s.sup.resetAt = some a) ∧
    (∃ a : Nat, ∃ s : State, s.sup.resetAt = some a ∧ s.sup.latched = false ∧ s.sup.powerGood = true ∧ s.sup.flushAt = none) ∧
    (∃ a : Nat, ∃ s : State, s.sup.resetAt = some a ∧ s.sup.latched = true ∧ a + 10000000 ≤ s.now) ∧
    (∃ a : Nat, ∃ s : State, s.sup.resetAt = some a ∧ s.sup.latched = true ∧ s.now < a + 10000000) ∧
    (∃ _mv : Nat, ∃ _ma : Nat, ∃ s : State, s.sup.powered = true) ∧
    (∃ mv : Nat, ∃ _ma : Nat, ∃ s : State, s.sup.powered = true ∧ mv < 42000) ∧
    (∃ mv : Nat, ∃ _ma : Nat, ∃ s : State, s.sup.powered = true ∧ 42000 ≤ mv) ∧
    (∃ s : State, s.sup.pwrWarn = true) ∧
    (∃ s : State, s.sup.pwrWarn = false) ∧
    (∃ s : State, s.sup.pwrWarn = false ∧ s.faults.checkstop = true) ∧
    (∃ s : State, s.sup.pwrWarn = false ∧ s.faults.checkstop = false) ∧
    (∃ s : State, (s.sup.powered = false ∨ s.sup.flushAt = none)) ∧
    (∃ s : State, s.sup.powered = true ∧ s.sup.flushAt ≠ none) ∧
    (∃ s : State, s.sup.powered = false) ∧
    (∃ s : State, s.sup.powered = true) ∧
    (∃ l : List Int, ∃ s : State, (∃ x ∈ l, ↑(s.cfg 32800 2) * 1000 ≤ x)) ∧
    (∃ l : List Int, ∃ s : State, (∀ x ∈ l, x < ↑(s.cfg 32800 2) * 1000)) ∧
    (∃ l : List Int, ∃ s : State, (∀ x ∈ l, x < ↑(s.cfg 32800 2) * 1000) ∧ s.sup.warnRec = true) :=
  ⟨⟨0, run, by decide +kernel⟩,
   ⟨1, run, by decide +kernel⟩,
   ⟨10 ^ 10 - 1000, supOf (fun x => { x with seatHighA := some (10 ^ 10 - 1000) }), by decide +kernel⟩,
   ⟨0, run, by decide +kernel⟩,
   ⟨1, run, by decide +kernel⟩,
   ⟨1, run, by decide +kernel⟩,
   ⟨10 ^ 10 - 10 ^ 8, supOf (fun x => { x with debounced := false, seatLowAt := some (10 ^ 10 - 10 ^ 8) }), by decide +kernel⟩,
   ⟨10 ^ 10 - 10 ^ 8 + 1, supOf (fun x => { x with seatLowAt := some (10 ^ 10 - 10 ^ 8 + 1) }), by decide +kernel⟩,
   ⟨supOf (fun x => { x with switch := false, mv := 60000 }), by decide +kernel⟩,
   ⟨run, by decide +kernel⟩,
   ⟨supOf (fun x => { x with ramping := true }), by decide +kernel⟩,
   ⟨run, by decide +kernel⟩,
   ⟨supOf (fun x => { x with powerGood := false, convAt := [0, 10 ^ 10] }), by decide +kernel⟩,
   ⟨supOf (fun x => { x with powerGood := false }), by decide +kernel⟩,
   ⟨supOf (fun x => { x with powerGood := false, resetAt := some 0 }), by decide +kernel⟩,
   ⟨supOf (fun x => { x with powerGood := false, convAt := [0, 10 ^ 10 + 1] }), by decide +kernel⟩,
   ⟨supOf (fun x => { x with latched := true }), by decide +kernel⟩,
   ⟨run, by decide +kernel⟩,
   ⟨0, supOf (fun x => { x with resetAt := some 0 }), by decide +kernel⟩,
   ⟨0, supOf (fun x => { x with resetAt := some 0 }), by decide +kernel⟩,
   ⟨10 ^ 10 - 10 ^ 7, supOf (fun x => { x with latched := true, resetAt := some (10 ^ 10 - 10 ^ 7) }), by decide +kernel⟩,
   ⟨10 ^ 10 - 10 ^ 7 + 1, supOf (fun x => { x with latched := true, resetAt := some (10 ^ 10 - 10 ^ 7 + 1) }), by decide +kernel⟩,
   ⟨48000, 100000, run, by decide +kernel⟩,
   ⟨41999, 0, run, by decide +kernel⟩,
   ⟨42000, 0, run, by decide +kernel⟩,
   ⟨supOf (fun x => { x with pwrWarn := true }), by decide +kernel⟩,
   ⟨run, by decide +kernel⟩,
   ⟨{ run with faults := { checkstop := true } }, by decide +kernel⟩,
   ⟨run, by decide +kernel⟩,
   ⟨run, by decide +kernel⟩,
   ⟨supOf (fun x => { x with flushAt := some 0 }), by decide +kernel⟩,
   ⟨supOf (fun x => { x with powered := false }), by decide +kernel⟩,
   ⟨run, by decide +kernel⟩,
   ⟨[105 * 1000], run, by decide +kernel⟩,
   ⟨[], run, by decide +kernel⟩,
   ⟨[], supOf (fun x => { x with warnRec := true }), by decide +kernel⟩⟩

theorem witness_TripsAndFlush :
    (∃ s : State, s.sup.switch = true ∧ s.sup.timerAt = none) ∧
    (∃ s : State, (s.sup.switch = false ∨ s.sup.timerAt ≠ none)) ∧
    (∃ s : State, s.sup.timerAt ≠ none) ∧
    (∃ s : State, s.sup.timerAt ≠ none ∧ (s.inMode Mode.seat = true ∨ s.inMode Mode.boot = true)) ∧
    (∃ s : State, s.sup.timerAt ≠ none ∧ s.inMode Mode.seat = false ∧ s.inMode Mode.boot = false) ∧
    (∃ s : State, s.sup.timerAt = none) ∧
    (∃ a : Nat, ∃ s : State, s.sup.timerAt = some a ∧ a + s.sup.timerLimit ≤ s.now) ∧
    (∃ a : Nat, ∃ s : State, s.sup.timerAt = some a ∧ s.now < a + s.sup.timerLimit) ∧
    (∃ s : State, s.sup.powered = true) ∧
    (∃ s : State, s.sup.powerGood = true) ∧
    (∃ s : State, s.sup.powerGood = false) ∧
    (∃ _s : State, ∃ k : Nat, k < 15) ∧
    (∃ k : Nat, ∃ s : State, s.sup.powered = true ∧ k < 5 ∧ s.sup.seatHighA = none ∧ s.sup.seatHighB = none) ∧
    (∃ k : Nat, ∃ s : State, s.sup.powered = true ∧ k < 5 ∧ s.sup.seatHighA = none ∧ s.sup.seatHighB = none ∧ s.sup.latched = false) ∧
    (∃ k : Nat, ∃ s : State, s.sup.powered = true ∧ k < 5 ∧ s.sup.seatHighA = none ∧ s.sup.seatHighB = none ∧ s.sup.latched = true ∧ ∃ _j : Nat, True) ∧
    (∃ k : Nat, ∃ s : State, s.sup.powered = true ∧ k < 5 ∧ s.sup.seatHighA = none ∧ s.sup.seatHighB = none ∧ s.sup.latched = true) ∧
    (∃ k : Nat, ∃ s : State, s.sup.powered = true ∧ k < 5 ∧ s.sup.seatHighA = none ∧ s.sup.seatHighB = none ∧ s.sup.latched = true ∧ s.sup.latchAt / 1000 = s.now / 1000) ∧
    (∃ k : Nat, ∃ s : State, s.sup.powered = true ∧ k < 5 ∧ s.sup.seatHighA = none ∧ s.sup.seatHighB = none ∧ s.sup.latched = true ∧ s.sup.latchAt / 1000 ≠ s.now / 1000) ∧
    (∃ s : State, s.sup.powered = false ∧ ∃ _k : Nat, True) ∧
    (∃ s : State, s.sup.flushAt.isSome = true) ∧
    (∃ s : State, s.sup.flushAt = none ∧ s.inMode Mode.seat = true) ∧
    (∃ s : State, s.sup.flushAt = none ∧ s.inMode Mode.seat = false) ∧
    (∃ s : State, s.inMode Mode.seat = true) ∧
    (∃ s : State, s.inMode Mode.seat = false) ∧
    (∃ s : State, s.sup.flushAt = none) ∧
    (∃ x : Store, (x.staging ≠ [] ∨ x.flush = none)) :=
  ⟨⟨run, by decide +kernel⟩,
   ⟨supOf (fun x => { x with switch := false }), by decide +kernel⟩,
   ⟨supOf (fun x => { x with timerAt := some 0 }), by decide +kernel⟩,
   ⟨inMode .boot (supOf (fun x => { x with timerAt := some 0 })), by decide +kernel⟩,
   ⟨supOf (fun x => { x with timerAt := some 0 }), by decide +kernel⟩,
   ⟨run, by decide +kernel⟩,
   ⟨10 ^ 10 - 8000000, supOf (fun x => { x with timerAt := some (10 ^ 10 - 8000000) }), by decide +kernel⟩,
   ⟨10 ^ 10 - 7999999, supOf (fun x => { x with timerAt := some (10 ^ 10 - 7999999) }), by decide +kernel⟩,
   ⟨run, by decide +kernel⟩,
   ⟨run, by decide +kernel⟩,
   ⟨supOf (fun x => { x with powerGood := false }), by decide +kernel⟩,
   ⟨run, 14, by decide +kernel⟩,
   ⟨4, run, by decide +kernel⟩,
   ⟨4, run, by decide +kernel⟩,
   ⟨4, supOf (fun x => { x with latched := true }), ⟨by decide +kernel, by decide, by decide +kernel, by decide +kernel, by decide +kernel, 0, trivial⟩⟩,
   ⟨4, supOf (fun x => { x with latched := true }), by decide +kernel⟩,
   ⟨4, supOf (fun x => { x with latched := true, latchAt := 10 ^ 10 }), by decide +kernel⟩,
   ⟨4, supOf (fun x => { x with latched := true }), by decide +kernel⟩,
   ⟨supOf (fun x => { x with powered := false }), ⟨by decide +kernel, 3, trivial⟩⟩,
   ⟨supOf (fun x => { x with flushAt := some 0 }), by decide +kernel⟩,
   ⟨inMode .seat run, by decide +kernel⟩,
   ⟨run, by decide +kernel⟩,
   ⟨inMode .seat run, by decide +kernel⟩,
   ⟨run, by decide +kernel⟩,
   ⟨run, by decide +kernel⟩,
   ⟨{}, by decide +kernel⟩⟩

theorem witness_FaultsAndCounters :
    (∃ ext : Option FaultReport, ∃ _s : State, (∀ (f : FaultReport), ext = some f → f.code ≠ 304)) ∧
    (∃ f : FaultReport, ∃ s : State, f.code = 304 ∧ f.cls = deferred ∧ (∀ q < 7, s.queueReady q = false)) ∧
    (∃ f : FaultReport, ∃ s : State, f.code = 304 ∧ f.cls = deferred ∧ ∃ q : Nat, ∃ x : DictReq, ∃ rest : List DictReq, q < 7 ∧ s.dictQueue q = x :: rest ∧ s.pathOpen x.r = true ∧ s.dictTurn q = true) ∧
    (∃ s : State, s.faults.coming = []) ∧
    (∃ s : State, s.faults.coming = [] ∧ ∃ f : FaultReport, faultClass f.code ≠ some f.cls) ∧
    (∃ f : FaultReport, ∃ s : State, s.faults.checkstop = false ∧ faultClass f.code = some f.cls ∧ f.code ≠ 304 ∧ (s.classRec f.cls).st ≠ RecSt.latched ∧ s.faults.coming = []) ∧
    (∃ f : FaultReport, ∃ s : State, s.faults.checkstop = false ∧ faultClass f.code = some f.cls ∧ f.code ≠ 304 ∧ (s.classRec f.cls).st ≠ RecSt.latched ∧ s.faults.coming = [f]) ∧
    (∃ f : FaultReport, ∃ s : State, s.faults.checkstop = false ∧ faultClass f.code = some f.cls ∧ f.code ≠ 304 ∧ (s.classRec f.cls).st = RecSt.latched ∧ f.cls = 4 ∧ s.faults.coming = []) ∧
    (∃ f : FaultReport, ∃ s : State, s.faults.checkstop = false ∧ faultClass f.code = some f.cls ∧ f.code ≠ 304 ∧ (s.classRec f.cls).st = RecSt.latched ∧ f.cls ≠ 4 ∧ s.faults.coming = []) ∧
    (∃ n : Nat, ∃ f : FaultReport, ∃ g : FaultReport, ∃ s : State, s.faults.checkstop = false ∧ f.cls < g.cls ∧ g.cls + n = 4 ∧ (s.classRec g.cls).st ≠ RecSt.latched) ∧
    (∃ n : Nat, ∃ f : FaultReport, ∃ g : FaultReport, ∃ s : State, s.faults.checkstop = false ∧ f.cls < g.cls ∧ g.cls + n = 4 ∧ (s.classRec g.cls).st = RecSt.latched ∧ g.cls = 4) ∧
    (∃ n : Nat, ∃ f : FaultReport, ∃ g : FaultReport, ∃ s : State, s.faults.checkstop = false ∧ f.cls < g.cls ∧ g.cls + n = 4 ∧ (s.classRec g.cls).st = RecSt.latched ∧ g.cls ≠ 4) ∧
    (∃ f : FaultReport, f.code < 65536 ∧ f.cls < 8) ∧
    (∃ f : FaultReport, ∃ _esc : Bool, ∃ s : State, s.faults.classes.length = 5 ∧ f.cls ≤ 4) ∧
    (∃ f : FaultReport, ∃ _esc : Bool, ∃ s : State, s.faults.classes.length = 5 ∧ f.cls ≤ 4 ∧ (s.classRec f.cls).st = RecSt.empty) ∧
    (∃ f : FaultReport, ∃ _esc : Bool, ∃ s : State, s.faults.classes.length = 5 ∧ f.cls ≤ 4 ∧ (s.classRec f.cls).st ≠ RecSt.empty) ∧
    (∃ f : FaultReport, ∃ _esc : Bool, ∃ s : State, s.faults.classes.length = 5 ∧ f.cls ≤ 4 ∧ s.faults.queue.length < 4096) ∧
    (∃ f : FaultReport, ∃ _esc : Bool, ∃ s : State, s.faults.classes.length = 5 ∧ f.cls ≤ 4 ∧ 4096 ≤ s.faults.queue.length) ∧
    (∃ _f : FaultReport, ∃ _esc : Bool, ∃ s : State, s.island 14 = true) ∧
    (∃ _f : FaultReport, ∃ _esc : Bool, ∃ s : State, s.island 14 = false) ∧
    (∃ f : FaultReport, ∃ s : State, s.faults.checkstop = true ∧ s.faults.classes.length = 5 ∧ faultClass f.code = some f.cls ∧ f.code ≠ 304 ∧ s.faults.coming = []) ∧
    (∃ f : FaultReport, ∃ s : State, s.faults.checkstop = true ∧ s.faults.classes.length = 5 ∧ faultClass f.code = some f.cls ∧ f.code ≠ 304 ∧ s.faults.coming = [] ∧ s.faults.queue.length < 4096) ∧
    (∃ f : FaultReport, ∃ s : State, s.faults.checkstop = true ∧ s.faults.classes.length = 5 ∧ faultClass f.code = some f.cls ∧ f.code ≠ 304 ∧ s.faults.coming = [] ∧ 4096 ≤ s.faults.queue.length) ∧
    (∃ r : Req, ∃ idx : Nat, ∃ sub : Nat, ∃ len : Nat, ∃ v : Nat, ∃ w : Nat, ∃ s : State, idx ≠ 49153 ∧ ¬(idx = 49154 ∧ sub = 2) ∧ Safety.passes s r idx sub len v w) ∧
    (∃ _g : Nat, ∃ _k : Nat, ∃ v : Nat, ∃ s : State, v = 1 ∧ s.cfg 40962 1 = 0 ∧ s.present (bf (s.cfg 40962 3) 0 8) = true) ∧
    (∃ _g : Nat, ∃ _k : Nat, ∃ v : Nat, ∃ _s : State, v = 0) ∧
    (∃ _wraps : Bool, ∃ w : Nat, ∃ n : Nat, w < 2 ^ 50 ∧ n ≤ 4096) ∧
    (∃ _wraps : Bool, ∃ w : Nat, ∃ n : Nat, w < 2 ^ 50 ∧ n ≤ 4096 ∧ w % 2 ^ 48 + n < 2 ^ 48) ∧
    (∃ wraps : Bool, ∃ w : Nat, ∃ n : Nat, w < 2 ^ 50 ∧ n ≤ 4096 ∧ 2 ^ 48 ≤ w % 2 ^ 48 + n ∧ wraps = true) ∧
    (∃ wraps : Bool, ∃ w : Nat, ∃ n : Nat, w < 2 ^ 50 ∧ n ≤ 4096 ∧ 2 ^ 48 ≤ w % 2 ^ 48 + n ∧ wraps = false) ∧
    (∃ s : State, s.readerOn = true ∧ bitAt s.ring 16 = true ∧ (if s.ftUsable = true then   s.ftNs % (s.cfg 40962 2 * 1000) < 2 ∧     (s.ftNs / (s.cfg 40962 2 * 1000) ≠ s.ctrs.snapFt / (s.cfg 40962 2 * 1000) ∨ s.ctrs.snapAt + 4 ≤ s.now) else s.ctrs.snapAt + s.cfg 40962 2 * 1000 ≤ s.now)) ∧
    (∃ s : State, s.readerOn = true ∧ bitAt s.ring 16 = true ∧ (if s.ftUsable = true then   2 ≤ s.ftNs % (s.cfg 40962 2 * 1000) ∨     s.ftNs / (s.cfg 40962 2 * 1000) = s.ctrs.snapFt / (s.cfg 40962 2 * 1000) ∧ s.now < s.ctrs.snapAt + 4 else s.now < s.ctrs.snapAt + s.cfg 40962 2 * 1000)) ∧
    (∃ s : State, (s.readerOn = false ∨ bitAt s.ring 16 = false)) :=
  ⟨⟨some { code := 0x0B60, cls := fatalDevice, tile := 12 }, run, fun f h => by cases h; decide⟩,
   ⟨{ code := 0x0130, cls := deferred, tile := 13 }, run, by decide +kernel⟩,
   ⟨{ code := 0x0130, cls := deferred, tile := 13 }, { run with dict := { queues := [(1, [{ r := mgmtReq, pdu := [] }])] } }, ⟨rfl, rfl, 1, { r := mgmtReq, pdu := [] }, [], by decide +kernel⟩⟩,
   ⟨run, by decide +kernel⟩,
   ⟨run, ⟨rfl, { code := 0x0210, cls := 3, tile := 8 }, by decide⟩⟩,
   ⟨{ code := 0x0B60, cls := fatalDevice, tile := 12 }, run, by decide +kernel⟩,
   ⟨{ code := 0x0B60, cls := fatalDevice, tile := 12 }, { run with faults := { coming := [{ code := 0x0B60, cls := fatalDevice, tile := 12 }] } }, by decide +kernel⟩,
   ⟨{ code := 0x0B60, cls := fatalDevice, tile := 12 }, { run with faults := { classes := List.replicate 5 { st := .latched } } }, by decide +kernel⟩,
   ⟨{ code := 0x0210, cls := 0, tile := 8 }, { run with faults := { classes := List.replicate 5 { st := .latched } } }, by decide +kernel⟩,
   ⟨3, { code := 0x0210, cls := 0, tile := 8 }, { code := 0x0210, cls := 1, tile := 8 }, run, by decide +kernel⟩,
   ⟨0, { code := 0x0210, cls := 0, tile := 8 }, { code := 0x0210, cls := 4, tile := 8 }, { run with faults := { classes := List.replicate 5 { st := .latched } } }, by decide +kernel⟩,
   ⟨3, { code := 0x0210, cls := 0, tile := 8 }, { code := 0x0210, cls := 1, tile := 8 }, { run with faults := { classes := List.replicate 5 { st := .latched } } }, by decide +kernel⟩,
   ⟨{ code := 0xFFFF, cls := 7, tile := 14 }, by decide +kernel⟩,
   ⟨{ code := 0x0210, cls := 4, tile := 8 }, true, run, by decide +kernel⟩,
   ⟨{ code := 0x0210, cls := 4, tile := 8 }, false, run, by decide +kernel⟩,
   ⟨{ code := 0x0210, cls := 4, tile := 8 }, false, { run with faults := { classes := List.replicate 5 { st := .acked } } }, by decide +kernel⟩,
   ⟨{ code := 0x0210, cls := 4, tile := 8 }, false, run, by decide +kernel⟩,
   ⟨{ code := 0x0210, cls := 4, tile := 8 }, false, { run with faults := { classes := List.replicate 5 { st := .empty }, queue := List.replicate 4096 ⟨0, 0x0210, 0, false, 8, 0, none, none, 4, 0, 1⟩ } }, by decide +kernel⟩,
   ⟨{ code := 0x0210, cls := 0, tile := 8 }, false, run, by decide +kernel⟩,
   ⟨{ code := 0x0210, cls := 0, tile := 8 }, false, { run with arch := {} }, by decide +kernel⟩,
   ⟨{ code := 0x0B60, cls := fatalDevice, tile := 12 }, { run with faults := { classes := List.replicate 5 { st := .empty }, checkstop := true } }, by decide +kernel⟩,
   ⟨{ code := 0x0B60, cls := fatalDevice, tile := 12 }, { run with faults := { classes := List.replicate 5 { st := .empty }, checkstop := true } }, by decide +kernel⟩,
   ⟨{ code := 0x0B60, cls := fatalDevice, tile := 12 }, { run with faults := { classes := List.replicate 5 { st := .empty }, checkstop := true, queue := List.replicate 4096 ⟨0, 0x0210, 0, false, 8, 0, none, none, 4, 0, 1⟩ } }, by decide +kernel⟩,
   ⟨⟨.fw, 0, 7⟩, 0x300A, 1, 4, 500, 500, run, ⟨by decide, by decide, ⟨by decide +kernel, by decide +kernel, by decide +kernel, by decide +kernel, { idx := 0x300A, lo := 1, hi := 1, ty := 3, acc := .live, len := 4, dflt := 1000, persist := true }, by decide +kernel, by decide +kernel, fun _ => by decide +kernel⟩⟩⟩,
   ⟨0, 1, 1, run, by decide +kernel⟩,
   ⟨0, 1, 0, run, by decide +kernel⟩,
   ⟨true, 2 ^ 50 - 1, 4096, by decide +kernel⟩,
   ⟨true, 2 ^ 48 - 4097, 4096, by decide +kernel⟩,
   ⟨true, 2 ^ 48 - 1, 1, by decide +kernel⟩,
   ⟨false, 2 ^ 48 - 1, 1, by decide +kernel⟩,
   ⟨(run.setCfg 0xA002 1 1).setCfg 0xA002 3 (2 ^ 16), by decide +kernel⟩,
   ⟨{ (run.setCfg 0xA002 1 1).setCfg 0xA002 3 (2 ^ 16) with ctrs := { snapAt := 10 ^ 10 } }, by decide +kernel⟩,
   ⟨run, by decide +kernel⟩⟩

theorem witness_AcknowledgesAndClears :
    (∃ r : Req, ∃ k : Nat, ∃ v : Nat, ∃ w : Nat, ∃ s : State, Safety.passes s r 36865 k 8 v w) ∧
    (∃ _r : Req, ∃ k : Nat, ∃ v : Nat, ∃ s : State, (k = 1 ∨ k = 2) ∧ v % 8 ≤ 4 ∧ s.faults.checkstop = false) ∧
    (∃ _g : Nat, ∃ v : Nat, ∃ s : State, s.faults.classes.length = 5 ∧ v % 8 ≤ 4) ∧
    (∃ _g : Nat, ∃ v : Nat, ∃ s : State, s.faults.classes.length = 5 ∧ v % 8 ≤ 4 ∧ (s.classRec (v % 8)).st = RecSt.latched) ∧
    (∃ _g : Nat, ∃ v : Nat, ∃ s : State, s.faults.classes.length = 5 ∧ v % 8 ≤ 4 ∧ (s.classRec (v % 8)).st = RecSt.acked) :=
  ⟨⟨⟨.fw, 0, 7⟩, 1, 256, 256, { run with faults := { classes := List.replicate 5 { st := .latched, record := some ⟨0, 0x0210, 0, false, 8, 0, none, none, 4, 0, 1⟩ } } }, ⟨by decide +kernel, by decide +kernel, by decide +kernel, by decide +kernel, { idx := 0x9001, lo := 1, hi := 1, ty := 4, acc := .live, len := 8, dflt := 0, mask := some (2 ^ 64 - 1 - 0xF8) }, by decide +kernel, by decide +kernel, fun _ => by decide +kernel⟩⟩,
   ⟨mgmtReq, 1, 4, run, by decide +kernel⟩,
   ⟨0, 4, run, by decide +kernel⟩,
   ⟨0, 4, { run with faults := { classes := List.replicate 5 { st := .latched } } }, by decide +kernel⟩,
   ⟨0, 4, { run with faults := { classes := List.replicate 5 { st := .acked } } }, by decide +kernel⟩⟩

theorem witness_StoreEvents :
    (∃ b : Nat, ∃ s : State, s.flashRuns = true ∧ b ∉ s.store.grown ∧ ∃ i : StageItem, ∃ rest : List StageItem, s.store.staging = i :: rest ∧ (s.transfer 10 i.size false).2 = false) ∧
    (∃ b : Nat, ∃ s : State, s.flashRuns = true ∧ b ∉ s.store.grown ∧ ∃ i : StageItem, ∃ rest : List StageItem, s.store.staging = i :: rest) ∧
    (∃ b : Nat, ∃ s : State, s.flashRuns = true ∧ b ∉ s.store.grown ∧ ∃ i : StageItem, ∃ rest : List StageItem, s.store.staging = i :: rest ∧ (s.transfer 10 i.size false).2 = true) ∧
    (∃ b : Nat, ∃ s : State, (s.flashRuns = false ∨ b ∈ s.store.grown)) ∧
    (∃ b : Nat, ∃ s : State, s.flashRuns = true ∧ b ∉ s.store.grown) ∧
    (∃ b : Nat, ∃ s : State, s.flashRuns = true ∧ b ∉ s.store.grown ∧ 1025 ≤ s.store.usable) ∧
    (∃ b : Nat, ∃ s : State, s.flashRuns = true ∧ b ∉ s.store.grown ∧ s.store.usable < 1025) ∧
    (∃ k : Nat, ∃ x : StoreRead, ∃ s : State, s.island 13 = true ∧ (List.find? (fun (y : StoreRead) => y.id == k) s.store.reads = some x) ∧ ∃ _res : FlashRead, True) ∧
    (∃ k : Nat, ∃ x : StoreRead, ∃ s : State, s.island 13 = true ∧ (List.find? (fun (y : StoreRead) => y.id == k) s.store.reads = some x) ∧ ∃ res : FlashRead, s.store.st ≠ 3 ∧ ∃ n : Nat, ∃ retried : Bool, res = FlashRead.good n retried) ∧
    (∃ k : Nat, ∃ x : StoreRead, ∃ s : State, s.island 13 = true ∧ (List.find? (fun (y : StoreRead) => y.id == k) s.store.reads = some x) ∧ ∃ res : FlashRead, (s.store.st = 3 ∨ res = FlashRead.unreadable)) ∧
    (∃ k : Nat, ∃ _res : FlashRead, ∃ s : State, (s.island 13 = false ∨ List.find? (fun (y : StoreRead) => y.id == k) s.store.reads = none)) ∧
    (∃ _b : Nat, ∃ site : FlashSite, ∃ _res : FlashRead, ∃ s : State, s.flashRuns = true ∧ s.store.scrubbing = true ∧ site ∈ s.flashSites) ∧
    (∃ _b : Nat, ∃ site : FlashSite, ∃ res : FlashRead, ∃ s : State, s.flashRuns = true ∧ s.store.scrubbing = true ∧ site ∈ s.flashSites ∧ res ≠ FlashRead.unreadable) ∧
    (∃ _b : Nat, ∃ site : FlashSite, ∃ res : FlashRead, ∃ s : State, s.flashRuns = true ∧ s.store.scrubbing = true ∧ site ∈ s.flashSites ∧ res = FlashRead.unreadable) ∧
    (∃ b : Nat, ∃ site : FlashSite, ∃ res : FlashRead, ∃ s : State, s.flashRuns = true ∧ s.store.scrubbing = true ∧ site ∈ s.flashSites ∧ b ∉ s.store.refreshing ∧ b ∉ s.store.grown ∧ ∃ n : Nat, ∃ retried : Bool, res = FlashRead.good n retried) ∧
    (∃ _b : Nat, ∃ site : FlashSite, ∃ _res : FlashRead, ∃ s : State, (s.flashRuns = false ∨   site ≠ FlashSite.flush ∧ (s.store.scrubbing = false ∨ site ∉ s.flashSites) ∨     site = FlashSite.flush ∧ s.inMode Mode.boot = false)) ∧
    (∃ _b : Nat, ∃ _site : FlashSite, ∃ _res : FlashRead, ∃ s : State, s.flashRuns = true ∧ s.inMode Mode.boot = true) ∧
    (∃ _s : State, ∃ k : Nat, k < 2 ^ 26) ∧
    (∃ s : State, ∃ f : Nat, ∃ page : Nat, ∃ g : FlashPage, s.store.pages.get? (f * 2 ^ 28 + page) = some g) ∧
    (∃ b : Nat, ∃ s : State, s.flashRuns = true ∧ (b ∈ s.store.refreshing ∨ s.mayLevel b = true)) ∧
    (∃ b : Nat, ∃ s : State, ∃ _done : Bool, (s.flashRuns = false ∨ b ∉ s.store.refreshing ∧ s.mayLevel b = false)) ∧
    (∃ s : State, s.flashRuns = true ∧ s.store.scrubbing = true ∧ s.store.scrubBehind = false ∧ s.store.scrubAt + s.cfg 45056 5 * 3600000000000 < s.now) ∧
    (∃ s : State, (s.store.scrubBehind = true ∨ s.now ≤ s.store.scrubAt + s.cfg 45056 5 * 3600000000000)) ∧
    (∃ _d : Nat, ∃ s : State, s.island 13 = true) ∧
    (∃ _d : Nat, ∃ s : State, s.island 13 = false) ∧
    (∃ r : Req, ∃ idx : Nat, ∃ sub : Nat, ∃ len : Nat, ∃ v : Nat, ∃ w : Nat, ∃ s : State, idx ≠ 49153 ∧ ¬(idx = 49154 ∧ sub = 2) ∧ Safety.passes s r idx sub len v w) :=
  ⟨⟨7, shutAll (storeOf (fun x => { x with staging := [.journal 5 6] })), ⟨by decide +kernel, by decide +kernel, .journal 5 6, [], rfl, shut_transfer _ _ _ _ _ (Or.inr (by decide +kernel)) rfl⟩⟩,
   ⟨7, storeOf (fun x => { x with staging := [.journal 5 6] }), ⟨by decide +kernel, by decide +kernel, .journal 5 6, [], rfl⟩⟩,
   ⟨7, openAll (storeOf (fun x => { x with staging := [.journal 5 6] })), ⟨by decide +kernel, by decide +kernel, .journal 5 6, [], rfl, open_transfer _ _ _ _ _ (by decide) (by decide) (Or.inr (by decide +kernel)) rfl⟩⟩,
   ⟨7, storeOf (fun x => { x with grown := [7] }), by decide +kernel⟩,
   ⟨65535, run, by decide +kernel⟩,
   ⟨7, storeOf (fun x => { x with spare := 1025 + factoryBad }), ⟨by decide +kernel, by decide +kernel, by simp [Store.usable, storeOf]⟩⟩,
   ⟨7, storeOf (fun x => { x with spare := 0 }), ⟨by decide +kernel, by decide +kernel, by simp [Store.usable, storeOf]⟩⟩,
   ⟨4, ⟨4, { fn := 0, ctx := 5, psn := 7, opc := opRead, rkey := 0x10001, raddr := 0, len := 8 }, []⟩, storeOf (fun x => { x with reads := [⟨4, { fn := 0, ctx := 5, psn := 7, opc := opRead, rkey := 0x10001, raddr := 0, len := 8 }, []⟩] }), ⟨by decide +kernel, rfl, .unreadable, trivial⟩⟩,
   ⟨4, ⟨4, { fn := 0, ctx := 5, psn := 7, opc := opRead, rkey := 0x10001, raddr := 0, len := 8 }, []⟩, storeOf (fun x => { x with reads := [⟨4, { fn := 0, ctx := 5, psn := 7, opc := opRead, rkey := 0x10001, raddr := 0, len := 8 }, []⟩] }), ⟨by decide +kernel, rfl, .good 3 true, by decide +kernel, 3, true, rfl⟩⟩,
   ⟨4, ⟨4, { fn := 0, ctx := 5, psn := 7, opc := opRead, rkey := 0x10001, raddr := 0, len := 8 }, []⟩, storeOf (fun x => { x with reads := [⟨4, { fn := 0, ctx := 5, psn := 7, opc := opRead, rkey := 0x10001, raddr := 0, len := 8 }, []⟩] }), ⟨by decide +kernel, rfl, .unreadable, Or.inr rfl⟩⟩,
   ⟨4, .unreadable, run, by decide +kernel⟩,
   ⟨7, .pool 1 2, .unreadable, storeOf (fun x => { x with scrubbing := true, pages := [(2 ^ 28 + 2, { unreadable := false })] }), by decide +kernel⟩,
   ⟨7, .pool 1 2, .good 0 false, storeOf (fun x => { x with scrubbing := true, pages := [(2 ^ 28 + 2, { unreadable := false })] }), by decide +kernel⟩,
   ⟨7, .pool 1 2, .unreadable, storeOf (fun x => { x with scrubbing := true, pages := [(2 ^ 28 + 2, { unreadable := false })] }), by decide +kernel⟩,
   ⟨7, .pool 1 2, .good 3 true, storeOf (fun x => { x with scrubbing := true, pages := [(2 ^ 28 + 2, { unreadable := false })] }), ⟨by decide +kernel, by decide +kernel, by decide +kernel, by decide +kernel, by decide +kernel, 3, true, rfl⟩⟩,
   ⟨7, .pool 1 2, .unreadable, storeOf (fun x => { x with scrubbing := true }), by decide +kernel⟩,
   ⟨7, .flush, .unreadable, inMode .boot run, by decide +kernel⟩,
   ⟨run, 2 ^ 26 - 1, by decide +kernel⟩,
   ⟨storeOf (fun x => { x with pages := [(2 ^ 28 + 2, { unreadable := false })] }), 1, 2, { unreadable := false }, by decide +kernel⟩,
   ⟨7, storeOf (fun x => { x with refreshing := [7] }), by decide +kernel⟩,
   ⟨7, run, true, by decide +kernel⟩,
   ⟨{ storeOf (fun x => { x with scrubbing := true }) with now := 10 ^ 20 }, by decide +kernel⟩,
   ⟨{ run with now := 0 }, by decide +kernel⟩,
   ⟨63, run, by decide +kernel⟩,
   ⟨63, { run with arch := {} }, by decide +kernel⟩,
   ⟨⟨.fw, 0, 7⟩, 0x300A, 1, 4, 500, 500, run, ⟨by decide, by decide, ⟨by decide +kernel, by decide +kernel, by decide +kernel, by decide +kernel, { idx := 0x300A, lo := 1, hi := 1, ty := 3, acc := .live, len := 4, dflt := 1000, persist := true }, by decide +kernel, by decide +kernel, fun _ => by decide +kernel⟩⟩⟩⟩

theorem witness_FirmwareAndTrust :
    (∃ s : State, s.inMode Mode.boot = true ∧ s.mode.bootHeld = false ∧ s.sup.flushAt = none ∧ (∀ j ∈ s.fw.bootOrder, s.fw.verify (s.fw.slot j) ≠ 0)) ∧
    (∃ s : State, (s.inMode Mode.boot = false ∨ s.mode.bootHeld = true ∨ s.sup.flushAt.isSome = true)) ∧
    (∃ _x : Firmware, ∃ y : Slot, y.unread = true) ∧
    (∃ r : Req, ∃ idx : Nat, ∃ sub : Nat, ∃ len : Nat, ∃ v : Nat, ∃ w : Nat, ∃ s : State, idx ≠ 49153 ∧ ¬(idx = 49154 ∧ sub = 2) ∧ Safety.passes s r idx sub len v w) ∧
    (∃ r : Req, ∃ v : Nat, ∃ w : Nat, ∃ s : State, s.trialOver = false ∧ Safety.passes s r 49154 2 4 v w) ∧
    (∃ r : Req, ∃ sub : Nat, ∃ v : Nat, ∃ b : List Byte, ∃ o : Obj, ∃ s : State, s.atOnce r = true ∧ s.keptFor r (writeHdr r 49153 sub b.length) = none ∧ s.openCheck r 49153 sub b.length = none ∧ s.obj? 49153 sub = some o ∧ o.persist = false ∧ (v = if sub = 2 then 0 else o.valueOf b) ∧ s.valueCheck r 49153 sub v = none) ∧
    (∃ _b : List Byte, ∃ s : State, ∃ k : Nat, k < 2 ∧ s.fw.upSlot = some k) ∧
    (∃ _b : List Byte, ∃ s : State, ∃ k : Nat, k < 2 ∧ s.fw.upSlot = some k ∧ (s.fw.verify     (have __src := s.fw.slot k;     { __src with image := List.take (imageLen (s.fw.slot k).hdr) (s.fw.slot k).image }) ≠   0)) ∧
    (∃ b : List Byte, ∃ s : State, ∃ k : Nat, k < 2 ∧ s.fw.upSlot = some k ∧ (s.fw.upOff ≠ 0 ∨ s.fw.headerCheck (List.take 4096 ((s.fw.slot k).image ++ b)) = 0)) ∧
    (∃ b : List Byte, ∃ s : State, ∃ k : Nat, k < 2 ∧ s.fw.upSlot = some k ∧ s.fw.upOff = 0 ∧ s.fw.headerCheck (List.take 4096 ((s.fw.slot k).image ++ b)) ≠ 0) ∧
    (∃ _g : Nat, ∃ k : Nat, ∃ _s : State, k < 2) ∧
    (∃ _g : Nat, ∃ k : Nat, ∃ s : State, k < 2 ∧ s.fw.verify (s.fw.slot k) ≠ 0) ∧
    (∃ s : State, s.fw.phase = 3 ∧ s.fw.loadAt + 60000000000 ≤ s.now) ∧
    (∃ s : State, (s.fw.phase ≠ 3 ∨ s.now < s.fw.loadAt + 60000000000)) ∧
    (∃ s : State, s.fw.phase = 3) ∧
    (∃ s : State, s.fw.phase = 3 ∧ iCfg (s.fw.slot s.fw.newSlot).hdr = iCfg (s.fw.slot s.fw.oldSlot).hdr) ∧
    (∃ s : State, s.fw.phase = 3 ∧ iCfg (s.fw.slot s.fw.newSlot).hdr ≠ iCfg (s.fw.slot s.fw.oldSlot).hdr) ∧
    (∃ s : State, s.fw.phase ≠ 3) ∧
    (∃ s : State, s.mode.changing = true) ∧
    (∃ s : State, s.mode.changing = false ∧ s.fw.fallDue = none ∧ s.fw.phase ≠ 4) ∧
    (∃ s : State, s.mode.changing = false ∧ ∃ k : Nat, s.fw.fallDue = some k) ∧
    (∃ s : State, s.mode.changing = false ∧ s.fw.fallDue = none ∧ s.fw.phase = 4) ∧
    (∃ s : State, s.fw.phase ≠ 5) ∧
    (∃ s : State, s.fw.phase = 5) ∧
    (∃ s : State, ∃ a : Nat, s.fw.trialAt = some a ∧ a + 600000000000 ≤ s.now) ∧
    (∃ s : State, ∃ a : Nat, s.fw.trialAt = some a ∧ s.now < a + 600000000000) ∧
    (∃ s : State, s.fw.trialAt = none) ∧
    (∃ _k : Nat, ∃ s : State, s.fw.phase ≠ 5) ∧
    (∃ _k : Nat, ∃ s : State, s.fw.phase = 5 ∧ s.mode.changing = true) ∧
    (∃ _k : Nat, ∃ s : State, s.fw.phase = 5 ∧ s.mode.changing = false) ∧
    (∃ _g : Nat, ∃ _v : Nat, ∃ s : State, s.fw.oldSlot ≠ s.fw.newSlot ∧ s.fw.oldSlot < 3 ∧ s.fw.newSlot < 2) ∧
    (∃ _g : Nat, ∃ k : Nat, ∃ _s : State, k < 4) ∧
    (∃ _g : Nat, ∃ k : Nat, ∃ _v : Nat, ∃ s : State, k ∈ s.fw.signing) ∧
    (∃ _g : Nat, ∃ k : Nat, ∃ _v : Nat, ∃ s : State, k ∉ s.fw.signing) :=
  ⟨⟨inMode .boot (fwOf id), by decide +kernel⟩,
   ⟨run, by decide +kernel⟩,
   ⟨{}, { unread := true }, by decide +kernel⟩,
   ⟨⟨.fw, 0, 7⟩, 0x300A, 1, 4, 500, 500, run, ⟨by decide, by decide, ⟨by decide +kernel, by decide +kernel, by decide +kernel, by decide +kernel, { idx := 0x300A, lo := 1, hi := 1, ty := 3, acc := .live, len := 4, dflt := 1000, persist := true }, by decide +kernel, by decide +kernel, fun _ => by decide +kernel⟩⟩⟩,
   ⟨⟨.fw, 0, 7⟩, 0, 0, fwOf (fun x => { x with phase := 5, selftest := true }), ⟨by decide +kernel, ⟨by decide +kernel, by decide +kernel, by decide +kernel, by decide +kernel, { idx := 0xC002, lo := 2, hi := 2, ty := 3, acc := .live, len := 4, dflt := 0 }, by decide +kernel, by decide +kernel, fun _ => by decide +kernel⟩⟩⟩,
   ⟨⟨.fw, 0, 7⟩, 2, 0, List.replicate 65536 0, { idx := 0xC001, lo := 2, hi := 2, ty := 10, acc := .live, len := 65536, dflt := 0 }, fwOf (fun x => { x with phase := 1, upSlot := some 0 }), by simp only [List.length_replicate]; decide +kernel⟩,
   ⟨[], fwOf (fun x => { x with upSlot := some 1 }), 1, by decide +kernel⟩,
   ⟨[], fwOf (fun x => { x with upSlot := some 1 }), 1, by decide +kernel⟩,
   ⟨[1], fwOf (fun x => { x with upSlot := some 1, upOff := 4096 }), 1, by decide +kernel⟩,
   ⟨[1], fwOf (fun x => { x with upSlot := some 1 }), 1, by decide +kernel⟩,
   ⟨0, 1, run, by decide +kernel⟩,
   ⟨0, 1, fwOf id, by decide +kernel⟩,
   ⟨{ fwOf (fun x => { x with phase := 3, loadAt := 0 }) with now := 60 * 10 ^ 9 }, by decide +kernel⟩,
   ⟨fwOf (fun x => { x with phase := 3 }), by decide +kernel⟩,
   ⟨fwOf (fun x => { x with phase := 3 }), by decide +kernel⟩,
   ⟨fwOf (fun x => { x with phase := 3 }), by decide +kernel⟩,
   ⟨fwOf (fun x => { x with phase := 3, newSlot := 1, s1 := { image := List.replicate 512 1 } }), by decide +kernel⟩,
   ⟨run, by decide +kernel⟩,
   ⟨modeStOf (fun m => { m with changing := true, target := .hold }), by decide +kernel⟩,
   ⟨run, by decide +kernel⟩,
   ⟨fwOf (fun x => { x with fallDue := some 1 }), ⟨by decide +kernel, 1, rfl⟩⟩,
   ⟨fwOf (fun x => { x with phase := 4 }), by decide +kernel⟩,
   ⟨run, by decide +kernel⟩,
   ⟨fwOf (fun x => { x with phase := 5 }), by decide +kernel⟩,
   ⟨{ fwOf (fun x => { x with trialAt := some 0 }) with now := 600 * 10 ^ 9 }, 0, by decide +kernel⟩,
   ⟨fwOf (fun x => { x with trialAt := some 0 }), 0, by decide +kernel⟩,
   ⟨run, by decide +kernel⟩,
   ⟨1, run, by decide +kernel⟩,
   ⟨1, { fwOf (fun x => { x with phase := 5 }) with mode := { changing := true } }, by decide +kernel⟩,
   ⟨1, fwOf (fun x => { x with phase := 5 }), by decide +kernel⟩,
   ⟨0, 1, fwOf (fun x => { x with oldSlot := 2, newSlot := 1 }), by decide +kernel⟩,
   ⟨0, 3, run, by decide +kernel⟩,
   ⟨0, 1, 1, fwOf (fun x => { x with signing := [1] }), by decide +kernel⟩,
   ⟨0, 1, 1, run, by decide +kernel⟩⟩

/-- The clauses with an image that passes every check: the crypto of R394 is not evaluated, so they are met from any
image `y` that passes. -/
theorem witness_FirmwareAndTrust_image (y : Slot) (hy : ({} : Firmware).verify y = 0) :
    (∃ pre : List Nat, ∃ k : Nat, ∃ rest : List Nat, ∃ s : State, s.inMode Mode.boot = true ∧ s.mode.bootHeld = false ∧ s.sup.flushAt = none ∧ s.fw.bootOrder = pre ++ k :: rest ∧ (∀ j ∈ pre, s.fw.verify (s.fw.slot j) ≠ 0) ∧ s.fw.verify (s.fw.slot k) = 0) ∧
    (∃ pre : List Nat, ∃ k : Nat, ∃ rest : List Nat, ∃ s : State, s.inMode Mode.boot = true ∧ s.mode.bootHeld = false ∧ s.sup.flushAt = none ∧ s.fw.bootOrder = pre ++ k :: rest ∧ (∀ j ∈ pre, s.fw.verify (s.fw.slot j) ≠ 0) ∧ s.fw.verify (s.fw.slot k) = 0 ∧ 1024 ≤ s.store.usable) ∧
    (∃ x : Firmware, ∃ y : Slot, x.verify y = 0) ∧
    (∃ _b : List Byte, ∃ s : State, ∃ k : Nat, k < 2 ∧ s.fw.upSlot = some k ∧ (s.fw.verify     (have __src := s.fw.slot k;     { __src with image := List.take (imageLen (s.fw.slot k).hdr) (s.fw.slot k).image }) =   0)) ∧
    (∃ _g : Nat, ∃ k : Nat, ∃ s : State, k < 2 ∧ s.fw.verify (s.fw.slot k) = 0) :=
  ⟨⟨[], 0, [2], inMode .boot (fwOf (fun x => { x with s0 := { y with st := .confirmed } })), ⟨rfl, rfl, rfl, rfl, (fun _ h => nomatch h), hy⟩⟩,
   ⟨[], 0, [2], { inMode .boot (fwOf (fun x => { x with s0 := { y with st := .confirmed } })) with store := { spare := 1024 + factoryBad } }, ⟨rfl, rfl, rfl, rfl, (fun _ h => nomatch h), hy, by simp [Store.usable]⟩⟩,
   ⟨{}, y, hy⟩,
   ⟨[], fwOf (fun x => { x with s1 := y, upSlot := some 1 }), 1, ⟨by decide, rfl, verify_take y hy⟩⟩,
   ⟨0, 1, fwOf (fun x => { x with s1 := y }), ⟨by decide, hy⟩⟩⟩

end Sys2Proof.Tests
end

section
/-! SUPPORT. How a host port trains and comes up (R9, R32 to R34, R37, R415), and the proof of HostPortTraining. -/

namespace Sys2Proof.Machine

/-! ### A port's state, and the port of a PF -/

/-- Changing a host port depends only on what the change makes of the port as it stands. -/
theorem State.modHost_congr (s : State) (h : Nat) {f g : HostPort → HostPort} (hfg : f (s.hostPort h) = g (s.hostPort h)) :
    s.modHost h f = s.modHost h g := by
  simp only [State.modHost, hfg]

@[simp] theorem etOf_pf (h : Nat) : etOf (64 * h) = h := Nat.mul_div_cancel_left h (by decide)

@[simp] theorem isPf_pf (h : Nat) : isPf (64 * h) = true := by simp [isPf]

/-! ### A function that comes to exist (R38) -/

theorem State.fnAppear_of_absent (s : State) {f : Nat} (h : (s.fn f).state = 0) :
    s.fnAppear f = (s.modFn f (fun x => { x with state := 1 })).fnConfigure f := if_pos h

/-- A function that comes to exist has what the host has set for it (R32, R41). -/
theorem State.fnAppear_fn (s : State) {f : Nat} (h : (s.fn f).state = 0) :
    (s.fnAppear f).fn f = { s.fn f with
      state := 1, bar0 := hostBar (s.hostPort (etOf f)).cfg f, memOn := true
      msix := (s.hostPort (etOf f)).cfg.msix.getD (f % 64) {} } := by
  simp [s.fnAppear_of_absent h, State.fnConfigure]

theorem State.fnAppear_fn_other (s : State) {f g : Nat} (h : g ≠ f) : (s.fnAppear f).fn g = s.fn g := by
  unfold State.fnAppear
  split
  · exact (State.modFn_fn_other _ _ h).trans (State.modFn_fn_other _ _ h)
  · rfl

theorem State.fnAppear_frame (s : State) (f : Nat) : ∃ fns, s.fnAppear f = { s with fns := fns } := by
  unfold State.fnAppear
  split
  · exact ⟨_, rfl⟩
  · exact ⟨s.fns, rfl⟩

@[simp] theorem State.fnAppear_hostPort (s : State) (f h : Nat) : (s.fnAppear f).hostPort h = s.hostPort h := by
  obtain ⟨fns, e⟩ := s.fnAppear_frame f
  rw [e]; rfl

/-! ### The link commands -/

theorem exec_perstNRelease {hp : Nat} {s : State} (hon : s.pcieOn hp = true) (hd : (s.hostPort hp).train = .detect) :
    exec (.perstNRelease hp) s = .next (s.modHost hp (fun x => { x with perst := false, train := .training })) :=
  congrArg Host.Outcome.next (s.modHost_congr hp (by simp [hon, hd]))

theorem exec_hostTrainRetry {hp : Nat} {s : State} (hon : s.pcieOn hp = true) (hd : (s.hostPort hp).train = .detect)
    (hr : (s.hostPort hp).perst = false) (hat : (s.hostPort hp).retryAt ≤ s.now) :
    exec (.hostTrainRetry hp) s = .next (s.modHost hp (fun x => { x with train := .training })) :=
  congrArg Host.Outcome.next (if_pos (by simp [hon, hd, hr, hat]))

theorem exec_hostLinkUp {hp : Nat} {s : State} (rate : Nat) (lanes : HostLanes) (flit : Bool) (cfg : HostCfg)
    (hon : s.pcieOn hp = true) (ht : (s.hostPort hp).train = .training) (hr : (s.hostPort hp).perst = false) :
    exec (.hostLinkUp hp rate lanes flit cfg) s = .next (s.hostUp hp rate lanes.width flit lanes.reversed cfg) :=
  congrArg Host.Outcome.next (if_pos (by simp [hon, ht, hr]))

theorem exec_perstNAssert_down {hp : Nat} {s : State} (hn : (s.hostPort hp).train ≠ .l0) :
    exec (.perstNAssert hp) s = .next (s.modHost hp (fun x => { x with perst := true, train := .detect })) :=
  congrArg (fun t : State => Host.Outcome.next (t.modHost hp _)) (if_neg hn)

/-- A port as it comes up in L0 with what its host sets (R9, R34). -/
def HostPort.up (x : HostPort) (rate width : Nat) (reversed : Bool) (cfg : HostCfg) : HostPort :=
  { x with train := .l0, rate := rate, width := width, flit := true, reversed := reversed
           mps := cfg.mps, mrrs := cfg.mrrs, cfg := cfg }

theorem State.hostUp_flit (s : State) (h rate : Nat) {width : Nat} (reversed : Bool) (cfg : HostCfg) (hw : 4 ≤ width) :
    s.hostUp h rate width true reversed cfg = (s.modHost h (fun x => x.up rate width reversed cfg)).fnAppear (64 * h) :=
  if_pos (by simp [hw])

/-- A partner that is not in Flit mode at ×4 or more, on a port that has met one in this power cycle or has not (R9). -/
theorem State.hostUp_refused (s : State) (h rate : Nat) {width : Nat} {flit : Bool} (reversed : Bool) (cfg : HostCfg)
    (hw : flit = false ∨ width < 4) :
    s.hostUp h rate width flit reversed cfg =
      (if (s.hostPort h).noFlitRecorded then s else s.report { code := 0x0230, cls := corrected, tile := 8 + h }).modHost h
        (fun x => { x with train := .detect, noFlitRecorded := true, retryAt := s.now + 100 * ms }) := by
  have hno : ¬ (flit && decide (4 ≤ width)) = true := by
    rcases hw with rfl | hw
    · simp
    · simp [Nat.not_le.mpr hw]
  rw [State.hostUp, if_neg hno]
  split <;> rfl

/-! ### What each step leaves of the other ports -/

/-- A step that changes one host port and nothing else. -/
theorem modHost_step (s : State) (h : Nat) (f : HostPort → HostPort) :
    (s.modHost h f).hostPort h = f (s.hostPort h) ∧ (∀ k, k ≠ h → (s.modHost h f).hostPort k = s.hostPort k) ∧
      s.modHost h f = { s with hosts := (s.modHost h f).hosts } :=
  ⟨State.modHost_hostPort s h f, fun _ hk => State.modHost_hostPort_other s f hk, rfl⟩

/-- A port that comes up, and its PF (R9, R32, R34). -/
theorem hostUp_flit_step (s : State) (h rate : Nat) {width : Nat} (reversed : Bool) (cfg : HostCfg) (hw : 4 ≤ width)
    {t : State} (ht : t = s.hostUp h rate width true reversed cfg) :
    t.hostPort h = (s.hostPort h).up rate width reversed cfg ∧ (∀ k, k ≠ h → t.hostPort k = s.hostPort k) ∧
      ((s.fn (64 * h)).state = 0 →
        (t.fn (64 * h)).state = 1 ∧ (t.fn (64 * h)).bar0 = cfg.bar0 / 2 ^ 25 * 2 ^ 25 ∧ (t.fn (64 * h)).memOn = true) ∧
      (∀ f, f ≠ 64 * h → t.fn f = s.fn f) ∧ t = { s with hosts := t.hosts, fns := t.fns } := by
  rw [State.hostUp_flit s h rate reversed cfg hw] at ht
  subst ht
  refine ⟨by simp, fun k hk => ?_, fun hf => ?_, fun f hf => ?_, ?_⟩
  · rw [State.fnAppear_hostPort, State.modHost_hostPort_other s _ hk]
  · rw [State.fnAppear_fn (s.modHost h (fun x => x.up rate width reversed cfg)) hf]
    simp [hostBar, HostPort.up]
  · exact State.fnAppear_fn_other _ hf
  · obtain ⟨fns, e⟩ := (s.modHost h (fun x => x.up rate width reversed cfg)).fnAppear_frame (64 * h)
    rw [e]; rfl

/-- A port whose partner is refused: one CORRECTED 0x0230 per power cycle, and the next retry 100 ms later (R9). -/
theorem hostUp_refused_step (s : State) (h rate : Nat) {width : Nat} {flit : Bool} (reversed : Bool) (cfg : HostCfg)
    (hw : flit = false ∨ width < 4) {t : State} (ht : t = s.hostUp h rate width flit reversed cfg) :
    t.hostPort h = { s.hostPort h with train := .detect, noFlitRecorded := true, retryAt := s.now + 100 * ms } ∧
      (∀ k, k ≠ h → t.hostPort k = s.hostPort k) ∧
      t.faults.coming = s.faults.coming ++
        (if (s.hostPort h).noFlitRecorded then [] else [{ code := 0x0230, cls := corrected, tile := 8 + h }]) ∧
      t = { s with hosts := t.hosts, faults := { s.faults with coming := t.faults.coming } } := by
  rw [State.hostUp_refused s h rate reversed cfg hw] at ht
  subst ht
  cases (s.hostPort h).noFlitRecorded with
  | true =>
    obtain ⟨hport, hother, hframe⟩ := modHost_step s h
      (fun x => { x with train := .detect, noFlitRecorded := true, retryAt := s.now + 100 * ms })
    exact ⟨hport, hother, (List.append_nil _).symm, hframe⟩
  | false =>
    obtain ⟨hport, hother, -⟩ := modHost_step (s.report { code := 0x0230, cls := corrected, tile := 8 + h }) h
      (fun x => { x with train := .detect, noFlitRecorded := true, retryAt := s.now + 100 * ms })
    exact ⟨hport, hother, rfl, rfl⟩

/-- Settles O7: each command is one change of its port, and coming up adds the appearance of the port's PF. -/
theorem hostPortTraining : Obligations.HostPortTraining := by
  unfold Obligations.HostPortTraining
  refine ⟨?release, ?retry, ?up, ?refused, ?assert⟩
  case release =>
    intro hp s hon hd
    exact ⟨_, exec_perstNRelease hon hd, modHost_step s hp _⟩
  case retry =>
    intro hp s hon hd hr hat
    exact ⟨_, exec_hostTrainRetry hon hd hr hat, modHost_step s hp _⟩
  case up =>
    intro hp rate width reversed cfg s hon ht hr hw
    exact ⟨_, exec_hostLinkUp rate _ true cfg hon ht hr, hostUp_flit_step s hp rate reversed cfg hw rfl⟩
  case refused =>
    intro hp rate width flit reversed cfg s hon ht hr hw
    exact ⟨_, exec_hostLinkUp rate _ flit cfg hon ht hr, hostUp_refused_step s hp rate reversed cfg hw rfl⟩
  case assert =>
    intro hp s hn
    exact ⟨_, exec_perstNAssert_down hn, modHost_step s hp _⟩

end Sys2Proof.Machine
end

section
/-! SUPPORT. How requests and frames arrive (R8, R42, R308, R323 to R325, R328, R416, R423): the dictionary's queues, the
MAILBOX pages, the management port's frames, and the proof of RequestsReachTheEngine. -/

namespace Sys2Proof.Machine

/-! ### Lengths of PDUs -/

@[simp] theorem natLe_length (n v : Nat) : (natLe n v).length = n := by
  induction n generalizing v with
  | zero => rfl
  | succ n ih => simp [natLe, ih]

@[simp] theorem respPdu_length (svc txid idx sub off total : Nat) (last aborted : Bool) (data : List Byte) :
    (respPdu svc txid idx sub off total last aborted data).length = 16 + data.length := by
  simp [respPdu]

/-- The first `n` bytes of a list that reads 0 past its end (R42). -/
def takePadded (n : Nat) (l : List Byte) : List Byte := (l ++ List.replicate (n - l.length) 0).take n

@[simp] theorem takePadded_length (n : Nat) (l : List Byte) : (takePadded n l).length = n := by
  simp only [takePadded, List.length_take, List.length_append, List.length_replicate]; omega

theorem takePadded_within {n k : Nat} {l : List Byte} (hk : k < l.length) (hn : k < n) : (takePadded n l)[k]? = l[k]? := by
  rw [takePadded, List.getElem?_take_of_lt hn, List.getElem?_append_left hk]

theorem takePadded_beyond {n k : Nat} {l : List Byte} (hk : l.length ≤ k) (hn : k < n) : (takePadded n l)[k]? = some 0 := by
  rw [takePadded, List.getElem?_take_of_lt hn, List.getElem?_append_right hk, List.getElem?_replicate, if_pos (by omega)]

/-! ### The dictionary's queues -/

@[simp] theorem State.enqueue_dictQueue (s : State) (x : DictReq) :
    (s.enqueue x).dictQueue (queueOf x.r) = s.dictQueue (queueOf x.r) ++ [x] := by
  simp [State.enqueue, State.modDict, State.dictQueue]

theorem State.enqueue_dictQueue_other (s : State) {x : DictReq} {q : Nat} (h : q ≠ queueOf x.r) :
    (s.enqueue x).dictQueue q = s.dictQueue q := by
  simp [State.enqueue, State.modDict, State.dictQueue, Tbl.getD_put_other _ _ _ h]

@[simp] theorem State.enqueue_fn (s : State) (x : DictReq) (f : Nat) : (s.enqueue x).fn f = s.fn f := rfl

/-! ### Answers to a host -/

theorem State.respond_host_fn (s : State) (f src txid source : Nat) (pdu : List Byte) :
    (s.respond { pr := .host f, src := src, txid := txid } source pdu).fn f =
      { s.fn f with mbResp := pdu.take 2048, mbGo := false } := by
  simp only [State.respond]
  split <;> exact State.modFn_fn _ _ _

theorem State.respond_host_frame (s : State) (f src txid source : Nat) (pdu : List Byte) :
    ∃ fns counts, s.respond { pr := .host f, src := src, txid := txid } source pdu =
      { s with fns := fns, dict := { s.dict with counts := counts } } := by
  simp only [State.respond]
  split
  · exact ⟨_, _, rfl⟩
  · exact ⟨_, s.dict.counts, rfl⟩

/-! ### MAILBOX pages (R42, R325) -/

section Mailbox
variable {s : State} {f ctrl : Nat} {buf : List Byte}

theorem State.mailbox_absent (hp : s.present f = false) : s.mailbox f ctrl buf = s := if_pos (by simp [hp])

variable (hp : s.present f = true) (hc : s.faults.checkstop = false) (hm : s.inMode .seat = false)
include hp hc hm

/-- While a request is outstanding only the buffer is written. -/
theorem State.mailbox_outstanding (hg : (s.fn f).mbGo = true) :
    s.mailbox f ctrl buf = s.modFn f (fun x => { x with mbReq := buf.take 2044 }) := by
  simp [State.mailbox, hp, hc, hm, hg]

theorem State.mailbox_noGo (hg : (s.fn f).mbGo = false) (hb : bitAt ctrl 0 = false) :
    s.mailbox f ctrl buf = s.modFn f (fun x => { x with mbReq := buf, mbLen := bf ctrl 1 11, mbGo := false }) := by
  simp [State.mailbox, hp, hc, hm, hg, hb]

theorem State.mailbox_badLength (hg : (s.fn f).mbGo = false) (hb : bitAt ctrl 0 = true)
    (hl : bf ctrl 1 11 = 0 ∨ 511 < bf ctrl 1 11) :
    s.mailbox f ctrl buf =
      (s.modFn f (fun x => { x with mbReq := buf, mbLen := bf ctrl 1 11, mbGo := true })).countReq.respond
        { pr := .host f, src := 0, txid := dTxid (pduHdr buf) } 0
        (respPdu (dService (pduHdr buf)) (dTxid (pduHdr buf)) 0 0 0 (abortCode .badPdu) false true []) := by
  simp [State.mailbox, hp, hc, hm, hg, hb, hl]

theorem State.mailbox_taken (hg : (s.fn f).mbGo = false) (hb : bitAt ctrl 0 = true)
    (hlo : 1 ≤ bf ctrl 1 11) (hhi : bf ctrl 1 11 ≤ 511) :
    s.mailbox f ctrl buf =
      (s.modFn f (fun x => { x with mbReq := buf, mbLen := bf ctrl 1 11, mbGo := true })).enqueue
        { r := { pr := .host f, src := 0, txid := dTxid (pduHdr buf) }, pdu := takePadded (4 * bf ctrl 1 11) buf } := by
  have hl : ¬ (bf ctrl 1 11 = 0 ∨ 511 < bf ctrl 1 11) := by omega
  simp [State.mailbox, hp, hc, hm, hg, hb, hl, takePadded]

end Mailbox

/-! ### The management port's frame buffer (R87, R93, R323) -/

/-- `t` is `s` after transfers between the management port and its buffer, which the amber LED shows (R416). -/
def State.Buffered (s t : State) : Prop :=
  ∃ acu free sram bad coming, t = { s with
    dict := { s.dict with amberAt := some s.now }, acu := acu, free := free
    priv := { s.priv with sram := sram, bad := bad }, faults := { s.faults with coming := coming } }

/-- `t` differs from `s` in what transfers of the management port change, and in nothing else. -/
theorem State.Buffered.frame {s t : State} (h : s.Buffered t) :
    t = { s with
      dict := { s.dict with amberAt := some s.now }, acu := t.acu, free := t.free
      priv := { s.priv with sram := t.priv.sram, bad := t.priv.bad }, faults := { s.faults with coming := t.faults.coming } } := by
  obtain ⟨acu, free, sram, bad, coming, rfl⟩ := h
  rfl

theorem State.Buffered.out {s t : State} (h : s.Buffered t) : t.out = s.out := by rw [h.frame]

theorem State.Buffered.dict {s t : State} (h : s.Buffered t) : t.dict = { s.dict with amberAt := some s.now } := by rw [h.frame]

/-- A frame that came into its buffer. -/
theorem State.transfer_in_buffered (s : State) (len : Nat) (d : List Byte) :
    s.Buffered (State.transfer { s with dict := { s.dict with amberAt := some s.now } } 11 len true d).1 := by
  rw [State.transfer_frame _ 11 len true d (Or.inl (by decide))]
  exact ⟨_, _, _, _, _, rfl⟩

/-- A frame that goes out from its buffer. -/
theorem State.Buffered.transfer_out {s t : State} (h : s.Buffered t) (len : Nat) : s.Buffered (t.transfer 11 len false).1 := by
  rw [State.transfer_frame _ 11 len false [] (Or.inl (by decide))]
  obtain ⟨acu, free, sram, bad, coming, rfl⟩ := h
  exact ⟨_, _, _, _, _, rfl⟩

theorem State.Buffered.amber {s t : State} (h : s.Buffered t) : s.Buffered (t.modDict (fun d => { d with amberAt := some t.now })) := by
  obtain ⟨acu, free, sram, bad, coming, rfl⟩ := h
  exact ⟨_, _, _, _, _, rfl⟩

/-- A frame that is sent is emitted if its transfer is performed. -/
theorem State.Buffered.frameOut {s t : State} (h : s.Buffered t) (len : Nat) (o : Out) :
    ∃ u, s.Buffered u ∧ t.frameOut len o = if (t.transfer 11 len false).2 then u.emit o else u := by
  have hx := h.transfer_out len
  unfold State.frameOut
  generalize t.transfer 11 len false = y at hx ⊢
  obtain ⟨u, ok⟩ := y
  cases ok with
  | true => exact ⟨_, hx.amber, rfl⟩
  | false => exact ⟨u, hx, rfl⟩

theorem State.Buffered.dictQueue {s t : State} (h : s.Buffered t) (q : Nat) : t.dictQueue q = s.dictQueue q := by
  rw [State.dictQueue, h.dict]; rfl

theorem State.Buffered.mgmtAllows {s t : State} (h : s.Buffered t) (v6 : Bool) (addr : Nat) :
    t.mgmtAllows v6 addr = s.mgmtAllows v6 addr := by
  rw [h.frame]; rfl

/-! ### Datagrams (R323) -/

/-- The request of a datagram. -/
def dgramReq (src : Nat) (v6 : Bool) (dest : Nat) (pdu : List Byte) : DictReq :=
  { r := { pr := .mgmt, src := src + (if v6 then 2 ^ 144 else 0), txid := dTxid (pduHdr pdu) }, pdu := pdu, dest := dest }

/-- Bit 144 of a source says its address is an IPv6 one. -/
theorem v6_mark (v6 : Bool) (n : Nat) : b2n v6 * n = if v6 then n else 0 := by
  cases v6 <;> simp [b2n]

/-- What is left of a datagram's arrival once its frame has gone to its buffer, or has been refused there. -/
theorem State.datagram_transferred {s : State} {src dest : Nat} {v6 : Bool} {pdu : List Byte} {u : State × Bool}
    (hopen : s.pathOpen (dgramReq src v6 dest pdu).r = true)
    (hlink : s.dict.mgmtLink = true) (howns : s.mgmtOwns v6 dest = true) (hfit : datagramLen v6 pdu + 4 ≤ 1518)
    (hu : u = State.transfer { s with dict := { s.dict with amberAt := some s.now } } 11 (datagramLen v6 pdu) true
      (s.frameBytes (if v6 then 62 else 42) pdu)) :
    s.datagram src v6 dest pdu =
      if u.2 = true ∧ u.1.mgmtAllows v6 (src / 65536) = true then
        if 64 ≤ (u.1.dictQueue 1).length then u.1.dictCount 5 else u.1.enqueue (dgramReq src v6 dest pdu)
      else u.1 := by
  have hpass : ¬ (!s.pathOpen (dgramReq src v6 dest pdu).r || !s.dict.mgmtLink || !s.mgmtOwns v6 dest
      || !frameFits (datagramLen v6 pdu)) = true := by
    simp [hopen, hlink, howns, frameFits, hfit]
  have hx : (s.modDict (fun d => { d with amberAt := some s.now })).transfer 11 (datagramLen v6 pdu) true
      (s.frameBytes (if v6 then 62 else 42) pdu) = u := hu.symm
  simp only [State.datagram, v6_mark, hx]
  refine (if_neg hpass).trans ?_
  cases u.2 <;> cases u.1.mgmtAllows v6 (src / 65536) <;> rfl

theorem State.datagram_discarded {s : State} (src : Nat) {dest : Nat} {v6 : Bool} {pdu : List Byte}
    (h : s.dict.mgmtLink = false ∨ s.mgmtOwns v6 dest = false ∨ 1518 < datagramLen v6 pdu + 4) :
    s.datagram src v6 dest pdu = s := by
  refine if_pos ?_
  rcases h with h | h | h
  · simp [h]
  · simp [h]
  · simp [frameFits, Nat.not_le.mpr h]

/-- A datagram to the device joins the MGMT queue, is counted beyond 64, or is dropped (R323). -/
theorem datagram_step {s : State} {src dest : Nat} {v6 : Bool} {pdu : List Byte} {u : State × Bool}
    (hopen : s.pathOpen (dgramReq src v6 dest pdu).r = true)
    (hlink : s.dict.mgmtLink = true) (howns : s.mgmtOwns v6 dest = true) (hfit : datagramLen v6 pdu + 4 ≤ 1518)
    (hu : u = State.transfer { s with dict := { s.dict with amberAt := some s.now } } 11 (datagramLen v6 pdu) true
      (s.frameBytes (if v6 then 62 else 42) pdu)) {t : State} (ht : t = s.datagram src v6 dest pdu) :
    (u.2 = true → s.mgmtAllows v6 (src / 65536) = true → (s.dictQueue 1).length < 64 →
        t.dictQueue 1 = s.dictQueue 1 ++ [dgramReq src v6 dest pdu] ∧ t.dict.counts = s.dict.counts) ∧
      (u.2 = true → s.mgmtAllows v6 (src / 65536) = true → 64 ≤ (s.dictQueue 1).length →
        t.dict.queues = s.dict.queues ∧ t.dict.counts = bump s.dict.counts 5 1) ∧
      ((u.2 = false ∨ s.mgmtAllows v6 (src / 65536) = false) →
        t.dict.queues = s.dict.queues ∧ t.dict.counts = s.dict.counts) ∧
      (∀ q, q ≠ 1 → t.dictQueue q = s.dictQueue q) ∧
      t = { s with
        dict := { s.dict with queues := t.dict.queues, counts := t.dict.counts, amberAt := some s.now }, acu := t.acu, free := t.free
        priv := { s.priv with sram := t.priv.sram, bad := t.priv.bad }, faults := { s.faults with coming := t.faults.coming } } := by
  have hB : s.Buffered u.1 := hu ▸ s.transfer_in_buffered _ _
  rw [State.datagram_transferred hopen hlink howns hfit hu, hB.mgmtAllows, hB.dictQueue] at ht
  obtain ⟨v, stored⟩ := u
  obtain ⟨acu, free, sram, bad, coming, rfl⟩ := hB
  by_cases hin : stored = true ∧ s.mgmtAllows v6 (src / 65536) = true
  · have hno : ¬ (stored = false ∨ s.mgmtAllows v6 (src / 65536) = false) := by simp [hin]
    rw [if_pos hin] at ht
    by_cases hfull : 64 ≤ (s.dictQueue 1).length
    · rw [if_pos hfull] at ht
      subst ht
      exact ⟨fun _ _ h => absurd hfull (Nat.not_le.mpr h), fun _ _ _ => ⟨rfl, rfl⟩, fun h => absurd h hno, fun _ _ => rfl, rfl⟩
    · rw [if_neg hfull] at ht
      subst ht
      exact ⟨fun _ _ _ => ⟨State.enqueue_dictQueue _ (dgramReq src v6 dest pdu), rfl⟩, fun _ _ h => absurd h hfull,
        fun h => absurd h hno, fun _ hq => State.enqueue_dictQueue_other _ (x := dgramReq src v6 dest pdu) hq, rfl⟩
  · rw [if_neg hin] at ht
    subst ht
    exact ⟨fun hs ha => absurd ⟨hs, ha⟩ hin, fun hs ha => absurd ⟨hs, ha⟩ hin, fun _ => ⟨rfl, rfl⟩, fun _ _ => rfl, rfl⟩

/-! ### MAILBOX writes -/

/-- A MAILBOX request of 1 to 511 words is at the end of its port's queue, padded with zeros to its words (R42). -/
theorem mailbox_taken_step {s : State} {f ctrl : Nat} {buf : List Byte} (hp : s.present f = true)
    (hg : (s.fn f).mbGo = false) (hc : s.faults.checkstop = false) (hm : s.inMode .seat = false) (hb : bitAt ctrl 0 = true)
    (hlo : 1 ≤ bf ctrl 1 11) (hhi : bf ctrl 1 11 ≤ 511) {t : State} (ht : t = s.mailbox f ctrl buf) :
    t.dictQueue (3 + etOf f) = s.dictQueue (3 + etOf f) ++
        [{ r := { pr := .host f, src := 0, txid := dTxid (pduHdr buf) }, pdu := takePadded (4 * bf ctrl 1 11) buf }] ∧
      (∀ q, q ≠ 3 + etOf f → t.dictQueue q = s.dictQueue q) ∧
      t.fn f = { s.fn f with mbReq := buf, mbLen := bf ctrl 1 11, mbGo := true } ∧
      t = { s with fns := t.fns, dict := { s.dict with queues := t.dict.queues } } := by
  rw [State.mailbox_taken hp hc hm hg hb hlo hhi] at ht
  subst ht
  exact ⟨State.enqueue_dictQueue _ _, fun _ hq => State.enqueue_dictQueue_other _ hq, by simp, rfl⟩

/-- A MAILBOX request of no words, or of more than 511, is answered BAD_PDU at once (R42). -/
theorem mailbox_badLength_step {s : State} {f ctrl : Nat} {buf : List Byte} (hp : s.present f = true)
    (hg : (s.fn f).mbGo = false) (hc : s.faults.checkstop = false) (hm : s.inMode .seat = false) (hb : bitAt ctrl 0 = true)
    (hl : bf ctrl 1 11 = 0 ∨ 511 < bf ctrl 1 11) {t : State} (ht : t = s.mailbox f ctrl buf) :
    (t.fn f).mbGo = false ∧
      (t.fn f).mbResp = respPdu (dService (pduHdr buf)) (dTxid (pduHdr buf)) 0 0 0 0x08010000 false true [] ∧
      t = { s with fns := t.fns, dict := { s.dict with counts := t.dict.counts }, ctrs := t.ctrs } := by
  rw [State.mailbox_badLength hp hc hm hg hb hl] at ht
  have hfn := congrArg (fun x : State => x.fn f) ht
  simp only [State.respond_host_fn] at hfn
  refine ⟨by rw [hfn], ?_, ?_⟩
  · rw [hfn]; exact List.take_of_length_le (by simp)
  · obtain ⟨fns, counts, e⟩ := State.respond_host_frame
      (s.modFn f (fun x => { x with mbReq := buf, mbLen := bf ctrl 1 11, mbGo := true })).countReq f 0 (dTxid (pduHdr buf)) 0
      (respPdu (dService (pduHdr buf)) (dTxid (pduHdr buf)) 0 0 0 (abortCode .badPdu) false true [])
    rw [ht, e]; rfl

/-! ### The fabric (R324) -/

/-- The request of an MGT packet. -/
def mgtReq (k : Packet) : DictReq :=
  { r := { pr := .fabric, src := fabricSrc k.sform k.srcDev, txid := dTxid k.ext }, pdu := mgtPdu k }

theorem State.mgtRequest_of_find {s : State} {k : Packet} (hk : s.dict.rx.find? isRequest = some k) :
    s.mgtRequest = (s.modDict (fun d => { d with rx := d.rx.erase k })).enqueue (mgtReq k) := by
  unfold State.mgtRequest
  rw [hk]; rfl

/-- The first MGT request that was delivered leaves for the FABRIC queue. -/
theorem mgtRequest_step {s : State} {k : Packet} (hk : s.dict.rx.find? isRequest = some k) {t : State} (ht : t = s.mgtRequest) :
    t.dict.rx = s.dict.rx.erase k ∧ t.dictQueue 2 = s.dictQueue 2 ++ [mgtReq k] ∧ (∀ q, q ≠ 2 → t.dictQueue q = s.dictQueue q) ∧
      t = { s with dict := { s.dict with rx := t.dict.rx, queues := t.dict.queues } } := by
  rw [State.mgtRequest_of_find hk] at ht
  subst ht
  exact ⟨rfl, State.enqueue_dictQueue _ (mgtReq k), fun _ hq => State.enqueue_dictQueue_other _ (x := mgtReq k) hq, rfl⟩

/-! ### Frames that carry no request (R8) -/

theorem exec_mgmtFrameRx {x : MgmtFrame} {s : State} {u : State × Bool} (hi : s.island 12 = true) (hl : s.dict.mgmtLink = true)
    (hu : u = State.transfer { s with dict := { s.dict with amberAt := some s.now } } 11 x.size true (s.frameBytes x.size [])) :
    exec (.mgmtFrameRx x) s = .next (
      if u.2 = true ∧ (u.1.frameAnswered x && frameFits x.size) = true then u.1.frameOut x.size (.mgmtReply x) else u.1) := by
  have hx : (s.modDict (fun d => { d with amberAt := some s.now })).transfer 11 x.size true (s.frameBytes x.size []) = u := hu.symm
  refine congrArg Host.Outcome.next ((if_pos (by simp [hi, hl])).trans ?_)
  simp only [hx]
  cases u.2 <;> cases u.1.frameAnswered x <;> cases frameFits x.size <;> rfl

/-- A frame that comes into its buffer is answered if it is one of R8's, fits, and its answer may go out from there. -/
theorem mgmtFrameRx_step {x : MgmtFrame} {s : State} {u : State × Bool} (hi : s.island 12 = true) (hl : s.dict.mgmtLink = true)
    (hu : u = State.transfer { s with dict := { s.dict with amberAt := some s.now } } 11 x.size true (s.frameBytes x.size [])) :
    ∃ t : State, exec (.mgmtFrameRx x) s = .next t ∧
      (u.2 = true → (u.1.transfer 11 x.size false).2 = true →
        t.out = (if u.1.frameAnswered x && frameFits x.size then s.out ++ [.mgmtReply x] else s.out)) ∧
      (u.2 = false → t.out = s.out) ∧
      t = { s with
        out := t.out, dict := { s.dict with amberAt := some s.now }, acu := t.acu, free := t.free
        priv := { s.priv with sram := t.priv.sram, bad := t.priv.bad }, faults := { s.faults with coming := t.faults.coming } } := by
  refine ⟨_, exec_mgmtFrameRx hi hl hu, ?_⟩
  have hB : s.Buffered u.1 := hu ▸ s.transfer_in_buffered _ _
  by_cases hans : u.2 = true ∧ (u.1.frameAnswered x && frameFits x.size) = true
  · obtain ⟨hstored, hreply⟩ := hans
    obtain ⟨w, hw, hsend⟩ := hB.frameOut x.size (.mgmtReply x)
    rw [if_pos ⟨hstored, hreply⟩, hsend]
    refine ⟨fun _ hsent => ?_, fun hno => absurd (hno.symm.trans hstored) (by decide), ?_⟩
    · rw [if_pos hsent, if_pos hreply, State.emit_out, hw.out]
    · obtain ⟨acu, free, sram, bad, coming, rfl⟩ := hw
      split <;> rfl
  · rw [if_neg hans]
    refine ⟨fun hstored _ => ?_, fun _ => hB.out, ?_⟩
    · rw [if_neg (fun hreply => hans ⟨hstored, hreply⟩), hB.out]
    · obtain ⟨acu, free, sram, bad, coming, hv⟩ := hB
      rw [hv]

/-! ### The SMBus (R328) -/

theorem exec_smbusBlockRead_acknowledged {addr cmd : Nat} {o : Nat × Nat} {s : State} (hi : s.island 12 = true)
    (ha : addr = 0x58 + s.dict.smbAddr) (ho : smbObject cmd = some o) :
    exec (.smbusBlockRead addr cmd) s = .next (s.emit (.smbus (some (s.smbBlock addr cmd o)))) := by
  have h : (s.island 12 && addr == 0x58 + s.dict.smbAddr) = true := by simp [hi, ha]
  refine congrArg (fun l => Host.Outcome.next (s.emit (.smbus l))) ((if_pos h).trans ?_)
  rw [ho]; rfl

theorem exec_smbusBlockRead_silent {addr cmd : Nat} {s : State}
    (h : s.island 12 = false ∨ addr ≠ 0x58 + s.dict.smbAddr ∨ smbObject cmd = none) :
    exec (.smbusBlockRead addr cmd) s = .next (s.emit (.smbus none)) := by
  refine congrArg (fun l => Host.Outcome.next (s.emit (.smbus l))) ?_
  rcases h with h | h | h
  · exact if_neg (by simp [h])
  · exact if_neg (by simp [h])
  · rw [h]; exact ite_self _

/-- Settles O50: each path's command is brought to what it does with its request, and the transfers of the management port's
frames are known by what they change. -/
theorem requestsReachTheEngine : Obligations.RequestsReachTheEngine := by
  unfold Obligations.RequestsReachTheEngine
  refine ⟨?go, ?write, ?datagram, ?discarded, ?mgt, ?link, ?frame, ?answered, ?smbus, ?silent, fun _ => rfl⟩
  case go =>
    intro f ctrl buf s hp hg hc hm hb
    refine ⟨fun hlo hhi => ?_, fun hl => ⟨_, rfl, mailbox_badLength_step hp hg hc hm hb hl rfl⟩⟩
    obtain ⟨hqueue, hothers, hfn, hframe⟩ := mailbox_taken_step (buf := buf) hp hg hc hm hb hlo hhi rfl
    exact ⟨_, _, rfl, hqueue, rfl, takePadded_length _ _, fun _ => takePadded_within, fun _ => takePadded_beyond, hothers, hfn, hframe⟩
  case write =>
    intro f ctrl buf s
    refine ⟨fun hp => congrArg Host.Outcome.next (State.mailbox_absent hp), fun hp hc hm => ⟨_, rfl, fun hg => ?_, fun hg hb => ?_⟩⟩
    · rw [State.mailbox_outstanding hp hc hm hg]; exact ⟨State.modFn_fn s f _, rfl⟩
    · rw [State.mailbox_noGo hp hc hm hg hb]; exact ⟨State.modFn_fn s f _, rfl⟩
  case datagram =>
    intro src dest v6 pdu s u hopen hlink howns hfit hu
    exact ⟨_, rfl, datagram_step (dest := dest) hopen hlink howns hfit hu rfl⟩
  case discarded =>
    intro src dest v6 pdu s h
    exact congrArg Host.Outcome.next (State.datagram_discarded src h)
  case mgt =>
    intro k s hk
    exact ⟨_, rfl, mgtRequest_step hk rfl⟩
  case link =>
    intro up mdix s
    exact ⟨fun h => congrArg Host.Outcome.next (if_pos h), fun h => congrArg Host.Outcome.next (if_neg (by simp [h]))⟩
  case frame =>
    intro x s u hi hl hu
    exact mgmtFrameRx_step hi hl hu
  case answered =>
    exact fun _ => ⟨rfl, rfl, rfl, fun _ => ⟨rfl, rfl⟩⟩
  case smbus =>
    intro addr cmd o s hi ha ho
    exact ⟨_, rfl, exec_smbusBlockRead_acknowledged hi ha ho⟩
  case silent =>
    intro addr cmd s h
    exact exec_smbusBlockRead_silent h

end Sys2Proof.Machine
end

section
/-! SUPPORT. Address translation (R64 to R85): what a leaf gives an access, the TOKEN of an invalidation, table reads of
walks; the proofs of LeafRights and InvalidationsComplete, and the refutation of WalkEntries. -/

namespace Sys2Proof.Machine

/-! ### The rights of a leaf (R69, R71) -/

/-- The leaf has the rights on memory that an access needs, U aside (R69). -/
def Leaf.grants (l : Leaf) (k : AccKind) : Prop :=
  ((k = .read ∨ k = .atomic) → l.r = true) ∧ ((k = .write ∨ k = .atomic) → l.w = true)

theorem leafFault_allowed {k : AccKind} {l : Leaf} (hk : k ≠ .fetch) (hg : l.grants k) (hu : l.u = true) : leafFault k l = none := by
  obtain ⟨hr, hw⟩ := hg
  cases k with
  | read => simp [leafFault, hr, hu]
  | write => simp [leafFault, hw, hu]
  | atomic => simp [leafFault, hr, hw, hu]
  | fetch => exact absurd rfl hk

theorem leafFault_noRight {k : AccKind} {l : Leaf}
    (h : (k = .read ∨ k = .atomic) ∧ l.r = false ∨ (k = .write ∨ k = .atomic) ∧ l.w = false) : leafFault k l = some xRights := by
  rcases h with ⟨rfl | rfl, hr⟩ | ⟨rfl | rfl, hw⟩
  · simp only [leafFault, hr, Bool.not_false, if_true]
  · simp only [leafFault, hr, Bool.false_and, Bool.not_false, if_true]
  · simp only [leafFault, hw, Bool.not_false, if_true]
  · simp only [leafFault, hw, Bool.and_false, Bool.not_false, if_true]

theorem leafFault_noUser {k : AccKind} {l : Leaf} (hg : l.grants k) (hu : l.u = false) : leafFault k l = some xUser := by
  obtain ⟨hr, hw⟩ := hg
  cases k with
  | read => simp [leafFault, hr, hu]
  | write => simp [leafFault, hw, hu]
  | atomic => simp [leafFault, hr, hw, hu]
  | fetch => rfl

theorem State.leafAccess_of_fault (s : State) (f va level : Nat) {k : AccKind} {l : Leaf} {code : Nat}
    (h : leafFault k l = some code) : s.leafAccess f va level k l = .fault code level := by
  simp only [State.leafAccess, State.leafBy, h]

theorem State.leafAccess_of_allowed (s : State) (f va level : Nat) {k : AccKind} {l : Leaf} (h : leafFault k l = none) :
    s.leafAccess f va level k l =
      if s.forbidden (etOf f) (l.out + va % 2 ^ l.log2) then .fault xTarget level else .ok (l.out + va % 2 ^ l.log2) := by
  simp only [State.leafAccess, State.leafBy, h]
  rfl

/-- A bus address is forbidden by a BAR0 of its port that decodes, or by one of the port's eight ranges (R71, R73). -/
theorem State.forbidden_iff (s : State) (hp a : Nat) : s.forbidden hp a = true ↔
    (∃ e ∈ s.fns, etOf e.1 = hp ∧ e.2.memOn = true ∧ e.2.bar0 ≤ a ∧ a < e.2.bar0 + 2 ^ 25) ∨
      (∃ k, k < 8 ∧ inExcl (s.cfg 0x2019 (8 * hp + k + 1)) a = true) := by
  simp only [State.forbidden, State.forbiddenBy, State.excl, Bool.or_eq_true, List.any_map, Function.comp_apply,
    List.any_eq_true, Bool.and_eq_true, beq_iff_eq, decide_eq_true_eq, List.mem_range, and_assoc]

/-- Settles O17: what a leaf gives is decided by `leafFault`, and each form of access has its own equation. -/
theorem leafRights : Obligations.LeafRights := by
  unfold Obligations.LeafRights
  refine ⟨fun f va level k l s => ⟨?allowed, ?noRight, ?noUser, ?fetch⟩, fun hp a s => s.forbidden_iff hp a,
    ?noTables, ?wide, fun _ _ _ => rfl⟩
  case allowed =>
    intro hk hr hw hu
    exact s.leafAccess_of_allowed f va level (leafFault_allowed hk ⟨hr, hw⟩ hu)
  case noRight =>
    intro _ hmiss
    exact s.leafAccess_of_fault f va level (leafFault_noRight hmiss)
  case noUser =>
    intro hr hw hu
    exact s.leafAccess_of_fault f va level (leafFault_noUser ⟨hr, hw⟩ hu)
  case fetch => exact s.leafAccess_of_fault f va level rfl
  case noTables =>
    intro f va k s hk hoff
    simp [State.lookup, State.lookupBy, hk, hoff]
  case wide =>
    intro f va k s hk hon hva
    simp only [State.lookup, State.lookupBy, if_neg hk, hon, Bool.not_true, Bool.false_eq_true, if_false, if_pos hva]

/-! ### Invalidations (R83 to R85) -/

/-- An access that does not pass the end of its first page is one piece (R77). -/
theorem pagePieces_within {va len : Nat} (h : va % 4096 + len ≤ 4096) : pagePieces va len = [(va, len)] := by
  have hone : max 1 (ceilDiv (va % 4096 + len) 4096) = 1 := by simp only [ceilDiv]; omega
  have hlen : min (va + len) ((va / 4096 + 0 + 1) * 4096) - va = len := by omega
  simp only [pagePieces, hone, List.range_one, List.map_cons, List.map_nil, if_true, hlen]

/-- A write within one page joins its function's list as one piece. -/
theorem State.queueWrite_within (s : State) (f : Nat) {addr : Nat} {bytes : List Byte} (use : AddrUse)
    (h : addr % 4096 + bytes.length ≤ 4096) :
    s.queueWrite f addr bytes use =
      s.modFn f (fun x => { x with writes := x.writes ++ [{ addr := addr, bytes := bytes, use := use }] }) := by
  simp [State.queueWrite, pagePieces_within h]

theorem exec_invalidationComplete_done {f : Nat} {v : Inval} {rest : List Inval} {s : State}
    (hv : (s.fn f).invals = v :: rest) (hr : v.reads = []) (hw : v.walks = []) :
    exec (.invalidationComplete f) s = .next
      ((((s.modFn f (fun x => { x with invals := rest })).queueWrite f v.compl (natLe 4 v.token) .bus).flushWrites f).retryFaulted f) := by
  change execInvalidationComplete f s = _
  simp [execInvalidationComplete, hv, hr, hw]

theorem exec_invalidationComplete_waiting {f : Nat} {v : Inval} {rest : List Inval} {s : State}
    (hv : (s.fn f).invals = v :: rest) (h : v.reads ≠ [] ∨ v.walks ≠ []) : exec (.invalidationComplete f) s = .next s := by
  have hwait : (v.reads.isEmpty && v.walks.isEmpty) = false := by
    rw [Bool.and_eq_false_iff]
    exact h.imp List.isEmpty_eq_false_iff.mpr List.isEmpty_eq_false_iff.mpr
  change execInvalidationComplete f s = _
  simp only [execInvalidationComplete, hv, hwait, Bool.false_eq_true, if_false]

theorem exec_invalidationComplete_none {f : Nat} {s : State} (h : (s.fn f).invals = []) :
    exec (.invalidationComplete f) s = .next s := by
  change execInvalidationComplete f s = _
  simp only [execInvalidationComplete, h]

/-- Settles O18: the command runs, waits or has nothing to do, and a TOKEN within one page is one queued write. -/
theorem invalidationsComplete : Obligations.InvalidationsComplete := by
  unfold Obligations.InvalidationsComplete
  refine ⟨?done, fun f v rest s hv h => exec_invalidationComplete_waiting hv h, fun f s h => exec_invalidationComplete_none h⟩
  case done =>
    intro f v rest s hv hr hw hpage
    have hfit : v.compl % 4096 + (natLe 4 v.token).length ≤ 4096 := by rw [natLe_length]; omega
    refine ⟨_, exec_invalidationComplete_done hv hr hw, ?_⟩
    rw [State.queueWrite_within _ _ _ hfit]
    refine ⟨by simp, fun g hg => ?_, rfl⟩
    rw [State.modFn_fn_other _ _ hg, State.modFn_fn_other _ _ hg]

/-! ### Walks that no invalidation has overlapped (R84) -/

/-- No walk in flight has lost its result to an invalidation. -/
def State.NoneStale (s : State) : Prop := ∀ w ∈ s.walks, w.stale = false

theorem State.NoneStale.congr {s t : State} (h : s.NoneStale) (e : t.walks = s.walks) : t.NoneStale := by
  rw [State.NoneStale, e]; exact h

@[simp] theorem State.perf_walks (s : State) (t ev unit : Nat) (fn : Option Nat) (n : Nat) : (s.perf t ev unit fn n).walks = s.walks := rfl

@[simp] theorem State.issueRead_walks (s : State) (num : Nat) (r : HostRead) (l : List (Nat × Nat)) : (s.issueRead num r l).walks = s.walks := rfl

theorem State.issueTable_walks (s : State) (w : Walk) : ∃ tag, (s.issueTable w).walks = s.walks ++ [{ w with tag := tag }] := by
  unfold State.issueTable
  split
  · exact ⟨some s.nextTag, rfl⟩
  · exact ⟨none, rfl⟩

theorem State.NoneStale.issueTable {s : State} (h : s.NoneStale) {w : Walk} (hw : w.stale = false) : (s.issueTable w).NoneStale := by
  obtain ⟨tag, e⟩ := s.issueTable_walks w
  intro x hx
  rw [e, List.mem_append, List.mem_singleton] at hx
  rcases hx with hx | rfl
  · exact h x hx
  · exact hw

theorem State.NoneStale.nextWalk {s : State} (h : s.NoneStale) (et : Nat) : (s.nextWalk et).NoneStale := by
  unfold State.nextWalk
  split
  case h_1 w hw =>
    split
    · have hrest : State.NoneStale { s with walks := s.walks.erase w } := fun x hx => h x (List.mem_of_mem_erase hx)
      exact hrest.issueTable (h w (List.mem_of_find?_eq_some hw))
    · exact h
  case h_2 => exact h

theorem State.NoneStale.startWalks {s : State} (h : s.NoneStale) (n et : Nat) : (State.startWalks n s et).NoneStale := by
  induction n generalizing s with
  | zero => exact h
  | succ n ih => exact ih (h.nextWalk et)

theorem State.NoneStale.of_beginWalk {s t : State} {ex : List Nat} {f va : Nat} {k : AccKind} {tag : Option Nat}
    {o : Option (Nat × Nat)} (e : s.beginWalk ex f va k tag = (t, o)) (h : s.NoneStale) : t.NoneStale := by
  obtain rfl : (s.beginWalk ex f va k tag).1 = t := congrArg Prod.fst e
  unfold State.beginWalk
  dsimp only
  split
  · intro x hx
    obtain ⟨w, hw, rfl⟩ := List.mem_map.mp hx
    split <;> exact h w hw
  · split
    · exact h
    · refine State.NoneStale.issueTable ?_ rfl
      exact h.congr rfl

@[simp] theorem State.xlateFault_walks (s : State) (f va code level : Nat) (k : AccKind) : (s.xlateFault f va code level k).walks = s.walks := by
  unfold State.xlateFault
  dsimp only
  split <;> rfl

@[simp] theorem State.readFault_walks (s : State) (tag : Nat) (r : HostRead) (va code level : Nat) :
    (s.readFault tag r va code level).walks = s.walks := by
  unfold State.readFault
  split
  · dsimp only
    split <;> simp
  · simp

@[simp] theorem State.readTranslated_walks (s : State) (tag : Nat) (r : HostRead) (l : List (Nat × Nat)) :
    (s.readTranslated tag r l).walks = s.walks := by
  unfold State.readTranslated
  dsimp only
  split
  · rfl
  · split
    · rfl
    · split <;> simp

theorem State.NoneStale.tryRead {s : State} (h : s.NoneStale) (tag : Nat) : (s.tryRead tag).NoneStale := by
  unfold State.tryRead
  split
  case h_1 => exact h
  case h_2 r _ =>
    split
    · exact h
    · dsimp only
      split
      case h_1 => exact h.congr (State.readTranslated_walks ..)
      case h_2 => exact h.congr (State.readFault_walks ..)
      case h_3 =>
        split
        case h_1 e => exact (State.NoneStale.of_beginWalk e (h.congr rfl)).congr (State.readFault_walks ..)
        case h_2 e => exact State.NoneStale.of_beginWalk e (h.congr rfl)

theorem State.NoneStale.tryReads {s : State} (h : s.NoneStale) (tags : List Nat) :
    (tags.foldl (fun s tag => s.tryRead tag) s).NoneStale := by
  induction tags generalizing s with
  | nil => exact h
  | cons tag tags ih => exact ih (h.tryRead tag)

/-- Waiting walks and reads that go on begin walks of their own, and none of these is overlapped yet. -/
theorem State.NoneStale.retryReads {s : State} (h : s.NoneStale) (hp : Nat) : (s.retryReads hp).NoneStale :=
  (h.startWalks 64 hp).tryReads _

/-! ### The end of a walk that was overlapped (R84) -/

theorem State.writeGets_miss (s : State) (f page : Nat) : s.writeGets f page (fun _ _ => .miss) = s := by
  unfold State.writeGets
  split
  · dsimp only
    split <;> rfl
  · rfl

theorem State.landingGets_noCtxs {s : State} (h : s.ctxs = []) (f page : Nat) (res : Nat → AccKind → XRes) :
    s.landingGets f page res = s := by
  simp [State.landingGets, h]

/-- In a checkstop, with no context open, a dropped result for which no read waits changes nothing (R84, R363). -/
theorem State.walkGives_miss {s : State} {w : Walk} (hc : s.ctxs = []) (hstop : s.faults.checkstop = true) (hw : w.waits = []) :
    s.walkGives w (fun _ _ => .miss) = s := by
  simp [State.walkGives, hw, State.writeGets_miss, State.landingGets_noCtxs hc, State.flushWrites, hstop, State.releaseBlocks,
    State.endFailed, hc]

theorem State.NoneStale.endWalk {s : State} (h : s.NoneStale) {w : Walk} (hc : s.ctxs = []) (hstop : s.faults.checkstop = true)
    (hw : w.waits = []) (hs : w.stale = true) (res : Nat → AccKind → XRes) : (s.endWalk w res).NoneStale := by
  unfold State.endWalk
  dsimp only
  rw [if_pos hs, State.walkGives_miss (s := s.modFn w.fn _) hc hstop hw]
  refine State.NoneStale.nextWalk ?_ _
  exact h.congr rfl

/-! ### A table read that carries a cached word

`HostRead.hit` of a table read may hold a value, and then a read that ends brings that value, whatever the link brought. The
statement of WalkEntries leaves such reads in. -/

/-- A walk at its root table, overlapped by an invalidation, whose table read is number 3. -/
def overlappedWalk : Walk := { fn := 0, va := 0, kind := .read, level := 4, table := 0, tag := some 3, stale := true }

/-- Its table read, which carries a valid pointer to the table at 0x200000. -/
def hitTableRead : HostRead :=
  { hp := 0, fn := 0, addr := 0, len := 8, use := .table, pieces := some [(0, 8)], hit := some 0x200001 }

/-- A state in checkstop with that walk and that read, and no other. -/
def hitTableState : State :=
  { State.reset with
    faults := { State.reset.faults with checkstop := true }, reads := [(3, hitTableRead)], walks := [overlappedWalk] }

/-- The table read fails on the link, and the walk goes on all the same, through the pointer the read carries. -/
theorem exec_walkStep_hitTable :
    ∃ t, exec (.walkStep 3 .failed) hitTableState = .next t ∧ ¬ t.NoneStale := by
  refine ⟨_, rfl, ?_⟩
  unfold State.NoneStale
  decide +kernel

/-- Refutes O16: in `hitTableState` the read's end is not what the statement says of a failed table read, because a read with a
`hit` ends with the cached value. -/
theorem not_walkEntries : ¬ Obligations.WalkEntries := by
  unfold Obligations.WalkEntries
  rintro ⟨-, -, hstep⟩
  obtain ⟨u, hwalks, -, hu, -, hfailed⟩ := hstep 3 hitTableRead overlappedWalk hitTableState rfl rfl rfl rfl rfl rfl
  obtain ⟨t, ht, hstale⟩ := exec_walkStep_hitTable
  have hctxs : u.ctxs = [] := by rw [hu]; rfl
  have hstop : u.faults.checkstop = true := by rw [hu]; rfl
  have hnone : u.NoneStale := by
    have hempty : u.walks = [] := by rw [hwalks]; decide
    simp [State.NoneStale, hempty]
  have hend : ((u.endWalk overlappedWalk (fun _ _ => .fault 0x0761 overlappedWalk.level)).retryReads hitTableRead.hp).NoneStale :=
    (hnone.endWalk hctxs hstop rfl rfl _).retryReads _
  rw [hfailed] at ht
  exact hstale (Host.Outcome.next.inj ht ▸ hend)

end Sys2Proof.Machine
end

section
/-! SUPPORT. Accesses to the internal address space (R88 to R93): the check of one piece, the bytes a performed access reads
or leaves, what a refusal answers and records, and the proof of AccessControl. -/

namespace Sys2Proof.Machine

/-! ### The check of an access (R92) -/

section Check
variable {s : State} {m a len : Nat} {wr : Bool} {g : Region}

theorem State.acuCheck_noRegion (h : s.acu.regions.find? (fun g => g.holds a) = none) : s.acuCheck m a len wr = some 0x0310 := by
  simp only [State.acuCheck, h]

theorem State.acuCheck_straddle (h : s.acu.regions.find? (fun g => g.holds a) = some g) (hend : g.holds (a + (len - 1)) = false) :
    s.acuCheck m a len wr = some 0x0330 := by
  simp only [State.acuCheck, h, hend, Bool.not_false, if_true]

theorem State.acuCheck_inside (h : s.acu.regions.find? (fun g => g.holds a) = some g) (hend : g.holds (a + (len - 1)) = true) :
    s.acuCheck m a len wr = if bitAt (if wr then g.wmask.toNat else g.rmask.toNat) m then none else some 0x0320 := by
  simp only [State.acuCheck, h, hend, Bool.not_true, Bool.false_eq_true, if_false]

end Check

/-- An access of one piece is refused as that piece is. -/
theorem State.acuCheckAll_one (s : State) (m a len : Nat) (wr : Bool) : s.acuCheckAll m [(a, len)] wr = s.acuCheck m a len wr := by
  unfold State.acuCheckAll
  dsimp only
  cases hg : s.acu.regions.find? (fun g => g.holds a) with
  | none => simp only [State.acuCheck_noRegion hg]
  | some g => cases s.acuCheck m a len wr <;> rfl

/-! ### A refusal (R93) -/

/-- The record a refusal leaves: none of a host's. -/
def acuReports (m code : Nat) : List FaultReport :=
  if m ≤ 7 then [] else
    [{ code := code, cls := deferred, tile := if m = 10 then 12 else if m = 12 then 14 else 13, unit := if m = 9 then 1 else 0 }]

theorem acuReports_host {m : Nat} (h : m ≤ 7) (code : Nat) : acuReports m code = [] := if_pos h

theorem acuReports_die {m : Nat} (h : 7 < m) (code : Nat) :
    ∃ f : FaultReport, acuReports m code = [f] ∧ f.code = code ∧ f.cls = deferred :=
  ⟨_, if_neg (Nat.not_le.mpr h), rfl, rfl⟩

theorem State.acuDeny_eq (s : State) (m a len : Nat) (wr : Bool) (code : Nat) : s.acuDeny m a len wr code = { s with
    acu := { s.acu with denied := s.acu.denied + 1, lastDenied := deniedWord m a len wr code }
    faults := { s.faults with coming := s.faults.coming ++ acuReports m code } } := by
  unfold State.acuDeny acuReports
  dsimp only
  split
  · rw [List.append_nil]
  · rfl

/-- What a refused access answers. -/
def refusalAnswer (who : SemMaster) (len : Nat) (k : AccKind) : List Out :=
  match who with
  | .host _ => if k = .write then [] else [.accessResp who stOk (List.replicate len 0)]
  | .die m => if m = 10 then [.accessResp who stBounds []] else if m ≤ 9 then [.accessResp who stBusError []] else []

theorem State.refuseAccess_eq (s : State) (who : SemMaster) (a len : Nat) (k : AccKind) (code : Nat) :
    s.refuseAccess who a len k code =
      { s.acuDeny (semId who) a len (k == .write) code with out := s.out ++ refusalAnswer who len k } := by
  rw [State.acuDeny_eq]
  unfold State.refuseAccess refusalAnswer
  rw [State.acuDeny_eq]
  cases who with
  | host f => cases k <;> simp [isWrite, State.emit]
  | die m =>
    dsimp only
    split
    · rfl
    · split
      · rfl
      · rw [List.append_nil]; rfl

/-! ### A performed access (R88, R92) -/

theorem State.sramByte_sramWrite_outside (s : State) {a b : Nat} {l : List Byte} (h : b < a ∨ a + l.length ≤ b) :
    (s.sramWrite a l).sramByte b = s.sramByte b := by
  induction l generalizing s a with
  | nil => rfl
  | cons x l ih =>
    simp only [List.length_cons] at h
    rw [State.sramWrite, ih _ (by omega)]
    simp only [State.sramByte]
    rw [Tbl.get?_put_other _ _ (by omega)]

theorem State.sramByte_sramWrite_inside (s : State) {a i : Nat} {l : List Byte} (h : i < l.length) :
    some ((s.sramWrite a l).sramByte (a + i)) = l[i]? := by
  induction l generalizing s a i with
  | nil => exact absurd h (Nat.not_lt_zero _)
  | cons x l ih =>
    rw [State.sramWrite]
    cases i with
    | zero =>
      rw [State.sramByte_sramWrite_outside _ (by omega)]
      simp [State.sramByte]
    | succ i =>
      rw [show a + (i + 1) = a + 1 + i by omega, ih _ (Nat.lt_of_succ_lt_succ h), List.getElem?_cons_succ]

/-- Memory ends below every other range of the internal address space (R88). -/
theorem inSram_lt {a : Nat} (h : inSram a = true) : a < 0x1800000 := by
  simp only [inSram, Bool.or_eq_true, Bool.and_eq_true, decide_eq_true_eq] at h
  omega

theorem inSync_below {a : Nat} (h : a < 0x1800000) : inSync a = false := by
  simp only [inSync, Bool.and_eq_false_iff, decide_eq_false_iff_not]
  omega

theorem inSems_below {a : Nat} (h : a < 0x1800000) : inSems a = false := by
  simp only [inSems, Bool.and_eq_false_iff, decide_eq_false_iff_not]
  omega

theorem inControl_below {a : Nat} (h : a < 0x1800000) : inControl a = false := by
  simp only [inControl, Bool.and_eq_false_iff, decide_eq_false_iff_not]
  omega

/-- A byte that is no control register's does not depend on the accesses in flight. -/
theorem State.internalByte_fly (s : State) (m a : Nat) {b : Nat} (h : inControl b = false) :
    (s.fly m a).internalByte b = s.internalByte b := by
  simp only [State.internalByte, h, Bool.false_eq_true, if_false]
  rfl

theorem State.performPieces_read (s : State) {who : SemMaster} {a len : Nat} (data : List Byte) (ha : inSram a = true)
    (hb : inSram (a + (len - 1)) = true) : s.performPieces who .read data [(a, len)] =
      (s.fly (semId who) a, some ((List.range len).map (fun i => s.internalByte (a + i)))) := by
  have hlo := inSram_lt ha
  have hhi := inSram_lt hb
  have hbytes : (List.range len).map (fun i => (s.fly (semId who) a).internalByte (a + i)) =
      (List.range len).map (fun i => s.internalByte (a + i)) := by
    refine List.map_congr_left fun i hi => s.internalByte_fly _ _ (inControl_below ?_)
    have := List.mem_range.mp hi
    omega
  simp [State.performPieces, isWrite, State.internalRead, inSync_below hlo, inSems_below hlo, inControl_below hlo, hbytes]

theorem State.performPieces_write (s : State) {who : SemMaster} {a : Nat} {data : List Byte} (ha : inSram a = true) :
    s.performPieces who .write data [(a, data.length)] =
      (((s.fly (semId who) a).sramWrite a data).sramMend a data.length, some []) := by
  simp [State.performPieces, isWrite, State.internalWrite, ha]

theorem State.fly_fin_le (s : State) : s.now + s.freeVal 16 % 4001 ≤ s.now + 4000 := by omega

/-! ### ACU_ACCESS -/

/-- A master whose accesses are not translated, on no function's behalf: a host that is present, master 11 or 12, or any while
the privileged domain is off (R63, R88). -/
def State.plainMaster (s : State) (who : SemMaster) : Prop :=
  match who with
  | .host _ => s.semOpen who = true
  | .die m => 11 ≤ m ∨ bitAt (s.cfg 0x2018 1) 0 = false

theorem exec_acuAccess_plain {s : State} {who : SemMaster} (hw : s.plainMaster who) (a len : Nat) (k : AccKind) (data : List Byte) :
    exec (.acuAccess who a len { kind := k, data := data }) s = .next (s.internalAccess who k data [(a, len)]) := by
  refine congrArg Host.Outcome.next ?_
  cases who with
  | host f => exact if_pos hw
  | die m => exact if_pos (hw.imp id (fun h => by simp [h]))

theorem State.internalAccess_refused {s : State} {who : SemMaster} {k : AccKind} {a len code : Nat} (data : List Byte)
    (h : s.acuCheck (semId who) a len (isWrite k) = some code) :
    s.internalAccess who k data [(a, len)] = s.refuseAccess who a len k code := by
  simp [State.internalAccess, State.acuCheckAll_one, h]

theorem State.internalAccess_performed {s : State} {who : SemMaster} {k : AccKind} {a len : Nat} (data : List Byte)
    (h : s.acuCheck (semId who) a len (isWrite k) = none) :
    s.internalAccess who k data [(a, len)] =
      (s.performPieces who k data [(a, len)]).1.answerAccess who k (s.performPieces who k data [(a, len)]).2 := by
  simp only [State.internalAccess, State.acuCheckAll_one, h]

theorem State.answerAccess_read (s : State) (who : SemMaster) (l : List Byte) :
    s.answerAccess who .read (some l) = s.emit (.accessResp who stOk l) := by
  cases who <;> rfl

theorem State.answerAccess_write (s : State) (who : SemMaster) : s.answerAccess who .write (some []) =
    { s with out := s.out ++ (match who with | .host _ => [] | .die _ => [.accessResp who stOk []]) } := by
  cases who with
  | host f => rw [List.append_nil]; rfl
  | die m => rfl

/-- Settles O19: a plain access comes to `internalAccess` of one piece, which the check lets pass or refuses as a whole. -/
theorem accessControl : Obligations.AccessControl := by
  unfold Obligations.AccessControl
  refine ⟨fun who a len k data s hw => ⟨fun g hg hend => ⟨?read, ?write⟩, ?refused⟩, ?translated⟩
  case read =>
    rintro rfl hbit ha hb
    have hpass : s.acuCheck (semId who) a len (isWrite .read) = none := by
      rw [State.acuCheck_inside hg hend]; exact if_pos hbit
    rw [exec_acuAccess_plain hw, State.internalAccess_performed data hpass, s.performPieces_read data ha hb,
      State.answerAccess_read]
    exact ⟨_, _, rfl, rfl, rfl, rfl, rfl, Nat.le_add_right _ _, s.fly_fin_le, rfl⟩
  case write =>
    rintro rfl hbit ha rfl
    have hpass : s.acuCheck (semId who) a data.length (isWrite .write) = none := by
      rw [State.acuCheck_inside hg hend]; exact if_pos hbit
    rw [exec_acuAccess_plain hw, State.internalAccess_performed data hpass, s.performPieces_write ha, State.answerAccess_write,
      State.sramWrite_frame]
    exact ⟨_, _, rfl, fun i hi => (s.fly (semId who) a).sramByte_sramWrite_inside hi,
      fun b hb => (s.fly (semId who) a).sramByte_sramWrite_outside hb, rfl, rfl, rfl, rfl, s.fly_fin_le, rfl⟩
  case refused =>
    intro code hcode
    have hrefuse : s.acuCheck (semId who) a len (isWrite k) = some code := by
      rcases hcode with ⟨hg, rfl⟩ | ⟨g, hg, hend, rfl⟩ | ⟨g, hg, hend, hbit, rfl⟩
      · exact State.acuCheck_noRegion hg
      · exact State.acuCheck_straddle hg hend
      · rw [State.acuCheck_inside hg hend]
        simp only [isWrite, beq_iff_eq, hbit, Bool.false_eq_true, if_false]
    rw [exec_acuAccess_plain hw, State.internalAccess_refused data hrefuse, State.refuseAccess_eq, State.acuDeny_eq]
    refine ⟨_, rfl, rfl, rfl, rfl, fun hhost => ?_, fun hdie => ?_, rfl⟩
    · simp only [acuReports_host hhost, List.append_nil]
    · obtain ⟨f, hf, hcode, hcls⟩ := acuReports_die hdie code
      exact ⟨f, congrArg (s.faults.coming ++ ·) hf, hcode, hcls⟩
  case translated =>
    intro m a len code k data s u hm hon hfault
    refine ⟨_, congrArg Host.Outcome.next ?_, rfl⟩
    refine (if_neg (by simp [hon]; omega)).trans ?_
    rw [hfault]

end Sys2Proof.Machine
end

section
/-! SUPPORT. The semaphore unit (R96 to R105): what a holder's entry counts, what each command of an open unit comes to, and
the proofs of SemaphoreCommands and SemaphoreUnitsConserved. -/

namespace Sys2Proof.Machine

/-! ### The holders of a semaphore (R100) -/

/-- Units held, over all holders. -/
def heldUnits (l : List Hold) : Nat := (l.map (·.count)).sum

/-- One entry for each holder, with a positive count. -/
def HoldsOk (l : List Hold) : Prop := (l.map (·.who)).Nodup ∧ ∀ h ∈ l, 0 < h.count

/-- An entry once a master holds one unit more, at a priority. -/
def Hold.more (who : SemMaster) (prio : Nat) (h : Hold) : Hold :=
  if h.who = who then { h with count := h.count + 1, eff := max h.eff prio } else h

/-- An entry once a master holds one unit less. -/
def Hold.less (who : SemMaster) (h : Hold) : Hold := if h.who = who then { h with count := h.count - 1 } else h

/-- The holders once a master holds one unit more, at a priority. -/
def addHold (who : SemMaster) (prio : Nat) (l : List Hold) : List Hold :=
  if l.any (fun h => h.who == who) then l.map (Hold.more who prio) else l ++ [{ who := who, count := 1, eff := prio }]

/-- The holders once a master holds one unit less: an entry of none goes. -/
def dropHold (who : SemMaster) (l : List Hold) : List Hold := (l.map (Hold.less who)).filter (fun h => h.count != 0)

@[simp] theorem Hold.more_who (who : SemMaster) (prio : Nat) (h : Hold) : (h.more who prio).who = h.who := by
  unfold Hold.more; split <;> rfl

@[simp] theorem Hold.less_who (who : SemMaster) (h : Hold) : (h.less who).who = h.who := by
  unfold Hold.less; split <;> rfl

theorem Hold.more_self (prio : Nat) (h : Hold) : (h.more h.who prio).count = h.count + 1 := by simp [Hold.more]

theorem Hold.less_self (h : Hold) : (h.less h.who).count = h.count - 1 := by simp [Hold.less]

theorem Hold.more_other {who : SemMaster} (prio : Nat) {h : Hold} (hw : h.who ≠ who) : h.more who prio = h := if_neg hw

theorem Hold.less_other {who : SemMaster} {h : Hold} (hw : h.who ≠ who) : h.less who = h := if_neg hw

/-- A change that leaves each entry's master leaves the masters. -/
theorem map_who {g : Hold → Hold} (hg : ∀ h, (g h).who = h.who) (l : List Hold) : (l.map g).map (·.who) = l.map (·.who) := by
  rw [List.map_map]
  exact List.map_congr_left fun h _ => hg h

theorem any_who {l : List Hold} {who : SemMaster} : l.any (fun h => h.who == who) = true ↔ ∃ h ∈ l, h.who = who := by
  simp only [List.any_eq_true, beq_iff_eq]

theorem not_any_who {l : List Hold} {who : SemMaster} : l.any (fun h => h.who == who) = false ↔ ∀ h ∈ l, h.who ≠ who := by
  simp only [List.any_eq_false, beq_iff_eq, ne_eq]

/-- Holders of distinct masters change their units by what one of them changes, when the others keep theirs. -/
theorem heldUnits_map_one {l : List Hold} {x : Hold} {g : Hold → Hold} (hl : (l.map (·.who)).Nodup) (hx : x ∈ l)
    (hg : ∀ h ∈ l, h.who ≠ x.who → (g h).count = h.count) :
    heldUnits (l.map g) + x.count = heldUnits l + (g x).count := by
  induction l with
  | nil => exact absurd hx List.not_mem_nil
  | cons y l ih =>
    simp only [List.map_cons, List.nodup_cons] at hl
    obtain ⟨hy, hl⟩ := hl
    simp only [heldUnits, List.map_cons, List.sum_cons] at ih ⊢
    rcases List.mem_cons.mp hx with rfl | hx
    · have hrest : (l.map g).map (·.count) = l.map (·.count) := by
        rw [List.map_map]
        exact List.map_congr_left fun h hh =>
          hg h (List.mem_cons_of_mem _ hh) (fun e => hy (e ▸ List.mem_map_of_mem hh))
      rw [hrest]; omega
    · have hne : y.who ≠ x.who := fun e => hy (e ▸ List.mem_map_of_mem hx)
      have := ih hl hx (fun h hh => hg h (List.mem_cons_of_mem _ hh))
      have := hg y List.mem_cons_self hne
      omega

theorem heldUnits_filter (l : List Hold) : heldUnits (l.filter (fun h => h.count != 0)) = heldUnits l := by
  induction l with
  | nil => rfl
  | cons y l ih =>
    simp only [heldUnits] at ih ⊢
    by_cases hy : y.count = 0
    · simp [hy, ih]
    · simp [hy, ih]

theorem addHold_holds (who : SemMaster) (prio : Nat) (l : List Hold) : (addHold who prio l).any (fun h => h.who == who) = true := by
  unfold addHold
  split
  · next h =>
    obtain ⟨x, hx, hw⟩ := any_who.mp h
    exact any_who.mpr ⟨x.more who prio, List.mem_map_of_mem hx, (x.more_who who prio).trans hw⟩
  · exact any_who.mpr ⟨_, List.mem_append_right _ (List.mem_singleton.mpr rfl), rfl⟩

theorem heldUnits_addHold {who : SemMaster} (prio : Nat) {l : List Hold} (h : HoldsOk l) :
    heldUnits (addHold who prio l) = heldUnits l + 1 := by
  unfold addHold
  split
  · next hany =>
    obtain ⟨x, hx, rfl⟩ := any_who.mp hany
    have hone := heldUnits_map_one (g := Hold.more x.who prio) h.1 hx (fun y _ hy => by rw [Hold.more_other prio hy])
    rw [Hold.more_self] at hone
    omega
  · simp [heldUnits]

theorem HoldsOk.addHold {who : SemMaster} (prio : Nat) {l : List Hold} (h : HoldsOk l) : HoldsOk (addHold who prio l) := by
  obtain ⟨hnodup, hpos⟩ := h
  unfold Machine.addHold
  split
  · refine ⟨by rw [map_who (Hold.more_who who prio)]; exact hnodup, fun x hx => ?_⟩
    obtain ⟨y, hy, rfl⟩ := List.mem_map.mp hx
    by_cases hw : y.who = who
    · subst hw; rw [Hold.more_self]; exact Nat.succ_pos _
    · rw [Hold.more_other prio hw]; exact hpos y hy
  · next hany =>
    have hnew := not_any_who.mp (Bool.eq_false_iff.mpr hany)
    refine ⟨?_, fun x hx => ?_⟩
    · rw [List.map_append, List.nodup_append]
      refine ⟨hnodup, List.pairwise_singleton _ _, ?_⟩
      rintro _ ha _ hb rfl
      obtain ⟨y, hy, hw⟩ := List.mem_map.mp ha
      exact hnew y hy (hw.trans (List.mem_singleton.mp hb))
    · rcases List.mem_append.mp hx with hx | hx
      · exact hpos x hx
      · rw [List.mem_singleton.mp hx]; exact Nat.one_pos

theorem heldUnits_dropHold {who : SemMaster} {l : List Hold} (h : HoldsOk l) (hany : l.any (fun h => h.who == who) = true) :
    heldUnits (dropHold who l) + 1 = heldUnits l := by
  obtain ⟨x, hx, rfl⟩ := any_who.mp hany
  have hone := heldUnits_map_one (g := Hold.less x.who) h.1 hx (fun y _ hy => by rw [Hold.less_other hy])
  have hpos := h.2 x hx
  rw [Hold.less_self] at hone
  rw [dropHold, heldUnits_filter]
  omega

theorem HoldsOk.dropHold {who : SemMaster} {l : List Hold} (h : HoldsOk l) : HoldsOk (dropHold who l) := by
  refine ⟨List.Nodup.sublist (List.filter_sublist.map _) (by rw [map_who (Hold.less_who who)]; exact h.1), fun x hx => ?_⟩
  exact Nat.pos_of_ne_zero (bne_iff_ne.mp (List.mem_filter.mp hx).2)

theorem dropHold_single {who : SemMaster} {c e : Nat} (hc : 2 ≤ c) :
    dropHold who [{ who := who, count := c, eff := e }] = [{ who := who, count := c - 1, eff := e }] := by
  have : c - 1 ≠ 0 := by omega
  simp [dropHold, Hold.less, this]

/-! ### Grants, refusals and waits (R96, R99, R100) -/

section Unit
variable {s : State} {who : SemMaster} {n prio : Nat}

/-- What a grant makes of a semaphore. -/
def Sem.granted (x : Sem) (who : SemMaster) (prio : Nat) : Sem :=
  { x with avail := x.avail - 1, abandoned := false, holds := addHold who prio x.holds }

/-- A grant with room in the hold table. -/
theorem State.semGrant_room (h : s.holdUse < 4096) : s.semGrant n who prio =
    ((s.setSem n ((s.sem n).granted who prio)).perf 13 0x701 0x3F none 1).emit
      (.semWord who n (semResult true (s.sem n).abandoned false false ((s.sem n).avail - 1))) := by
  have hroom : ¬ (!(s.sem n).holds.any (fun h => h.who == who) && decide (4096 ≤ s.holdUse)) = true := by
    simp [Nat.not_le.mpr h]
  exact if_neg hroom

@[simp] theorem State.perf_sem (s : State) (t ev unit : Nat) (fn : Option Nat) (k n : Nat) :
    (s.perf t ev unit fn k).sem n = s.sem n := rfl

theorem State.semGrant_room_sem (h : s.holdUse < 4096) : (s.semGrant n who prio).sem n = (s.sem n).granted who prio := by
  rw [State.semGrant_room h, State.emit_sem, State.perf_sem, State.setSem_sem]

theorem State.semGrant_room_sem_other (h : s.holdUse < 4096) {k : Nat} (hk : k ≠ n) : (s.semGrant n who prio).sem k = s.sem k := by
  rw [State.semGrant_room h, State.emit_sem, State.perf_sem, State.setSem_sem_other _ _ hk]

/-- All that a grant with room changes. -/
theorem semGrant_step (h : s.holdUse < 4096) (hw : (s.sem n).waiters = []) {t : State} (ht : t = s.semGrant n who prio) :
    t.out = s.out ++ [.semWord who n (semResult true (s.sem n).abandoned false false ((s.sem n).avail - 1))] ∧
      (t.sem n).avail = (s.sem n).avail - 1 ∧ (t.sem n).abandoned = false ∧ (t.sem n).waiters = [] ∧
      (t.sem n).holds.any (fun h => h.who == who) = true ∧ (∀ k, k ≠ n → t.sem k = s.sem k) ∧
      t = { s with sems := t.sems, out := t.out, ctrs := t.ctrs } := by
  subst ht
  rw [State.semGrant_room_sem h]
  refine ⟨?_, rfl, rfl, hw, addHold_holds _ _ _, fun k hk => State.semGrant_room_sem_other h hk, ?_⟩
  · rw [State.semGrant_room h]; rfl
  · rw [State.semGrant_room h]; rfl

theorem State.tryAcquire_disabled (h : (s.sem n).enable = false) :
    s.tryAcquire who n = s.emit (.semWord who n (semResult false false true false (s.sem n).avail)) :=
  if_pos (by simp [h])

/-- An ACQUIRE of a disabled semaphore is refused, also where the port makes it a TRY (R105). -/
theorem State.acquire_disabled (h : (s.sem n).enable = false) :
    s.acquire who n prio = s.emit (.semWord who n (semResult false false true false (s.sem n).avail)) := by
  unfold State.acquire
  cases s.noWait who with
  | true => exact State.tryAcquire_disabled h
  | false => exact (if_neg Bool.false_ne_true).trans (if_pos (by simp [h]))

section Enabled
variable (he : (s.sem n).enable = true) (hm : who ≠ .die 11) (ht : who ≠ .die 12)
include he hm ht

/-- An enabled semaphore serves masters other than the management port and the time unit (R97). -/
theorem State.not_refused : ¬ (!(s.sem n).enable || who == .die 11 || who == .die 12) = true := by simp [he, hm, ht]

theorem State.tryAcquire_free (ha : 0 < (s.sem n).avail) (hw : (s.sem n).waiters = []) :
    s.tryAcquire who n = s.semGrant n who 0 :=
  (if_neg (State.not_refused he hm ht)).trans (if_pos ⟨ha, hw⟩)

theorem State.tryAcquire_none (h : (s.sem n).avail = 0 ∨ (s.sem n).waiters ≠ []) :
    s.tryAcquire who n = s.emit (.semWord who n (semResult false false false false (s.sem n).avail)) :=
  (if_neg (State.not_refused he hm ht)).trans (if_neg (fun hfree => h.elim (Nat.ne_of_gt hfree.1) (· hfree.2)))

theorem State.acquire_free (prio : Nat) (ha : 0 < (s.sem n).avail) (hw : (s.sem n).waiters = []) :
    ∃ q, s.acquire who n prio = s.semGrant n who q := by
  unfold State.acquire
  cases s.noWait who with
  | true => exact ⟨0, State.tryAcquire_free he hm ht ha hw⟩
  | false => exact ⟨prio, (if_neg (State.not_refused he hm ht)).trans (if_pos ⟨ha, hw⟩)⟩

/-- The bound of a wait: a host's port's, none of an on-die master (R102). -/
def State.waitBound (s : State) (who : SemMaster) : Option Nat :=
  match who with
  | .host f => some (s.cfg 0x2023 (etOf f + 1) * 1000)
  | .die _ => none

theorem State.acquire_waits (ha : (s.sem n).avail = 0) (hl : s.waitLimit who = false)
    (hb : ∀ f, who = .host f → s.cfg 0x2023 (etOf f + 1) ≠ 0) :
    s.acquire who n prio = s.semWait n who prio (s.waitBound who) := by
  have hno : s.noWait who = false := by
    cases who with
    | host f => exact beq_eq_false_iff_ne.mpr (hb f rfl)
    | die m => rfl
  have hfree : ¬ (0 < (s.sem n).avail ∧ (s.sem n).waiters = []) := fun h => absurd ha (Nat.ne_of_gt h.1)
  unfold State.acquire
  rw [hno]
  refine (if_neg (State.not_refused he hm ht)).trans ((if_neg hfree).trans ((if_neg (Bool.eq_false_iff.mp hl)).trans ?_))
  cases who <;> rfl

end Enabled

/-- A wait that no holder's priority is below changes the queue of waiters alone. -/
theorem State.semWait_noneLow (b : Option Nat) (h : ∀ x ∈ (s.sem n).holds, prio ≤ x.eff) :
    s.semWait n who prio b = { s.setSem n { s.sem n with
      waiters := (s.sem n).waiters ++ [{ who := who, prio := prio, ticket := s.nextTicket, at_ := s.now, bound := b }] } with
      nextTicket := s.nextTicket + 1 } := by
  have hlow : (s.sem n).holds.filter (fun x => decide (x.eff < prio)) = [] :=
    List.filter_eq_nil_iff.mpr fun x hx => by simp [h x hx]
  have hsame : (s.sem n).holds.map (fun x => if x.eff < prio then { x with eff := prio } else x) = (s.sem n).holds :=
    (List.map_congr_left (g := id) fun x hx => if_neg (Nat.not_lt.mpr (h x hx))).trans (List.map_id _)
  unfold State.semWait
  dsimp only
  rw [hlow, hsame]
  rfl

/-! ### Releases (R100) -/

theorem State.semServeAll_noWaiters (h : (s.sem n).waiters = []) : s.semServeAll n = s := by
  unfold State.semServeAll
  rw [h]
  rfl

theorem State.release_holder (hany : (s.sem n).holds.any (fun h => h.who == who) = true) (hw : (s.sem n).waiters = []) :
    s.release who n = s.setSem n { s.sem n with avail := (s.sem n).avail + 1, holds := dropHold who (s.sem n).holds } := by
  refine (if_pos hany).trans (State.semServeAll_noWaiters ?_)
  rw [State.setSem_sem]
  exact hw

theorem State.release_stranger (h : ∀ x ∈ (s.sem n).holds, x.who ≠ who) : s.release who n = { s with acu := { s.acu with
    badReleases := satAdd 32 s.acu.badReleases 1
    lastDenied := deniedWord (semId who) (semAddr n + 0x20) 4 true 0x0350 } } :=
  if_neg (by rw [not_any_who.mpr h]; exact Bool.false_ne_true)

/-! ### The commands of an open unit -/

/-- The priority of an ACQUIRE: a host's is its FN_SEM_PRIO (R97). -/
def State.acquirePrio (s : State) (who : SemMaster) (p : Nat) : Nat :=
  match who with
  | .host f => s.cfg 0x2024 f
  | .die _ => p % 4

section Open
variable (ho : s.semOpen who = true)
include ho

theorem exec_semAcquire_open {p : Nat} (hc : s.acuCheck (semId who) (semAddr n + 4 * s.acquirePrio who p) 4 false = none) :
    exec (.semAcquire who n p) s = .next (s.acquire who n (s.acquirePrio who p)) := by
  refine congrArg Host.Outcome.next ((if_neg (by simp [ho])).trans ?_)
  unfold State.acquirePrio at hc ⊢
  cases who <;> simp only [hc]

theorem exec_semTry_open (hc : s.acuCheck (semId who) (semAddr n + 0x10) 4 false = none) :
    exec (.semTry who n) s = .next (s.tryAcquire who n) := by
  refine congrArg Host.Outcome.next ((if_neg (by simp [ho])).trans ?_)
  rw [hc]

theorem exec_semRelease_open (hc : s.acuCheck (semId who) (semAddr n + 0x20) 4 true = none) :
    exec (.semRelease who n) s = .next (s.release who n) := by
  refine congrArg Host.Outcome.next ((if_neg (by simp [ho])).trans ?_)
  rw [hc]

theorem exec_semStatus_open (hc : s.acuCheck (semId who) (semAddr n + 0x30) 4 false = none) :
    exec (.semStatus who n) s = .next (s.emit (.semWord who n (s.sem n).status)) := by
  refine congrArg Host.Outcome.next ((if_neg (by simp [ho])).trans ?_)
  rw [hc]

end Open

theorem exec_semWaitTimeout_expired {k b : Nat} {w : Waiter} (hf : (s.sem n).waiters.find? (fun w => w.ticket == k) = some w)
    (hb : w.bound = some b) (hd : w.at_ + b ≤ s.now) : exec (.semWaitTimeout n k) s = .next
      ((s.setSem n { s.sem n with waiters := (s.sem n).waiters.filter (fun v => v.ticket != k) }).emit
        (.semWord w.who n (semResult false false false true (s.sem n).avail))) := by
  change execSemWaitTimeout n k s = _
  simp only [execSemWaitTimeout, hf, hb, if_pos hd]

end Unit

/-- Settles O20: each command of an open unit comes to its operation, and each of these has one equation per case. -/
theorem semaphoreCommands : Obligations.SemaphoreCommands := by
  unfold Obligations.SemaphoreCommands
  refine ⟨?acquire, ?try_, ?status, ?release, ?timeout⟩
  case acquire =>
    intro who n p p' s ho hp hc
    obtain rfl : p' = s.acquirePrio who p := hp
    rw [exec_semAcquire_open ho hc]
    refine ⟨fun he hm ht ha hw hroom => ?_, fun he => ?_, fun he hm ht ha hl hb hprio => ?_⟩
    · obtain ⟨q, hq⟩ := State.acquire_free he hm ht (s.acquirePrio who p) ha hw
      rw [hq]
      exact ⟨_, rfl, semGrant_step hroom hw rfl⟩
    · rw [State.acquire_disabled he]
      exact ⟨_, rfl, rfl, rfl⟩
    · rw [State.acquire_waits he hm ht ha hl hb, State.semWait_noneLow _ hprio]
      exact ⟨_, rfl, congrArg Sem.waiters (State.setSem_sem s n _), rfl, fun k hk => State.setSem_sem_other s _ hk, rfl⟩
  case try_ =>
    intro who n s ho hc
    rw [exec_semTry_open ho hc]
    refine ⟨fun he hm ht ha hw hroom => ?_, fun he => ?_, fun he hm ht hnone => ?_⟩
    · rw [State.tryAcquire_free he hm ht ha hw]
      exact ⟨_, rfl, semGrant_step hroom hw rfl⟩
    · rw [State.tryAcquire_disabled he]
      exact ⟨_, rfl, rfl, rfl⟩
    · rw [State.tryAcquire_none he hm ht hnone]
      exact ⟨_, rfl, rfl, rfl⟩
  case status =>
    intro who n s ho hc
    exact ⟨_, exec_semStatus_open ho hc, rfl, rfl⟩
  case release =>
    intro who n s ho hc
    rw [exec_semRelease_open ho hc]
    refine ⟨fun hnone => ?_, fun c e hh hcount hw => ?_⟩
    · rw [State.release_stranger hnone]
      exact ⟨_, rfl, rfl, rfl, rfl⟩
    · have hany : (s.sem n).holds.any (fun h => h.who == who) = true := by simp [hh]
      rw [State.release_holder hany hw, hh, dropHold_single hcount]
      exact ⟨_, rfl, congrArg Sem.avail (State.setSem_sem s n _), congrArg Sem.holds (State.setSem_sem s n _),
        fun k hk => State.setSem_sem_other s _ hk, rfl⟩
  case timeout =>
    intro n k b w s hf hb hd
    exact ⟨_, exec_semWaitTimeout_expired hf hb hd, rfl, congrArg Sem.waiters (State.setSem_sem s n _),
      fun j hj => State.setSem_sem_other s _ hj, rfl⟩

/-- Settles O21: a release takes one unit from one entry of the hold table, and a grant adds one to one entry. -/
theorem semaphoreUnitsConserved : Obligations.SemaphoreUnitsConserved := by
  unfold Obligations.SemaphoreUnitsConserved
  intro who n p s ho hw hnodup hpos
  have hok : HoldsOk (s.sem n).holds := ⟨hnodup, hpos⟩
  refine ⟨fun hc hany => ?release, fun hc he hm ht ha hroom => ?acquire⟩
  case release =>
    rw [exec_semRelease_open ho hc, State.release_holder hany hw]
    refine ⟨_, rfl, ?_⟩
    rw [State.setSem_sem]
    have hunits : ((dropHold who (s.sem n).holds).map (·.count)).sum + 1 = ((s.sem n).holds.map (·.count)).sum :=
      heldUnits_dropHold hok hany
    exact ⟨by dsimp only; omega, rfl, hok.dropHold⟩
  case acquire =>
    obtain ⟨q, hq⟩ := State.acquire_free he hm ht (s.acquirePrio who p) ha hw
    rw [exec_semAcquire_open ho hc, hq]
    refine ⟨_, rfl, ?_⟩
    rw [State.semGrant_room_sem hroom]
    have havail : ((s.sem n).granted who q).avail = (s.sem n).avail - 1 := rfl
    have hunits : (((s.sem n).granted who q).holds.map (·.count)).sum = ((s.sem n).holds.map (·.count)).sum + 1 :=
      heldUnits_addHold q hok
    exact ⟨by omega, hok.addHold q⟩

end Sys2Proof.Machine
end

section
/-! SUPPORT. TIME_IN and TIME_OUT (R87, R174, R175): transfers of the time unit, the message's bytes, what a pulse and its loss
change, the pulses sent, and the proof of TimeInAndTimeOut. -/

namespace Sys2Proof.Machine

/-! ### Transfers that are not translated (R87, R88, R93) -/

section Transfer
variable {s : State} {m len : Nat} {wr : Bool} {d : List Byte} (hp : m ≠ 10 ∨ bitAt (s.cfg 0x2018 1) 0 = false)
include hp

theorem State.transfer_performed (h : s.acuCheck m (s.bufferAddr m) len wr = none) : s.transfer m len wr d =
    ((if wr then s.fillPieces [(s.bufferAddr m, len)] d else s).nextFree.fly m (s.bufferAddr m), true) := by
  simp only [State.transfer, State.transferPieces_plain s m _ len wr hp, State.acuCheckAll_one, h, List.map_cons, List.headD_cons]

theorem State.transfer_refused {code : Nat} (h : s.acuCheck m (s.bufferAddr m) len wr = some code) :
    s.transfer m len wr d = ((s.acuDeny m (s.bufferAddr m) len wr code).nextFree, false) := by
  simp only [State.transfer, State.transferPieces_plain s m _ len wr hp, State.acuCheckAll_one, h, List.map_cons, List.headD_cons]

/-- A transfer is performed exactly when its check passes, and then changes its bytes and the accesses in flight; a refused one
is counted and recorded. -/
theorem transfer_step {u : State} (hu : u = (s.transfer m len wr d).1) :
    ((s.transfer m len wr d).2 = true ↔ s.acuCheck m (s.bufferAddr m) len wr = none) ∧
    ((s.transfer m len wr d).2 = true → u = { s with
        acu := { s.acu with flying := u.acu.flying }, free := u.free
        priv := { s.priv with sram := u.priv.sram, bad := u.priv.bad } } ∧ (wr = false → u.priv = s.priv)) ∧
    ((s.transfer m len wr d).2 = false → u.acu.denied = s.acu.denied + 1 ∧ u = { s with
        acu := { s.acu with denied := u.acu.denied, lastDenied := u.acu.lastDenied }, free := u.free
        faults := { s.faults with coming := u.faults.coming } }) := by
  subst hu
  cases hc : s.acuCheck m (s.bufferAddr m) len wr with
  | none =>
    rw [State.transfer_performed hp hc]
    refine ⟨iff_of_true rfl rfl, fun _ => ⟨?_, fun hr => by rw [hr]; rfl⟩, fun h => absurd h.symm Bool.false_ne_true⟩
    cases wr with
    | false => rfl
    | true => dsimp only; rw [if_pos rfl, State.fillPieces_frame]; rfl
  | some code =>
    rw [State.transfer_refused hp hc, State.acuDeny_eq]
    exact ⟨iff_of_false Bool.false_ne_true (by simp), fun h => absurd h Bool.false_ne_true, fun _ => ⟨rfl, rfl⟩⟩

end Transfer

/-! ### Samples of TIME_IN (R87, R93) -/

/-- The bytes of a sample, which the spec leaves open. -/
def State.sampleBytes (s : State) : List Byte := (List.range 16).map (Config.freeByte s.free)

/-- The state once a sample has gone to the time unit's buffer. -/
abbrev State.sampled (s : State) : State := (s.transfer 12 16 true s.sampleBytes).1

theorem State.sampled_time (s : State) : s.sampled.time = s.time := by
  rw [State.sampled, State.transfer_frame s 12 16 true _ (Or.inl (by decide))]

theorem State.sampled_now (s : State) : s.sampled.now = s.now := by
  rw [State.sampled, State.transfer_frame s 12 16 true _ (Or.inl (by decide))]

/-- A sample that is stored is acted on; one that is refused is discarded. -/
theorem State.timeSample_eq (s : State) (f : State → State) :
    s.timeSample 16 f = if (s.transfer 12 16 true s.sampleBytes).2 then f s.sampled else s.sampled := by
  unfold State.timeSample State.sampled State.sampleBytes
  generalize s.transfer 12 16 true _ = y
  obtain ⟨u, ok⟩ := y
  cases ok <;> rfl

theorem State.timeSample_stored {s : State} (f : State → State) (h : (s.transfer 12 16 true s.sampleBytes).2 = true) :
    s.timeSample 16 f = f s.sampled := (s.timeSample_eq f).trans (if_pos h)

theorem State.timeSample_discarded {s : State} (f : State → State) (h : (s.transfer 12 16 true s.sampleBytes).2 = false) :
    s.timeSample 16 f = s.sampled := (s.timeSample_eq f).trans (if_neg (Bool.eq_false_iff.mp h))

/-! ### The message (R174) -/

theorem leNat_natLe (n v : Nat) : leNat (natLe n v) = v % 256 ^ n := by
  induction n generalizing v with
  | zero => simp [natLe, leNat, Nat.mod_one]
  | succ n ih =>
    rw [natLe, leNat, ih, BitVec.toNat_ofNat, Nat.pow_succ' (m := 256), Nat.mod_mul]

theorem crc8Bits_lt {n c : Nat} (hc : c < 256) : crc8Bits n c < 256 := by
  induction n generalizing c with
  | zero => exact hc
  | succ n ih =>
    have hmod : c * 2 % 256 < 256 := Nat.mod_lt _ (by decide)
    refine ih ?_
    split
    · exact Nat.xor_lt_two_pow (n := 8) hmod (by decide)
    · exact hmod

theorem crc8_lt (l : List Byte) : crc8 l < 256 := by
  have hfold : ∀ c, c < 256 → l.foldl (fun c b => crc8Bits 8 (Nat.xor c b.toNat)) c < 256 := by
    induction l with
    | nil => exact fun c hc => hc
    | cons b l ih => exact fun c hc => ih _ (crc8Bits_lt (Nat.xor_lt_two_pow (n := 8) hc b.isLt))
  exact hfold 0 (by decide)

theorem bitAt_zero_toNat (v : Byte) : bitAt v.toNat 0 = v.getLsbD 0 := by
  simp [bitAt, bf, BitVec.getLsbD, Nat.testBit_zero, Bool.beq_eq_decide_eq]

/-- A message with the right start and CRC names its seconds if VALID is 1. -/
theorem timeMsg_of_message (k : Nat) (v : Byte) :
    timeMsg (natLe 2 0x5AA5 ++ natLe 8 k ++ [v] ++ natLe 1 (crc8 (natLe 8 k ++ [v]))) =
      if v.getLsbD 0 then some (k % 2 ^ 64) else none := by
  have hcrc : (BitVec.ofNat 8 (crc8 (natLe 8 k ++ [v]))).toNat = crc8 (natLe 8 k ++ [v]) := by
    rw [BitVec.toNat_ofNat]; exact Nat.mod_eq_of_lt (crc8_lt _)
  change (if (crc8 (natLe 8 k ++ [v]) == (BitVec.ofNat 8 (crc8 (natLe 8 k ++ [v]))).toNat && bitAt v.toNat 0) = true
    then some (leNat (natLe 8 k)) else none) = _
  rw [hcrc, beq_self_eq_true, Bool.true_and, bitAt_zero_toNat, leNat_natLe, show (256 : Nat) ^ 8 = 2 ^ 64 from rfl]

/-! ### What the gates and the names of fabric time follow (R171, R180) -/

theorem State.foldl_gates {α : Type} {g : State → α → State} (hg : ∀ s a, g s a = { s with gates := (g s a).gates }) (l : List α)
    (s : State) : l.foldl g s = { s with gates := (l.foldl g s).gates } := by
  induction l generalizing s with
  | nil => rfl
  | cons a l ih =>
    rw [List.foldl_cons, ih (g s a), hg s a]

theorem State.gatesRead_frame (s : State) : s.gatesRead = { s with gates := s.gatesRead.gates } :=
  State.foldl_gates (fun s _ => State.foldl_gates (fun _ _ => rfl) (List.range 4) s) s.gates s

theorem State.gatesRead_time (s : State) : s.gatesRead.time = s.time := by rw [State.gatesRead_frame]

theorem State.timeNames_frame (s : State) : s.timeNames = { s with time := s.timeNames.time, gates := s.timeNames.gates } := by
  unfold State.timeNames
  rw [State.gatesRead_frame]

theorem State.timeNames_time (s : State) : ∃ freq lockRef steps rootId,
    s.timeNames.time = { s.time with freq := freq, lockRef := lockRef, steps := steps, rootId := rootId } :=
  ⟨_, _, _, _, State.gatesRead_time _⟩

theorem State.timeNames_steps {s : State} (h : s.time.st = 4) : s.timeNames.time.steps = 0 :=
  (congrArg TimeUnit.steps (State.gatesRead_time _)).trans (if_pos (Or.inl h))

theorem State.ftStep_frame (s : State) (d : Int) :
    s.ftStep d = { s with time := (s.ftStep d).time, tports := (s.ftStep d).tports, gates := (s.ftStep d).gates } := by
  unfold State.ftStep
  dsimp only
  rw [State.gatesRead_frame]

theorem State.ftStep_time (s : State) (d : Int) : ∃ ft slew outSec lockRef outFrom,
    (s.ftStep d).time = { s.time with ft := ft, slew := slew, outSec := outSec, lockRef := lockRef, outFrom := outFrom } :=
  ⟨_, _, _, _, _, State.gatesRead_time _⟩

/-! ### A pulse of TIME_IN (R174) -/

/-- A pulse 1 s after the one before, whose message named the next second. -/
def State.NextSecond (s : State) : Prop :=
  ∃ a k, s.time.pulseAt = some a ∧ a + 999000000 ≤ s.now ∧ s.now ≤ a + 1001000000 ∧ s.time.pulseSec = some k ∧
    s.time.msgSec = some (k + 1)

/-- The test of a pulse that the model makes. -/
def State.pulseValid (s : State) : Bool :=
  (match s.time.pulseAt with
    | some a => decide (a + 999000000 ≤ s.now) && decide (s.now ≤ a + 1001000000)
    | none => false)
  && s.time.msgSec.isSome && s.time.pulseSec.isSome && s.time.msgSec == s.time.pulseSec.map (· + 1)

theorem State.pulseValid_iff (s : State) : s.pulseValid = true ↔ s.NextSecond := by
  unfold State.pulseValid State.NextSecond
  cases s.time.pulseAt with
  | none => simp
  | some a =>
    cases s.time.pulseSec with
    | none => simp
    | some k => cases s.time.msgSec <;> simp [and_assoc]

/-- A pulse is noted, with the run of valid ones. -/
def State.pulseNoted (s : State) : State :=
  { s with time := { s.time with
    pulseAt := some s.now, pulseSec := s.time.msgSec, msgSec := none
    validRun := if s.pulseValid then s.time.validRun + 1 else 0
    lastValid := if s.pulseValid then s.now else s.time.lastValid } }

/-- A ROOT_FREE root becomes ROOT_REF. -/
def State.rootRef (s : State) : State := State.timeNames { s with time := { s.time with st := 4 } }

theorem State.rootRef_frame (s : State) : s.rootRef = { s with time := s.rootRef.time, gates := s.rootRef.gates } :=
  State.timeNames_frame _

/-- What a pulse does besides: it slews, or takes the root to ROOT_REF and steps or slews. -/
theorem State.timePulse_cases (s : State) :
    (s.timePulse = s.pulseNoted ∧ (s.time.st = 5 → 3 ≤ s.pulseNoted.time.validRun → s.pulseValid = false)) ∨
    (s.time.st = 4 ∧ ∃ d, s.timePulse = s.pulseNoted.ftSlew d) ∨
    (s.time.st = 5 ∧ 3 ≤ s.pulseNoted.time.validRun ∧
      ∃ d, s.timePulse = s.pulseNoted.rootRef.ftStep d ∨ s.timePulse = s.pulseNoted.rootRef.ftSlew d) := by
  have hdef : s.timePulse =
      let th : Int := (s.pulseNoted.time.ft.toNat : Int) - ((s.time.msgSec.getD 0) * sec + s.pulseNoted.cfg 0xD000 10) * ns16
      if !s.pulseValid then s.pulseNoted
      else if s.time.st = 4 then s.pulseNoted.ftSlew (-th)
      else if s.time.st = 5 ∧ 3 ≤ s.pulseNoted.time.validRun then
        if s.pulseNoted.rootRef.stepLimit < th.natAbs then s.pulseNoted.rootRef.ftStep (-th) else s.pulseNoted.rootRef.ftSlew (-th)
      else s.pulseNoted := rfl
  rw [hdef]
  dsimp only
  split
  · next h => exact Or.inl ⟨rfl, fun _ _ => by simpa using h⟩
  · split
    · next h => exact Or.inr (Or.inl ⟨h, _, rfl⟩)
    · split
      · next h =>
        refine Or.inr (Or.inr ⟨h.1, h.2, ?_⟩)
        split
        · exact ⟨_, Or.inl rfl⟩
        · exact ⟨_, Or.inr rfl⟩
      · next h => exact Or.inl ⟨rfl, fun h5 h3 => absurd ⟨h5, h3⟩ h⟩

/-- A root that a valid pulse takes to ROOT_REF has STEPS 0, and keeps what the pulse noted. -/
theorem State.rootRef_time (s : State) : ∃ freq lockRef steps rootId,
    s.rootRef.time = { s.time with st := 4, freq := freq, lockRef := lockRef, steps := steps, rootId := rootId } :=
  State.timeNames_time _

theorem State.rootRef_steps (s : State) : s.rootRef.time.steps = 0 := State.timeNames_steps rfl

/-- What a pulse leaves of its own. -/
structure PulseLeft (s t : State) : Prop where
  at_ : t.time.pulseAt = some s.now
  noMsg : t.time.msgSec = none
  second : t.time.pulseSec = s.time.msgSec
  run : t.time.validRun = s.pulseNoted.time.validRun

theorem State.timePulse_left (s : State) : PulseLeft s s.timePulse := by
  rcases s.timePulse_cases with ⟨h, -⟩ | ⟨-, d, h⟩ | ⟨-, -, d, h | h⟩
  · rw [h]; exact ⟨rfl, rfl, rfl, rfl⟩
  · rw [h]; exact ⟨rfl, rfl, rfl, rfl⟩
  · obtain ⟨_, _, _, _, hr⟩ := s.pulseNoted.rootRef_time
    obtain ⟨_, _, _, _, _, ht⟩ := s.pulseNoted.rootRef.ftStep_time d
    rw [hr] at ht
    rw [h]
    exact ⟨by rw [ht]; rfl, by rw [ht]; rfl, by rw [ht]; rfl, by rw [ht]⟩
  · obtain ⟨_, _, _, _, hr⟩ := s.pulseNoted.rootRef_time
    rw [h]
    refine ⟨?_, ?_, ?_, ?_⟩ <;> simp only [State.ftSlew, hr] <;> rfl

theorem State.timePulse_st (s : State) :
    s.timePulse.time.st = s.time.st ∨ s.timePulse.time.st = 4 ∧ s.time.st = 5 ∧ 3 ≤ s.timePulse.time.validRun := by
  have hrun := s.timePulse_left.run
  rcases s.timePulse_cases with ⟨h, -⟩ | ⟨-, d, h⟩ | ⟨h5, h3, d, h | h⟩
  · exact Or.inl (by rw [h]; rfl)
  · exact Or.inl (by rw [h]; rfl)
  · obtain ⟨_, _, _, _, hr⟩ := s.pulseNoted.rootRef_time
    obtain ⟨_, _, _, _, _, ht⟩ := s.pulseNoted.rootRef.ftStep_time d
    exact Or.inr ⟨by rw [h, ht, hr], h5, by rw [hrun]; exact h3⟩
  · obtain ⟨_, _, _, _, hr⟩ := s.pulseNoted.rootRef_time
    exact Or.inr ⟨by rw [h, State.ftSlew, hr], h5, by rw [hrun]; exact h3⟩

theorem State.timePulse_frame (s : State) :
    s.timePulse = { s with time := s.timePulse.time, tports := s.timePulse.tports, gates := s.timePulse.gates } := by
  rcases s.timePulse_cases with ⟨h, -⟩ | ⟨-, d, h⟩ | ⟨-, -, d, h | h⟩
  · rw [h]; rfl
  · rw [h]; rfl
  · rw [h, State.ftStep_frame, State.rootRef_frame]; rfl
  · rw [h, State.rootRef_frame]; rfl

/-- Outside ROOT_FREE a pulse changes the time unit alone. -/
theorem State.timePulse_frame_of_ne {s : State} (h5 : s.time.st ≠ 5) : s.timePulse = { s with time := s.timePulse.time } := by
  rcases s.timePulse_cases with ⟨h, -⟩ | ⟨-, d, h⟩ | ⟨h, -⟩
  · rw [h]; rfl
  · rw [h]; rfl
  · exact absurd h h5

/-- The third valid pulse takes a ROOT_FREE root to ROOT_REF. -/
theorem State.timePulse_rootRef {s : State} (h5 : s.time.st = 5) (hn : s.NextSecond) (hr : 2 ≤ s.time.validRun) :
    s.timePulse.time.st = 4 ∧ s.timePulse.time.steps = 0 := by
  have hv : s.pulseValid = true := s.pulseValid_iff.mpr hn
  have h3 : 3 ≤ s.pulseNoted.time.validRun := by
    simp only [State.pulseNoted, hv, if_true]; omega
  obtain ⟨_, _, _, _, hr⟩ := s.pulseNoted.rootRef_time
  have hsteps := s.pulseNoted.rootRef_steps
  rcases s.timePulse_cases with ⟨-, h⟩ | ⟨h, -⟩ | ⟨-, -, d, h | h⟩
  · exact absurd ((h h5 h3).symm.trans hv) Bool.false_ne_true
  · exact absurd (h.symm.trans h5) (by decide)
  · obtain ⟨_, _, _, _, _, ht⟩ := s.pulseNoted.rootRef.ftStep_time d
    exact ⟨by rw [h, ht, hr], by rw [h, ht]; exact hsteps⟩
  · exact ⟨by rw [h, State.ftSlew, hr], by rw [h]; exact hsteps⟩

/-! ### The loss of TIME_IN, and TIME_OUT (R174, R175) -/

theorem exec_timeInLost_due {s : State} (h4 : s.time.st = 4) (hd : s.time.lastValid + 1500000000 ≤ s.now) :
    exec .timeInLost s = .next ((State.timeNames
      { s with time := { s.time with st := 5, validRun := 0, slew := 0 } }).timeFault 0x0D50 deferred) :=
  congrArg Host.Outcome.next (if_pos ⟨h4, hd⟩)

theorem exec_timeOutPulse_due {s : State} (h : s.outDue = true) (hq : bitAt s.outCfg.1 1 = false ∨ s.ftUsable = true) :
    exec .timeOutPulse s = .next { s with
      time := { s.time with
        outSec := (s.outNs / 1000000000).toNat + 1, outPulseAt := some s.now, outUntil := s.now + 1000000 }
      out := s.out ++ [.timeOutPulse (s.outNs / 1000000000).toNat] } := by
  refine congrArg Host.Outcome.next ((if_pos h).trans (if_neg ?_))
  change ¬ (bitAt s.outCfg.1 1 && !s.ftUsable) = true
  rcases hq with hq | hq <;> simp [hq]

/-- A second that has been marked is due no more. -/
theorem State.outDue_of_marked {s : State} (h : s.time.outSec = (s.outNs / 1000000000).toNat + 1) : s.outDue = false := by
  have hsec : ((s.outNs / (sec : Nat)).toNat + 1 != s.time.outSec) = false := by rw [h]; exact bne_self_eq_false _
  simp only [State.outDue, hsec, Bool.and_false]

theorem exec_timeOutMessage_due {s : State} {a : Nat} (ha : s.time.outPulseAt = some a) (hd : a + 500000000 ≤ s.now) :
    exec .timeOutMessage s = .next { s with
      time := { s.time with outPulseAt := none }
      out := s.out ++ [.timeOutMsg (outMessage ((s.outNs / 1000000000).toNat + 1) s.ftUsable)] } := by
  change execTimeOutMessage s = _
  simp only [execTimeOutMessage, ha]
  exact congrArg Host.Outcome.next (if_pos hd)

/-- Settles O35: a stored sample leaves the message's second or a pulse, and `timePulse_cases` says what a pulse does. -/
theorem timeInAndTimeOut : Obligations.TimeInAndTimeOut := by
  unfold Obligations.TimeInAndTimeOut
  refine ⟨?message, fun m len wr d s hp => ⟨_, rfl, transfer_step hp rfl⟩, timeMsg_of_message, ?pulse, ?third, ?lost, ?sent, ?told⟩
  case message =>
    intro b d s hd
    obtain rfl : d = s.sampleBytes := hd
    refine ⟨fun hok => ?_, fun hno => ⟨?_, ?_⟩⟩
    · have hx : exec (.timeInMessage b) s = .next { s.sampled with time := { s.sampled.time with msgSec := timeMsg b } } :=
        congrArg Host.Outcome.next (State.timeSample_stored _ hok)
      exact ⟨_, hx, rfl, by rw [State.sampled_time]⟩
    · exact congrArg Host.Outcome.next (State.timeSample_discarded _ hno)
    · exact congrArg Host.Outcome.next (State.timeSample_discarded _ hno)
  case pulse =>
    intro d s hd hok
    obtain rfl : d = s.sampleBytes := hd
    have hx : exec .timeInPulse s = .next s.sampled.timePulse := congrArg Host.Outcome.next (State.timeSample_stored _ hok)
    have hnext : s.sampled.NextSecond ↔ s.NextSecond := by
      simp only [State.NextSecond, State.sampled_time, State.sampled_now]
    obtain ⟨hat, hmsg, hsec, hrun⟩ := s.sampled.timePulse_left
    have hst := s.sampled.timePulse_st
    simp only [State.pulseNoted, State.sampled_time, State.sampled_now] at hat hsec hrun hst
    refine ⟨_, hx, hat, hmsg, hsec, fun hn => ?_, fun hn => ?_, fun hne => hst.resolve_left hne, fun h5 => ?_, State.timePulse_frame _⟩
    · rw [hrun, if_pos (s.sampled.pulseValid_iff.mpr (hnext.mpr hn))]
    · rw [hrun, if_neg (fun hv => hn (hnext.mp (s.sampled.pulseValid_iff.mp hv)))]
    · exact State.timePulse_frame_of_ne (by rw [State.sampled_time]; exact h5)
  case third =>
    intro s a k hok h5 hr ha hlo hhi hsec hmsg
    have hn : s.sampled.NextSecond := by
      rw [State.NextSecond, State.sampled_time, State.sampled_now]
      exact ⟨a, k, ha, hlo, hhi, hsec, hmsg⟩
    exact ⟨_, congrArg Host.Outcome.next (State.timeSample_stored _ hok),
      State.timePulse_rootRef (by rw [State.sampled_time]; exact h5) hn (by rw [State.sampled_time]; exact hr)⟩
  case lost =>
    intro s h4 hd
    obtain ⟨_, _, _, _, ht⟩ := State.timeNames_time { s with time := { s.time with st := 5, validRun := 0, slew := 0 } }
    have hst := congrArg TimeUnit.st ht
    have hrun := congrArg TimeUnit.validRun ht
    have hft := congrArg TimeUnit.ft ht
    refine ⟨_, exec_timeInLost_due h4 hd, hst, hrun, hft, ?_, ?_⟩
    · rw [State.timeNames_frame]; rfl
    · rw [State.timeNames_frame]; rfl
  case sent =>
    intro s hdue hq
    exact ⟨_, exec_timeOutPulse_due hdue hq, rfl, rfl, rfl, rfl, State.outDue_of_marked rfl, rfl⟩
  case told =>
    intro s a ha hd
    exact ⟨_, exec_timeOutMessage_due ha hd, rfl, rfl⟩

end Sys2Proof.Machine
end

section
/-! SUPPORT. The dictionary engine's services (R94, R308, R317 to R322, R326): what each queue's turn serves, the equation of
each service, how transfers, relays and kept responses end, and the proof of TheEngineServes. -/

namespace Sys2Proof.Machine

/-! ### A queue's turn (R308) -/

/-- A queue without the request at its head. -/
def State.dequeued (s : State) (q : Nat) (rest : List DictReq) : State :=
  s.modDict (fun d => { d with queues := Tbl.put d.queues q rest })

@[simp] theorem State.dequeued_dictQueue (s : State) (q : Nat) (rest : List DictReq) : (s.dequeued q rest).dictQueue q = rest := by
  simp [State.dequeued, State.modDict, State.dictQueue]

theorem State.dequeued_dictQueue_other (s : State) {q j : Nat} (rest : List DictReq) (h : j ≠ q) :
    (s.dequeued q rest).dictQueue j = s.dictQueue j := by
  simp [State.dequeued, State.modDict, State.dictQueue, Tbl.getD_put_other _ _ _ h]

section Turn
variable {s : State} {q : Nat} {x : DictReq} {rest : List DictReq} (hq : s.dictQueue q = x :: rest)
include hq

theorem State.serveQueue_taken {svc : Nat} (hopen : s.pathOpen x.r = true) (hturn : s.dictTurn q = true)
    (hsvc : dService (pduHdr x.pdu) = svc) : s.serveQueue q svc = (s.dequeued q rest).serve x := by
  unfold State.serveQueue
  rw [hq]
  exact if_pos (by simp [hopen, hturn, hsvc])

theorem State.serveQueue_waits (svc : Nat) (h : s.pathOpen x.r = false ∨ s.dictTurn q = false) : s.serveQueue q svc = s := by
  unfold State.serveQueue
  rw [hq]
  exact if_neg (by rcases h with h | h <;> simp [h])

end Turn

/-! ### A request is served (R318, R322) -/

/-- The service of a code; every code above 3 that a good PDU names is RELAY. -/
def State.service (s : State) (x : DictReq) (svc : Nat) : State :=
  match svc with
  | 0 => s.serveRead x
  | 1 => s.serveWrite x
  | 2 => s.serveDescribe x
  | 3 => s.serveCancel x
  | _ => s.serveRelay x

section Serve
variable {s : State} {x : DictReq}

theorem State.serve_kept {k : Kept} (hk : s.keptFor x.r (pduHdr x.pdu) = some k) :
    s.serve x = (s.countReq.dictCount 2).respond x.r x.dest k.pdu := by
  have hk' : s.countReq.keptFor x.r (pduHdr x.pdu) = some k := hk
  simp only [State.serve, hk']

variable (hk : s.keptFor x.r (pduHdr x.pdu) = none)
include hk

theorem State.serve_bad (hb : badPdu x.r x.pdu = true) (hs : dService (pduHdr x.pdu) ≠ 4) :
    s.serve x = s.countReq.abortReq x .badPdu := by
  have hk' : s.countReq.keptFor x.r (pduHdr x.pdu) = none := hk
  simp only [State.serve, hk', hb, if_true]
  exact if_neg hs

theorem State.serve_good (hb : badPdu x.r x.pdu = false) :
    s.serve x = s.countReq.service x (dService (pduHdr x.pdu)) := by
  have hk' : s.countReq.keptFor x.r (pduHdr x.pdu) = none := hk
  simp only [State.serve, hk', hb, Bool.false_eq_true, if_false]
  rfl

end Serve

/-! ### READ, WRITE and DESCRIBE (R318, R319) -/

section Services
variable {s : State} {x : DictReq}

theorem State.serveRead_outOfReach {a : Abort} (h : s.reach x.r (dIndex (pduHdr x.pdu)) (dSub (pduHdr x.pdu)) false = some a) :
    s.serveRead x = s.abortReq x a := by
  simp only [State.serveRead, h]

/-- The response to a READ from the start of a value that one segment holds. -/
theorem readPdu_whole {r : Req} {h : Nat} {v : List Byte} (ho : dOffset h = 0) (hv : v.length ≤ segSize r) :
    readPdu r h v = respPdu 0 (dTxid h) (dIndex h) (dSub h) 0 v.length true false v := by
  simp only [readPdu, ho, List.drop_zero, List.take_of_length_le hv, Nat.zero_add, Nat.le_refl, decide_true]

theorem State.serveRead_oneSegment (h : s.reach x.r (dIndex (pduHdr x.pdu)) (dSub (pduHdr x.pdu)) false = none)
    (hsync : ¬ (dIndex (pduHdr x.pdu) = 0x2020 ∧ dSub (pduHdr x.pdu) = 65)) (ho : dOffset (pduHdr x.pdu) = 0)
    {v : List Byte} (hv : s.valueBytes ((reqFn x.r).getD 0) (dIndex (pduHdr x.pdu)) (dSub (pduHdr x.pdu)) = v)
    (hlen : v.length ≤ segSize x.r) :
    s.serveRead x = s.answerReq x.r x.dest (pduHdr x.pdu)
      (respPdu 0 (dTxid (pduHdr x.pdu)) (dIndex (pduHdr x.pdu)) (dSub (pduHdr x.pdu)) 0 v.length true false v) := by
  rw [← readPdu_whole ho hlen]
  unfold State.serveRead
  simp only [h, hsync, ho, hv, if_false, if_true, Nat.not_lt_zero]
  split <;> simp [hlen]

theorem State.serveWrite_oneSegment (ho : dOffset (pduHdr x.pdu) = 0) (hl : dLast (pduHdr x.pdu) = true)
    (ht : dLen (pduHdr x.pdu) = dTotal (pduHdr x.pdu)) : s.serveWrite x = s.finishWrite x (pduData x.pdu) false :=
  (if_neg (not_not_intro ho)).trans (if_pos ⟨hl, ht⟩)

theorem State.serveDescribe_found {o : Obj} (h : s.reach x.r (dIndex (pduHdr x.pdu)) (dSub (pduHdr x.pdu)) false = none)
    (ho : s.obj? (dIndex (pduHdr x.pdu)) (dSub (pduHdr x.pdu)) = some o) :
    s.serveDescribe x = s.answerReq x.r x.dest (pduHdr x.pdu)
      (respPdu 2 (dTxid (pduHdr x.pdu)) (dIndex (pduHdr x.pdu)) (dSub (pduHdr x.pdu)) 0 0 false false o.descriptor) := by
  simp only [State.serveDescribe, h, ho]

/-! ### Transfers that end (R319 to R321) -/

theorem State.mem_endSeg_segs {g : Seg} {why : Option Abort} {y : Seg} :
    y ∈ (s.endSeg g why).dict.segs ↔ y ∈ s.dict.segs ∧ y.id ≠ g.id := by
  simp [State.endSeg, State.modDict]

/-- A segmented write that ends leaves its reason for its requester. -/
theorem State.mem_endSeg_ended {g : Seg} (a : Abort) (hg : g.write = true) : (g.r, a) ∈ (s.endSeg g (some a)).dict.ended := by
  simp [State.endSeg, State.modDict, hg]

theorem State.serveCancel_none (h : s.segOf x.r = none) : s.serveCancel x = s.abortReq x .segSequence := by
  simp only [State.serveCancel, h]

theorem State.serveCancel_open {g : Seg} (h : s.segOf x.r = some g) :
    s.serveCancel x = (s.endSeg g (some .cancelled)).answerReq x.r x.dest (pduHdr x.pdu) (okPdu (pduHdr x.pdu)) := by
  simp only [State.serveCancel, h]

theorem exec_segTimeout_open {id : Nat} {g : Seg} (h : s.dict.segs.find? (fun g => g.id == id && g.write) = some g) :
    exec (.segTimeout id) s = .next (if g.at_ + 1000000000 < s.now then (s.endSeg g (some .segTimeout)).dictCount 6 else s) := by
  change execSegTimeout id s = _
  simp only [execSegTimeout, h]

theorem exec_snapshotExpiry_open {id : Nat} {g : Seg} (h : s.dict.segs.find? (fun g => g.id == id && !g.write) = some g) :
    exec (.snapshotExpiry id) s = .next (if g.at_ + 1000000000 ≤ s.now then s.endSeg g none else s) := by
  change execSnapshotExpiry id s = _
  simp only [execSnapshotExpiry, h]

/-! ### Relays (R326) -/

/-- The device that a RELAY names, and the form of its name. -/
def relayDev (x : DictReq) : Nat := bf (leNat ((pduData x.pdu).take 8)) 0 20
def relayForm (x : DictReq) : Bool := bitAt (leNat ((pduData x.pdu).take 8)) 20

/-- The record of a RELAY that is sent. -/
def State.relayRec (s : State) (x : DictReq) : Relay :=
  { id := s.dict.nextId, r := x.r, dest := x.dest, dev := relayDev x, form := relayForm x
    txid := dTxid (pduHdr ((pduData x.pdu).drop 8)), at_ := s.now, limit := s.cfg 0x1032 1 * us }

/-- The relay is on record and counted. -/
def State.relayed (s : State) (x : DictReq) : State :=
  (s.modDict (fun d => { d with relays := d.relays ++ [s.relayRec x], nextId := d.nextId + 1 })).dictCount 3

theorem State.serveRelay_sent (hlen : 24 ≤ (pduData x.pdu).length) (hmay : s.mayRelay x.r = true)
    (hroom : s.dict.relays.length < 64) (hself : s.isSelf (relayForm x) (relayDev x) = false) :
    s.serveRelay x = (s.relayed x).sendMgt (relayForm x) (relayDev x) ((pduData x.pdu).drop 8) := by
  have hpass : firstAbort [(decide ((pduData x.pdu).length < 24), .badPdu), (!s.mayRelay x.r, .noRight),
      (decide (64 ≤ s.dict.relays.length), .busy), (s.isSelf (relayForm x) (relayDev x), .valueRange)] = none := by
    simp [firstAbort, hmay, hself, Nat.not_lt.mpr hlen, Nat.not_le.mpr hroom]
  unfold relayForm relayDev at hpass
  simp only [State.serveRelay, hpass]
  rfl

theorem State.relayAnswer_open {k : Packet} (hk : s.dict.rx.find? (fun p => !isRequest p) = some k) {y : Relay}
    (hy : s.relayOf k = some y) : s.relayAnswer =
      (s.modDict (fun d => { d with rx := d.rx.erase k, relays := d.relays.filter (fun z => z.id != y.id) })).respond y.r y.dest
        (respPdu 4 y.r.txid 0 0 0 0 false false (mgtPdu k)) := by
  have hy' : (s.modDict (fun d => { d with rx := d.rx.erase k })).relayOf k = some y := hy
  simp only [State.relayAnswer, hk, hy']
  rfl

theorem State.relayAnswer_stray {k : Packet} (hk : s.dict.rx.find? (fun p => !isRequest p) = some k) (hy : s.relayOf k = none) :
    s.relayAnswer = s.modDict (fun d => { d with rx := d.rx.erase k }) := by
  have hy' : (s.modDict (fun d => { d with rx := d.rx.erase k })).relayOf k = none := hy
  simp only [State.relayAnswer, hk, hy']

/-- A relay's time is up: it is off the record and counted. -/
def State.relayExpired (s : State) (id : Nat) : State :=
  (s.modDict (fun d => { d with relays := d.relays.filter (fun z => z.id != id) })).dictCount 4

theorem State.relayLate_open {id : Nat} {y : Relay} (hy : s.dict.relays.find? (fun y => y.id == id) = some y) :
    s.relayLate id = if s.now < y.at_ + y.limit then s else
      (s.relayExpired id).respond y.r y.dest (respPdu 4 y.r.txid 0 0 0 0x06060004 false true []) := by
  simp only [State.relayLate, hy]
  rfl

theorem mem_relays_filter {l : List Relay} {id : Nat} {z : Relay} : z ∈ l.filter (fun z => z.id != id) ↔ z ∈ l ∧ z.id ≠ id := by
  simp only [List.mem_filter, bne_iff_ne, ne_eq]

/-! ### Reads of ACU_SYNC (R94) -/

/-- The header that a waiting read of the object is answered with. -/
def syncHdr (txid : Nat) : Nat := pack [(0, 4, 1), (16, 16, txid), (32, 16, 0x2020), (48, 8, 65)]

theorem syncHdr_fields (txid : Nat) : dIndex (syncHdr txid) = 0x2020 ∧ dSub (syncHdr txid) = 65 ∧ dTxid (syncHdr txid) = txid % 65536 := by
  simp only [dIndex, dSub, dTxid, syncHdr, pack, bf, Nat.reducePow]
  omega

/-- The oldest waiting read is taken, and accesses that have finished are forgotten. -/
def State.syncTaken (s : State) (rest : List SyncRead) : State := ({ s with acu := { s.acu with syncs := rest } } : State).land

theorem State.mem_syncTaken_flying {rest : List SyncRead} {f : Flying} :
    f ∈ (s.syncTaken rest).acu.flying ↔ f ∈ s.acu.flying ∧ s.now < f.fin := by
  simp [State.syncTaken, State.land]

theorem exec_acuSyncReturn_waiting {y : SyncRead} {rest : List SyncRead} (hs : s.acu.syncs = y :: rest) :
    exec .acuSyncReturn s = .next (if y.ahead ≤ s.now then (s.syncTaken rest).syncAnswer y else s) := by
  change execAcuSyncReturn s = _
  simp only [execAcuSyncReturn, hs]
  rfl

theorem State.syncAnswer_object {y : SyncRead} (hb : y.bus = none) : s.syncAnswer y =
    s.answerReq y.r y.dest (syncHdr y.r.txid) (readPdu y.r (syncHdr y.r.txid) (natLe 4 y.epoch.toNat)) := by
  simp only [State.syncAnswer, hb]
  rfl

theorem State.syncAnswer_register {y : SyncRead} {who : SemMaster} {n : Nat} (hb : y.bus = some (who, n)) : s.syncAnswer y =
    { s with out := s.out ++ [.accessResp who stOk ((natLe 4 y.epoch.toNat ++ List.replicate 60 0).take n)] } := by
  simp only [State.syncAnswer, hb]
  rfl

end Services

/-- Settles O51: a turn serves its queue's head, and each service and each expiry has an equation of its own. -/
theorem theEngineServes : Obligations.TheEngineServes := by
  unfold Obligations.TheEngineServes
  refine ⟨?turn, ?serve, ?answer, ?late, ?gap, ?snapshot, ?kept, ?sync⟩
  case turn =>
    intro q x rest s hq
    have htake (svc : Nat) (hopen : s.pathOpen x.r = true) (hturn : s.dictTurn q = true) (hsvc : dService (pduHdr x.pdu) = svc) :
        Host.Outcome.next (s.serveQueue q svc) = (.next ((s.dequeued q rest).serve x) : Res) :=
      congrArg Host.Outcome.next (State.serveQueue_taken hq hopen hturn hsvc)
    refine ⟨fun hopen hturn => ⟨s.dequeued q rest, s.dequeued_dictQueue q rest, fun j hj => s.dequeued_dictQueue_other rest hj, rfl,
      htake 0 hopen hturn, htake 1 hopen hturn, htake 2 hopen hturn, htake 3 hopen hturn, htake 4 hopen hturn⟩, fun hshut => ?_⟩
    have hwait (svc : Nat) : Host.Outcome.next (s.serveQueue q svc) = (.next s : Res) :=
      congrArg Host.Outcome.next (State.serveQueue_waits hq svc hshut)
    exact ⟨hwait 0, hwait 1, hwait 2, hwait 3, hwait 4⟩
  case serve =>
    intro x s
    refine ⟨s.countReq, rfl, rfl, fun k hk => State.serve_kept hk, fun hk hb hs => State.serve_bad hk hb hs, fun hk hb => ?_⟩
    rw [State.serve_good hk hb]
    refine ⟨?_, ?_, ?_, ?_, ?_, ?_, ?_⟩
    · intro hs a ha
      rw [hs]
      exact State.serveRead_outOfReach (s := s.countReq) ha
    · intro hs hreach hsync ho hlen
      rw [hs]
      exact State.serveRead_oneSegment (s := s.countReq) hreach hsync ho rfl hlen
    · intro hs ho hl ht
      rw [hs]
      exact State.serveWrite_oneSegment ho hl ht
    · intro o hs hreach ho
      rw [hs]
      exact State.serveDescribe_found (s := s.countReq) hreach ho
    · intro hs hnone
      rw [hs]
      exact State.serveCancel_none (s := s.countReq) hnone
    · intro g hs hg
      rw [hs]
      exact ⟨_, State.serveCancel_open (s := s.countReq) hg, fun y => State.mem_endSeg_segs, rfl⟩
    · intro hs hlen hmay hroom hself
      rw [hs]
      exact ⟨s.countReq.relayed x, s.countReq.relayRec x, State.serveRelay_sent (s := s.countReq) hlen hmay hroom hself,
        rfl, rfl, rfl, rfl, rfl, rfl, rfl⟩
  case answer =>
    intro k s hk
    refine ⟨fun y hy => ?_, fun hnone => congrArg Host.Outcome.next (State.relayAnswer_stray hk hnone)⟩
    exact ⟨_, congrArg Host.Outcome.next (State.relayAnswer_open hk hy), fun z => mem_relays_filter, rfl, rfl⟩
  case late =>
    intro id y s hy
    have hx : exec (.relayTimeout id) s = .next _ := congrArg Host.Outcome.next (State.relayLate_open hy)
    refine ⟨fun h => ?_, fun h => ?_⟩
    · rw [hx, if_pos h]
    · rw [hx, if_neg (Nat.not_lt.mpr h)]
      exact ⟨s.relayExpired id, rfl, fun z => mem_relays_filter, rfl, rfl⟩
  case gap =>
    intro id g s hg
    obtain ⟨hid, hwrite⟩ : g.id = id ∧ g.write = true := by simpa using List.find?_some hg
    rw [exec_segTimeout_open hg]
    refine ⟨fun h => ?_, fun h => ?_⟩
    · rw [if_neg (Nat.not_lt.mpr h)]
    · rw [if_pos h]
      exact ⟨_, rfl, fun y => hid ▸ State.mem_endSeg_segs (why := some .segTimeout), State.mem_endSeg_ended .segTimeout hwrite, rfl, rfl⟩
  case snapshot =>
    intro id g s hg
    obtain ⟨hid, -⟩ : g.id = id ∧ g.write = false := by simpa using List.find?_some hg
    rw [exec_snapshotExpiry_open hg]
    refine ⟨fun h => ?_, fun h => ?_⟩
    · rw [if_neg (Nat.not_le.mpr h)]
    · rw [if_pos h]
      exact ⟨_, rfl, fun y => hid ▸ State.mem_endSeg_segs, rfl⟩
  case kept =>
    intro s
    exact ⟨_, rfl, fun k => List.mem_filter.trans (and_congr_right fun _ => decide_eq_true_iff), rfl⟩
  case sync =>
    intro y rest s hs
    rw [exec_acuSyncReturn_waiting hs]
    refine ⟨fun h => ?_, fun h => ?_⟩
    · rw [if_neg (Nat.not_le.mpr h)]
    · rw [if_pos h]
      obtain ⟨hidx, hsub, htxid⟩ := syncHdr_fields y.r.txid
      exact ⟨s.syncTaken rest, syncHdr y.r.txid, hidx, hsub, htxid, fun hb => congrArg Host.Outcome.next (State.syncAnswer_object hb),
        fun who n hb => congrArg Host.Outcome.next (State.syncAnswer_register hb), rfl, fun f => State.mem_syncTaken_flying, rfl⟩

end Sys2Proof.Machine
end

section
/-! SUPPORT. Routing (R29, R142 to R161): what a router decides, the escape tree's hop, injection and delivery at a tile, the
depths that are published, the hints that decay, and the proofs of RoutersDecide, EscapeTreeRoutes, InjectionAndDelivery and
DepthsHintsAndGenerations. -/

namespace Sys2Proof.Machine

/-! ### One link further (R142, R148) -/

section Leave
variable {s : State} {p cause vc : Nat} {k : Packet}

theorem State.leave_hopLimit (h : k.hops = 15) : s.leave p cause vc k = .drop 6 := if_pos h

theorem State.leave_out (h : k.hops < 15) (hp : s.portCarries p vc = true) : s.leave p cause vc k = .out p k :=
  (if_neg (Nat.ne_of_lt h)).trans (if_pos hp)

theorem State.leave_notUp (h : k.hops < 15) (hp : s.portCarries p vc = false) : s.leave p cause vc k = .drop cause :=
  (if_neg (Nat.ne_of_lt h)).trans (if_neg (ne_true_of_eq_false hp))

theorem State.globalHop_exhausted (h : k.gv = 2) : s.globalHop p k = .drop 4 := if_pos h

theorem State.globalHop_taken (hg : k.gv < 2) (hh : k.hops < 15) (hp : s.portCarries p 0 = true) :
    s.globalHop p k = .out p { k with gv := k.gv + 1 } :=
  (if_neg (Nat.ne_of_lt hg)).trans (State.leave_out hh hp)

end Leave

/-! ### Within a group (R29, R145): the row first, then the column -/

section FirstHop
variable {c d : Nat}

theorem firstHop_row (h : c % 8 ≠ d % 8) : firstHop (c % 64) (d % 64) 0 = if d % 8 < c % 8 then d % 8 else d % 8 - 1 := by
  have hc : c % 64 % 8 = c % 8 := by omega
  have hd : d % 64 % 8 = d % 8 := by omega
  have hne : d % 64 ≠ c % 64 := by omega
  rw [firstHop, if_neg hne, hc, hd, if_pos h.symm, rowPort]

theorem firstHop_column (hne : c ≠ d) (hgrp : c / 64 = d / 64) (h : c % 8 = d % 8) :
    firstHop (c % 64) (d % 64) 0 = if d / 8 % 8 < c / 8 % 8 then 7 + d / 8 % 8 else 6 + d / 8 % 8 := by
  have hc : c % 64 / 8 = c / 8 % 8 := by omega
  have hd : d % 64 / 8 = d / 8 % 8 := by omega
  have hne' : d % 64 ≠ c % 64 := by omega
  have hslot : ¬ d % 64 % 8 ≠ c % 64 % 8 := by omega
  rw [firstHop, if_neg hne', if_neg hslot, colPort, hc, hd]

end FirstHop

/-! ### The router's decision (R142, R145) -/

section RouteIt
variable {s : State} {p vc : Nat} {k : Packet}

theorem State.routeIt_format (h : badFormat k vc = true) : s.routeIt p vc k = (.drop 0, s) := if_pos h

theorem State.routeIt_badDest (hf : badFormat k vc = false) (h : reservedDev k.dform k.dstDev = true) :
    s.routeIt p vc k = (.drop 2, s) :=
  (if_neg (ne_true_of_eq_false hf)).trans (if_pos h)

section Coordinate
variable {c : Nat} (hf : badFormat k vc = false) (hr : reservedDev k.dform k.dstDev = false) (hp : p < 64)
  (hm : (s.link p).mgmtOnly = false) (he : s.entryLost (ptOf p) p vc k = false) (hv : vc < 8) (hc : s.coord? = some c)
include hf hr hp hm he hv hc

theorem State.routeIt_here (h : c = k.dstDev) : s.routeIt p vc k = (.here, s) := by
  simp [State.routeIt, hf, hr, hp, hm, he, Nat.not_le.mpr hv, hc, h]

/-- In the destination's group LTGT is kept as it came until the hop sets it to the destination. -/
theorem State.routeIt_ownGroup (hne : c ≠ k.dstDev) (hgrp : c / 64 = k.dstDev / 64) :
    s.routeIt p vc k = (s.leave (firstHop (c % 64) (k.dstDev % 64) 0) 8 0 { k with ltgt := k.dstDev % 64 }, s) := by
  simp [State.routeIt, hf, hr, hp, hm, he, Nat.not_le.mpr hv, hc, hne, State.retarget, State.coordHop, hgrp]

end Coordinate
end RouteIt

/-- Settles O28: in its own group a packet's only hop is by the row port or the column port of `firstHop`, and `leave` says when
it is taken. -/
theorem routersDecide : Obligations.RoutersDecide := by
  unfold Obligations.RoutersDecide
  refine ⟨fun p vc k s h => State.routeIt_format h, fun p vc k s hf h => State.routeIt_badDest hf h, ?coordinate,
    fun p k s h => State.globalHop_exhausted h, fun p k s hg hh hp => State.globalHop_taken hg hh hp⟩
  intro p c k s hf hr hp hm he hv hc
  have hgroup := State.routeIt_ownGroup hf hr hp hm he hv hc
  refine ⟨State.routeIt_here hf hr hp hm he hv hc, ?row, ?column, ?rowDown, ?limit⟩
  case row =>
    intro hne hgrp hh hslot hup
    rw [hgroup hne hgrp, firstHop_row hslot]
    exact congrArg (·, s) (State.leave_out hh hup)
  case column =>
    intro hne hgrp hh hslot hup
    rw [hgroup hne hgrp, firstHop_column hne hgrp hslot]
    exact congrArg (·, s) (State.leave_out hh hup)
  case rowDown =>
    intro hne hgrp hh hslot hdown
    rw [hgroup hne hgrp, firstHop_row hslot]
    exact congrArg (·, s) (State.leave_notUp hh hdown)
  case limit =>
    intro hne hgrp hh
    rw [hgroup hne hgrp]
    exact congrArg (·, s) (State.leave_hopLimit hh)

/-! ### The escape tree (R150, R151) -/

section Tree
variable {s : State} {k : Packet} {valid down port up : Nat} (hl : s.treeLook k = (valid, down, port))
  (hu : up = s.cfg 0x4001 (b2n k.gen + 1))
include hl

theorem State.treeHop_noEntry (h : valid = 0) : s.treeHop k = .drop 3 := by
  simp [State.treeHop, hl, h]

variable (hv : valid ≠ 0)
include hv

theorem State.treeHop_down (h : down = 1) : s.treeHop k = s.leave port 9 (vcOf k) { k with tdown := true } := by
  simp [State.treeHop, hl, hv, h]

variable (hd : down ≠ 1)
include hd

theorem State.treeHop_turn (h : k.tdown = true) : s.treeHop k = .drop 5 := by
  simp [State.treeHop, hl, hv, hd, h]

variable (ht : k.tdown = false)
include ht hu

theorem State.treeHop_root (h : up = 0xFF) : s.treeHop k = .drop 3 := by
  simp [State.treeHop, hl, hv, hd, ht, ← hu, h]

theorem State.treeHop_up (h : up ≠ 0xFF) : s.treeHop k = s.leave up 9 (vcOf k) k := by
  simp [State.treeHop, hl, hv, hd, ht, ← hu, h]

end Tree

/-- A packet that has a way on leaves by it, with TDOWN set or not. -/
theorem State.treeHop_way {s : State} {k : Packet} {valid down port up : Nat} (hl : s.treeLook k = (valid, down, port))
    (hu : up = s.cfg 0x4001 (b2n k.gen + 1)) (hv : valid ≠ 0) (hway : down = 1 ∨ k.tdown = false ∧ up ≠ 0xFF) :
    ∃ b, s.treeHop k = s.leave (if down = 1 then port else up) 9 (vcOf k) { k with tdown := b } := by
  by_cases hd : down = 1
  · exact ⟨true, by rw [if_pos hd, State.treeHop_down hl hv hd]⟩
  · obtain ⟨ht, hroot⟩ := hway.resolve_left hd
    exact ⟨k.tdown, by rw [if_neg hd, State.treeHop_up hl hu hv hd ht hroot]⟩

/-- Settles O29: a valid entry sends the packet down its port or up, or drops it, and `leave` says whether it goes. -/
theorem escapeTreeRoutes : Obligations.EscapeTreeRoutes := by
  unfold Obligations.EscapeTreeRoutes
  intro k s valid down port up hl hu
  refine ⟨State.treeHop_noEntry hl, ?down, State.treeHop_turn hl, State.treeHop_root hl hu, ?up, ?notUp, ?limit⟩
  case down =>
    intro hv hd hh hp
    rw [State.treeHop_down hl hv hd]
    exact State.leave_out hh hp
  case up =>
    intro hv hd ht hroot hh hp
    rw [State.treeHop_up hl hu hv hd ht hroot]
    exact State.leave_out hh hp
  case notUp =>
    intro hv hway hh hp
    obtain ⟨b, hb⟩ := State.treeHop_way hl hu hv hway
    rw [hb]
    exact State.leave_notUp hh hp
  case limit =>
    intro hv hway hh
    obtain ⟨b, hb⟩ := State.treeHop_way hl hu hv hway
    rw [hb]
    exact State.leave_hopLimit hh

/-! ### A tile's inbox, and what a drop counts (R142, R153) -/

/-- The packets that wait at a tile become `l`. -/
def State.setInbox (s : State) (n : Nat) (l : List QPkt) : State :=
  { s with arch := { s.arch with inbox := Tbl.put s.arch.inbox n l } }

@[simp] theorem State.setInbox_inbox (s : State) (n : Nat) (l : List QPkt) :
    Tbl.getD (s.setInbox n l).arch.inbox n [] = l := by
  simp [State.setInbox]

theorem State.setInbox_inbox_other (s : State) {n j : Nat} (l : List QPkt) (h : j ≠ n) :
    Tbl.getD (s.setInbox n l).arch.inbox j [] = Tbl.getD s.arch.inbox j [] :=
  Tbl.getD_put_other _ _ _ h

theorem nth_bump {l : List Nat} {k : Nat} (n : Nat) (h : k < l.length) : nth (bump l k n) k = satAdd 64 (nth l k) n := by
  simp [bump, nth, h]

theorem State.dropCount_drops {s : State} {n k : Nat} (unit : Nat) (h : k < (s.pt n).drops.length) :
    nth ((s.dropCount n k unit).pt n).drops k = satAdd 64 (nth (s.pt n).drops k) 1 := by
  change nth ((s.modPt n (fun t => { t with drops := bump t.drops k 1 })).pt n).drops k = _
  rw [State.modPt_pt]
  exact nth_bump 1 h

/-! ### Injection (R147, R158, R161, R332, R336) -/

section Inject
variable {s : State} {n : Nat} {q : QPkt} {rest : List QPkt}

theorem State.takesRequest_unthrottled (h : (s.pt n).throttle = 0) (k : Packet) : s.takesRequest n k = true := by
  simp [State.takesRequest, h]

theorem State.takesRequest_hard (h : (s.pt n).throttle = 2) {k : Packet} (hk : k.kind = kindReq) : s.takesRequest n k = false := by
  simp [State.takesRequest, h, throttled, hk]

theorem State.injectOne_stopped (h : s.injectStopped = true) : s.injectOne n = s := by
  simp [State.injectOne, h]

theorem State.injectOne_none (h : ∀ q ∈ Tbl.getD s.arch.inbox n [], s.takesRequest n q.pkt = false) : s.injectOne n = s := by
  have hfind : (Tbl.getD s.arch.inbox n []).find? (fun q => s.takesRequest n q.pkt) = none :=
    List.find?_eq_none.mpr fun q hq => ne_true_of_eq_false (h q hq)
  simp [State.injectOne, hfind]

section First
variable (hrun : s.injectStopped = false) (hq : Tbl.getD s.arch.inbox n [] = q :: rest) (hfree : (s.pt n).throttle = 0)
include hrun hq hfree

/-- The first packet that waits is the one found, and the rest waits on. -/
theorem State.injectOne_first : s.injectOne n =
    if !s.passes q.pkt then (s.setInbox n rest).modeDrop n
    else ((s.setInbox n rest).decideInject n q.pkt).2.carryOut n { q with ingress := 64 + n, vc := vcOf q.pkt }
      ((s.setInbox n rest).decideInject n q.pkt).1 := by
  have hpasses : (s.setInbox n rest).passes q.pkt = s.passes q.pkt := rfl
  simp only [State.setInbox] at hpasses ⊢
  simp [State.injectOne, hrun, hq, State.takesRequest_unthrottled hfree, hpasses]

theorem State.injectOne_passed (hp : s.passes q.pkt = true) : s.injectOne n =
    ((s.setInbox n rest).decideInject n q.pkt).2.carryOut n { q with ingress := 64 + n, vc := vcOf q.pkt }
      ((s.setInbox n rest).decideInject n q.pkt).1 :=
  (State.injectOne_first hrun hq hfree).trans (if_neg (by simp [hp]))

theorem State.injectOne_notCarried (hp : s.passes q.pkt = false) : s.injectOne n = (s.setInbox n rest).modeDrop n :=
  (State.injectOne_first hrun hq hfree).trans (if_pos (by simp [hp]))

end First

/-- The packet as it is injected takes the active generation (R158). -/
theorem State.decideInject_ownGroup {k : Packet} (h : ∀ c, s.coord? = some c → c / 64 = k.dstDev / 64) :
    s.decideInject n k = s.routeIt (64 + n) (vcOf { k with gen := s.genNow == 1 }) { k with gen := s.genNow == 1 } := by
  cases hc : s.coord? with
  | none => simp [State.decideInject, hc]
  | some c => simp [State.decideInject, hc, h c hc]

theorem State.passes_iff (k : Packet) :
    s.passes k = true ↔ s.carries (vcOf k) = true ∨ s.inMode .test = true ∧ s.isSelf k.dform k.dstDev = true := by
  simp [State.passes]

theorem State.passes_eq_false {k : Packet} (hc : s.carries (vcOf k) = false)
    (ht : s.inMode .test = false ∨ s.isSelf k.dform k.dstDev = false) : s.passes k = false := by
  rcases ht with ht | ht <;> simp [State.passes, hc, ht]

end Inject

/-! ### Delivery (R153, R154, R156, R157) -/

/-- A packet with its residence added to AGE (R156). -/
def State.aged (s : State) (q : QPkt) : Packet :=
  { q.pkt with age := min 0xFFFF (q.pkt.age + ceilDiv (s.now - q.arr) 64) }

section Deliver
variable {s : State} {tile : Nat} {q : QPkt} {rest : List QPkt} (hq : Tbl.getD s.arch.inbox tile [] = q :: rest)
include hq

/-- The checks of a delivery in their order: age, then room, then a taker for the TOP (R201). -/
theorem State.deliverTile_first : s.deliverTile tile =
    if 31250 < (s.aged q).age then (s.setInbox tile rest).dropCount q.tile 7
    else if tile = 12 then
      if isRequest q.pkt && decide (64 ≤ s.mgtHeld) then (s.setInbox tile rest).dropCount q.tile 10
      else (s.setInbox tile rest).modDict (fun d => { d with rx := d.rx ++ [s.aged q] })
    else if q.pkt.dform && q.pkt.kind == kindReq && decide (Config.deliveryRoom < (s.et (tile - 8)).rx.length) then
      (s.setInbox tile rest).dropCount q.tile 10
    else if !knownTop q.pkt then s.setInbox tile rest
    else (s.setInbox tile rest).modEt (tile - 8) (fun e => { e with rx := e.rx ++ [{ q with pkt := s.aged q }] }) := by
  unfold State.deliverTile
  rw [hq]
  rfl

theorem State.deliverTile_aged (h : 31250 < (s.aged q).age) :
    s.deliverTile tile = (s.setInbox tile rest).dropCount q.tile 7 :=
  (State.deliverTile_first hq).trans (if_pos h)

variable (hage : (s.aged q).age ≤ 31250)
include hage

section Management
variable (h12 : tile = 12)
include h12

theorem State.deliverTile_mgtFull (hr : isRequest q.pkt = true) (hfull : 64 ≤ s.mgtHeld) :
    s.deliverTile tile = (s.setInbox tile rest).dropCount q.tile 10 := by
  rw [State.deliverTile_first hq, if_neg (Nat.not_lt.mpr hage), if_pos h12, if_pos (by simp [hr, hfull])]

theorem State.deliverTile_mgt (h : isRequest q.pkt = false ∨ s.mgtHeld < 64) :
    s.deliverTile tile = (s.setInbox tile rest).modDict (fun d => { d with rx := d.rx ++ [s.aged q] }) := by
  have hfits : ¬ (isRequest q.pkt && decide (64 ≤ s.mgtHeld)) = true := by rcases h with h | h <;> simp [h]
  rw [State.deliverTile_first hq, if_neg (Nat.not_lt.mpr hage), if_pos h12, if_neg hfits]

end Management

section Endpoint
variable (hne : tile ≠ 12)
include hne

theorem State.deliverTile_noRoom (hd : q.pkt.dform = true) (hk : q.pkt.kind = kindReq)
    (hfull : Config.deliveryRoom < (s.et (tile - 8)).rx.length) :
    s.deliverTile tile = (s.setInbox tile rest).dropCount q.tile 10 := by
  rw [State.deliverTile_first hq, if_neg (Nat.not_lt.mpr hage), if_neg hne, if_pos (by simp [hd, hk, hfull])]

variable (hroom : q.pkt.dform = false ∨ q.pkt.kind ≠ kindReq ∨ (s.et (tile - 8)).rx.length ≤ Config.deliveryRoom)
include hroom

theorem State.deliverTile_room : s.deliverTile tile =
    if !knownTop q.pkt then s.setInbox tile rest
    else (s.setInbox tile rest).modEt (tile - 8) (fun e => { e with rx := e.rx ++ [{ q with pkt := s.aged q }] }) := by
  have hfits : ¬ (q.pkt.dform && q.pkt.kind == kindReq && decide (Config.deliveryRoom < (s.et (tile - 8)).rx.length)) = true := by
    rcases hroom with h | h | h <;> simp [h]
  rw [State.deliverTile_first hq, if_neg (Nat.not_lt.mpr hage), if_neg hne, if_neg hfits]

theorem State.deliverTile_taken (h : knownTop q.pkt = true) : s.deliverTile tile =
    (s.setInbox tile rest).modEt (tile - 8) (fun e => { e with rx := e.rx ++ [{ q with pkt := s.aged q }] }) :=
  (State.deliverTile_room hq hage hne hroom).trans (if_neg (by simp [h]))

theorem State.deliverTile_noTaker (h : knownTop q.pkt = false) : s.deliverTile tile = s.setInbox tile rest :=
  (State.deliverTile_room hq hage hne hroom).trans (if_pos (by simp [h]))

end Endpoint
end Deliver

/-- Settles O30: `injectOne` has one equation per case of the first waiting packet, and so has `deliverTile`. -/
theorem injectionAndDelivery : Obligations.InjectionAndDelivery := by
  unfold Obligations.InjectionAndDelivery
  refine ⟨?passed, fun n k s h => State.decideInject_ownGroup h, ?notCarried, ?hard, ?stopped, ?delivery⟩
  case passed =>
    intro n q rest s hrun hq hfree hp
    exact ⟨s.setInbox n rest, rfl, s.setInbox_inbox n rest, fun j hj => s.setInbox_inbox_other rest hj,
      congrArg Host.Outcome.next (State.injectOne_passed hrun hq hfree ((State.passes_iff _).mpr hp))⟩
  case notCarried =>
    intro n q rest s hrun hq hfree hc ht
    refine ⟨_, congrArg Host.Outcome.next (State.injectOne_notCarried hrun hq hfree (State.passes_eq_false hc ht)),
      ?_, s.setInbox_inbox n rest, rfl⟩
    rw [State.modeDrop, State.modPt_pt]
    rfl
  case hard =>
    intro n s h hreq
    exact congrArg Host.Outcome.next (State.injectOne_none fun q hq => State.takesRequest_hard h (hreq q hq))
  case stopped =>
    intro n s h
    exact congrArg Host.Outcome.next (State.injectOne_stopped h)
  case delivery =>
    intro tile q rest s hq
    have hinbox := s.setInbox_inbox tile rest
    refine ⟨?taken, ?noTaker, ?aged, ?mgtFull, ?mgt, ?noRoom⟩
    case taken =>
      intro hage _ hlt htop hroom
      exact ⟨_, congrArg Host.Outcome.next (State.deliverTile_taken hq hage (Nat.ne_of_lt hlt) hroom htop), hinbox,
        congrArg EtTile.rx (State.modEt_et ..), fun n hn => State.modEt_et_other _ _ hn, rfl⟩
    case noTaker =>
      intro hage _ hlt htop hroom
      exact ⟨_, congrArg Host.Outcome.next (State.deliverTile_noTaker hq hage (Nat.ne_of_lt hlt) hroom htop), hinbox, rfl⟩
    case aged =>
      intro hage hlen
      exact ⟨_, congrArg Host.Outcome.next (State.deliverTile_aged hq hage), hinbox,
        State.dropCount_drops (s := s.setInbox tile rest) _ (hlen ▸ by decide), rfl⟩
    case mgtFull =>
      intro hage h12 hr hfull hlen
      exact ⟨_, congrArg Host.Outcome.next (State.deliverTile_mgtFull hq hage h12 hr hfull),
        State.dropCount_drops (s := s.setInbox tile rest) _ (hlen ▸ by decide), rfl⟩
    case mgt =>
      intro hage h12 hfit
      exact ⟨_, congrArg Host.Outcome.next (State.deliverTile_mgt hq hage h12 hfit), hinbox, rfl, rfl⟩
    case noRoom =>
      intro hage _ hlt hd hk hfull hlen
      exact ⟨_, congrArg Host.Outcome.next (State.deliverTile_noRoom hq hage (Nat.ne_of_lt hlt) hd hk hfull),
        State.dropCount_drops (s := s.setInbox tile rest) _ (hlen ▸ by decide), rfl⟩

/-! ### Queue depths (R146) -/

/-- Request bytes queued for a port, in KiB, as they are published. -/
def State.depthOf (s : State) (p : Nat) : Nat := min 1023 ((s.vcBytes p 0 + s.vcBytes p 1 + s.vcBytes p 2) / 1024)

/-- Publish a port's depth. -/
def State.publish (s : State) (p : Nat) : State := s.modPortq p (fun x => { x with q := s.depthOf p })

theorem State.publish_portq (s : State) (p r : Nat) :
    (s.publish p).portq r = { s.portq r with q := if r = p then s.depthOf p else (s.portq r).q } := by
  by_cases h : r = p
  · rw [h, if_pos rfl]
    exact State.modPortq_portq ..
  · rw [if_neg h]
    exact State.modPortq_portq_other _ _ h

/-- What is published counts the queued packets alone. -/
theorem State.publish_depthOf (s : State) (p r : Nat) : (s.publish p).depthOf r = s.depthOf r := by
  have hqueued : (s.publish p).queuedFor r = s.queuedFor r := by
    rw [State.queuedFor, State.publish_portq]
    rfl
  simp only [State.depthOf, State.vcBytes, hqueued]

theorem foldl_publish_portq (l : List Nat) (s : State) (r : Nat) :
    (l.foldl State.publish s).portq r = { s.portq r with q := if r ∈ l then s.depthOf r else (s.portq r).q } := by
  induction l generalizing s with
  | nil => rfl
  | cons p l ih =>
    rw [List.foldl_cons, ih, State.publish_depthOf, State.publish_portq]
    by_cases hp : r = p
    · simp [hp]
    · simp [hp]

theorem foldl_publish_frame (l : List Nat) (s : State) :
    l.foldl State.publish s = { s with portqs := (l.foldl State.publish s).portqs } := by
  induction l generalizing s with
  | nil => rfl
  | cons p l ih => exact ih (s.publish p)

theorem foldl_publish_pt (l : List Nat) (s : State) (n : Nat) : (l.foldl State.publish s).pt n = s.pt n := by
  rw [foldl_publish_frame]
  rfl

/-- The ports of a port tile. -/
def tilePorts (n : Nat) : List Nat := (List.range 8).map (8 * n + ·)

theorem mem_tilePorts {n p : Nat} : p ∈ tilePorts n ↔ p / 8 = n := by
  simp only [tilePorts, List.mem_map, List.mem_range]
  constructor
  · rintro ⟨i, hi, rfl⟩
    omega
  · intro h
    exact ⟨p % 8, by omega, by omega⟩

/-- The instant of the tile's last publication is now. -/
def State.published (s : State) (n : Nat) : State := s.modPt n (fun t => { t with qpubAt := s.now })

theorem exec_qdepthPublish_due {s : State} {n : Nat} (h : (s.pt n).qpubAt + 32 ≤ s.now) :
    exec (.qdepthPublish n) s = .next ((tilePorts n).foldl State.publish (s.published n)) := by
  rw [tilePorts, List.foldl_map]
  exact congrArg Host.Outcome.next (if_pos h)

/-! ### Hints (R146) -/

/-- Every level is one less, and none that falls to zero is kept. -/
def decayed (t : Tbl Nat) : Tbl Nat := (t.map (fun e => (e.1, e.2 - 1))).filter (fun e => e.2 != 0)

theorem mem_decayed {t : Tbl Nat} {g v : Nat} : (g, v) ∈ decayed t ↔ v ≠ 0 ∧ ∃ x, (g, x) ∈ t ∧ v = x - 1 := by
  simp only [decayed, List.mem_filter, List.mem_map, bne_iff_ne, Prod.exists, Prod.mk.injEq]
  constructor
  · rintro ⟨⟨a, x, hx, rfl, rfl⟩, hv⟩
    exact ⟨hv, x, hx, rfl⟩
  · rintro ⟨hv, x, hx, rfl⟩
    exact ⟨⟨g, x, hx, rfl, rfl⟩, hv⟩

theorem exec_hintDecay_due {s : State} {n : Nat} (h : (s.pt n).decayAt + (s.pt n).decayOld.getD (s.cfg 0x4000 6) * 1000 ≤ s.now) :
    exec (.hintDecay n) s = .next (s.modPt n (fun t => { t with decayAt := s.now, decayOld := none, hint := decayed t.hint })) :=
  congrArg Host.Outcome.next (if_pos h)

/-! ### Quiet periods (R160) -/

theorem exec_genQuietEnd_passed {s : State} {g a : Nat} (hg : s.quiet.getD g none = some a) (h : a ≤ s.now) :
    exec (.genQuietEnd g) s = .next { s with quiet := s.quiet.set g none } := by
  change execGenQuietEnd g s = _
  rw [execGenQuietEnd, hg]
  exact congrArg Host.Outcome.next (if_pos h)

/-- Settles O32: publishing one port changes no count that the next one reads, and a decayed level comes from one above it. -/
theorem depthsHintsAndGenerations : Obligations.DepthsHintsAndGenerations := by
  unfold Obligations.DepthsHintsAndGenerations
  refine ⟨?publish, ?decay, fun g a s hg h => ⟨_, exec_genQuietEnd_passed hg h, rfl, rfl⟩⟩
  case publish =>
    intro n s h
    have hportq := foldl_publish_portq (tilePorts n) (s.published n)
    have hframe := foldl_publish_frame (tilePorts n) (s.published n)
    refine ⟨_, exec_qdepthPublish_due h, fun p => ?_, fun p => ?_, ?_, ?_⟩
    · rw [hportq]
      simp only [mem_tilePorts]
      rfl
    · rw [hportq]
      rfl
    · rw [foldl_publish_pt]
      exact State.modPt_pt ..
    · rw [hframe]
      rfl
  case decay =>
    intro n g s h
    have hpt := s.modPt_pt n (fun t => { t with decayAt := s.now, decayOld := none, hint := decayed t.hint })
    refine ⟨_, exec_hintDecay_due h, fun v => ?_, ?_, ?_, fun j hj => State.modPt_pt_other _ _ hj, rfl⟩
    · rw [hpt]
      exact mem_decayed
    · rw [hpt]
    · rw [hpt]

end Sys2Proof.Machine
end

section
/-! SUPPORT. Gates and queue samples (R178 to R180, R185, R186): fields laid side by side, a gate's bit, a port's sample, and the
proof of GatesAndSamples. -/

namespace Sys2Proof.Machine

/-! ### Fields laid side by side -/

/-- Fields in rising order, none of which reaches into the next. -/
def Apart (l : List (Nat × Nat × Nat)) : Prop := l.Pairwise (fun a b => a.1 + a.2.1 ≤ b.1)

theorem pack_append (l m : List (Nat × Nat × Nat)) : pack (l ++ m) = pack l + pack m := by
  induction l with
  | nil => simp [pack]
  | cons f l ih => rw [List.cons_append, pack, pack, ih, Nat.add_assoc]

theorem dvd_pack {k : Nat} {l : List (Nat × Nat × Nat)} (h : ∀ f ∈ l, k ≤ f.1) : 2 ^ k ∣ pack l := by
  induction l with
  | nil => exact Nat.dvd_zero _
  | cons f l ih =>
    obtain ⟨hf, hl⟩ := List.forall_mem_cons.mp h
    exact Nat.dvd_add (Nat.dvd_mul_left_of_dvd (Nat.pow_dvd_pow 2 hf) _) (ih hl)

/-- A field is read without what stands above it. -/
theorem bf_add_above (v r lo w : Nat) : bf (v % 2 ^ w * 2 ^ lo + 2 ^ (lo + w) * r) lo w = v % 2 ^ w := by
  have hsum : v % 2 ^ w * 2 ^ lo + 2 ^ (lo + w) * r = 2 ^ lo * (v % 2 ^ w + 2 ^ w * r) := by
    rw [Nat.pow_add, Nat.mul_add, Nat.mul_assoc, Nat.mul_comm (2 ^ lo) (v % 2 ^ w)]
  rw [bf, hsum, Nat.mul_div_cancel_left _ (Nat.two_pow_pos lo), Nat.add_mul_mod_self_left, Nat.mod_mod]

/-- A field is read without what stands below it. -/
theorem bf_add_below {u k lo : Nat} (r w : Nat) (hu : u < 2 ^ k) (hk : k ≤ lo) : bf (u + 2 ^ k * r) lo w = bf (2 ^ k * r) lo w := by
  obtain ⟨d, rfl⟩ := Nat.exists_eq_add_of_le hk
  rw [bf, bf, Nat.pow_add, ← Nat.div_div_eq_div_mul, ← Nat.div_div_eq_div_mul, Nat.add_mul_div_left _ _ (Nat.two_pow_pos k),
    Nat.div_eq_of_lt hu, Nat.zero_add, Nat.mul_div_cancel_left _ (Nat.two_pow_pos k)]

theorem bf_pack {l : List (Nat × Nat × Nat)} {lo w v : Nat} (hl : Apart l) (h : (lo, w, v) ∈ l) : bf (pack l) lo w = v % 2 ^ w := by
  induction l with
  | nil => exact absurd h List.not_mem_nil
  | cons f l ih =>
    obtain ⟨lo', w', v'⟩ := f
    obtain ⟨hf, hl⟩ := List.pairwise_cons.mp hl
    obtain ⟨r, hr⟩ := dvd_pack hf
    rcases List.mem_cons.mp h with h | h
    · obtain ⟨rfl, rfl, rfl⟩ : lo = lo' ∧ w = w' ∧ v = v' := by simpa using h
      rw [pack, hr]
      exact bf_add_above v r lo w
    · have hlow : v' % 2 ^ w' * 2 ^ lo' < 2 ^ (lo' + w') := by
        rw [Nat.pow_add, Nat.mul_comm (2 ^ lo')]
        exact Nat.mul_lt_mul_of_pos_right (Nat.mod_lt _ (Nat.two_pow_pos w')) (Nat.two_pow_pos lo')
      rw [← ih hl h, pack, hr]
      exact bf_add_below r w hlow (hf _ h)

theorem bf_bf_low (v lo : Nat) {w m : Nat} (h : w ≤ m) : bf (bf v lo m) 0 w = bf v lo w := by
  rw [bf, bf, bf, Nat.pow_zero, Nat.div_one]
  exact Nat.mod_mod_of_dvd _ (Nat.pow_dvd_pow 2 h)

theorem bf_mod (v : Nat) {lo w m : Nat} (h : lo + w ≤ m) : bf (v % 2 ^ m) lo w = bf v lo w := by
  obtain ⟨d, rfl⟩ := Nat.exists_eq_add_of_le (show lo ≤ m by omega)
  rw [bf, bf, Nat.pow_add, Nat.mod_mul_right_div_self]
  exact Nat.mod_mod_of_dvd _ (Nat.pow_dvd_pow 2 (by omega))

/-! ### Gates (R178 to R180) -/

theorem classBit_getLsbD : ∀ c, c < 4 → ∀ j, j < 4 → (1#4 <<< c).getLsbD j = decide (j = c) := by decide

/-- A class's gate is set to what its schedule says now; the other classes' keep their state. -/
theorem State.gateEvent_bit (s : State) (p : Nat) {c j : Nat} (hc : c < 4) (hj : j < 4) :
    ((s.gateEvent p c).gate p).openMask.getLsbD j =
      if j = c then s.gateNow (s.gate p).sched.toNat c s.ftNs else (s.gate p).openMask.getLsbD j := by
  rw [State.gateEvent, State.modGate_gate]
  dsimp only
  have hbit := classBit_getLsbD c hc j hj
  cases s.gateNow (s.gate p).sched.toNat c s.ftNs with
  | true =>
    rw [if_pos rfl, BitVec.getLsbD_or, hbit]
    by_cases h : j = c <;> simp [h]
  | false =>
    rw [if_neg Bool.false_ne_true, BitVec.getLsbD_and, BitVec.getLsbD_not, hbit]
    by_cases h : j = c <;> simp [h, hj]

theorem State.gateEvent_gate (s : State) (p c : Nat) :
    (s.gateEvent p c).gate p = { s.gate p with openMask := ((s.gateEvent p c).gate p).openMask } := by
  rw [State.gateEvent, State.modGate_gate]

theorem State.gateEvent_gate_other (s : State) {p q : Nat} (c : Nat) (h : q ≠ p) : (s.gateEvent p c).gate q = s.gate q :=
  State.modGate_gate_other _ _ h

theorem gOpen_nil {v c : Nat} (h : gEntries v c = []) (pos : Nat) : gOpen v c pos = true := by
  simp [gOpen, h]

theorem State.gateNow_open {s : State} {v c : Nat}
    (h : gEnable v = false ∨ gUnlockedOpen v = true ∧ s.ftUsable = false ∨ gEntries v c = []) (ft : Nat) :
    s.gateNow v c ft = true := by
  rw [State.gateNow, State.gatesFree]
  rcases h with h | ⟨hopen, hft⟩ | h
  · simp [h]
  · simp [hopen, hft]
  · simp [gOpen_nil h]

/-- Each class of a port's gate is read from the schedule in force. -/
def State.gateRead (s : State) (p : Nat) : State := (List.range 4).foldl (fun s c => s.gateEvent p c) s

theorem State.gateRead_frame (s : State) (p : Nat) : s.gateRead p = { s with gates := (s.gateRead p).gates } :=
  State.foldl_gates (fun _ _ => rfl) _ s

theorem foldl_gateEvent_gate_other (l : List Nat) (s : State) {p q : Nat} (h : q ≠ p) :
    (l.foldl (fun s c => s.gateEvent p c) s).gate q = s.gate q := by
  induction l generalizing s with
  | nil => rfl
  | cons c l ih => rw [List.foldl_cons, ih, State.gateEvent_gate_other _ _ h]

theorem foldl_gateEvent_gate (l : List Nat) (s : State) (p : Nat) :
    (l.foldl (fun s c => s.gateEvent p c) s).gate p =
      { s.gate p with openMask := ((l.foldl (fun s c => s.gateEvent p c) s).gate p).openMask } := by
  induction l generalizing s with
  | nil => rfl
  | cons c l ih => rw [List.foldl_cons, ih, State.gateEvent_gate]

/-- A class that has been read keeps its state while the others are read. -/
theorem foldl_gateEvent_bit {l : List Nat} (hl : ∀ c ∈ l, c < 4) (s : State) (p : Nat) {j : Nat} (hj : j < 4) :
    ((l.foldl (fun s c => s.gateEvent p c) s).gate p).openMask.getLsbD j =
      if j ∈ l then s.gateNow (s.gate p).sched.toNat j s.ftNs else (s.gate p).openMask.getLsbD j := by
  induction l generalizing s with
  | nil => rfl
  | cons c l ih =>
    obtain ⟨hc, hl⟩ := List.forall_mem_cons.mp hl
    have hsched : ((s.gateEvent p c).gate p).sched = (s.gate p).sched := by rw [State.gateEvent_gate]
    have hnow : (s.gateEvent p c).gateNow (s.gate p).sched.toNat j (s.gateEvent p c).ftNs =
        s.gateNow (s.gate p).sched.toNat j s.ftNs := rfl
    rw [List.foldl_cons, ih hl, hsched, hnow, State.gateEvent_bit s p hc hj]
    by_cases h : j = c
    · simp [h]
    · simp [h]

/-- A pending schedule comes into force (R180). -/
def State.gateTaken (s : State) (p : Nat) (v : BitVec 2176) : State :=
  s.modGate p (fun g => { g with sched := v, pend := none, lastSw := s.ftNs })

section Switch
variable {s : State} {p at_ : Nat} {v : BitVec 2176} (hp : (s.gate p).pend = some (v, at_))
include hp

theorem exec_gateSwitch_due (h : at_ ≤ s.ftNs) : exec (.gateSwitch p) s = .next ((s.gateTaken p v).gateRead p) := by
  change execGateSwitch p s = _
  rw [execGateSwitch, hp]
  exact congrArg Host.Outcome.next (if_pos h)

theorem exec_gateSwitch_early (h : s.ftNs < at_) : exec (.gateSwitch p) s = .next s := by
  change execGateSwitch p s = _
  rw [execGateSwitch, hp]
  exact congrArg Host.Outcome.next (if_neg (Nat.not_le.mpr h))

end Switch

/-! ### Queue samples (R185, R186) -/

/-- What a sample block says of a port: the fabric time, the port, whether it is aligned, and each queue's depth. -/
structure State.SampledAs (s : State) (p b : Nat) : Prop where
  time : bf b 0 64 = s.ftNs % 2 ^ 64
  port : bf b 64 6 = p % 64
  aligned : bitAt b 70 = s.ftUsable
  depth : ∀ v, v < 10 → bf b (128 + 64 * v) 16 = min 0xFFFF ((s.queuedFor p).filter (fun q => q.vc == v)).length

theorem State.queueRec_depth (s : State) (p v : Nat) :
    bf (s.queueRec p v) 0 16 = min 0xFFFF ((s.queuedFor p).filter (fun q => q.vc == v)).length := by
  have hfit : min 0xFFFF ((s.queuedFor p).filter (fun q => q.vc == v)).length < 2 ^ 16 := by omega
  refine (bf_pack (l := [_, _, _, _]) ?_ List.mem_cons_self).trans (Nat.mod_eq_of_lt hfit)
  simp [Apart]

/-- The fields of a sample block. -/
def State.sampleFields (s : State) (lost : Bool) (p : Nat) : List (Nat × Nat × Nat) :=
  [(0, 64, s.ftNs), (64, 6, p), (70, 1, b2n s.ftUsable), (71, 1, b2n lost)] ++
    (List.range 10).map (fun v => (128 + 64 * v, 64, s.queueRec p v))

theorem State.sampleFields_apart (s : State) (lost : Bool) (p : Nat) : Apart (s.sampleFields lost p) := by
  refine List.pairwise_append.mpr ⟨by simp, List.pairwise_map.mpr ?_, ?_⟩
  · exact List.pairwise_lt_range.imp (fun h => by dsimp only; omega)
  · intro a ha b hb
    obtain ⟨v, -, rfl⟩ := List.mem_map.mp hb
    simp only [List.mem_cons, List.not_mem_nil, or_false] at ha
    rcases ha with rfl | rfl | rfl | rfl <;> dsimp only <;> omega

theorem State.sampledAs_pack (s : State) (lost : Bool) (p : Nat) : s.SampledAs p (pack (s.sampleFields lost p)) := by
  have hapart := s.sampleFields_apart lost p
  refine ⟨bf_pack hapart (by simp [State.sampleFields]), bf_pack hapart (by simp [State.sampleFields]), ?_, fun v hv => ?_⟩
  · rw [bitAt, bf_pack (v := b2n s.ftUsable) hapart (by simp [State.sampleFields])]
    cases s.ftUsable <;> rfl
  · have hrec : bf (pack (s.sampleFields lost p)) (128 + 64 * v) 64 = s.queueRec p v % 2 ^ 64 :=
      bf_pack hapart (List.mem_append_right _ (List.mem_map.mpr ⟨v, List.mem_range.mpr hv, rfl⟩))
    rw [← bf_bf_low _ _ (show 16 ≤ 64 by decide), hrec, bf_mod _ (by decide), State.queueRec_depth]

/-- A port is sampled, aligned if fabric time is usable. -/
def State.sampleNow (s : State) (p : Nat) : State := s.samplePort s.ftUsable p

/-- Sampling a port changes its queue's sample and maxima, and what the reader is offered. -/
theorem State.sampleNow_eq (s : State) (p : Nat) : ∃ x offered,
    s.sampleNow p = { s with portqs := Tbl.put s.portqs p x, ctrs := { s.ctrs with offered := offered } } ∧
      x.egress = (s.portq p).egress ∧ s.SampledAs p x.sample := by
  unfold State.sampleNow State.samplePort
  dsimp only
  rw [← pack_append]
  split
  · exact ⟨_, _, rfl, rfl, s.sampledAs_pack _ p⟩
  · exact ⟨_, s.ctrs.offered, rfl, rfl, s.sampledAs_pack _ p⟩

theorem State.sampleNow_sampledAs (s : State) (p : Nat) : s.SampledAs p ((s.sampleNow p).portq p).sample := by
  obtain ⟨x, _, h, -, hx⟩ := s.sampleNow_eq p
  rw [h, State.portq, Tbl.getD_put_same]
  exact hx

theorem State.sampleNow_portq_other (s : State) {p r : Nat} (hr : r ≠ p) : (s.sampleNow p).portq r = s.portq r := by
  obtain ⟨_, _, h, -, -⟩ := s.sampleNow_eq p
  rw [h]
  exact Tbl.getD_put_other _ _ _ hr

theorem State.sampleNow_egress (s : State) (p r : Nat) : ((s.sampleNow p).portq r).egress = (s.portq r).egress := by
  by_cases hr : r = p
  · obtain ⟨x, _, h, hx, -⟩ := s.sampleNow_eq p
    rw [h, hr, State.portq, Tbl.getD_put_same, hx]
  · rw [State.sampleNow_portq_other s hr]

theorem State.sampleNow_frame (s : State) (p : Nat) : s.sampleNow p = { s with
    portqs := (s.sampleNow p).portqs, ctrs := { s.ctrs with offered := (s.sampleNow p).ctrs.offered } } := by
  obtain ⟨_, _, h, -, -⟩ := s.sampleNow_eq p
  rw [h]

/-- A block that is right after a port has been sampled was right before. -/
theorem State.SampledAs.of_sampleNow {s : State} {p r b : Nat} (h : (s.sampleNow p).SampledAs r b) : s.SampledAs r b := by
  obtain ⟨htime, hport, haligned, hdepth⟩ := h
  have hcross : (s.sampleNow p).crossingTo r = s.crossingTo r := by rw [State.sampleNow_frame]; rfl
  have hqueued : (s.sampleNow p).queuedFor r = s.queuedFor r := by
    rw [State.queuedFor, State.queuedFor, State.sampleNow_egress, hcross]
  rw [State.sampleNow_frame] at htime haligned
  rw [hqueued] at hdepth
  exact ⟨htime, hport, haligned, hdepth⟩

/-- The ports of a list are sampled in turn. -/
def State.samplePorts (s : State) (l : List Nat) : State := l.foldl State.sampleNow s

theorem State.samplePorts_frame (s : State) (l : List Nat) : s.samplePorts l = { s with
    portqs := (s.samplePorts l).portqs, ctrs := { s.ctrs with offered := (s.samplePorts l).ctrs.offered } } := by
  induction l generalizing s with
  | nil => rfl
  | cons p l ih =>
    have hstep : s.samplePorts (p :: l) = (s.sampleNow p).samplePorts l := rfl
    rw [hstep, ih, State.sampleNow_frame s]

theorem State.samplePorts_egress (s : State) (l : List Nat) (r : Nat) :
    ((s.samplePorts l).portq r).egress = (s.portq r).egress := by
  induction l generalizing s with
  | nil => rfl
  | cons p l ih => exact (ih _).trans (s.sampleNow_egress p r)

theorem State.samplePorts_portq_other (s : State) {l : List Nat} {r : Nat} (hr : r ∉ l) :
    (s.samplePorts l).portq r = s.portq r := by
  induction l generalizing s with
  | nil => rfl
  | cons p l ih =>
    obtain ⟨hp, hl⟩ := not_or.mp (mt List.mem_cons.mpr hr)
    exact (ih _ hl).trans (s.sampleNow_portq_other hp)

/-- Sampling a port changes nothing that another port's sample says. -/
theorem State.samplePorts_sampledAs (s : State) {l : List Nat} {r : Nat} (hr : r ∈ l) :
    s.SampledAs r ((s.samplePorts l).portq r).sample := by
  induction l generalizing s with
  | nil => exact absurd hr List.not_mem_nil
  | cons p l ih =>
    by_cases hl : r ∈ l
    · exact (ih (s.sampleNow p) hl).of_sampleNow
    · obtain rfl : r = p := (List.mem_cons.mp hr).resolve_right hl
      have hrest : (s.samplePorts (r :: l)).portq r = (s.sampleNow r).portq r := (s.sampleNow r).samplePorts_portq_other hl
      rw [hrest]
      exact s.sampleNow_sampledAs r

/-- The instant of the tile's last sample is now. -/
def State.sampleNoted (s : State) (n : Nat) : State := s.modPt n (fun t => { t with sampleAt := s.now })

/-- A tile's queues are sampled at a multiple of the period of usable fabric time, else on the tile's own timer. -/
theorem exec_queueSample_due {s : State} {n d : Nat} (hd : d = s.cfg 0xD030 1 * 1000)
    (h : if s.ftUsable then
        s.ftNs % d < 2 ∧ (s.ftNs / d ≠ bf (s.portq (8 * n)).sample 0 64 / d ∨ (s.pt n).sampleAt + 4 ≤ s.now)
      else (s.pt n).sampleAt + d ≤ s.now) :
    exec (.queueSample n) s = .next ((s.sampleNoted n).samplePorts (tilePorts n)).readerStep := by
  have hdue : (if s.ftUsable then atMultiple s.ftNs d (bf (s.portq (8 * n)).sample 0 64) (s.pt n).sampleAt s.now
      else decide ((s.pt n).sampleAt + d ≤ s.now)) = true := by
    cases hu : s.ftUsable with
    | true =>
      rw [hu] at h
      simpa [atMultiple] using h
    | false =>
      rw [hu] at h
      simpa using h
  rw [tilePorts, State.samplePorts, List.foldl_map]
  subst hd
  exact congrArg Host.Outcome.next (if_pos hdue)

/-- Settles O36: `gateEvent` sets one bit, and no port's sample changes what the next one counts. -/
theorem gatesAndSamples : Obligations.GatesAndSamples := by
  unfold Obligations.GatesAndSamples
  refine ⟨?event, fun v c ft s h => State.gateNow_open h ft, ?switch, ?sample⟩
  case event =>
    intro p c s hc
    exact ⟨_, rfl, fun j hj => s.gateEvent_bit p hc hj, s.gateEvent_gate p c, fun q hq => s.gateEvent_gate_other c hq, rfl⟩
  case switch =>
    intro p at_ v s hp
    refine ⟨fun hdue => ?_, exec_gateSwitch_early hp⟩
    have htaken : (s.gateTaken p v).gate p = { s.gate p with sched := v, pend := none, lastSw := s.ftNs } :=
      State.modGate_gate s p _
    have hgate := foldl_gateEvent_gate (List.range 4) (s.gateTaken p v) p
    rw [htaken] at hgate
    refine ⟨_, exec_gateSwitch_due hp hdue, congrArg Gate.sched hgate, congrArg Gate.pend hgate, congrArg Gate.lastSw hgate,
      fun c hc => ?_, fun q hq => ?_, ?_⟩
    · have hbit := foldl_gateEvent_bit (l := List.range 4) (fun _ => List.mem_range.mp) (s.gateTaken p v) p hc
      rw [if_pos (List.mem_range.mpr hc), htaken] at hbit
      exact hbit
    · exact (foldl_gateEvent_gate_other (List.range 4) (s.gateTaken p v) hq).trans (State.modGate_gate_other s _ hq)
    · rw [State.gateRead_frame]
      rfl
  case sample =>
    intro n i s hi hdue
    have hport : 8 * n + i ∈ tilePorts n := mem_tilePorts.mpr (by omega)
    obtain ⟨htime, hname, haligned, hdepth⟩ := (s.sampleNoted n).samplePorts_sampledAs hport
    have hframe := (s.sampleNoted n).samplePorts_frame (tilePorts n)
    refine ⟨_, exec_queueSample_due rfl hdue, htime, hname, haligned, hdepth, State.samplePorts_egress _ _ _, ?_⟩
    rw [hframe]
    rfl

end Sys2Proof.Machine
end

section
/-! SUPPORT. How a follower keeps fabric time (R164, R170, R171, R173): the servo's answer to a set, how a port is chosen as parent,
and the proof of TimeFollowsItsParent. -/

namespace Sys2Proof.Machine

/-! ### The servo (R170) -/

theorem State.ftStep_ft (s : State) (d : Int) : (s.ftStep d).time.ft = BitVec.ofInt 80 ((s.time.ft.toNat : Int) + d) := by
  have hft : (s.ftStep d).time.ft = BitVec.ofNat 80 (unsigned 80 ((s.time.ft.toNat : Int) + d)) :=
    congrArg TimeUnit.ft (State.gatesRead_time _)
  rw [hft]
  apply BitVec.eq_of_toNat_eq
  rw [BitVec.toNat_ofNat, BitVec.toNat_ofInt, unsigned, Nat.mod_eq_of_lt]
  omega

theorem State.ftStep_slew (s : State) (d : Int) : (s.ftStep d).time.slew = 0 :=
  congrArg TimeUnit.slew (State.gatesRead_time _)

theorem State.timeNames_st (s : State) : s.timeNames.time.st = s.time.st := by
  obtain ⟨_, _, _, _, h⟩ := s.timeNames_time
  rw [h]

theorem State.timeNames_ft (s : State) : s.timeNames.time.ft = s.time.ft := by
  obtain ⟨_, _, _, _, h⟩ := s.timeNames_time
  rw [h]

/-- The parent's time when a set of it gives an offset. -/
def State.parentNow (s : State) (th : Int) : Int := (s.time.ft.toNat : Int) - th

/-- A set's offset is recorded, and the servo takes its frequency. -/
def State.tracked (s : State) (th : Int) : State :=
  { s.nextFree with time := { s.time with offset := thetaPs th, freq := s.newFreq (s.parentNow th) } }

/-- Consecutive sets within 1 ns, counting one more. -/
def State.nearRun (s : State) (th : Int) : Nat := if decide (th.natAbs < 65536) then s.time.goodRun + 1 else 0

theorem State.nearRun_full_iff (s : State) (th : Int) : 64 ≤ s.nearRun th ↔ th.natAbs < 65536 ∧ 63 ≤ s.time.goodRun := by
  by_cases h : th.natAbs < 65536
  · rw [State.nearRun, if_pos (decide_eq_true h)]
    omega
  · rw [State.nearRun, if_neg (by rw [decide_eq_true_iff]; exact h)]
    omega

/-- The 64th of them leads to LOCKED. -/
def State.lockNow (s : State) (th par : Int) : State :=
  { s with time := { s.time with
    goodRun := s.nearRun th, st := 2, lockRef := if s.time.st = 2 then s.time.lockRef else some (s.now, par) } }

/-- A set counts to the 64 that lead to LOCKED. -/
def State.counted (s : State) (th par : Int) : State :=
  if 64 ≤ s.nearRun th then (s.lockNow th par).timeNames else { s with time := { s.time with goodRun := s.nearRun th } }

/-- What a counted set leaves of the time unit. -/
theorem State.counted_time (s : State) (th par : Int) : ∃ goodRun st freq lockRef steps rootId,
    (s.counted th par).time = { s.time with
      goodRun := goodRun, st := st, freq := freq, lockRef := lockRef, steps := steps, rootId := rootId } := by
  unfold State.counted
  split
  · obtain ⟨_, _, _, _, h⟩ := (s.lockNow th par).timeNames_time
    exact ⟨_, _, _, _, _, _, h⟩
  · exact ⟨_, _, _, _, _, _, rfl⟩

theorem State.counted_st (s : State) (th par : Int) :
    (s.counted th par).time.st = if 64 ≤ s.nearRun th then 2 else s.time.st := by
  unfold State.counted
  split
  · exact State.timeNames_st _
  · rfl

/-- The first set of ACQUIRING. -/
def State.stepping (s : State) : State := { s with time := { s.time with stepped := true } }

/-- One more set beyond the step limit. -/
def State.farCounted (s : State) : State := { s with time := { s.time with farRun := s.time.farRun + 1, goodRun := 0 } }

/-- LOCKED or HOLDOVER goes back to ACQUIRING. -/
def State.reacquiring (s : State) : State :=
  { s with time := { s.time with st := 1, farRun := 0, goodRun := 0, stepped := false, condStep := false, slew := 0 } }

section Servo
variable {s : State} {th : Int}

theorem State.servo_firstSet (h1 : s.time.st = 1) (hs : s.time.stepped = false) (hc : s.time.condStep = false) :
    s.servo th = ((s.tracked th).stepping.ftStep (-th)).counted th (s.parentNow th) := by
  unfold State.servo
  extract_lets par _ _ u near far lock
  have hu : u.time.st = 1 := h1
  split
  · have hcond : ¬ (u.stepping.time.condStep && !far) = true := by simp [show u.stepping.time.condStep = false from hc]
    exact (if_neg (ne_true_of_eq_false hs)).trans (congrArg lock (if_neg hcond))
  · omega
  · omega
  · next h _ _ => exact absurd hu h

theorem State.servo_acquiring (h1 : s.time.st = 1) (hs : s.time.stepped = true) :
    s.servo th = ((s.tracked th).ftSlew (-th)).counted th (s.parentNow th) := by
  unfold State.servo
  extract_lets par _ _ u near far lock
  have hu : u.time.st = 1 := h1
  split
  · exact if_pos hs
  · omega
  · omega
  · next h _ _ => exact absurd hu h

/-- A root has no parent whose sets it follows. -/
theorem State.servo_root (h : 4 ≤ s.time.st) : s.servo th = s.tracked th := by
  unfold State.servo
  extract_lets par _ _ u near far lock
  have hu : 4 ≤ u.time.st := h
  split
  · omega
  · omega
  · omega
  · rfl

/-- What a set beyond the step limit does in LOCKED or HOLDOVER. -/
theorem State.servo_far (h : s.time.st = 2 ∨ s.time.st = 3) (hfar : s.stepLimit < th.natAbs) : s.servo th =
    if 4 ≤ s.time.farRun + 1 then (s.tracked th).reacquiring.timeNames.timeFault 0x0D10 deferred
    else if s.time.st = 2 then (s.tracked th).farCounted.ftSlew (-th) else (s.tracked th).farCounted := by
  unfold State.servo
  extract_lets par _ _ u near far lock
  have hu : u.time.st = 2 ∨ u.time.st = 3 := h
  have hlimit : far = true := decide_eq_true hfar
  split
  · omega
  · exact if_pos hlimit
  · exact if_pos hlimit
  · next _ h2 h3 => exact absurd hu (not_or.mpr ⟨h2, h3⟩)

end Servo

/-! ### The choice of a parent (R171) -/

theorem State.parentBefore_iff (s : State) (a b : Nat) : s.parentBefore a b = true ↔
    (s.tport a).peerRoot < (s.tport b).peerRoot ∨
      (s.tport a).peerRoot = (s.tport b).peerRoot ∧ (s.tport a).peerSteps < (s.tport b).peerSteps := by
  simp only [State.parentBefore, Bool.or_eq_true, Bool.and_eq_true, decide_eq_true_eq, beq_iff_eq]

theorem State.parentBefore_asymm {s : State} {a b : Nat} (h : s.parentBefore a b = true) : s.parentBefore b a = false := by
  rw [← Bool.not_eq_true, State.parentBefore_iff]
  rw [State.parentBefore_iff] at h
  omega

/-- Of two ports in order any third comes after the first or before the second. -/
theorem State.parentBefore_between {s : State} {a c : Nat} (b : Nat) (h : s.parentBefore a c = true) :
    s.parentBefore a b = true ∨ s.parentBefore b c = true := by
  rw [State.parentBefore_iff] at h
  rw [State.parentBefore_iff, State.parentBefore_iff]
  omega

/-- The first port of a list by root, STEPS and port number. -/
def State.FirstOf (s : State) (l : List Nat) (p : Nat) : Prop :=
  p ∈ l ∧ ∀ q ∈ l, s.parentBefore q p = false ∧ (s.parentBefore p q = false → p ≤ q)

theorem State.FirstOf.single (s : State) (p : Nat) : s.FirstOf [p] p := by
  refine ⟨List.mem_singleton_self p, fun q hq => ?_⟩
  obtain rfl := List.mem_singleton.mp hq
  refine ⟨?_, fun _ => Nat.le_refl q⟩
  rw [← Bool.not_eq_true, State.parentBefore_iff]
  omega

/-- A port that comes before the best so far takes its place. -/
theorem State.FirstOf.cons_of_before {s : State} {l : List Nat} {a b p : Nat} (h : s.FirstOf (b :: l) p)
    (hb : s.parentBefore b a = true) : s.FirstOf (a :: b :: l) p := by
  obtain ⟨hp, hall⟩ := h
  have hpa : s.parentBefore p a = true :=
    (State.parentBefore_between p hb).resolve_left (ne_true_of_eq_false (hall b List.mem_cons_self).1)
  refine ⟨List.mem_cons_of_mem a hp, fun q hq => ?_⟩
  rcases List.mem_cons.mp hq with rfl | hq
  · exact ⟨State.parentBefore_asymm hpa, fun hn => absurd hpa (ne_true_of_eq_false hn)⟩
  · exact hall q hq

/-- A port that does not, and whose number is higher, leaves it there. -/
theorem State.FirstOf.insert_of_not_before {s : State} {l : List Nat} {a b p : Nat} (h : s.FirstOf (a :: l) p)
    (hb : s.parentBefore b a = false) (hab : a < b) : s.FirstOf (a :: b :: l) p := by
  obtain ⟨hp, hall⟩ := h
  obtain ⟨hap, hle⟩ := hall a List.mem_cons_self
  have hbp : s.parentBefore b p = false := by
    rw [← Bool.not_eq_true]
    intro hbp
    rcases State.parentBefore_between a hbp with hba | hap'
    · exact absurd hba (ne_true_of_eq_false hb)
    · exact absurd hap' (ne_true_of_eq_false hap)
  have hpb : s.parentBefore p b = false → p ≤ b := by
    intro hn
    cases hpa : s.parentBefore p a with
    | false => exact Nat.le_trans (hle hpa) (Nat.le_of_lt hab)
    | true =>
      rcases State.parentBefore_between b hpa with hpb | hba
      · exact absurd hpb (ne_true_of_eq_false hn)
      · exact absurd hba (ne_true_of_eq_false hb)
  have hmem : p ∈ a :: b :: l := by
    rcases List.mem_cons.mp hp with rfl | hp
    · exact List.mem_cons_self
    · exact List.mem_cons_of_mem a (List.mem_cons_of_mem b hp)
  refine ⟨hmem, fun q hq => ?_⟩
  rcases List.mem_cons.mp hq with rfl | hq
  · exact ⟨hap, hle⟩
  · rcases List.mem_cons.mp hq with rfl | hq
    · exact ⟨hbp, hpb⟩
    · exact hall q (List.mem_cons_of_mem a hq)

/-- The better of the best port so far and the next one. -/
def State.keepFirst (s : State) : Option Nat → Nat → Option Nat
  | none, p => some p
  | some q, p => if s.parentBefore p q then some p else some q

theorem State.foldl_keepFirst (s : State) {l : List Nat} {a : Nat} (hl : (a :: l).Pairwise (· < ·)) {p : Nat}
    (h : l.foldl s.keepFirst (some a) = some p) : s.FirstOf (a :: l) p := by
  induction l generalizing a with
  | nil =>
    obtain rfl : a = p := Option.some.inj h
    exact State.FirstOf.single s a
  | cons b l ih =>
    obtain ⟨ha, hbl⟩ := List.pairwise_cons.mp hl
    obtain ⟨hab, hal⟩ := List.forall_mem_cons.mp ha
    rw [List.foldl_cons, State.keepFirst] at h
    cases hb : s.parentBefore b a with
    | true =>
      rw [if_pos hb] at h
      exact (ih hbl h).cons_of_before hb
    | false =>
      rw [if_neg (ne_true_of_eq_false hb)] at h
      exact (ih (List.pairwise_cons.mpr ⟨hal, (List.pairwise_cons.mp hbl).2⟩) h).insert_of_not_before hb hab

/-- What is chosen from a rising list is the first of it. -/
theorem State.firstOf_of_foldl {s : State} {l : List Nat} (hl : l.Pairwise (· < ·)) {p : Nat}
    (h : l.foldl s.keepFirst none = some p) : s.FirstOf l p := by
  cases l with
  | nil => exact absurd h.symm (Option.some_ne_none p)
  | cons a l => exact s.foldl_keepFirst hl h

theorem State.keepFirst_eq (s : State) : s.keepFirst = fun b p => match b with
    | none => some p
    | some q => if s.parentBefore p q then some p else some q := by
  funext b p
  cases b <;> rfl

theorem State.bestParent_first {s : State} {p : Nat} (h : s.bestParent = some p) :
    s.eligibleParent p = true ∧ p < 64 ∧ ∀ q, q < 64 → s.eligibleParent q = true →
      s.parentBefore q p = false ∧ (s.parentBefore p q = false → p ≤ q) := by
  have hfirst : s.FirstOf s.eligibleParents p := by
    refine State.firstOf_of_foldl (List.pairwise_lt_range.filter _) ?_
    rw [State.keepFirst_eq]
    exact h
  obtain ⟨hp, hall⟩ := hfirst
  obtain ⟨hlt, hel⟩ := List.mem_filter.mp hp
  exact ⟨hel, List.mem_range.mp hlt, fun q hq hqel => hall q (List.mem_filter.mpr ⟨List.mem_range.mpr hq, hqel⟩)⟩

/-- A port of those that have offered more than the parent for 1 s without a break. -/
theorem State.betterParent_longBetter {s : State} {a p : Nat} (h : s.betterParent a = some p) :
    p < 64 ∧ s.offersMore a p = true ∧ ∃ at_, (s.tport p).betterAt = some at_ ∧ at_ + 1000000000 ≤ s.now := by
  unfold State.betterParent at h
  extract_lets due at h
  have hfirst : s.FirstOf ((List.range 64).filter due) p := by
    refine State.firstOf_of_foldl (List.pairwise_lt_range.filter _) ?_
    rw [State.keepFirst_eq]
    exact h
  obtain ⟨hlt, hdue⟩ := List.mem_filter.mp hfirst.1
  obtain ⟨hmore, hlong⟩ := Bool.and_eq_true_iff.mp hdue
  refine ⟨List.mem_range.mp hlt, hmore, ?_⟩
  cases hat : (s.tport p).betterAt with
  | none => simp [hat] at hlong
  | some at_ => exact ⟨at_, rfl, by simpa [hat] using hlong⟩

/-! ### A port that becomes the parent (R171, R173) -/

theorem Tbl.get?_map {α : Type} (t : Tbl α) (g : Nat → α → α) (k : Nat) :
    Tbl.get? (t.map (fun e => (e.1, g e.1 e.2))) k = (Tbl.get? t k).map (g k) := by
  induction t with
  | nil => rfl
  | cons e t ih =>
    obtain ⟨j, v⟩ := e
    rw [List.map_cons, Tbl.get?, Tbl.get?]
    by_cases h : j = k
    · rw [if_pos h, if_pos h, h]; rfl
    · rw [if_neg h, if_neg h, ih]

/-- A port keeps everything but since when it has offered more, where every port's `betterAt` is set anew. -/
theorem getD_betterAt (t : Tbl TimePort) (b : Nat → TimePort → Option Nat) (p : Nat) : ∃ a,
    Tbl.getD (t.map (fun e => (e.1, { e.2 with betterAt := b e.1 e.2 }))) p {} = { Tbl.getD t p {} with betterAt := a } := by
  rw [Tbl.getD, Tbl.getD, Tbl.get?_map t (fun k x => { x with betterAt := b k x })]
  cases Tbl.get? t p with
  | none => exact ⟨none, rfl⟩
  | some x => exact ⟨b p x, rfl⟩

/-- The time unit with its new parent. -/
def State.parentTaken (s : State) (p : Nat) : State :=
  { s with
    time := { s.time with
      parent := some p, goodRun := 0, farRun := 0, slew := if s.time.st = 1 then 0 else s.time.slew
      stepped := false, condStep := s.time.st == 1, st := if s.time.st = 0 then 1 else s.time.st }
    tports := s.tports.map (fun e => (e.1, { e.2 with betterAt := none })) }

theorem State.takeParent_eq (s : State) (p : Nat) : s.takeParent p = (s.parentTaken p).timeNames := rfl

theorem State.parentTaken_peerSteps (s : State) (p : Nat) : ((s.parentTaken p).tport p).peerSteps = (s.tport p).peerSteps := by
  obtain ⟨_, h⟩ := getD_betterAt s.tports (fun _ _ => none) p
  exact (congrArg TimePort.peerSteps h :)

theorem State.timeNames_steps_locked {s : State} {p : Nat} (h2 : s.time.st = 2) (hp : s.time.parent = some p) :
    s.timeNames.time.steps = min 15 ((s.tport p).peerSteps + 1) := by
  have hsteps : s.timeNames.time.steps = if s.time.st = 4 ∨ s.time.st = 5 then 0
      else if s.time.st = 2 then min 15 ((s.time.parent.map (fun p => (s.tport p).peerSteps + 1)).getD 15) else 15 :=
    congrArg TimeUnit.steps (State.gatesRead_time _)
  rw [hsteps, if_neg (by omega), if_pos h2, hp]
  rfl

section Reselect
variable {s : State} {a : Nat} (ha : s.time.parent = some a)
include ha

theorem exec_parentReselectTimer_some {p : Nat} (h : s.betterParent a = some p) :
    exec .parentReselectTimer s = .next (s.takeParent p).timeWatch := by
  change execParentReselectTimer s = _
  rw [execParentReselectTimer, ha, Option.bind_some, h]

theorem exec_parentReselectTimer_none (h : s.betterParent a = none) : exec .parentReselectTimer s = .next s := by
  change execParentReselectTimer s = _
  rw [execParentReselectTimer, ha, Option.bind_some, h]

end Reselect

/-! ### HOLDOVER at its limit (R170) -/

/-- HOLDOVER becomes FREE. -/
def State.freed (s : State) : State := State.timeNames { s with time := { s.time with st := 0, slew := 0 } }

theorem exec_holdoverExpired_due {s : State} (h3 : s.time.st = 3) (hp : s.time.parent = none)
    (hd : s.time.holdAt + s.cfg 0xD000 8 * 1000000 ≤ s.now) :
    exec .holdoverExpired s = .next (s.freed.timeFault 0x0D30 deferred) :=
  congrArg Host.Outcome.next (if_pos ⟨h3, hp, hd⟩)

theorem State.freed_names (s : State) : s.freed.time.steps = 15 ∧ s.freed.time.rootId = 0x1FFFFF :=
  ⟨congrArg TimeUnit.steps (State.gatesRead_time _), congrArg TimeUnit.rootId (State.gatesRead_time _)⟩

/-- Settles O34: the servo has one equation per state and set, and a parent is the least of its list by root and STEPS. -/
theorem timeFollowsItsParent : Obligations.TimeFollowsItsParent := by
  unfold Obligations.TimeFollowsItsParent
  refine ⟨?first, ?next, ?far, ?expired, fun s a p h => State.betterParent_longBetter h, ?taken,
    fun s a ha h => exec_parentReselectTimer_none ha h, fun s p h => State.bestParent_first h⟩
  case first =>
    intro th s h1 hs hc
    obtain ⟨_, _, _, _, _, _, hcounted⟩ := ((s.tracked th).stepping.ftStep (-th)).counted_time th (s.parentNow th)
    obtain ⟨_, _, _, _, _, hstep⟩ := (s.tracked th).stepping.ftStep_time (-th)
    rw [State.servo_firstSet h1 hs hc, hcounted]
    exact ⟨State.ftStep_ft _ _, State.ftStep_slew _ _, by rw [hstep]; rfl⟩
  case next =>
    intro th s h1 hs
    obtain ⟨_, _, _, _, _, _, hcounted⟩ := ((s.tracked th).ftSlew (-th)).counted_time th (s.parentNow th)
    have hst := ((s.tracked th).ftSlew (-th)).counted_st th (s.parentNow th)
    have hrun : 64 ≤ ((s.tracked th).ftSlew (-th)).nearRun th ↔ th.natAbs < 65536 ∧ 63 ≤ s.time.goodRun :=
      State.nearRun_full_iff _ th
    have hacq : ((s.tracked th).ftSlew (-th)).time.st = 1 := h1
    rw [State.servo_acquiring h1 hs]
    refine ⟨by rw [hcounted]; rfl, by rw [hcounted]; rfl, ?_⟩
    rw [hst, hacq]
    by_cases hn : 64 ≤ ((s.tracked th).ftSlew (-th)).nearRun th
    · rw [if_pos hn]
      exact iff_of_true rfl (hrun.mp hn)
    · rw [if_neg hn]
      exact iff_of_false (by decide) (mt hrun.mpr hn)
  case far =>
    intro th s h23 hfar
    rw [State.servo_far h23 hfar]
    refine ⟨fun hr => ?_, fun hr => ?_⟩
    · rw [if_neg (by omega)]
      split
      · exact ⟨rfl, rfl, rfl⟩
      · exact ⟨rfl, rfl, rfl⟩
    · rw [if_pos (by omega)]
      refine ⟨State.timeNames_st _, State.timeNames_ft _, ?_⟩
      rw [State.timeNames_frame]
      rfl
  case expired =>
    intro s h3 hp hd
    obtain ⟨hsteps, hroot⟩ := s.freed_names
    refine ⟨_, exec_holdoverExpired_due h3 hp hd, State.timeNames_st _, hsteps, hroot, State.timeNames_ft _, ?_, ?_⟩
    · rw [State.freed, State.timeNames_frame]
      rfl
    · rw [State.freed, State.timeNames_frame]
      rfl
  case taken =>
    intro s a p ha h
    obtain ⟨_, _, _, _, htime⟩ := (s.parentTaken p).timeNames_time
    refine ⟨_, exec_parentReselectTimer_some ha h, ?_, ?_, ?_, fun h2 => ?_, ?_⟩
    · rw [State.takeParent_eq, htime]
      rfl
    · rw [State.takeParent_eq, htime]
      rfl
    · rw [State.takeParent_eq, htime]
      rfl
    · have hlocked : (s.parentTaken p).time.st = 2 := by simp [State.parentTaken, h2]
      rw [State.takeParent_eq, State.timeNames_steps_locked hlocked rfl, State.parentTaken_peerSteps]
    · rw [State.takeParent_eq, State.timeNames_frame]
      rfl

end Sys2Proof.Machine
end

section
/-! SUPPORT. Time sets (R165 to R169): the words of one that is sent, when one is used, what a used one records, what a root follows
of its ports, and the proof of TimeSetsExchanged. -/

namespace Sys2Proof.Machine

/-! ### A set that is sent (R165, R166) -/

/-- A set's word 1: the departure above its low 48 bits, this device's state and STEPS. -/
def State.setWord1 (s : State) (d : Nat) : BitVec 48 :=
  BitVec.ofNat 48 (pack [(0, 32, bf d 48 32), (32, 4, s.time.st), (36, 4, s.time.steps)])

theorem State.setWord1_field (s : State) (d : Nat) {lo w v : Nat} (hlo : lo + w ≤ 48)
    (h : (lo, w, v) ∈ [(0, 32, bf d 48 32), (32, 4, s.time.st), (36, 4, s.time.steps)]) :
    bf (s.setWord1 d).toNat lo w = v % 2 ^ w := by
  rw [State.setWord1, BitVec.toNat_ofNat, bf_mod _ hlo]
  exact bf_pack (by simp [Apart]) h

/-- A port keeps the departure of the set it has sent, with the three before it. -/
def TimePort.departed (t : TimePort) (now d : Nat) : TimePort :=
  { t with departs := (t.departs ++ [(t.seq, d)]).drop (t.departs.length - 3), seq := (t.seq + 1) % 16, sentAt := now }

theorem TimePort.departed_length (t : TimePort) (now d : Nat) : (t.departed now d).departs.length ≤ 4 := by
  rw [TimePort.departed, List.length_drop, List.length_append, List.length_singleton]
  omega

theorem TimePort.departed_latest (t : TimePort) (now d : Nat) : (t.departed now d).departs.getLast? = some (t.seq, d) := by
  have hkept : ¬ (t.departs ++ [(t.seq, d)]).length ≤ t.departs.length - 3 := by
    rw [List.length_append, List.length_singleton]
    omega
  rw [TimePort.departed, List.getLast?_drop, if_neg hkept, List.getLast?_concat]

theorem State.ctlFirst_txCtl (s : State) (p : Nat) (l : List Block) :
    ((s.ctlFirst p l).link p).txCtl = l ++ ((s.link p).upToNow s.now).txCtl := by
  rw [State.ctlFirst, State.modLink_link]

/-- A set goes to the transmitter before all that waits, and its departure is kept. -/
theorem State.sendSet_eq (s : State) (p : Nat) : ∃ w0 w2 w3, w0 = BitVec.ofNat 48 (bf (s.departure p) 0 48) ∧
    w3 = BitVec.ofNat 48 s.time.rootId ∧
    s.sendSet p = ((s.ctlFirst p [.time 0 (s.tport p).seq w0, .time 1 (s.tport p).seq (s.setWord1 (s.departure p)),
      .time 2 (s.tport p).seq w2, .time 3 (s.tport p).seq w3]).emit
        (.time p (s.tport p).seq w0 (s.setWord1 (s.departure p)) w2 w3)).modTport p (fun t => t.departed s.now (s.departure p)) :=
  ⟨_, _, _, rfl, rfl, rfl⟩

/-! ### When a set is used (R167) -/

theorem setRtt_eq_none_iff (t : TimePort) (x : TimeSet) : setRtt t x = none ↔
    (x.inOrder = false ∨ t.echoed (bf x.word2.toNat 0 4) = none ∨ bf x.word2.toNat 4 44 = 2 ^ 44 - 1 ∨
      ∃ d, t.echoed (bf x.word2.toNat 0 4) = some d ∧
        (elapsed x.arrival d < bf x.word2.toNat 4 44 ∨ 20000 * 65536 + bf x.word2.toNat 4 44 < elapsed x.arrival d)) := by
  unfold setRtt
  cases t.echoed (bf x.word2.toNat 0 4) with
  | none => simp
  | some d =>
    rw [ite_eq_right_iff]
    simp only [Bool.and_eq_true, bne_iff_ne, decide_eq_true_eq, reduceCtorEq, imp_false, Option.some.injEq, exists_eq_left', false_or]
    generalize elapsed x.arrival d = e
    generalize bf x.word2.toNat 4 44 = turn
    cases x.inOrder with
    | false => simp
    | true =>
      simp only [true_and, Bool.true_eq_false, false_or]
      omega

/-! ### What a set leaves at its port (R167, R168) -/

/-- A received set's number and arrival, which the next set sent echoes. -/
def State.setHeard (s : State) (p : Nat) (x : TimeSet) : State :=
  s.modTport p (fun t => { t with peerSeq := some x.seq, peerArr := x.arrival })

theorem State.setHeard_rtt (s : State) (p : Nat) (x : TimeSet) : setRtt ((s.setHeard p x).tport p) x = setRtt (s.tport p) x := by
  rw [State.setHeard, State.modTport_tport]
  rfl

/-- A set that fails a check ends the run. -/
def State.setBad (s : State) (p : Nat) : State := s.modTport p (fun t => { t with badSets := satAdd 32 t.badSets 1, run := 0 })

/-- What a used set records of the peer, with its delay. -/
def TimePort.took (t : TimePort) (now : Nat) (x : TimeSet) (delay : Nat) : TimePort :=
  { t with
    peerState := bf x.word1.toNat 32 4, peerSteps := bf x.word1.toNat 36 4, peerRoot := bf x.word3.toNat 0 21
    run := t.run + 1, locked := t.locked || decide (t.need ≤ t.run + 1), lastAt := now
    sets := t.sets + 1, maxDelay := max t.maxDelay delay }

/-- After 1,024 sets the greatest delay becomes the link's. -/
def State.delayKept (s : State) (p : Nat) : State :=
  if 1024 ≤ (s.tport p).sets then
    (s.modPortq p (fun q => { q with linkDelay := min 0xFFFF (s.tport p).maxDelay })).modTport p
      (fun t => { t with sets := 0, maxDelay := 0 })
  else s

/-- The state once a port has recorded a used set. -/
def State.setUsed (s : State) (p : Nat) (x : TimeSet) (delay : Nat) : State :=
  ((s.setHeard p x).modTport p (fun t => t.took s.now x delay)).delayKept p

theorem State.takeSet_bad {s : State} {p : Nat} {x : TimeSet} (h : setRtt (s.tport p) x = none) :
    s.takeSet p x = (s.setHeard p x).setBad p := by
  rw [← s.setHeard_rtt p x] at h
  unfold State.takeSet
  extract_lets
  split
  · rfl
  · next hr => exact absurd (h.symm.trans hr) (Option.some_ne_none _).symm

/-- A used set is followed by what a change at a port brings, and by the servo if its port is the parent. -/
theorem State.takeSet_used {s : State} {p : Nat} {x : TimeSet} {rtt : Int} (h : setRtt (s.tport p) x = some rtt) : ∃ delay th,
    s.takeSet p x = if (s.setUsed p x delay).timeWatch.time.parent = some p then (s.setUsed p x delay).timeWatch.servo th
      else (s.setUsed p x delay).timeWatch := by
  rw [← s.setHeard_rtt p x] at h
  refine ⟨ceilDiv ((rtt + s.asym p) / 2).toNat ns16,
    (x.arrival : Int) - ((x.word0.toNat + bf x.word1.toNat 0 32 * 2 ^ 48 : Nat) + (rtt - s.asym p) / 2), ?_⟩
  unfold State.takeSet
  extract_lets
  split
  · next hr => exact absurd (h.symm.trans hr) (Option.some_ne_none _)
  · next r hr =>
    obtain rfl : rtt = r := Option.some.inj (h.symm.trans hr)
    rfl

theorem State.delayKept_tport (s : State) (p : Nat) : ∃ sets maxDelay,
    (s.delayKept p).tport p = { s.tport p with sets := sets, maxDelay := maxDelay } := by
  unfold State.delayKept
  split
  · exact ⟨0, 0, State.modTport_tport _ p _⟩
  · exact ⟨_, _, rfl⟩

theorem State.delayKept_tport_other (s : State) {p q : Nat} (h : q ≠ p) : (s.delayKept p).tport q = s.tport q := by
  unfold State.delayKept
  split
  · exact State.modTport_tport_other _ _ h
  · rfl

theorem State.delayKept_frame (s : State) (p : Nat) :
    s.delayKept p = { s with tports := (s.delayKept p).tports, portqs := (s.delayKept p).portqs } := by
  unfold State.delayKept
  split <;> rfl

theorem State.setUsed_tport (s : State) (p : Nat) (x : TimeSet) (delay : Nat) : ∃ seq arr sets maxDelay,
    (s.setUsed p x delay).tport p = { (s.tport p).took s.now x delay with
      peerSeq := seq, peerArr := arr, sets := sets, maxDelay := maxDelay } := by
  obtain ⟨sets, maxDelay, h⟩ := ((s.setHeard p x).modTport p (fun t => t.took s.now x delay)).delayKept_tport p
  rw [State.modTport_tport, State.setHeard, State.modTport_tport] at h
  exact ⟨_, _, sets, maxDelay, h⟩

theorem State.setUsed_tport_other (s : State) {p q : Nat} (x : TimeSet) (delay : Nat) (h : q ≠ p) :
    (s.setUsed p x delay).tport q = s.tport q :=
  (State.delayKept_tport_other _ h).trans ((State.modTport_tport_other _ _ h).trans (State.modTport_tport_other _ _ h))

theorem State.setUsed_frame (s : State) (p : Nat) (x : TimeSet) (delay : Nat) :
    s.setUsed p x delay = { s with tports := (s.setUsed p x delay).tports, portqs := (s.setUsed p x delay).portqs } := by
  unfold State.setUsed
  rw [State.delayKept_frame]
  rfl

/-! ### What a root follows of its ports (R171, R172) -/

/-- Since when a port has offered more than the parent. -/
def State.betterSince (s : State) (q : Nat) (t : TimePort) : Option Nat :=
  if (match s.time.parent with
    | some parent => s.offersMore parent q
    | none => false) then some (t.betterAt.getD s.now) else none

theorem State.watchBetter_tport (s : State) (q : Nat) : ∃ a, s.watchBetter.tport q = { s.tport q with betterAt := a } :=
  getD_betterAt s.tports s.betterSince q

/-- What is recorded of a set of the parent. -/
theorem State.tracked_eq (s : State) (th : Int) : s.tracked th = { s with
    time := { s.time with offset := thetaPs th, freq := s.newFreq (s.parentNow th) }, free := s.free + 1 } := rfl

section Root
variable {s : State} (h : 4 ≤ s.time.st)
include h

theorem State.watchRoots_root : ∃ gone, s.watchRoots = { s with time := { s.time with twoGoneAt := gone } } := by
  have hlow : decide (s.time.st < 4) = false := decide_eq_false (by omega)
  unfold State.watchRoots
  simp only [hlow, Bool.false_and, Bool.false_eq_true, if_false]
  split
  · exact ⟨_, rfl⟩
  · exact ⟨_, rfl⟩

/-- A root chooses no parent and records no TWO_ROOTS. -/
theorem State.timeWatch_of_root : ∃ gone,
    s.timeWatch = State.timeNames { s.watchBetter with time := { s.time with twoGoneAt := gone } } := by
  obtain ⟨gone, hroots⟩ := State.watchRoots_root (s := s.watchBetter) h
  refine ⟨gone, ?_⟩
  rw [State.timeWatch, State.reselect, if_pos h, hroots]
  rfl

theorem State.timeWatch_st_of_root : s.timeWatch.time.st = s.time.st := by
  obtain ⟨gone, hw⟩ := State.timeWatch_of_root h
  rw [hw, State.timeNames_st]

theorem State.timeWatch_ft_of_root : s.timeWatch.time.ft = s.time.ft := by
  obtain ⟨gone, hw⟩ := State.timeWatch_of_root h
  rw [hw, State.timeNames_ft]

theorem State.timeWatch_tport_of_root (q : Nat) : ∃ a, s.timeWatch.tport q = { s.tport q with betterAt := a } := by
  obtain ⟨gone, hw⟩ := State.timeWatch_of_root h
  rw [hw, State.timeNames_frame]
  exact s.watchBetter_tport q

theorem State.timeWatch_frame_of_root :
    s.timeWatch = { s with tports := s.timeWatch.tports, time := s.timeWatch.time, gates := s.timeWatch.gates } := by
  obtain ⟨gone, hw⟩ := State.timeWatch_of_root h
  rw [hw, State.timeNames_frame]
  rfl

/-- At a root a used set changes fabric time in nothing. -/
theorem State.takeSet_root {p : Nat} {x : TimeSet} {rtt : Int} (hr : setRtt (s.tport p) x = some rtt) : ∃ delay time free,
    s.takeSet p x = { (s.setUsed p x delay).timeWatch with time := time, free := free } ∧ time.ft = s.time.ft := by
  obtain ⟨delay, th, hset⟩ := State.takeSet_used hr
  have hsame : (s.setUsed p x delay).time = s.time := by rw [State.setUsed_frame]
  have hu : 4 ≤ (s.setUsed p x delay).time.st := by rw [hsame]; exact h
  have hft : (s.setUsed p x delay).timeWatch.time.ft = s.time.ft := by rw [State.timeWatch_ft_of_root hu, hsame]
  by_cases hp : (s.setUsed p x delay).timeWatch.time.parent = some p
  · rw [if_pos hp, State.servo_root (by rw [State.timeWatch_st_of_root hu]; exact hu), State.tracked_eq] at hset
    exact ⟨delay, _, _, hset, hft⟩
  · rw [if_neg hp] at hset
    exact ⟨delay, _, _, hset, hft⟩

end Root

/-! ### The commands -/

theorem exec_ftSyncTimer_due {p : Nat} {s : State} (hs : s.timeSends p = true) (hd : (s.tport p).sentAt + s.cfg 0xD000 6 ≤ s.now) :
    exec (.ftSyncTimer p) s = .next (s.sendSet p) :=
  congrArg Host.Outcome.next (if_pos ⟨hs, hd⟩)

theorem exec_timeSetRx_taken {p : Nat} {s : State} (x : TimeSet) (hs : s.timeSends p = true) :
    exec (.timeSetRx p x) s = .next (s.takeSet p x) :=
  congrArg Host.Outcome.next (if_pos hs)

theorem exec_timeLockLoss_due {p : Nat} {s : State} (hl : (s.tport p).locked = true)
    (hd : (s.tport p).lastAt + 8 * s.cfg 0xD000 6 ≤ s.now) : exec (.timeLockLoss p) s = .next (s.timeUnlock p) :=
  congrArg Host.Outcome.next (if_pos ⟨hl, hd⟩)

/-- Settles O33: the words of a set are fields side by side, and at a root a used set changes what its port records. -/
theorem timeSetsExchanged : Obligations.TimeSetsExchanged := by
  unfold Obligations.TimeSetsExchanged
  refine ⟨?sent, ?bad, setRtt_eq_none_iff, ?used, ?lost⟩
  case sent =>
    intro p d s hs hdue hd
    obtain rfl : d = s.departure p := hd
    have hlt : s.departure p < 2 ^ 80 := Nat.mod_lt _ (by decide)
    obtain ⟨w0, w2, w3, hw0, hw3, hsend⟩ := s.sendSet_eq p
    have htport : (s.sendSet p).tport p = (s.tport p).departed s.now (s.departure p) := by
      rw [hsend]
      exact State.modTport_tport _ p _
    refine ⟨_, w0, s.setWord1 (s.departure p), w2, w3, exec_ftSyncTimer_due hs hdue, ?_, ?_, ?_, fun hst => ?_, fun hst => ?_, ?_,
      ?_, ?_, ?_, ?_, fun q hq => ?_, ?_⟩
    · rw [hsend]; rfl
    · rw [hw0, BitVec.toNat_ofNat, bf, Nat.pow_zero, Nat.div_one, Nat.mod_mod]
    · rw [s.setWord1_field _ (by decide) List.mem_cons_self]
      simp only [bf]
      omega
    · rw [s.setWord1_field _ (v := s.time.st) (by decide) (by simp)]
      exact Nat.mod_eq_of_lt hst
    · rw [s.setWord1_field _ (v := s.time.steps) (by decide) (by simp)]
      exact Nat.mod_eq_of_lt hst
    · rw [hw3, BitVec.toNat_ofNat]
    · rw [hsend]
      exact s.ctlFirst_txCtl p _
    · rw [htport]; exact TimePort.departed_length _ _ _
    · rw [htport]; exact TimePort.departed_latest _ _ _
    · rw [htport]; rfl
    · rw [hsend]; exact State.modTport_tport_other _ _ hq
    · rw [hsend]; rfl
  case bad =>
    intro p x s hs hr
    have htport : ((s.setHeard p x).setBad p).tport p = { s.tport p with
        peerSeq := some x.seq, peerArr := x.arrival, badSets := satAdd 32 (s.tport p).badSets 1, run := 0 } := by
      rw [State.setBad, State.modTport_tport, State.setHeard, State.modTport_tport]
    refine ⟨_, exec_timeSetRx_taken x hs, ?_⟩
    rw [State.takeSet_bad hr, htport]
    exact ⟨rfl, rfl, rfl, fun q hq => (State.modTport_tport_other _ _ hq).trans (State.modTport_tport_other _ _ hq), rfl⟩
  case used =>
    intro p x rtt s hs hr hroot
    have hst : 4 ≤ s.time.st := by omega
    obtain ⟨delay, time, free, htake, hft⟩ := State.takeSet_root hst hr
    have hu : 4 ≤ (s.setUsed p x delay).time.st := by rw [State.setUsed_frame]; exact hst
    have hports := State.timeWatch_tport_of_root hu
    have htport : ∀ q, (s.takeSet p x).tport q = (s.setUsed p x delay).timeWatch.tport q := fun q => by rw [htake]; rfl
    obtain ⟨a, hp⟩ := hports p
    obtain ⟨seq, arr, sets, maxDelay, hown⟩ := s.setUsed_tport p x delay
    rw [hown] at hp
    refine ⟨_, exec_timeSetRx_taken x hs, ?_⟩
    rw [htport, hp]
    refine ⟨rfl, rfl, rfl, rfl, rfl, by rw [htake]; exact hft, fun q hq => ?_, ?_⟩
    · obtain ⟨b, hq'⟩ := hports q
      rw [State.setUsed_tport_other s x delay hq] at hq'
      rw [htport, hq']
    · rw [htake, State.timeWatch_frame_of_root hu, State.setUsed_frame]
  case lost =>
    intro p s hl hd
    exact ⟨_, exec_timeLockLoss_due hl hd, State.modTport_tport s p _, fun q hq => State.modTport_tport_other s _ hq, rfl⟩

end Sys2Proof.Machine
end

section
/-! SUPPORT. The window of received PSNs (R207): what a map's trailing ones are, what accepting a PSN makes of RX_EPSN and of the
map, and the proof of AtMostOnce. -/

namespace Sys2Proof.Machine

/-! ### Bits of a map -/

theorem bitAt_eq_testBit (v k : Nat) : bitAt v k = v.testBit k := by
  simp [bitAt, bf, Nat.testBit_eq_decide_div_mod_eq, Bool.beq_eq_decide_eq]

theorem trailingOnes_le (n v : Nat) : trailingOnes n v ≤ n := by
  induction n generalizing v with
  | zero => exact Nat.le_refl 0
  | succ n ih =>
    simp only [trailingOnes]
    split
    · exact Nat.succ_le_succ (ih _)
    · exact Nat.zero_le _

/-- The bit above a map's trailing ones is clear, where the count did not stop for its bound. -/
theorem testBit_trailingOnes {n v : Nat} (h : trailingOnes n v < n) : v.testBit (trailingOnes n v) = false := by
  induction n generalizing v with
  | zero => omega
  | succ n ih =>
    by_cases hv : v % 2 = 1
    · rw [trailingOnes, if_pos hv] at h ⊢
      rw [Nat.testBit_succ]
      exact ih (by omega)
    · rw [trailingOnes, if_neg hv, Nat.testBit_zero]
      exact decide_eq_false hv

/-! ### Distances around RX_EPSN -/

theorem dist_self {w : Nat} (a : BitVec w) : dist a a = 0 := by simp [dist]

theorem dist_eq_zero_iff {w : Nat} {a b : BitVec w} : dist a b = 0 ↔ a = b := by
  refine ⟨fun h => ?_, fun h => h ▸ dist_self a⟩
  have hsub : a - b = 0#w := BitVec.eq_of_toNat_eq (by simpa [dist] using h)
  rw [← BitVec.sub_add_cancel a b, hsub, BitVec.zero_add]

theorem dist_add_left (e : U32) {k : Nat} (hk : k < 2 ^ 32) : dist (e + BitVec.ofNat 32 k) e = k := by
  rw [dist, BitVec.add_comm, BitVec.add_sub_cancel, BitVec.toNat_ofNat, Nat.mod_eq_of_lt hk]

/-- A PSN's distance once the window's start has moved up by k: it falls by k, around the end of the numbers. -/
theorem dist_add_right (q e : U32) {k : Nat} (hk : k ≤ 65) :
    dist q (e + BitVec.ofNat 32 k) = if dist q e < k then dist q e + 2 ^ 32 - k else dist q e - k := by
  have hsub : q - (e + BitVec.ofNat 32 k) = (q - e) - BitVec.ofNat 32 k := by rw [BitVec.sub_sub]
  have hlt : (q - e).toNat < 2 ^ 32 := (q - e).isLt
  rw [dist, hsub, BitVec.toNat_sub, BitVec.toNat_ofNat, dist]
  split <;> omega

/-! ### Duplicates and acceptance -/

section Window
variable (x : Ctx) (psn : U32)

theorem Ctx.duplicate_iff : x.duplicate psn = true ↔ 2 ^ 31 ≤ dist psn x.rxEpsn ∨
    (1 ≤ dist psn x.rxEpsn ∧ dist psn x.rxEpsn ≤ 64) ∧ x.rxMap.toNat.testBit (dist psn x.rxEpsn - 1) = true := by
  simp [Ctx.duplicate, bitAt_eq_testBit]

theorem Ctx.beyond_eq_false_iff : x.beyond psn = false ↔ dist psn x.rxEpsn ≤ 64 ∨ 2 ^ 31 ≤ dist psn x.rxEpsn := by
  simp only [Ctx.beyond, Bool.and_eq_false_iff, decide_eq_false_iff_not]
  omega

/-- How far RX_EPSN moves when the PSN it names is accepted: past it and the received ones behind it. -/
def Ctx.passed (x : Ctx) : Nat := trailingOnes 64 x.rxMap.toNat + 1

theorem Ctx.passed_le : x.passed ≤ 65 := Nat.succ_le_succ (trailingOnes_le 64 _)

theorem Ctx.accept_first : (x.accept x.rxEpsn).rxEpsn = x.rxEpsn + BitVec.ofNat 32 x.passed ∧
    (x.accept x.rxEpsn).rxMap = x.rxMap >>> x.passed := by
  simp [Ctx.accept, dist_self, Ctx.passed]

variable {x psn}

theorem Ctx.accept_ahead (h : psn ≠ x.rxEpsn) : (x.accept psn).rxEpsn = x.rxEpsn ∧
    (x.accept psn).rxMap = x.rxMap ||| (1 <<< (dist psn x.rxEpsn - 1)) := by
  simp [Ctx.accept, dist_eq_zero_iff, h]

/-- Moving RX_EPSN keeps a duplicate one: what was passed lies behind, and the PSN that RX_EPSN stops at had not come. -/
theorem Ctx.accept_first_keeps {q : U32} (hq : x.duplicate q = true)
    (hfar : dist q x.rxEpsn < 2 ^ 31 ∨ 2 ^ 31 + 65 ≤ dist q x.rxEpsn) : (x.accept x.rxEpsn).duplicate q = true := by
  obtain ⟨hepsn, hmap⟩ := x.accept_first
  have hle := x.passed_le
  rw [Ctx.duplicate_iff] at hq ⊢
  rw [hepsn, hmap, dist_add_right q x.rxEpsn hle, BitVec.toNat_ushiftRight, Nat.testBit_shiftRight]
  rcases hq with hbehind | ⟨⟨hlow, hhigh⟩, hbit⟩
  · left
    split <;> omega
  · rcases Nat.lt_trichotomy (dist q x.rxEpsn) x.passed with hlt | heq | hgt
    · left
      rw [if_pos hlt]
      omega
    · have hclear := testBit_trailingOnes (n := 64) (v := x.rxMap.toNat) (by rw [Ctx.passed] at heq; omega)
      rw [heq, Ctx.passed, Nat.add_sub_cancel, hclear] at hbit
      exact absurd hbit (by decide)
    · right
      rw [if_neg (Nat.not_lt.mpr (Nat.le_of_lt hgt))]
      refine ⟨by omega, ?_⟩
      rwa [show x.passed + (dist q x.rxEpsn - x.passed - 1) = dist q x.rxEpsn - 1 by omega]

theorem Ctx.accept_first_self : (x.accept x.rxEpsn).duplicate x.rxEpsn = true := by
  have hle := x.passed_le
  have hpos : 0 < x.passed := Nat.succ_pos _
  rw [Ctx.duplicate_iff, x.accept_first.1, dist_add_right x.rxEpsn x.rxEpsn hle, dist_self, if_pos hpos]
  left
  omega

/-- The bit of a PSN ahead that is accepted, and those set before. -/
theorem Ctx.accept_ahead_testBit (h : psn ≠ x.rxEpsn) (hd : dist psn x.rxEpsn ≤ 64) (k : Nat) :
    (x.accept psn).rxMap.toNat.testBit k = (x.rxMap.toNat.testBit k || decide (k = dist psn x.rxEpsn - 1)) := by
  have hlt : 2 ^ (dist psn x.rxEpsn - 1) < 2 ^ 64 := Nat.pow_lt_pow_right (by decide) (by omega)
  rw [(Ctx.accept_ahead h).2, BitVec.toNat_or, Nat.testBit_or, BitVec.natCast_eq_ofNat, BitVec.toNat_ofNat, Nat.one_shiftLeft,
    Nat.mod_eq_of_lt hlt, Nat.testBit_two_pow]
  simp only [eq_comm]

end Window

/-- Settles O39: the accepted PSN is the one RX_EPSN names, which then moves past it, or one ahead, which sets its bit. -/
theorem atMostOnce : Obligations.AtMostOnce := by
  unfold Obligations.AtMostOnce
  intro x psn hnew hwin
  by_cases hpsn : psn = x.rxEpsn
  · subst hpsn
    have hle := x.passed_le
    have hdist : dist (x.accept x.rxEpsn).rxEpsn x.rxEpsn = x.passed := by
      rw [x.accept_first.1]
      exact dist_add_left _ (by omega)
    refine ⟨Ctx.accept_first_self, fun q => Ctx.accept_first_keeps, hdist ▸ hle, fun h => ?_, fun h => absurd rfl h⟩
    rw [h, dist_self] at hdist
    exact absurd hdist (Nat.succ_ne_zero _).symm
  · have hahead : 1 ≤ dist psn x.rxEpsn := Nat.one_le_iff_ne_zero.mpr (mt dist_eq_zero_iff.mp hpsn)
    have hnear : dist psn x.rxEpsn ≤ 64 := ((Ctx.beyond_eq_false_iff x psn).mp hwin).resolve_right fun hfar => by
      rw [(Ctx.duplicate_iff x psn).mpr (.inl hfar)] at hnew
      exact absurd hnew (by decide)
    have hepsn := (Ctx.accept_ahead hpsn).1
    have hbit := Ctx.accept_ahead_testBit hpsn hnear
    refine ⟨?_, fun q hq _ => ?_, by rw [hepsn, dist_self]; omega, by simp [hepsn, hpsn]⟩
    · rw [Ctx.duplicate_iff, hepsn, hbit]
      exact .inr ⟨⟨hahead, hnear⟩, by simp⟩
    · rw [Ctx.duplicate_iff] at hq ⊢
      rw [hepsn, hbit]
      exact hq.imp_right fun ⟨hrange, hset⟩ => ⟨hrange, by rw [hset, Bool.true_or]⟩

end Sys2Proof.Machine
end

section
/-! SUPPORT. What the transport's shared operations leave (R48, R198, R205, R267): the work of a context at home, an endpoint
tile after a count or a watch, a context's record after a change of another part. -/

namespace Sys2Proof.Machine

/-! ### A context's part of the state -/

theorem State.ctx_congr {s t : State} (h : t.ctxs = s.ctxs) (f c : Nat) : t.ctx f c = s.ctx f c := by
  simp only [State.ctx, h]

/-- A resident context's work is done at once (R198). -/
theorem State.atHome_resident {s : State} {f c : Nat} (h : (s.ctx f c).resident = true) (go : State → State) :
    s.atHome f c go = go s :=
  if_pos (by simp [CtxAll.here, h])

/-! ### Packets offered to the mesh (R15, R364) -/

theorem State.offer_frame (s : State) (src dst k : Nat) (x : Cross) :
    s.offer src dst k x = { s with arch := (s.offer src dst k x).arch, ctrs := (s.offer src dst k x).ctrs } := by
  unfold State.offer
  dsimp only
  split <;> rfl

theorem State.sendCtx_frame (s : State) (f : Nat) (p : Packet) :
    s.sendCtx f p = { s with arch := (s.sendCtx f p).arch, ctrs := (s.sendCtx f p).ctrs } := by
  unfold State.sendCtx
  split
  · rfl
  · exact State.offer_frame ..

theorem State.sendCtx_ctxs (s : State) (f : Nat) (p : Packet) : (s.sendCtx f p).ctxs = s.ctxs := by rw [State.sendCtx_frame]

@[simp] theorem State.sendCtx_ctx (s : State) (g : Nat) (p : Packet) (f c : Nat) : (s.sendCtx g p).ctx f c = s.ctx f c :=
  State.ctx_congr (s.sendCtx_ctxs g p) f c

/-! ### Endpoint tiles -/

@[simp] theorem State.tCount_ctx (s : State) (n k m f c : Nat) : (s.tCount n k m).ctx f c = s.ctx f c := rfl


/-- A part of every tile that an update of one tile does not touch. -/
theorem State.modEt_keeps {α : Type} (part : EtTile → α) (s : State) (k : Nat) {g : EtTile → EtTile}
    (hg : ∀ e, part (g e) = part e) (j : Nat) : part ((s.modEt k g).et j) = part (s.et j) := by
  by_cases h : j = k
  · subst h
    rw [State.modEt_et, hg]
  · rw [State.modEt_et_other _ _ h]

theorem State.replayWatch_frame (s : State) (h : Nat) : s.replayWatch h = { s with ets := (s.replayWatch h).ets } := by
  unfold State.replayWatch
  split
  · rfl
  · split <;> rfl

theorem State.replayWatch_ctxs (s : State) (h : Nat) : (s.replayWatch h).ctxs = s.ctxs := by rw [State.replayWatch_frame]

@[simp] theorem State.replayWatch_ctx (s : State) (h f c : Nat) : (s.replayWatch h).ctx f c = s.ctx f c :=
  State.ctx_congr (s.replayWatch_ctxs h) f c

theorem State.replayWatch_tombs (s : State) (h j : Nat) : ((s.replayWatch h).et j).tombs = (s.et j).tombs := by
  unfold State.replayWatch
  split
  · exact State.modEt_keeps (·.tombs) s h (fun e => by split <;> rfl) j
  · split
    · exact (State.modEt_keeps (·.tombs) _ h (fun _ => by rfl) j).trans (State.modEt_keeps (·.tombs) s h (fun _ => by rfl) j)
    · rfl

theorem State.saveWatch_frame (s : State) (h : Nat) : s.saveWatch h = { s with ets := (s.saveWatch h).ets } := by
  unfold State.saveWatch
  split
  · rfl
  · split <;> rfl

theorem State.saveWatch_tombs (s : State) (h j : Nat) : ((s.saveWatch h).et j).tombs = (s.et j).tombs := by
  unfold State.saveWatch
  split
  · exact State.modEt_keeps (·.tombs) s h (fun e => by split <;> rfl) j
  · split
    · exact State.modEt_keeps (·.tombs) s h (fun _ => by rfl) j
    · rfl

end Sys2Proof.Machine
end

section
/-! SUPPORT. Context commands (R190 to R196): what an OPEN comes to, what a CLOSE sets, what a context that reaches CLOSED leaves,
and the proof of ContextCommands. -/

namespace Sys2Proof.Machine

theorem ccCtx_lt (v : Nat) : ccCtx v < 2 ^ 20 := Nat.mod_lt _ (by decide)

theorem ckey_inj {f g c d : Nat} (hc : c < 2 ^ 20) (hd : d < 2 ^ 20) : ckey f c = ckey g d ↔ f = g ∧ c = d := by
  unfold ckey
  omega

/-! ### The oldest command (R191) -/

section Command
variable {f : Nat} {b : BitVec 512} {rest : List (BitVec 512)} {s : State}

theorem State.popCtxCmd_cmds (h : (s.fn f).ctxCmds = b :: rest) : ((s.popCtxCmd f).fn f).ctxCmds = rest := by
  simp [State.popCtxCmd, h]

variable (hcmd : (s.fn f).ctxCmds = b :: rest) (hrun : s.faults.checkstop = false)
include hcmd hrun

theorem State.ctxCmd_oldest {op : Nat} (hop : ccOp b.toNat = op) : s.ctxCmd f op = some b.toNat := by
  simp [State.ctxCmd, hrun, hcmd, hop]

theorem exec_ctxOpen_oldest (hop : ccOp b.toNat = 0) : exec (.ctxOpen f) s = .next (s.openCtx f b.toNat) := by
  simp only [exec, execCtxOpen, State.ctxCmd_oldest hcmd hrun hop]

theorem exec_ctxClose_oldest (hop : ccOp b.toNat = 1) : exec (.ctxClose f) s = .next (s.closeCmd f b.toNat) := by
  simp only [exec, execCtxClose, State.ctxCmd_oldest hcmd hrun hop]

theorem exec_ctxQuery_oldest (hop : ccOp b.toNat = 2) : exec (.ctxQuery f) s = .next (s.queryCmd f b.toNat) := by
  simp only [exec, execCtxQuery, State.ctxCmd_oldest hcmd hrun hop]

end Command

/-! ### OPEN (R193) -/

/-- The context of an OPEN in its slot, before the 0 of its HEAD_ADDR is written. -/
def State.opened (s : State) (f v : Nat) : State :=
  s.modCtx f (ccCtx v) (fun y => {
    c := s.openedCtx f v
    w := { zeroOwed := true, resyncBase := s.etNow, resyncLen := s.cfg 0x5000 5 * us }
    m := { msgs := y.m.msgs } })

section Open
variable {s : State} {f v : Nat}

theorem State.openCtx_of_tryOpen {t : State} {st : Nat} (h : s.tryOpen f v = (st, t)) : s.openCtx f v =
    (t.popCtxCmd f).complete f (ccCompl v) (ctxRecord st 0 (t.liveInc f (ccCtx v)) (ccCtx v) (ccToken v)) := by
  simp only [State.openCtx, h]

theorem State.tryOpen_malformed (h : s.badOpen f v = true) : s.tryOpen f v = (stMalformed, s) := if_pos h

theorem State.makeRoom_free (hf : s.slotsOf f < s.ctxQuota f) (hp : s.slotsIn (etOf f) < 262144) : s.makeRoom f = some s :=
  if_pos ⟨hf, hp⟩

theorem State.tombHolds_eq_false_iff {c inc : Nat} :
    s.tombHolds f c inc = false ↔ ∀ t ∈ (s.et (etOf f)).tombs, t.fn = f → t.ctx = c → t.inc ≠ inc := by
  simp [State.tombHolds, List.any_eq_false]

/-- The device has the name that the OPEN's form asks for. -/
theorem State.named_of_form (hname : bitAt v 84 = true ∨ s.coord?.isSome = true) : ¬ (!bitAt v 84 && s.coord?.isNone) = true := by
  rcases hname with h | h
  · simp [h]
  · simp [Option.isNone_eq_false_iff.mpr h]

section Good
variable (hgood : s.badOpen f v = false)
include hgood

/-- What the checks of an OPEN leave sure of its ring, its queue and its incarnation. -/
theorem State.badOpen_false_fields : 4 ≤ bf v 256 5 ∧ bf v 256 5 ≤ 16 ∧ bf v 264 12 ≠ 0 ∧
    (s.eq? f (bf v 264 12)).isSome = true ∧
    s.tombHolds f (ccCtx v) ((s.fn f).epoch * 4096 + ccInc v) = false := by
  simp only [State.badOpen, Bool.or_eq_false_iff, and_assoc, decide_eq_false_iff_not, Nat.not_lt, beq_eq_false_iff_ne,
    Bool.not_eq_false', State.eqExists] at hgood
  obtain ⟨_, hlow, hhigh, _, _, _, _, hsq, heq, _, _, htomb⟩ := hgood
  exact ⟨hlow, hhigh, hsq, heq, htomb⟩

theorem State.tryOpen_unreachable (hform : bitAt v 84 = false) (hcoord : s.coord? = none) :
    s.tryOpen f v = (stUnreachable, s) := by
  simp [State.tryOpen, hgood, hform, hcoord]

variable (hname : bitAt v 84 = true ∨ s.coord?.isSome = true)
include hname

theorem State.tryOpen_lost (hroom : s.makeRoom f = none) : s.tryOpen f v = (stLost, s) := by
  rw [State.tryOpen, if_neg (ne_true_of_eq_false hgood), if_neg (State.named_of_form hname), hroom]

theorem State.tryOpen_made {t : State} (hroom : s.makeRoom f = some t) :
    s.tryOpen f v = (stOk, (t.opened f v).put f (bf v 192 64) (natLe 4 0) (.head (ccCtx v))) := by
  rw [State.tryOpen, if_neg (ne_true_of_eq_false hgood), if_neg (State.named_of_form hname), hroom]
  rfl

end Good
end Open

/-! ### CLOSE and QUERY (R192, R195) -/

/-- A context that a CLOSE command has found open: CLOSING, with its token; the entries that have not started are lost. -/
def State.closing (s : State) (f c compl token : Nat) : State :=
  s.modCtx f c (fun y => { y with
    c := { y.c with state := 2 }
    w := { y.w with
      closeTok := some (compl, token)
      entries := y.w.entries.map (fun e => if e.lostAtClose then e.finish stLost else e)
      cur := y.w.cur.filter (fun t => !y.w.entries.any (fun e => e.idx == t.idx && e.lostAtClose)) } })

section Close
variable {s : State} {f v : Nat}

theorem State.closeCmd_notOpen (h : (s.ctx f (ccCtx v)).c.state ≠ 1) : s.closeCmd f v =
    (s.popCtxCmd f).complete f (ccCompl v) (ctxRecord stMalformed 1 (s.liveInc f (ccCtx v)) (ccCtx v) (ccToken v)) := if_pos h

variable (hres : (s.ctx f (ccCtx v)).resident = true)
include hres

theorem State.closeCmd_open (h : (s.ctx f (ccCtx v)).c.state = 1) : s.closeCmd f v =
    (((s.popCtxCmd f).closing f (ccCtx v) (ccCompl v) (ccToken v)).closeMatching f (ccCtx v)).startFetch f (ccCtx v) :=
  (if_neg (not_not_intro h)).trans (State.atHome_resident hres _)

theorem State.queryCmd_resident : s.queryCmd f v = (s.popCtxCmd f).complete f (ccCompl v)
    (ctxRecord stOk 2 (s.liveInc f (ccCtx v)) (ccCtx v) (ccToken v) ++
      natLe 64 (if (s.ctx f (ccCtx v)).c.state = 0 then 0 else (s.ctx f (ccCtx v)).c.record)) := by
  rw [State.queryCmd]
  exact State.atHome_resident hres _

end Close

/-! ### CLOSED (R195, R196) -/

/-- Only contexts, tiles, matching contexts, functions and reads change. -/
def State.ClosesTo (s t : State) : Prop :=
  t = { s with ctxs := t.ctxs, ets := t.ets, mctxs := t.mctxs, fns := t.fns, reads := t.reads }

theorem State.ClosesTo.trans {s t u : State} (h : s.ClosesTo t) (h' : t.ClosesTo u) : s.ClosesTo u := by
  unfold State.ClosesTo at *
  rw [h', h]

theorem State.ClosesTo.of_ets {s t : State} (h : t = { s with ets := t.ets }) : s.ClosesTo t := by
  unfold State.ClosesTo
  rw [h]

theorem State.forgetCtx_closesTo (s : State) (f c : Nat) : s.ClosesTo (s.forgetCtx f c) := by
  unfold State.ClosesTo State.forgetCtx
  dsimp only
  split <;> rfl

theorem State.forgetCtx_ets (s : State) (f c : Nat) : (s.forgetCtx f c).ets = s.ets := by
  unfold State.forgetCtx
  dsimp only
  split <;> rfl

theorem State.forgetCtx_closed (s : State) (f c : Nat) : ((s.forgetCtx f c).ctx f c).c.state = 0 := by
  unfold State.forgetCtx
  dsimp only
  split
  · simp [State.ctx, Tbl.getD]
  · rw [State.modCtx_ctx]

/-- What a context of an incarnation leaves when it reaches CLOSED, once its matching state is closed. -/
def State.closedCtx (s : State) (f c inc : Nat) : State :=
  ((((s.queueHead f c).modEt (etOf f) (fun e => { e with
      tombs := e.tombs ++ [{ fn := f, ctx := c, inc := inc, at_ := s.etNow }]
      saved := e.saved.filter (fun r => !(r.fn == f && r.ctx == c))
      targets := e.targets.filter (fun t => !(t.fn == f && t.ctx == c)) })).saveWatch (etOf f)).forgetCtx f c).replayWatch (etOf f)

theorem State.closedCtx_closesTo (s : State) (f c inc : Nat) : s.ClosesTo (s.closedCtx f c inc) := by
  unfold State.closedCtx
  refine .trans (.trans (.trans ?marked (.of_ets (State.saveWatch_frame _ _))) (State.forgetCtx_closesTo _ f c))
    (.of_ets (State.replayWatch_frame _ _))
  case marked =>
    unfold State.ClosesTo
    rfl

theorem State.closedCtx_closed (s : State) (f c inc : Nat) : ((s.closedCtx f c inc).ctx f c).c.state = 0 := by
  unfold State.closedCtx
  rw [State.replayWatch_ctx]
  exact State.forgetCtx_closed _ f c

theorem State.closedCtx_tombs (s : State) (f c inc : Nat) : ((s.closedCtx f c inc).et (etOf f)).tombs =
    (s.et (etOf f)).tombs ++ [{ fn := f, ctx := c, inc := inc, at_ := s.etNow }] := by
  unfold State.closedCtx
  rw [State.replayWatch_tombs, State.et, State.forgetCtx_ets]
  exact (State.saveWatch_tombs _ _ _).trans (congrArg (·.tombs) (State.modEt_et ..))

section CloseComplete
variable {s : State} {f c : Nat}

theorem exec_ctxCloseComplete_resident (hclose : s.closable f c = true) (hrun : s.faults.checkstop = false)
    (hres : (s.ctx f c).resident = true) : exec (.ctxCloseComplete f c) s = .next (s.finishClose f c) :=
  congrArg Host.Outcome.next ((if_pos (by simp [hclose, hrun])).trans (State.atHome_resident hres _))

variable (hroom : (s.et (etOf f)).tombs.length < 262144) (hfull : (s.ctx f c).w.tombFull = false)
include hroom hfull

theorem State.finishClose_noToken (htok : (s.ctx f c).w.closeTok = none) :
    s.finishClose f c = ((s.closeMatching f c).closedCtx f c (s.ctx f c).c.inc).flushWrites f := by
  rw [State.finishClose, if_neg (Nat.not_le.mpr hroom), hfull, htok]
  rfl

theorem State.finishClose_token {compl token : Nat} (htok : (s.ctx f c).w.closeTok = some (compl, token)) :
    s.finishClose f c =
      ((s.closeMatching f c).closedCtx f c (s.ctx f c).c.inc).complete f compl (ctxRecord stOk 1 0 c token) := by
  rw [State.finishClose, if_neg (Nat.not_le.mpr hroom), hfull, htok]
  rfl

end CloseComplete

/-- Settles O37: each command's function has one equation per outcome, and `closedCtx` is what CTX_CLOSE_COMPLETE leaves. -/
theorem contextCommands : Obligations.ContextCommands := by
  unfold Obligations.ContextCommands
  refine ⟨fun f b rest s hcmd hrun => ⟨fun hres => ⟨?opens, ?closes, fun hop => ?query⟩, fun hop hbad => ?malformed,
    fun hop hgood hform hcoord => ?unreachable, fun hop hgood hname hroom => ?noSlot, fun hop hst => ?notOpen⟩, ?fields,
    ?closed, ?tombs⟩
  case opens =>
    intro hop hgood hname hf hp
    refine ⟨s.opened f b.toNat, _, congrArg CtxAll.c (State.modCtx_ctx ..), congrArg CtxAll.resident (State.modCtx_ctx ..),
      fun g d hne _ _ hd => ?_, rfl, rfl, ?_⟩
    · refine State.modCtx_ctx_other _ _ fun hkey => ?_
      obtain ⟨hg, hc⟩ := (ckey_inj hd (ccCtx_lt _)).mp hkey
      exact hne.elim (· hg) (· hc)
    · rw [exec_ctxOpen_oldest hcmd hrun hop,
        State.openCtx_of_tryOpen (State.tryOpen_made hgood hname (State.makeRoom_free hf hp))]
  case closes =>
    intro hop hst
    refine ⟨(s.popCtxCmd f).closing f (ccCtx b.toNat) (ccCompl b.toNat) (ccToken b.toNat), ?_, ?_, ?_,
      State.popCtxCmd_cmds hcmd, rfl⟩
    · rw [exec_ctxClose_oldest hcmd hrun hop, State.closeCmd_open hres hst]
    · exact congrArg CtxAll.c (State.modCtx_ctx ..)
    · exact congrArg (·.w.closeTok) (State.modCtx_ctx ..)
  case query => rw [exec_ctxQuery_oldest hcmd hrun hop, State.queryCmd_resident hres]
  case malformed => rw [exec_ctxOpen_oldest hcmd hrun hop, State.openCtx_of_tryOpen (State.tryOpen_malformed hbad)]
  case unreachable =>
    rw [exec_ctxOpen_oldest hcmd hrun hop, State.openCtx_of_tryOpen (State.tryOpen_unreachable hgood hform hcoord)]
  case noSlot =>
    rw [exec_ctxOpen_oldest hcmd hrun hop, State.openCtx_of_tryOpen (State.tryOpen_lost hgood hname hroom)]
  case notOpen => rw [exec_ctxClose_oldest hcmd hrun hop, State.closeCmd_notOpen hst]
  case fields =>
    intro f v s _ hgood
    obtain ⟨hlow, hhigh, hsq, heq, htomb⟩ := State.badOpen_false_fields hgood
    exact ⟨rfl, rfl, rfl, rfl, rfl, rfl, hlow, hhigh, hsq, heq, State.tombHolds_eq_false_iff.mp htomb⟩
  case closed =>
    intro f c s hclose hrun hres hroom hfull v hv
    refine ⟨v.closedCtx f c (s.ctx f c).c.inc, fun htok => ?_, fun a k htok => ?_,
      v.closedCtx_closed f c _, v.closedCtx_tombs f c _, v.closedCtx_closesTo f c _⟩
    · rw [exec_ctxCloseComplete_resident hclose hrun hres, State.finishClose_noToken hroom hfull htok, ← hv]
    · rw [exec_ctxCloseComplete_resident hclose hrun hres, State.finishClose_token hroom hfull htok, ← hv]
  case tombs =>
    intro f c s
    refine ⟨_, rfl, fun x => ?_, rfl⟩
    rw [State.modEt_et, List.mem_filter, Bool.not_eq_true', ← Bool.not_eq_true]
    simp [ms, and_assoc]

end Sys2Proof.Machine
end

section
/-! SUPPORT. How a tile takes a packet off its arrivals (R198, R207, R210, R215): the packet at the head, the wait for a fill, the
outcomes of a DATA packet, and the proof of PacketsAreReceived. -/

namespace Sys2Proof.Machine

/-! ### The head of the arrivals -/

@[simp] theorem State.rxPop_ctx (s : State) (n f c : Nat) : (s.rxPop n).ctx f c = s.ctx f c := rfl
@[simp] theorem State.rxPop_rxValid (s : State) (n : Nat) (p : Packet) : (s.rxPop n).rxValid p = s.rxValid p := rfl

theorem State.rxPop_et_other (s : State) {n j : Nat} (h : j ≠ n) : (s.rxPop n).et j = s.et j := State.modEt_et_other s _ h

/-- A fill starts and the packet waits behind the others while a fill may start (R198). -/
theorem State.rxMiss_fills {s : State} {n : Nat} (p : Packet) (h : s.missesIn n < 1024) :
    s.rxMiss n p = (s.startFill p.dstFn p.dstCtx).rxRotate n := if_neg (Nat.not_le.mpr h)

theorem State.rxMiss_drops {s : State} {n : Nat} (p : Packet) (h : 1024 ≤ s.missesIn n) :
    s.rxMiss n p = (s.rxPop n).tCount n 13 := if_pos h

section Head
variable {s : State} {n : Nat} {q : QPkt} {rest : List QPkt} (hq : (s.et n).rx = q :: rest)
include hq

theorem State.rxPop_rx : ((s.rxPop n).et n).rx = rest := by
  rw [State.rxPop, State.modEt_et]
  exact congrArg (List.drop 1) hq

theorem State.rxPop_tCount {k : Nat} (hk : k < (s.et n).tCounts.length) : (((s.rxPop n).tCount n k).et n).rx = rest ∧
    nth (((s.rxPop n).tCount n k).et n).tCounts k = satAdd 64 (nth (s.et n).tCounts k) 1 := by
  rw [State.tCount, State.modEt_et]
  refine ⟨State.rxPop_rx hq, ?_⟩
  rw [State.rxPop, State.modEt_et]
  exact nth_bump 1 hk

variable (hrun : s.faults.checkstop = false) (hisl : s.island (8 + n) = true)
include hrun hisl

theorem State.rxHead_first {is_ : Packet → Bool} (h : is_ q.pkt = true) : s.rxHead n is_ = some q := by
  simp [State.rxHead, hrun, hisl, hq, h]

/-! ### DATA and RESYNC (R207, R210, R215) -/

section Request
variable (hkind : q.pkt.kind = kindReq)
include hkind

section Data
variable (htop : xTop q.pkt = topData)
include htop

theorem State.rxHead_data : s.rxHead n (fun p => p.kind == kindReq && xTop p == topData) = some q :=
  State.rxHead_first hq hrun hisl (by simp [hkind, htop])

theorem State.dataRx_spilled (hsp : s.spilled q.pkt = true) : s.dataRx n = s.rxMiss n q.pkt := by
  simp only [State.dataRx, State.rxHead_data hq hrun hisl hkind htop, hsp, if_true]

variable (hsp : s.spilled q.pkt = false)
include hsp

theorem State.dataRx_stale (hval : s.rxValid q.pkt = false) : s.dataRx n = (s.rxPop n).sendStale n q.pkt := by
  simp [State.dataRx, State.rxHead_data hq hrun hisl hkind htop, hsp, hval]

variable (hval : s.rxValid q.pkt = true)
include hval

theorem State.dataRx_duplicate (hdup : (s.ctx q.pkt.dstFn q.pkt.dstCtx).c.duplicate (xPsn q.pkt) = true) :
    s.dataRx n = ((((s.rxPop n).noteRequest q.pkt).dupPkt q.pkt).rack q.pkt.dstFn q.pkt.dstCtx q.pkt) := by
  simp [State.dataRx, State.rxHead_data hq hrun hisl hkind htop, hsp, hval, hdup]

variable (hnew : (s.ctx q.pkt.dstFn q.pkt.dstCtx).c.duplicate (xPsn q.pkt) = false)
include hnew

theorem State.dataRx_beyond (hfar : (s.ctx q.pkt.dstFn q.pkt.dstCtx).c.beyond (xPsn q.pkt) = true) : s.dataRx n =
    (((s.rxPop n).noteRequest q.pkt).rack q.pkt.dstFn q.pkt.dstCtx q.pkt).tCount n 7 := by
  simp [State.dataRx, State.rxHead_data hq hrun hisl hkind htop, hsp, hval, hnew, hfar]

variable (hin : (s.ctx q.pkt.dstFn q.pkt.dstCtx).c.beyond (xPsn q.pkt) = false) {x : State}
include hin

theorem State.dataRx_refused
    (htake : (((s.rxPop n).noteRequest q.pkt).rack q.pkt.dstFn q.pkt.dstCtx q.pkt).takePacket q.pkt = (x, none)) :
    s.dataRx n = x.refuse q.pkt := by
  simp [State.dataRx, State.rxHead_data hq hrun hisl hkind htop, hsp, hval, hnew, hin, htake]

theorem State.dataRx_accepted {d : PayloadDest}
    (htake : (((s.rxPop n).noteRequest q.pkt).rack q.pkt.dstFn q.pkt.dstCtx q.pkt).takePacket q.pkt = (x, some d)) :
    s.dataRx n = x.acceptPkt q.pkt d := by
  simp [State.dataRx, State.rxHead_data hq hrun hisl hkind htop, hsp, hval, hnew, hin, htake]

end Data

section Resync
variable (htop : xTop q.pkt = topResync)
include htop

theorem State.rxHead_resync : s.rxHead n (fun p => p.kind == kindReq && xTop p == topResync) = some q :=
  State.rxHead_first hq hrun hisl (by simp [hkind, htop])

theorem State.resyncRx_spilled (hsp : s.spilled q.pkt = true) : s.resyncRx n = s.rxMiss n q.pkt := by
  simp only [State.resyncRx, State.rxHead_resync hq hrun hisl hkind htop, hsp, if_true]

theorem State.resyncRx_stale (hsp : s.spilled q.pkt = false) (hval : s.rxValid q.pkt = false) :
    s.resyncRx n = (s.rxPop n).sendStale n q.pkt := by
  simp [State.resyncRx, State.rxHead_resync hq hrun hisl hkind htop, hsp, hval]

theorem State.resyncRx_answered (hsp : s.spilled q.pkt = false) (hval : s.rxValid q.pkt = true) : s.resyncRx n =
    ((s.rxPop n).noteRequest q.pkt).sendResyncAck q.pkt.dstFn q.pkt.dstCtx (cTs q.pkt) := by
  simp [State.resyncRx, State.rxHead_resync hq hrun hisl hkind htop, hsp, hval]

end Resync
end Request
end Head

theorem exec_dataRx {s t : State} {n : Nat} (h : s.dataRx n = t) : exec (.dataRx n) s = .next t :=
  congrArg Host.Outcome.next h

theorem exec_resyncRx {s t : State} {n : Nat} (h : s.resyncRx n = t) : exec (.resyncRx n) s = .next t :=
  congrArg Host.Outcome.next h

/-- Settles O40: `dataRx` and `resyncRx` have one equation per outcome of the packet at the head. -/
theorem packetsAreReceived : Obligations.PacketsAreReceived := by
  unfold Obligations.PacketsAreReceived
  refine ⟨?here, ?fills, ?drops⟩
  case here =>
    intro n q rest s hq hrun hisl hsp hkind
    refine ⟨s.rxPop n, _, _, State.rxPop_rx hq, fun j hj => s.rxPop_et_other hj, rfl, rfl, rfl, fun htop hval => ?_,
      fun htop hval => ?_, fun htop hval => ?_, fun htop hval => ⟨fun hdup => ?_, fun hnew hfar => ?_,
        fun hnew hin => ⟨fun x htake => ?_, fun x d htake => ?_⟩⟩⟩
    · exact exec_dataRx (State.dataRx_stale hq hrun hisl hkind htop hsp hval)
    · exact exec_resyncRx (State.resyncRx_stale hq hrun hisl hkind htop hsp hval)
    · exact exec_resyncRx (State.resyncRx_answered hq hrun hisl hkind htop hsp hval)
    · exact exec_dataRx (State.dataRx_duplicate hq hrun hisl hkind htop hsp hval hdup)
    · exact exec_dataRx (State.dataRx_beyond hq hrun hisl hkind htop hsp hval hnew hfar)
    · exact exec_dataRx (State.dataRx_refused hq hrun hisl hkind htop hsp hval hnew hin htake)
    · exact exec_dataRx (State.dataRx_accepted hq hrun hisl hkind htop hsp hval hnew hin htake)
  case fills =>
    intro n q rest s hq hrun hisl hsp hkind hroom
    exact ⟨fun htop => exec_dataRx ((State.dataRx_spilled hq hrun hisl hkind htop hsp).trans (State.rxMiss_fills _ hroom)),
      fun htop => exec_resyncRx ((State.resyncRx_spilled hq hrun hisl hkind htop hsp).trans (State.rxMiss_fills _ hroom))⟩
  case drops =>
    intro n q rest s hq hrun hisl hsp hkind htop hfull hlen
    obtain ⟨hrx, hcount⟩ := State.rxPop_tCount hq (k := 13) (by rw [hlen]; decide)
    exact ⟨_, exec_dataRx ((State.dataRx_spilled hq hrun hisl hkind htop hsp).trans (State.rxMiss_drops _ hfull)), hrx, hcount, rfl⟩

end Sys2Proof.Machine
end

section
/-! SUPPORT. The transport's timers (R205, R208, R212, R215, R246): when one acts, what it does when it does, and the proof of
TransportTimers. -/

namespace Sys2Proof.Machine

/-! ### When a timer acts (R336) -/

section Due
variable {s : State} {f c : Nat} {due : Bool} (go : State → State)

theorem State.onTimer_stopped (h : (s.ctx f c).c.state = 0 ∨ s.injectStopped = true) : s.onTimer f c due go = s :=
  if_pos (h.imp_right Or.inl)

theorem State.onTimer_early (h : due = false) : s.onTimer f c due go = s := if_pos (by simp [h])

theorem State.onTimer_due (hst : (s.ctx f c).c.state ≠ 0) (hres : (s.ctx f c).resident = true) (hrun : s.injectStopped = false)
    (h : due = true) : s.onTimer f c due go = (go s).flushWrites f :=
  (if_neg (by simp [hst, hrun, h])).trans (State.atHome_resident hres _)

end Due

/-! ### What each timer does -/

section Timer
variable (s : State) (f c : Nat)

/-- A round is marked resent, its PSNs from the first one on (R246). -/
def State.roundMarked (r : RnrRound) : State :=
  s.modM f c (fun m => { m with rnr := some { r with resent := true, first := BitVec.ofNat 32 (r.psns.headD 0) } })

theorem State.roundMarked_rnr (r : RnrRound) : ((s.roundMarked f c r).ctx f c).m.rnr =
    some { r with resent := true, first := BitVec.ofNat 32 (r.psns.headD 0) } :=
  congrArg (·.m.rnr) (State.modM_ctx ..)

/-- A marked round's PSNs are resent in their order (R246). -/
def State.roundResent (r : RnrRound) : State :=
  r.psns.foldl (fun v psn => v.retransmit f c (BitVec.ofNat 32 psn)) (s.roundMarked f c r)

theorem exec_ackDelayTimer : exec (.ackDelayTimer f c) s = .next (s.onTimer f c
    (after (s.ctx f c).w.ackAt (s.cfg 0x5000 2) s.etNow || after (s.ctx f c).w.credAt (s.cfg 0x5000 2) s.etNow)
    (fun s => s.ackNow f c)) := rfl

theorem exec_retransmitTimer : exec (.retransmitTimer f c) s = .next (s.onTimer f c
    (after (s.ctx f c).w.rtoAt (s.ctx f c).w.rtoLen s.etNow) (fun s => s.retransmitExpiry f c)) := rfl

theorem exec_resyncTimer : exec (.resyncTimer f c) s = .next (s.onTimer f c
    (decide ((s.ctx f c).w.resyncBase + (s.ctx f c).w.resyncLen ≤ s.etNow) && s.resyncDue f c)
    (fun s => s.sendResync f c)) := rfl

variable {s f c}

theorem exec_rnrBackoffTimer_round {r : RnrRound} (h : (s.ctx f c).m.rnr = some r) : exec (.rnrBackoffTimer f c) s =
    .next (s.onTimer f c (!r.resent && decide (r.start + r.wait ≤ s.etNow)) (fun s => s.roundResent f c r)) := by
  simp only [exec, execRnrBackoffTimer, h]
  rfl

theorem exec_rnrBackoffTimer_noRound (h : (s.ctx f c).m.rnr = none) : exec (.rnrBackoffTimer f c) s = .next s := by
  simp only [exec, execRnrBackoffTimer, h]

theorem exec_rnrBackoffTimer_stopped (h : (s.ctx f c).c.state = 0 ∨ s.injectStopped = true) :
    exec (.rnrBackoffTimer f c) s = .next s := by
  cases hr : (s.ctx f c).m.rnr with
  | none => exact exec_rnrBackoffTimer_noRound hr
  | some r => rw [exec_rnrBackoffTimer_round hr, State.onTimer_stopped _ h]

theorem State.ackNow_secured (h : s.secured f c = true) : s.ackNow f c = s.sendAck f c := if_pos h

theorem State.ackNow_unsecured (h : s.secured f c = false) :
    s.ackNow f c = s.modW f c (fun w => { w with ackDue := true }) := if_neg (ne_true_of_eq_false h)

theorem State.sendAck_ctx (s : State) (f c : Nat) : (s.sendAck f c).ctx f c = { s.ctx f c with
    c := { (s.ctx f c).c with rxPend := 0 }
    w := { (s.ctx f c).w with ackAt := none, credAt := none, ackDue := false, owd := 0, owdOk := true } } := by
  simp only [State.sendAck, State.tCount_ctx, State.modCtx_ctx, State.sendCtx_ctx]

/-- One more try of a context's oldest packet, counted in its tile (R212, R220). -/
def State.retried (s : State) (f c : Nat) : State :=
  (s.tCount (etOf f) 2).modC f c (fun x => { x with retries := x.retries + 1 })

theorem State.retried_ctx_c (s : State) (f c : Nat) :
    ((s.retried f c).ctx f c).c = { (s.ctx f c).c with retries := (s.ctx f c).c.retries + 1 } :=
  congrArg CtxAll.c (State.modC_ctx ..)

section Expiry
variable {psn : U32} (hold : (s.ctx f c).oldest = some psn)
include hold

theorem State.retransmitExpiry_again (h : (s.ctx f c).c.retries < s.cfg 0x5000 4) : s.retransmitExpiry f c =
    (((s.retried f c).retransmit f c psn).sendResync f c).restartRto f c := by
  simp only [State.retransmitExpiry, hold]
  exact if_neg (Nat.not_le.mpr h)

theorem State.retransmitExpiry_limit (h : s.cfg 0x5000 4 ≤ (s.ctx f c).c.retries) : s.retransmitExpiry f c =
    (((s.tCount (etOf f) 2).tCount (etOf f) 3).endContext f c ((s.tCount (etOf f) 2).entryOfPsn f c psn) stRetry).startFetch f c := by
  simp only [State.retransmitExpiry, hold]
  exact if_pos h

end Expiry

theorem exec_replayFull_due {n : Nat} (hfull : after (s.et n).fullAt 1000000 s.etNow = true) (hrec : (s.et n).fullRec = false) :
    exec (.replayFull n) s =
      .next ((s.modEt n (fun e => { e with fullRec := true })).report { code := 0x0530, cls := corrected, tile := 8 + n }) :=
  congrArg Host.Outcome.next (if_pos (Bool.and_eq_true_iff.mpr ⟨hfull, by simp [hrec]⟩))

end Timer

/-- Settles O42: each timer is an `onTimer`, which acts when due on a live context and is the identity otherwise. -/
theorem transportTimers : Obligations.TransportTimers := by
  unfold Obligations.TransportTimers
  refine ⟨fun f c s hst hres hrun => ⟨fun hdue => ⟨fun hsec => ?acks, fun hsec => ?ackWaits⟩, fun hack hcred => ?ackEarly,
    fun hearly => ?rtoEarly, fun hearly => ?resyncEarly, fun r hr hearly => ?roundEarly,
    fun psn hdue hold => ⟨fun htries => ?again, fun hlimit => ?limit⟩, fun hdue hocc => ?resync, fun r hr hfirst hdue => ?round⟩,
    fun f c s hstop => ?stopped, fun n s hfull hrec => ?replayFull⟩
  case acks =>
    rw [exec_ackDelayTimer, State.onTimer_due _ hst hres hrun (Bool.or_eq_true_iff.mpr hdue), State.ackNow_secured hsec,
      State.sendAck_ctx]
    exact ⟨rfl, rfl, rfl, rfl⟩
  case ackWaits =>
    rw [exec_ackDelayTimer, State.onTimer_due _ hst hres hrun (Bool.or_eq_true_iff.mpr hdue), State.ackNow_unsecured hsec]
  case ackEarly => rw [exec_ackDelayTimer, State.onTimer_early _ (by rw [hack, hcred, Bool.or_false])]
  case rtoEarly => rw [exec_retransmitTimer, State.onTimer_early _ hearly]
  case resyncEarly => rw [exec_resyncTimer, State.onTimer_early _ (by simp [Nat.not_le.mpr hearly])]
  case roundEarly => rw [exec_rnrBackoffTimer_round hr, State.onTimer_early _ (by simp [Nat.not_le.mpr hearly])]
  case again =>
    refine ⟨s.retried f c, State.retried_ctx_c s f c, rfl, ?_⟩
    rw [exec_retransmitTimer, State.onTimer_due _ hst hres hrun hdue, State.retransmitExpiry_again hold htries]
  case limit =>
    rw [exec_retransmitTimer, State.onTimer_due _ hst hres hrun hdue, State.retransmitExpiry_limit hold hlimit]
  case resync =>
    rw [exec_resyncTimer, State.onTimer_due _ hst hres hrun (by simp [hdue, hocc])]
  case round =>
    refine ⟨s.roundMarked f c r, ?_, ⟨_, s.roundMarked_rnr f c r, rfl⟩, rfl⟩
    rw [exec_rnrBackoffTimer_round hr, State.onTimer_due _ hst hres hrun (by simp [hfirst, hdue])]
    rfl
  case stopped =>
    rw [exec_ackDelayTimer, exec_retransmitTimer, exec_resyncTimer, State.onTimer_stopped _ hstop, State.onTimer_stopped _ hstop,
      State.onTimer_stopped _ hstop]
    exact ⟨rfl, rfl, rfl, exec_rnrBackoffTimer_stopped hstop⟩
  case replayFull =>
    exact ⟨_, exec_replayFull_due hfull hrec, (State.report_et ..).trans (State.modEt_et ..),
      fun j hj => (State.report_et ..).trans (State.modEt_et_other _ _ hj), rfl, rfl⟩

end Sys2Proof.Machine
end

section
/-! SUPPORT. Acknowledgements and refusals at the sender (R209, R211, R214, R246, R271): a response packet at the head of the
arrivals, what an ACK makes of a context, what a NAK RNR notes, and the proof of AcksMoveTheWindow. -/

namespace Sys2Proof.Machine

/-! ### A response packet at the head (R198, R209) -/

section Response
variable {s : State} {n : Nat} {q : QPkt} {rest : List QPkt} (hq : (s.et n).rx = q :: rest)
  (hrun : s.faults.checkstop = false) (hisl : s.island (8 + n) = true) (hsp : s.spilled q.pkt = false) (hkind : q.pkt.kind = kindRsp)
include hq hrun hisl hsp hkind

theorem State.rspRx_first {is_ : Packet → Bool} {go : State → Packet → State} (h : is_ q.pkt = true) :
    s.rspRx n is_ go = go (s.rxPop n) q.pkt := by
  simp [State.rspRx, State.rxHead_first hq hrun hisl (is_ := fun p => p.kind == kindRsp && is_ p) (by simp [hkind, h]), hsp]

theorem exec_ackRx_first (htop : xTop q.pkt = topAck) : exec (.ackRx n) s = .next ((s.rxPop n).ackIn q.pkt false) :=
  congrArg Host.Outcome.next (State.rspRx_first hq hrun hisl hsp hkind (by simp [htop]))

theorem exec_resyncAckRx_first (htop : xTop q.pkt = topResyncAck) {latest : Bool}
    (hlatest : ((s.ctx q.pkt.dstFn q.pkt.dstCtx).w.resyncAt != 0 &&
      cTs q.pkt == (s.ctx q.pkt.dstFn q.pkt.dstCtx).w.resyncTs) = latest) :
    exec (.resyncAckRx n) s = .next ((s.rxPop n).ackIn q.pkt latest) :=
  hlatest ▸ congrArg Host.Outcome.next (State.rspRx_first hq hrun hisl hsp hkind (by simp [htop]))

theorem exec_nakRnrRx_first (htop : xTop q.pkt = topNak) (hcode : cCode q.pkt = 1) : exec (.nakRnrRx n) s =
    .next (if s.nakFor q.pkt && (s.ctx q.pkt.dstFn q.pkt.dstCtx).c.unacked (xPsn q.pkt)
      then ((s.rxPop n).takeRnr q.pkt.dstFn q.pkt.dstCtx (xPsn q.pkt)).startFetch q.pkt.dstFn q.pkt.dstCtx else s.rxPop n) :=
  congrArg Host.Outcome.next (State.rspRx_first hq hrun hisl hsp hkind (by simp [htop, hcode]))

theorem exec_nakStaleRx_first (htop : xTop q.pkt = topNak) (hcode : cCode q.pkt = 2) : exec (.nakStaleRx n) s =
    .next ((s.rxPop n).staleIn q.pkt) :=
  congrArg Host.Outcome.next ((State.rspRx_first hq hrun hisl hsp hkind (by simp [htop, hcode])).trans (if_pos hcode))

theorem exec_respRx_peer (htop : xTop q.pkt = topResp) (hopc : oOpc q.pkt ≠ 1) (hpeer : s.fromPeer q.pkt = true) :
    exec (.respRx n) s = .next (((s.rxPop n).respDelay q.pkt).takeResponse q.pkt) :=
  congrArg Host.Outcome.next ((State.rspRx_first hq hrun hisl hsp hkind (by simp [htop, hopc])).trans (if_pos hpeer))

theorem exec_pullRespRx_peer (htop : xTop q.pkt = topResp) (hopc : oOpc q.pkt = 1) (hpeer : s.fromPeer q.pkt = true) :
    exec (.pullRespRx n) s = .next ((((s.rxPop n).respDelay q.pkt).takePullResp q.pkt).flushWrites q.pkt.dstFn) :=
  congrArg Host.Outcome.next ((State.rspRx_first hq hrun hisl hsp hkind (by simp [htop, hopc])).trans (if_pos hpeer))

end Response

section Taken
variable {s : State} {p : Packet}

theorem State.ackIn_peer (force : Bool) (h : s.fromPeer p = true) : s.ackIn p force = (s.takeAck p force).flushWrites p.dstFn :=
  if_pos h

theorem State.ackIn_stranger (force : Bool) (h : s.fromPeer p = false) : s.ackIn p force = s.tCount (etOf p.dstFn) 11 :=
  if_neg (ne_true_of_eq_false h)

theorem State.staleIn_unacked (hfor : s.nakFor p = true) (hun : (s.ctx p.dstFn p.dstCtx).c.unacked (xPsn p) = true) :
    s.staleIn p = ((s.tCount (etOf p.dstFn) 9).endContext p.dstFn p.dstCtx none stLost).startFetch p.dstFn p.dstCtx :=
  if_pos ⟨hfor, .inl hun⟩

theorem State.staleIn_other (hfor : s.nakFor p = false) : s.staleIn p = s := if_neg fun h => ne_true_of_eq_false hfor h.1

end Taken

/-! ### What an ACK makes of its context (R209, R212, R214, R219) -/

section Ack
variable (s : State) (f c : Nat)

theorem State.restartRto_ctx : ∃ at_ len, (s.restartRto f c).ctx f c =
    { s.ctx f c with w := { (s.ctx f c).w with rtoAt := at_, rtoLen := len } } :=
  ⟨_, _, State.modW_ctx ..⟩

theorem State.settle_ctx : ∃ entries, (s.settle f c).ctx f c =
    { s.ctx f c with w := { (s.ctx f c).w with entries := entries } } :=
  ⟨_, State.modW_ctx ..⟩

theorem State.takeLimit_ctx (l : U16) (force : Bool) : (s.takeLimit f c l force).ctx f c = { s.ctx f c with c := { (s.ctx f c).c with
    txLimit := if force ∨ (l - (s.ctx f c).c.txLimit).toNat < 2 ^ 15 then l else (s.ctx f c).c.txLimit } } :=
  State.modC_ctx ..

theorem State.takeLimit_txLimit (l : U16) (force : Bool) : ((s.takeLimit f c l force).ctx f c).c.txLimit =
    if force ∨ (l - (s.ctx f c).c.txLimit).toNat < 2 ^ 15 then l else (s.ctx f c).c.txLimit :=
  congrArg (·.c.txLimit) (s.takeLimit_ctx f c l force)

theorem State.ccRate_ctx (d : Nat) : ∃ rate dec, (s.ccRate f c d).ctx f c =
    { s.ctx f c with c := { (s.ctx f c).c with rate := rate }, w := { (s.ctx f c).w with lastDec := dec } } := by
  unfold State.ccRate
  dsimp only
  split
  · exact ⟨_, _, State.modC_ctx ..⟩
  · split
    · exact ⟨_, _, State.modC_ctx ..⟩
    · split
      · exact ⟨_, _, State.modCtx_ctx ..⟩
      · exact ⟨_, _, State.modC_ctx ..⟩

/-- The round trip that an acknowledgement shows by the sender's own clock (R219). -/
def State.rttOf (ts hold : Nat) : Nat := (s.stamp + 2 ^ 33 - ts - hold) % 2 ^ 32

/-- A round trip below 1 ms enters the context's estimate (R219). -/
def State.rttTaken (ts hold : Nat) : State :=
  if s.rttOf ts hold < 1000000 then
    s.modC f c (fun x => { x with
      rttEst := min 0xFFF (if x.rttEst = 0 then s.rttOf ts hold / 16 else (7 * x.rttEst + s.rttOf ts hold / 16) / 8) })
  else s

theorem State.rttTaken_ctx (ts hold : Nat) : ∃ rtt, (s.rttTaken f c ts hold).ctx f c =
    { s.ctx f c with c := { (s.ctx f c).c with rttEst := rtt } } := by
  unfold State.rttTaken
  split
  · exact ⟨_, State.modC_ctx ..⟩
  · exact ⟨_, rfl⟩

theorem State.ccAck_cases (ts hold : Nat) (owd : Option Nat) :
    (∃ d, s.ccAck f c ts hold owd = (s.rttTaken f c ts hold).ccRate f c d) ∨ s.ccAck f c ts hold owd = s.rttTaken f c ts hold := by
  cases owd with
  | some d => exact .inl ⟨d, rfl⟩
  | none =>
    by_cases h : s.rttOf ts hold < 1000000
    · exact .inl ⟨_, if_pos h⟩
    · exact .inr (if_neg h)

theorem State.ccAck_ctx (ts hold : Nat) (owd : Option Nat) : ∃ rate rtt dec, (s.ccAck f c ts hold owd).ctx f c =
    { s.ctx f c with c := { (s.ctx f c).c with rate := rate, rttEst := rtt }, w := { (s.ctx f c).w with lastDec := dec } } := by
  obtain ⟨rtt, hrtt⟩ := s.rttTaken_ctx f c ts hold
  rcases s.ccAck_cases f c ts hold owd with ⟨d, h⟩ | h
  · obtain ⟨rate, dec, hrate⟩ := (s.rttTaken f c ts hold).ccRate_ctx f c d
    rw [h, hrate, hrtt]
    exact ⟨_, _, _, rfl⟩
  · rw [h, hrtt]
    exact ⟨_, _, _, rfl⟩

end Ack

theorem ackRecords_resp {una : U32} {l : List Replay} {r : Replay} (h : r ∈ ackRecords una l) (hack : r.acked = true) :
    r.resp = true := by
  have hkept := (List.mem_filter.mp h).2
  simpa [hack] using hkept

theorem State.advanceUna_ctx (s : State) (f c : Nat) (psn : U32) :
    ((s.advanceUna f c psn).ctx f c).c = { (s.ctx f c).c with una := psn, retries := 0 } ∧
    ((s.advanceUna f c psn).ctx f c).w.replay = ackRecords psn (s.ctx f c).w.replay := by
  unfold State.advanceUna
  dsimp only
  rw [State.replayWatch_ctx]
  obtain ⟨_, hsettle⟩ := State.settle_ctx (((s.modCtx f c _).restartRto f c)) f c
  obtain ⟨_, _, hrto⟩ := State.restartRto_ctx (s.modCtx f c _) f c
  rw [hsettle, hrto, State.modCtx_ctx]
  exact ⟨rfl, rfl⟩

section Moves
variable {s : State} {p : Packet}

theorem State.takeAck_ctx (force : Bool) (hlow : 1 ≤ dist (xPsn p) (s.ctx p.dstFn p.dstCtx).c.una)
    (hhigh : dist (xPsn p) (s.ctx p.dstFn p.dstCtx).c.una ≤ dist (s.ctx p.dstFn p.dstCtx).c.nextPsn (s.ctx p.dstFn p.dstCtx).c.una) :
    (s.takeAck p force).ctx p.dstFn p.dstCtx =
      ((((s.advanceUna p.dstFn p.dstCtx (xPsn p)).takeLimit p.dstFn p.dstCtx (cLimit p) force).ccAck p.dstFn p.dstCtx (cTs p) (cHold p)
        (if cOwdv p then some (cOwd p) else none)).ctx p.dstFn p.dstCtx) := by
  unfold State.takeAck
  dsimp only
  rw [if_pos (.inl ⟨hlow, hhigh⟩), if_pos ⟨hlow, hhigh⟩]
  rfl

theorem State.takeAck_bad (force : Bool)
    (hfar : dist (s.ctx p.dstFn p.dstCtx).c.nextPsn (s.ctx p.dstFn p.dstCtx).c.una < dist (xPsn p) (s.ctx p.dstFn p.dstCtx).c.una)
    (hahead : dist (xPsn p) (s.ctx p.dstFn p.dstCtx).c.una < 2 ^ 31) : s.takeAck p force = s.tCount (etOf p.dstFn) 11 :=
  if_neg (by omega)

end Moves

/-! ### Refused PSNs (R211, R246) -/

theorem mem_insertBy {una : U32} {l : List Nat} {q x : Nat} : x ∈ psnOrder.insertBy una l q ↔ x = q ∨ x ∈ l := by
  induction l with
  | nil => simp [psnOrder.insertBy]
  | cons a l ih =>
    simp only [psnOrder.insertBy]
    split
    · next h => simp [h]
    · split
      · simp
      · rw [List.mem_cons, ih, List.mem_cons]
        exact or_left_comm

theorem mem_psnOrder {una : U32} {l : List Nat} {x : Nat} : x ∈ psnOrder una l ↔ x ∈ l := by
  have hfold : ∀ acc, x ∈ l.foldl (fun acc q => psnOrder.insertBy una acc q) acc ↔ x ∈ acc ∨ x ∈ l := by
    induction l with
    | nil => simp
    | cons a l ih =>
      intro acc
      rw [List.foldl_cons, ih, mem_insertBy, List.mem_cons]
      exact or_assoc.trans or_left_comm
  exact (hfold []).trans (by simp)

section Refused
variable (s : State) (f c : Nat) (psn : U32)

/-- A refused PSN is noted and counted (R211, R220). -/
def State.rnrNoted : State :=
  (((s.tCount (etOf f) 9).mCount (etOf f) 8).fnCtr f 6 1).modM f c (fun m => { m with
    refused := psnOrder (s.ctx f c).c.una (m.refused ++ [psn.toNat]) })

theorem State.rnrNoted_ctx : (s.rnrNoted f c psn).ctx f c = { s.ctx f c with m := { (s.ctx f c).m with
    refused := psnOrder (s.ctx f c).c.una ((s.ctx f c).m.refused ++ [psn.toNat]) } } :=
  State.modM_ctx ..

variable {s f c}

theorem State.takeRnr_noRound (h : (s.ctx f c).m.rnr = none) : s.takeRnr f c psn = (s.rnrNoted f c psn).openRound f c := by
  have hnone : ((s.rnrNoted f c psn).ctx f c).m.rnr = none := by rw [State.rnrNoted_ctx]; exact h
  unfold State.takeRnr
  unfold State.rnrNoted at hnone ⊢
  dsimp only
  rw [hnone]

theorem State.openRound_ctx (h : s.cfg 0x6000 2 = 255 ∨ (s.ctx f c).m.rnrRounds + 1 ≤ s.cfg 0x6000 2) :
    ((s.openRound f c).ctx f c).m.refused = (s.ctx f c).m.refused ∧
    ((s.openRound f c).ctx f c).w.replay = (s.ctx f c).w.replay ∧
    ((s.openRound f c).ctx f c).m.rnrRounds = min 255 ((s.ctx f c).m.rnrRounds + 1) := by
  unfold State.openRound
  dsimp only
  rw [if_neg (by omega)]
  obtain ⟨_, _, hrto⟩ := State.restartRto_ctx (s.modM f c _) f c
  rw [hrto, State.modM_ctx]
  exact ⟨rfl, rfl, rfl⟩

end Refused

/-- Settles O41: a response packet is handed to `ackIn`, `takeRnr`, `staleIn` or its response's taker, whose effect on the
context's window the lemmas above give. -/
theorem acksMoveTheWindow : Obligations.AcksMoveTheWindow := by
  unfold Obligations.AcksMoveTheWindow
  refine ⟨?limit, ?arrivals, ?moves, fun p force s hfar hahead => State.takeAck_bad force hfar hahead, ?refused⟩
  case limit =>
    intro f c l s
    refine ⟨fun h => ?_, fun h => ?_, ?_, fun g => rfl⟩
    · rw [State.takeLimit_txLimit, if_pos (.inr h)]
    · rw [State.takeLimit_txLimit, if_neg (by simpa using h)]
    · rw [State.takeLimit_txLimit, if_pos (.inl rfl)]
  case arrivals =>
    intro n q rest s hq hrun hisl hsp hkind
    refine ⟨s.rxPop n, State.rxPop_rx hq, fun j hj => s.rxPop_et_other hj, rfl, fun htop hpeer => ?_, fun htop hpeer => ?_,
      fun htop hpeer hat hts => ?_, fun htop hcode hfor hun => ?_, fun htop hcode hfor => ?_, fun htop hcode hfor hun => ?_,
      fun htop hcode hfor => ?_, fun htop hpeer hts => ?_, fun htop hopc hpeer => ?_, fun htop hopc hpeer => ?_⟩
    · rw [exec_ackRx_first hq hrun hisl hsp hkind htop, State.ackIn_peer (s := s.rxPop n) false hpeer]
    · rw [exec_ackRx_first hq hrun hisl hsp hkind htop, State.ackIn_stranger (s := s.rxPop n) false hpeer]
    · rw [exec_resyncAckRx_first hq hrun hisl hsp hkind htop (latest := true) (by simp [hat, hts]),
        State.ackIn_peer (s := s.rxPop n) true hpeer]
    · rw [exec_nakRnrRx_first hq hrun hisl hsp hkind htop hcode, if_pos (by rw [hfor, hun]; rfl)]
    · rw [exec_nakRnrRx_first hq hrun hisl hsp hkind htop hcode, if_neg (by simp [hfor])]
    · rw [exec_nakStaleRx_first hq hrun hisl hsp hkind htop hcode, State.staleIn_unacked (s := s.rxPop n) hfor hun]
    · rw [exec_nakStaleRx_first hq hrun hisl hsp hkind htop hcode, State.staleIn_other (s := s.rxPop n) hfor]
    · rw [exec_resyncAckRx_first hq hrun hisl hsp hkind htop (latest := false) (by simp [hts]),
        State.ackIn_peer (s := s.rxPop n) false hpeer]
    · exact exec_respRx_peer hq hrun hisl hsp hkind htop hopc hpeer
    · exact exec_pullRespRx_peer hq hrun hisl hsp hkind htop hopc hpeer
  case moves =>
    intro p force s hlow hhigh
    obtain ⟨hc, hreplay⟩ := s.advanceUna_ctx p.dstFn p.dstCtx (xPsn p)
    obtain ⟨_, _, _, hcc⟩ := State.ccAck_ctx ((s.advanceUna p.dstFn p.dstCtx (xPsn p)).takeLimit p.dstFn p.dstCtx (cLimit p) force)
      p.dstFn p.dstCtx (cTs p) (cHold p) (if cOwdv p then some (cOwd p) else none)
    rw [State.takeAck_ctx force hlow hhigh, hcc, State.takeLimit_ctx, hc]
    refine ⟨rfl, rfl, rfl, rfl, fun r hr => ?_⟩
    rw [hreplay] at hr
    exact ackRecords_resp hr
  case refused =>
    intro f c psn s hnone hrounds
    have hctx := s.rnrNoted_ctx f c psn
    obtain ⟨hrefused, hreplay, hcount⟩ := State.openRound_ctx (s := s.rnrNoted f c psn) (f := f) (c := c) (by rw [hctx]; exact hrounds)
    rw [State.takeRnr_noRound psn hnone, hrefused, hreplay, hcount, hctx]
    exact ⟨mem_psnOrder.mpr (by simp), rfl, rfl⟩

end Sys2Proof.Machine
end

section
/-! SUPPORT. Sending DATA packets (R204, R205, R213, R217): what a send leaves alone, the record and the numbers of a new packet,
the next payload packet of an entry, when none starts, and the proof of PacketsAreNumberedOnce. -/

namespace Sys2Proof.Machine

/-! ### What a send of one context leaves alone -/

/-- Only one context changes, and of the rest only tiles, functions, the mesh and counters. -/
structure State.SendsOn (s : State) (f c : Nat) (t : State) : Prop where
  frame : t = { s with ctxs := t.ctxs, ets := t.ets, fns := t.fns, arch := t.arch, ctrs := t.ctrs }
  others : ∀ k, k ≠ ckey f c → Tbl.getD t.ctxs k {} = Tbl.getD s.ctxs k {}

section Sends
variable {s t u : State} {f c : Nat}

theorem State.SendsOn.trans (h : s.SendsOn f c t) (h' : t.SendsOn f c u) : s.SendsOn f c u := by
  refine ⟨?_, fun k hk => (h'.others k hk).trans (h.others k hk)⟩
  have hs := h.frame
  have ht := h'.frame
  rw [ht, hs]

theorem State.SendsOn.of_frame (h : t = { s with ets := t.ets, fns := t.fns, arch := t.arch, ctrs := t.ctrs }) : s.SendsOn f c t := by
  have hctxs : t.ctxs = s.ctxs := by rw [h]
  exact ⟨by rw [h], fun k _ => by rw [hctxs]⟩

variable (s f c)

theorem State.modCtx_sendsOn (g : CtxAll → CtxAll) : s.SendsOn f c (s.modCtx f c g) := ⟨rfl, fun _ hk => Tbl.getD_put_other _ _ _ hk⟩

theorem State.modW_sendsOn (g : CtxWork → CtxWork) : s.SendsOn f c (s.modW f c g) := State.modCtx_sendsOn s f c _

theorem State.tCount_sendsOn (n k m : Nat) : s.SendsOn f c (s.tCount n k m) := .of_frame rfl

theorem State.fnCtr_sendsOn (g k m : Nat) : s.SendsOn f c (s.fnCtr g k m) := .of_frame rfl

theorem State.perf_sendsOn (n ev unit : Nat) (fn : Option Nat) (m : Nat) : s.SendsOn f c (s.perf n ev unit fn m) := .of_frame rfl

theorem State.sendCtx_sendsOn (g : Nat) (p : Packet) : s.SendsOn f c (s.sendCtx g p) := .of_frame (by rw [State.sendCtx_frame])

theorem State.replayWatch_sendsOn (h : Nat) : s.SendsOn f c (s.replayWatch h) := .of_frame (by rw [State.replayWatch_frame])

end Sends

/-! ### Tracing (R369) -/

section Trace
variable (s : State)

theorem State.traceEt_frame (n r : Nat) : s.traceEt n r = { s with ets := (s.traceEt n r).ets, ctrs := (s.traceEt n r).ctrs } := by
  unfold State.traceEt
  split <;> rfl

theorem State.tracePkt_frame (n stage : Nat) (p : Packet) :
    s.tracePkt n stage p = { s with ets := (s.tracePkt n stage p).ets, ctrs := (s.tracePkt n stage p).ctrs } := by
  unfold State.tracePkt
  split
  · exact State.traceEt_frame ..
  · rfl

theorem State.traceEntry_frame (f c : Nat) (e : Entry) (stage : Nat) :
    s.traceEntry f c e stage = { s with ets := (s.traceEntry f c e stage).ets, ctrs := (s.traceEntry f c e stage).ctrs } := by
  unfold State.traceEntry
  split
  · exact State.traceEt_frame ..
  · rfl

@[simp] theorem State.tracePkt_ctx (n stage : Nat) (p : Packet) (f c : Nat) : (s.tracePkt n stage p).ctx f c = s.ctx f c :=
  State.ctx_congr (by rw [State.tracePkt_frame]) f c

theorem State.tracePkt_sendsOn (f c n stage : Nat) (p : Packet) : s.SendsOn f c (s.tracePkt n stage p) :=
  .of_frame (by rw [State.tracePkt_frame])

/-- An entry whose first packet leaves is traced (R369). -/
def State.traceFirst (f c : Nat) (e : Entry) : State := if e.sent = 0 then s.traceEntry f c e 1 else s

theorem State.traceFirst_frame (f c : Nat) (e : Entry) :
    s.traceFirst f c e = { s with ets := (s.traceFirst f c e).ets, ctrs := (s.traceFirst f c e).ctrs } := by
  unfold State.traceFirst
  split
  · exact State.traceEntry_frame ..
  · rfl

@[simp] theorem State.traceFirst_ctx (f c : Nat) (e : Entry) (g d : Nat) : (s.traceFirst f c e).ctx g d = s.ctx g d :=
  State.ctx_congr (by rw [State.traceFirst_frame]) g d

theorem State.traceFirst_sendsOn (f c : Nat) (e : Entry) : s.SendsOn f c (s.traceFirst f c e) :=
  .of_frame (by rw [State.traceFirst_frame])

end Trace

/-! ### A new packet (R204, R205) -/

/-- The replay record of a new packet. -/
def NewPkt.record (n : NewPkt) (psn : U32) : Replay :=
  { psn := psn, idx := n.idx, off := n.off, len := n.len, opc := n.opc, slots := n.slots, hdr := n.hdr,
    resp := n.resp, held := n.held, spans := n.spans, last := n.sigLast }

section New
variable (s : State) (f c : Nat) (n : NewPkt)

/-- A new packet takes the next PSN and its slots, keeps its record, and starts the timers that were not running. -/
def State.numbered : State :=
  s.modCtx f c (fun y => { y with
    c := { y.c with nextPsn := (s.ctx f c).c.nextPsn + 1, txUsed := y.c.txUsed + BitVec.ofNat 16 n.slots }
    w := { y.w with
      replay := y.w.replay ++ [n.record (s.ctx f c).c.nextPsn]
      rtoAt := if y.outstanding then y.w.rtoAt else some s.etNow
      rtoLen := if y.outstanding then y.w.rtoLen else s.rto y.c.retries
      resyncBase := if y.c.nextPsn = y.c.una then s.etNow else y.w.resyncBase
      resyncLen := if y.c.nextPsn = y.c.una then s.cfg 0x5000 5 * us else y.w.resyncLen }
    refd := true })

theorem State.sendNew_eq : ∃ p l, s.sendNew f c n =
    (((((s.numbered f c n).sendCtx f p).tracePkt (etOf f) 1 p).pace f c l).countTx f n.payload.length).replayWatch (etOf f) :=
  ⟨_, _, rfl⟩

theorem State.numbered_sendsOn : s.SendsOn f c (s.numbered f c n) := State.modCtx_sendsOn ..

theorem State.pace_sendsOn (l : Nat) : s.SendsOn f c (s.pace f c l) := State.modW_sendsOn ..

theorem State.countTx_sendsOn (plen : Nat) : s.SendsOn f c (s.countTx f plen) :=
  .trans (.trans (.trans (State.tCount_sendsOn ..) (State.fnCtr_sendsOn ..)) (State.fnCtr_sendsOn ..)) (State.perf_sendsOn ..)

theorem State.sendNew_sendsOn : s.SendsOn f c (s.sendNew f c n) := by
  obtain ⟨p, l, h⟩ := s.sendNew_eq f c n
  rw [h]
  exact .trans (.trans (.trans (.trans (.trans (State.numbered_sendsOn ..) (State.sendCtx_sendsOn ..)) (State.tracePkt_sendsOn ..))
    (State.pace_sendsOn ..)) (State.countTx_sendsOn ..)) (State.replayWatch_sendsOn ..)

theorem State.sendNew_ctx : ((s.sendNew f c n).ctx f c).c = { (s.ctx f c).c with
      nextPsn := (s.ctx f c).c.nextPsn + 1, txUsed := (s.ctx f c).c.txUsed + BitVec.ofNat 16 n.slots } ∧
    ((s.sendNew f c n).ctx f c).w.replay = (s.ctx f c).w.replay ++ [n.record (s.ctx f c).c.nextPsn] ∧
    ((s.sendNew f c n).ctx f c).w.entries = (s.ctx f c).w.entries := by
  obtain ⟨p, l, h⟩ := s.sendNew_eq f c n
  have hcount (t : State) (k : Nat) : (t.countTx f k).ctx f c = t.ctx f c := rfl
  rw [h, State.replayWatch_ctx, hcount, State.pace, State.modW_ctx, State.tracePkt_ctx, State.sendCtx_ctx, State.numbered,
    State.modCtx_ctx]
  exact ⟨rfl, rfl, rfl⟩

end New

/-! ### The entry of a packet -/

theorem State.modEntry_sendsOn (s : State) (f c : Nat) (idx : U32) (g : Entry → Entry) : s.SendsOn f c (s.modEntry f c idx g) :=
  State.modW_sendsOn ..

theorem State.noteSent_sendsOn (s : State) (f c : Nat) (idx psn : U32) : s.SendsOn f c (s.noteSent f c idx psn) :=
  State.modEntry_sendsOn ..

theorem State.entry?_congr {s t : State} {f c : Nat} (h : (t.ctx f c).w.entries = (s.ctx f c).w.entries) (idx : U32) :
    t.entry? f c idx = s.entry? f c idx := by
  simp only [State.entry?, h]

theorem State.modEntry_entry? (s : State) (f c : Nat) (idx : U32) {g : Entry → Entry} (hg : ∀ e, (g e).idx = e.idx) :
    (s.modEntry f c idx g).entry? f c idx = (s.entry? f c idx).map g := by
  have hidx (e : Entry) : (if e.idx = idx then g e else e).idx = e.idx := by
    split
    · exact hg e
    · rfl
  rw [State.entry?, State.modEntry, State.modW_ctx, State.entry?]
  dsimp only
  induction (s.ctx f c).w.entries with
  | nil => rfl
  | cons e l ih =>
    by_cases he : e.idx = idx
    · simp [he, hg]
    · simpa [hidx, he] using ih

/-! ### The next payload packet of an entry (R204, R213, R228) -/

/-- Landing slots of an entry's next packet: only an eager SEND takes any (R213). -/
def Entry.nextSlots (e : Entry) : Nat :=
  if wOpcode e.words.toNat = opSend then landSlots (min 4096 (wLength e.words.toNat - 4096 * e.sent)) else 0

theorem Entry.nextSlots_send {e : Entry} (h : wOpcode e.words.toNat = opSend) :
    e.nextSlots = landSlots (min 4096 (wLength e.words.toNat - 4096 * e.sent)) := if_pos h

theorem Entry.nextSlots_write {e : Entry} (h : wOpcode e.words.toNat = opWrite) : e.nextSlots = 0 :=
  if_neg (by rw [h]; decide)

section Payload
variable (s : State) (f c : Nat) (e : Entry) (d : List Byte)

/-- The message number of an entry's packets: its first one takes the context's next. -/
def State.payloadMsn : U32 := if e.sent = 0 then (s.ctx f c).m.txMsn else e.msn

/-- The next packet of an eager SEND or of a WRITE, with its payload. -/
def State.payloadPkt : NewPkt :=
  let w := e.words.toNat
  let last := e.sent + 1 == e.total
  { idx := e.idx, off := 4096 * e.sent, len := min 4096 (wLength w - 4096 * e.sent), opc := wOpcode w, slots := e.nextSlots
    hdr := if wOpcode w = opSend then matchHdr 0 (wComm w) (s.payloadMsn f c e).toNat (wA w) (4096 * e.sent) (wLength w)
      else rmaHdr (wOpcode w) last 0 (wRkey w) ((wA w + 4096 * e.sent) % 2 ^ 64)
        (if wOpcode w = opWriteNotify then wNotify w else 0) (wLength w)
    payload := d, resp := last && wOpcode w != opSend, sigLast := last && wSignal w }

/-- The payload that was read is used up, and a SEND's first packet takes its message number. -/
def State.payloadTaken : State :=
  s.modCtx f c (fun y => { y with
    w := { y.w with cur := none }
    m := { y.m with txMsn := if wOpcode e.words.toNat = opSend ∧ e.sent = 0 then y.m.txMsn + 1 else y.m.txMsn } })

/-- The packet is numbered and leaves, and its entry counts it. -/
def State.payloadSent : State :=
  ((((s.payloadTaken f c e).sendNew f c (s.payloadPkt f c e d)).traceFirst f c e).noteSent f c e.idx (s.ctx f c).c.nextPsn).modEntry
    f c e.idx (fun x => { x with msn := s.payloadMsn f c e })

variable {s f c e d}

theorem State.sendPayload_ready
    (hop : wOpcode e.words.toNat = opSend ∧ (s.ctx f c).c.credit (landSlots (min 4096 (wLength e.words.toNat - 4096 * e.sent))) = true ∨
      wOpcode e.words.toNat = opWrite)
    (hdata : s.txData f c e (4096 * e.sent) (min 4096 (wLength e.words.toNat - 4096 * e.sent)) = some d) :
    s.sendPayload f c e = s.payloadSent f c e d := by
  have hcredit : ¬ (e.nextSlots ≠ 0 ∧ (!(s.ctx f c).c.credit e.nextSlots) = true) := by
    rintro ⟨hslots, hshort⟩
    rcases hop with ⟨hsend, hcred⟩ | hwrite
    · rw [Entry.nextSlots_send hsend, hcred] at hshort
      exact Bool.false_ne_true hshort
    · exact hslots (Entry.nextSlots_write hwrite)
  unfold Entry.nextSlots at hcredit
  unfold State.sendPayload
  dsimp only
  rw [if_neg hcredit, hdata]
  rfl

variable (s f c e d)

theorem State.payloadTaken_sendsOn : s.SendsOn f c (s.payloadTaken f c e) := State.modCtx_sendsOn ..

theorem State.payloadSent_sendsOn : s.SendsOn f c (s.payloadSent f c e d) :=
  .trans (.trans (.trans (.trans (State.payloadTaken_sendsOn ..) (State.sendNew_sendsOn ..)) (State.traceFirst_sendsOn ..))
    (State.noteSent_sendsOn ..)) (State.modEntry_sendsOn ..)

theorem State.payloadTaken_ctx : ((s.payloadTaken f c e).ctx f c).c = (s.ctx f c).c ∧
    ((s.payloadTaken f c e).ctx f c).w = { (s.ctx f c).w with cur := none } := by
  rw [State.payloadTaken, State.modCtx_ctx]
  exact ⟨rfl, rfl⟩

theorem State.payloadSent_ctx : ((s.payloadSent f c e d).ctx f c).c = { (s.ctx f c).c with
      nextPsn := (s.ctx f c).c.nextPsn + 1, txUsed := (s.ctx f c).c.txUsed + BitVec.ofNat 16 e.nextSlots } ∧
    ((s.payloadSent f c e d).ctx f c).w.replay =
      (s.ctx f c).w.replay ++ [(s.payloadPkt f c e d).record (s.ctx f c).c.nextPsn] := by
  obtain ⟨hc, hw⟩ := s.payloadTaken_ctx f c e
  obtain ⟨hsent, hreplay, _⟩ := (s.payloadTaken f c e).sendNew_ctx f c (s.payloadPkt f c e d)
  rw [State.payloadSent, State.modEntry, State.modW_ctx, State.noteSent, State.modEntry, State.modW_ctx, State.traceFirst_ctx]
  dsimp only
  rw [hsent, hreplay, hc, hw]
  exact ⟨rfl, rfl⟩

theorem State.payloadSent_entry? {x : Entry} (he : s.entry? f c e.idx = some e)
    (hx : (s.payloadSent f c e d).entry? f c e.idx = some x) : x.sent = e.sent + 1 ∧ x.lastPsn = (s.ctx f c).c.nextPsn := by
  obtain ⟨_, hw⟩ := s.payloadTaken_ctx f c e
  obtain ⟨_, _, hentries⟩ := (s.payloadTaken f c e).sendNew_ctx f c (s.payloadPkt f c e d)
  have hsame : (((s.payloadTaken f c e).sendNew f c (s.payloadPkt f c e d)).traceFirst f c e).entry? f c e.idx = some e := by
    rw [← he]
    exact State.entry?_congr (by rw [State.traceFirst_ctx, hentries, hw]) _
  rw [State.payloadSent, State.modEntry_entry? _ _ _ _ ?keeps, State.noteSent, State.modEntry_entry? _ _ _ _ ?counts, hsame] at hx
  case keeps => exact fun _ => rfl
  case counts => exact fun _ => rfl
  obtain rfl := Option.some.inj hx
  exact ⟨rfl, rfl⟩

end Payload

/-! ### DATA_SEND of a resident context (R204) -/

section Send
variable {s : State} {f c : Nat}

theorem exec_dataSend_closed (h : (s.ctx f c).c.state = 0) : exec (.dataSend f c) s = .next s :=
  congrArg Host.Outcome.next (if_pos h)

theorem exec_dataSend_open (hst : (s.ctx f c).c.state = 1) (hres : (s.ctx f c).resident = true) :
    exec (.dataSend f c) s = .next ((s.sendHere f c).flushWrites f) := by
  have hlive : (s.ctx f c).c.state ≠ 0 := by rw [hst]; decide
  refine congrArg Host.Outcome.next ((if_neg hlive).trans ?_)
  rw [State.sendNext, State.atHome_resident hres]

/-- What keeps a new packet from starting, whether it needs a response or not. -/
theorem State.mayStart_held (h : dist (s.ctx f c).c.nextPsn (s.ctx f c).c.una = 64 ∨ (s.ctx f c).m.refused ≠ [] ∨
    s.etNow < (s.ctx f c).w.pacerAt ∨ s.injectStopped = true) (resp : Bool) : s.mayStart f c resp = false := by
  rcases h with hfull | hrefused | hpace | hstop
  · simp [State.mayStart, hfull]
  · simp [State.mayStart, hrefused]
  · simp [State.mayStart, Nat.not_le.mpr hpace]
  · simp [State.mayStart, hstop]

theorem State.sendHere_resend (h : (s.ctx f c).w.resends ≠ []) : s.sendHere f c =
    if s.injectStopped || decide (s.etNow < (s.ctx f c).w.pacerAt) then s else s.resendNext f c :=
  if_pos (by simpa using h)

section Fresh
variable (hresends : (s.ctx f c).w.resends = []) (howed : (s.ctx f c).w.owed = [])
include hresends howed

theorem State.sendHere_held (h : ∀ resp, s.mayStart f c resp = false) : s.sendHere f c = s := by
  unfold State.sendHere
  rw [hresends, howed, if_neg (by decide)]
  split
  · rfl
  · cases hnext : s.nextTx f c with
    | none => simp
    | some e => simp [h]

theorem State.sendHere_payload {e : Entry} (hinj : s.injectOk f c = true) (hnext : s.nextTx f c = some e)
    (hop : wOpcode e.words.toNat = opSend ∧ e.rndv = false ∨ wOpcode e.words.toNat = opWrite)
    (hmay : s.mayStart f c (wOpcode e.words.toNat == opWrite && e.sent + 1 == e.total) = true)
    (hfence : wFence e.words.toNat = false) (hreach : s.canReach (s.ctx f c).c = true) :
    s.sendHere f c = s.sendPayload f c e := by
  have hnone (p : Prop) [Decidable p] : (if p then none else List.find? (s.owedOk f c) []) = none := by simp
  have hrts : ¬ (wOpcode e.words.toNat == opSend && e.rndv) = true := by
    rcases hop with ⟨_, hrndv⟩ | hwrite
    · rw [hrndv, Bool.and_false]
      exact Bool.false_ne_true
    · rw [hwrite, show (opWrite == opSend) = false by decide, Bool.false_and]
      exact Bool.false_ne_true
  have hreq : ¬ (wOpcode e.words.toNat == opRead || isAtomic (wOpcode e.words.toNat)) = true := by
    rcases hop with ⟨h, _⟩ | h
    all_goals
      rw [h]
      decide
  have hnotify : (wOpcode e.words.toNat == opWriteNotify) = false := by
    rcases hop with ⟨h, _⟩ | h
    all_goals
      rw [h]
      decide
  unfold State.sendHere
  rw [hresends, howed, if_neg (by decide), if_neg (by simp [hinj]), hnone]
  simp only [hnext, hnotify, Bool.or_false]
  rw [Bool.eq_false_iff.mpr hreq, Bool.false_or, hmay, hfence, hreach, if_neg (by simp), if_neg (by simp), if_neg hrts,
    if_neg (by simp)]

end Fresh
end Send

/-- Settles O38: a send with every check passed is `payloadSent`, and each thing that holds a packet back leaves the state. -/
theorem packetsAreNumberedOnce : Obligations.PacketsAreNumberedOnce := by
  unfold Obligations.PacketsAreNumberedOnce
  refine ⟨?sends, fun f c s hst hres hresends howed hheld => ?held,
    fun f c s hst hres hresends hrun => ⟨fun hpace => ?resend, fun hpace => ?paced⟩, fun f c s hst => exec_dataSend_closed hst, fun l => rfl⟩
  case sends =>
    intro f c e d s hst hres hresends hinj howed hnext he hop hmay hfence hreach hdata
    have hready : wOpcode e.words.toNat = opSend ∧
        (s.ctx f c).c.credit (landSlots (min 4096 (wLength e.words.toNat - 4096 * e.sent))) = true ∨
        wOpcode e.words.toNat = opWrite := hop.imp_left fun ⟨hsend, _, hcred⟩ => ⟨hsend, hcred⟩
    have heager : wOpcode e.words.toNat = opSend ∧ e.rndv = false ∨ wOpcode e.words.toNat = opWrite :=
      hop.imp_left fun ⟨hsend, hrndv, _⟩ => ⟨hsend, hrndv⟩
    obtain ⟨hc, hreplay⟩ := s.payloadSent_ctx f c e d
    have hon := s.payloadSent_sendsOn f c e d
    refine ⟨s.payloadSent f c e d, (s.payloadPkt f c e d).record (s.ctx f c).c.nextPsn, ?_, hc, hreplay, rfl, rfl, rfl, rfl,
      fun x hx => s.payloadSent_entry? f c e d he hx, hon.others, hon.frame⟩
    rw [exec_dataSend_open hst hres, State.sendHere_payload hresends howed hinj hnext heager hmay hfence hreach,
      State.sendPayload_ready hready hdata]
  case held =>
    rw [exec_dataSend_open hst hres, State.sendHere_held hresends howed (State.mayStart_held hheld)]
  case resend =>
    rw [exec_dataSend_open hst hres, State.sendHere_resend hresends, if_neg (by simp [hrun, hpace])]
  case paced =>
    rw [exec_dataSend_open hst hres, State.sendHere_resend hresends, if_pos (by simp [hpace])]

end Sys2Proof.Machine
end

section
/-! SUPPORT. Message matching (R222 to R225, R232, R235, R248): what counts and traces leave of a matching context, what an envelope
matches, what a posting makes of the posted and unexpected lists, and the next item of a tile's engines. -/

namespace Sys2Proof.Machine

/-! ### A matching context's part of the state -/

theorem State.mctx_congr {s t : State} (h : t.mctxs = s.mctxs) (f comm : Nat) : t.mctx f comm = s.mctx f comm := by
  simp only [State.mctx, h]

/-- A part of every matching context that an update of one does not touch. -/
theorem State.modMctx_keeps {α : Type} (part : MatchCtx → α) (s : State) (f comm : Nat) {g : MatchCtx → MatchCtx}
    (hg : ∀ x, part (g x) = part x) (f' comm' : Nat) : part ((s.modMctx f comm g).mctx f' comm') = part (s.mctx f' comm') := by
  rw [State.mctx, State.modMctx, Tbl.getD_put]
  split
  · next hkey => rw [hg, State.mctx, State.mctx, hkey]
  · rfl

@[simp] theorem State.mCount_ctx (s : State) (n k m f c : Nat) : (s.mCount n k m).ctx f c = s.ctx f c := rfl

@[simp] theorem State.perf_ctx (s : State) (t ev unit : Nat) (fn : Option Nat) (n f c : Nat) :
    (s.perf t ev unit fn n).ctx f c = s.ctx f c := rfl

@[simp] theorem State.mCount_mctx (s : State) (n k m f comm : Nat) : (s.mCount n k m).mctx f comm = s.mctx f comm := rfl

@[simp] theorem State.perf_mctx (s : State) (t ev unit : Nat) (fn : Option Nat) (n f comm : Nat) :
    (s.perf t ev unit fn n).mctx f comm = s.mctx f comm := rfl

@[simp] theorem State.modMsg_mctx (s : State) (f c msn : Nat) (g : Msg → Msg) (f' comm : Nat) :
    (s.modMsg f c msn g).mctx f' comm = s.mctx f' comm := rfl

@[simp] theorem State.traceEntry_mctx (s : State) (f c : Nat) (e : Entry) (stage f' comm : Nat) :
    (s.traceEntry f c e stage).mctx f' comm = s.mctx f' comm :=
  State.mctx_congr (by rw [State.traceEntry_frame]) f' comm

@[simp] theorem State.traceEntry_ctx (s : State) (f c : Nat) (e : Entry) (stage f' c' : Nat) :
    (s.traceEntry f c e stage).ctx f' c' = s.ctx f' c' :=
  State.ctx_congr (by rw [State.traceEntry_frame]) f' c'

theorem State.mCount_et (s : State) (n k m : Nat) : (s.mCount n k m).et n =
    { s.et n with mCounts := bump (s.et n).mCounts k m } :=
  State.modEt_et ..

/-- Counting an operation of a home engine touches no list and moves no home (R235). -/
theorem State.engOp_keeps {α : Type} (part : MatchCtx → α) (hpart : ∀ x n, part { x with ops := n } = part x) (s : State)
    (f comm f' comm' : Nat) : part ((s.engOp f comm).mctx f' comm') = part (s.mctx f' comm') :=
  State.modMctx_keeps part _ f comm (fun x => hpart x _) f' comm'

/-! ### What an engine's step may change -/

/-- Only contexts, matching contexts, tiles and counters change. -/
def State.EngineStep (s t : State) : Prop := t = { s with ctxs := t.ctxs, mctxs := t.mctxs, ets := t.ets, ctrs := t.ctrs }

theorem State.EngineStep.trans {s t u : State} (h : s.EngineStep t) (h' : t.EngineStep u) : s.EngineStep u := by
  unfold State.EngineStep at *
  rw [h', h]

theorem State.mCount_engineStep (s : State) (n k m : Nat) : s.EngineStep (s.mCount n k m) := rfl

theorem State.modMctx_engineStep (s : State) (f comm : Nat) (g : MatchCtx → MatchCtx) : s.EngineStep (s.modMctx f comm g) := rfl

theorem State.modMsg_engineStep (s : State) (f c msn : Nat) (g : Msg → Msg) : s.EngineStep (s.modMsg f c msn g) := rfl

theorem State.engOp_engineStep (s : State) (f comm : Nat) : s.EngineStep (s.engOp f comm) := rfl

theorem State.traceEntry_engineStep (s : State) (f c : Nat) (e : Entry) (stage : Nat) :
    s.EngineStep (s.traceEntry f c e stage) := by
  unfold State.EngineStep
  rw [State.traceEntry_frame]

/-! ### Message records -/

theorem State.msg?_congr {s t : State} {f c : Nat} (h : t.ctx f c = s.ctx f c) (msn : Nat) : t.msg? f c msn = s.msg? f c msn := by
  simp only [State.msg?, h]

theorem State.msg?_msn {s : State} {f c msn : Nat} {m : Msg} (h : s.msg? f c msn = some m) : m.msn = msn := by
  simpa using List.find?_some h

theorem State.modMsg_msg? (s : State) (f c msn : Nat) {g : Msg → Msg} (hg : ∀ m, (g m).msn = m.msn) :
    (s.modMsg f c msn g).msg? f c msn = (s.msg? f c msn).map g := by
  have hkey : ((fun m : Msg => m.msn == msn) ∘ fun m => if m.msn = msn then g m else m) = fun m => m.msn == msn := by
    funext m
    by_cases hm : m.msn = msn <;> simp [hm, hg]
  rw [State.msg?, State.modMsg, State.modM_ctx, List.find?_map, hkey]
  exact Option.map_congr fun m hm => if_pos (State.msg?_msn hm)

/-! ### Envelopes (R223) -/

theorem and_xor_eq_zero_iff (a b mask : Nat) :
    Nat.xor a b &&& mask = 0 ↔ ∀ i, mask.testBit i = true → a.testBit i = b.testBit i := by
  have hbit (i : Nat) : (Nat.xor a b &&& mask).testBit i = ((a.testBit i ^^ b.testBit i) && mask.testBit i) := by
    rw [Nat.testBit_and]
    exact congrArg (· && _) (Nat.testBit_xor ..)
  constructor
  · intro h i hi
    have hsame := hbit i
    rw [h, hi, Nat.zero_testBit, Bool.and_true] at hsame
    simpa using hsame.symm
  · intro h
    refine Nat.eq_of_testBit_eq fun i => ?_
    rw [hbit, Nat.zero_testBit]
    cases hi : mask.testBit i with
    | false => exact Bool.and_false _
    | true => simp [h i hi]

theorem envMatches_iff (r : Posted) (comm tag : Nat) (src : Option Nat) : envMatches r comm tag src = true ↔
    r.comm = comm ∧ (r.anySrc = true ∨ (src = some r.source ∧ r.source / 2 ^ 14 ≤ 3200)) ∧
      ∀ i, r.mask.testBit i = true → r.tag.testBit i = tag.testBit i := by
  rw [← and_xor_eq_zero_iff]
  cases src <;> simp [envMatches, and_assoc]

/-- What a receive finds lies in its communicator's list and matches it (R232). -/
theorem State.findUnexpected_some {s : State} {f c : Nat} {r : Posted} {m : Msg} (h : s.findUnexpected f r = some (c, m)) :
    (c, m.msn) ∈ (s.mctx f r.comm).unexp ∧ envMatches r m.comm m.tag m.source = true := by
  obtain ⟨⟨c', msn⟩, hmem, hfound⟩ := List.exists_of_findSome?_eq_some h
  dsimp only at hfound
  split at hfound
  · next m' hm =>
    split at hfound
    · next hmatch =>
      obtain ⟨rfl, rfl⟩ := Prod.mk.inj (Option.some.inj hfound)
      rw [State.msg?_msn hm]
      exact ⟨hmem, hmatch⟩
    · cases hfound
  · cases hfound

/-! ### Postings (R232) -/

section Posting
variable (s : State) (f c : Nat) (e : Entry)

/-- The receive that a posting makes: the entry's, with the next PSEQ of its matching context. -/
def State.toPost : Posted := postedOfEntry c e (s.mctx f (wComm e.words.toNat)).pseq

/-- A posting is counted by its tile and its home engine (R235). -/
def State.postCounted : State := (s.mCount (etOf f) 1).engOp f (wComm e.words.toNat)

theorem State.postCounted_keeps {α : Type} (part : MatchCtx → α) (hpart : ∀ x n, part { x with ops := n } = part x)
    (f' comm : Nat) : part ((s.postCounted f e).mctx f' comm) = part (s.mctx f' comm) :=
  State.engOp_keeps part hpart _ f _ f' comm

theorem State.postCounted_findUnexpected (r : Posted) : (s.postCounted f e).findUnexpected f r = s.findUnexpected f r := by
  unfold State.findUnexpected
  rw [s.postCounted_keeps f e (·.unexp) (fun _ _ => rfl)]
  rfl

/-- The state in which an unexpected message has been bound to the posting that found it. -/
def State.bound (d : Nat) (m : Msg) : State :=
  (((s.postCounted f e).modMctx f (wComm e.words.toNat) (fun x => { x with
    unexp := x.unexp.filter (fun y => y != (d, m.msn)), pseq := x.pseq + 1 })).modMsg f d m.msn (fun y => { y with
      st := .matched, recv := some (s.toPost f c e) })).traceEntry f c e 3

theorem State.posting_eq : s.posting f c e =
    match (s.postCounted f e).findUnexpected f (s.toPost f c e) with
    | some (d, m) => ((s.bound f c e d m).startPull f d m (s.toPost f c e)).deliver f d m.msn
    | none => (s.postCounted f e).modMctx f (wComm e.words.toNat) (fun x => { x with
        posted := x.posted ++ [s.toPost f c e], pseq := x.pseq + 1 }) := rfl

variable {s f c e}

theorem State.posting_joins (h : s.findUnexpected f (s.toPost f c e) = none) : s.posting f c e =
    (s.postCounted f e).modMctx f (wComm e.words.toNat) (fun x => { x with
      posted := x.posted ++ [s.toPost f c e], pseq := x.pseq + 1 }) := by
  rw [State.posting_eq, State.postCounted_findUnexpected, h]

theorem State.posting_joins_mctx (h : s.findUnexpected f (s.toPost f c e) = none) :
    ((s.posting f c e).mctx f (wComm e.words.toNat)).posted = (s.mctx f (wComm e.words.toNat)).posted ++ [s.toPost f c e] ∧
    ((s.posting f c e).mctx f (wComm e.words.toNat)).pseq = (s.mctx f (wComm e.words.toNat)).pseq + 1 ∧
    ((s.posting f c e).mctx f (wComm e.words.toNat)).unexp = (s.mctx f (wComm e.words.toNat)).unexp := by
  rw [State.posting_joins h, State.modMctx_mctx]
  dsimp only
  rw [s.postCounted_keeps f e (·.posted) (fun _ _ => rfl), s.postCounted_keeps f e (·.pseq) (fun _ _ => rfl),
    s.postCounted_keeps f e (·.unexp) (fun _ _ => rfl)]
  exact ⟨rfl, rfl, rfl⟩

theorem State.posting_binds {d : Nat} {m : Msg} (h : s.findUnexpected f (s.toPost f c e) = some (d, m)) : s.posting f c e =
    ((s.bound f c e d m).startPull f d m (s.toPost f c e)).deliver f d m.msn := by
  rw [State.posting_eq, State.postCounted_findUnexpected, h]

variable (s f c e) (d : Nat) (m : Msg)

theorem State.bound_mctx :
    ((s.bound f c e d m).mctx f (wComm e.words.toNat)).posted = (s.mctx f (wComm e.words.toNat)).posted ∧
    ((s.bound f c e d m).mctx f (wComm e.words.toNat)).pseq = (s.mctx f (wComm e.words.toNat)).pseq + 1 ∧
    ((s.bound f c e d m).mctx f (wComm e.words.toNat)).unexp =
      (s.mctx f (wComm e.words.toNat)).unexp.filter (fun y => y != (d, m.msn)) := by
  rw [State.bound, State.traceEntry_mctx, State.modMsg_mctx, State.modMctx_mctx]
  dsimp only
  rw [s.postCounted_keeps f e (·.posted) (fun _ _ => rfl), s.postCounted_keeps f e (·.pseq) (fun _ _ => rfl),
    s.postCounted_keeps f e (·.unexp) (fun _ _ => rfl)]
  exact ⟨rfl, rfl, rfl⟩

theorem State.bound_msg? {y : Msg} (h : (s.bound f c e d m).msg? f d m.msn = some y) :
    y.st = .matched ∧ y.recv = some (s.toPost f c e) := by
  rw [State.bound, State.msg?_congr (State.traceEntry_ctx ..), State.modMsg_msg? _ _ _ _ (fun _ => by rfl)] at h
  obtain ⟨x, -, rfl⟩ := Option.map_eq_some_iff.mp h
  exact ⟨rfl, rfl⟩


theorem State.postCounted_engineStep : s.EngineStep (s.postCounted f e) := (State.mCount_engineStep ..).trans (State.engOp_engineStep ..)

theorem State.bound_frame : s.bound f c e d m = { s with
    ctxs := (s.bound f c e d m).ctxs, mctxs := (s.bound f c e d m).mctxs, ets := (s.bound f c e d m).ets,
    ctrs := (s.bound f c e d m).ctrs } :=
  (((s.postCounted_engineStep f e).trans (State.modMctx_engineStep ..)).trans (State.modMsg_engineStep ..)).trans
    (State.traceEntry_engineStep ..)

end Posting

/-! ### The next item of a tile's engines (R248, R249) -/

section Item
variable (s : State) (h f comm k : Nat)

theorem State.lateItem_frame : s.lateItem h f comm k = { s with
    ets := (s.lateItem h f comm k).ets, faults := { s.faults with coming := (s.lateItem h f comm k).faults.coming } } := by
  unfold State.lateItem
  split <;> rfl

theorem State.lateItem_items : ((s.lateItem h f comm k).et h).items = (s.et h).items := by
  unfold State.lateItem
  split
  · exact congrArg (·.items) (s.mCount_et h 13 1)
  · rfl

theorem State.itemPop_fenced : (s.itemPop h).fenced f comm = s.fenced f comm :=
  congrArg (List.any · _) (State.modEt_keeps (·.moves) s h (fun _ => by rfl) (etOf f))

/-- The state in which an engine begins an item: it has left the queue, and is counted where its engine is not the home. -/
def State.itemTaken : State := (s.itemPop h).lateItem h f comm k

theorem State.itemTaken_frame : s.itemTaken h f comm k = { s with
    ets := (s.itemTaken h f comm k).ets, faults := { s.faults with coming := (s.itemTaken h f comm k).faults.coming } } := by
  unfold State.itemTaken
  rw [State.lateItem_frame]
  rfl

variable {s h f comm k} {i : EngItem} {rest : List EngItem}

theorem State.itemTaken_items (hitems : (s.et h).items = i :: rest) : ((s.itemTaken h f comm k).et h).items = rest := by
  rw [State.itemTaken, State.lateItem_items, State.itemPop, State.modEt_et]
  exact congrArg (List.drop 1) hitems

theorem exec_matchHeader_run (hrun : s.faults.checkstop = false) : exec (.matchHeader h) s = .next (s.matchItem h) :=
  congrArg Host.Outcome.next (if_neg (by simp [hrun]))

theorem State.matchItem_held (hitems : (s.et h).items = i :: rest) (hfence : s.fenced i.key.1 i.key.2 = true) :
    s.matchItem h = (s.itemPop h).modEt h (fun e => { e with heldItems := e.heldItems ++ [i] }) := by
  rw [State.matchItem, hitems]
  exact if_pos (by rw [State.itemPop_fenced, hfence])

theorem State.matchItem_posting {c : Nat} {e : Entry} (hitems : (s.et h).items = .posting f c e.idx comm k :: rest)
    (hopen : s.fenced f comm = false) (he : s.entry? f c e.idx = some e) (hst : e.st = .started) :
    s.matchItem h = ((((s.itemTaken h f comm k).posting f c e).landWatch h).flushWrites f).endFailed f := by
  have hentry : (s.itemTaken h f comm k).entry? f c e.idx = some e := by
    rw [State.itemTaken_frame]
    exact he
  rw [State.matchItem, hitems]
  refine (if_neg (by simp [EngItem.key, State.itemPop_fenced, hopen])).trans ?_
  dsimp only
  rw [← State.itemTaken, hentry]
  exact if_pos (by rw [hst]; rfl)

theorem State.matchItem_header {c : Nat} {p : Packet} {d : PayloadDest} (hitems : (s.et h).items = .header f c p d k :: rest)
    (hopen : s.fenced f (oComm p) = false) : s.matchItem h =
      ((((((s.itemTaken h f (oComm p) k).header f c p d).freeUnused f p c d).landWatch h).flushWrites f).endFailed f).ackIfDue f c := by
  rw [State.matchItem, hitems]
  exact if_neg (by simp [EngItem.key, State.itemPop_fenced, hopen])

end Item

end Sys2Proof.Machine
end

section
/-! SUPPORT. Headers, commits and rendezvous (R227, R229, R230, R238): what a header outside the window leaves, what an unexpected
commit changes, what a PULL and a FIN do at the sender, and the proof of MessagesMeetReceives. -/

namespace Sys2Proof.Machine

/-! ### A header with no record outside the window (R227, R357) -/

section Header
variable (s : State) (f c : Nat) (p : Packet)

@[simp] theorem State.tracePkt_mctx (n stage : Nat) (f' comm : Nat) : (s.tracePkt n stage p).mctx f' comm = s.mctx f' comm :=
  State.mctx_congr (by rw [State.tracePkt_frame]) f' comm

theorem State.tracePkt_ctxs (n stage : Nat) : (s.tracePkt n stage p).ctxs = s.ctxs := by rw [State.tracePkt_frame]

theorem State.tracePkt_faults (n stage : Nat) : (s.tracePkt n stage p).faults = s.faults := by rw [State.tracePkt_frame]

theorem State.returnSlots_ctx (n : Nat) : ((s.returnSlots f c n).ctx f c).m = (s.ctx f c).m ∧
    ((s.returnSlots f c n).ctx f c).c.rxLimit = (s.ctx f c).c.rxLimit + BitVec.ofNat 16 n := by
  unfold State.returnSlots
  split
  · next hn => simp [hn]
  · rw [State.modCtx_ctx]
    exact ⟨rfl, rfl⟩

theorem State.returnSlots_faults (n : Nat) : (s.returnSlots f c n).faults = s.faults := by
  unfold State.returnSlots
  split <;> rfl

/-- The landing slots that a packet took, given back (R213). -/
def State.giveBack (d : PayloadDest) : State :=
  match d with
  | .landing n => s.returnSlots f c n
  | .block _ => s.returnSlots f c (xSlots p)
  | .straight | .discard => s

theorem State.giveBack_ctx (d : PayloadDest) : ((s.giveBack f c p d).ctx f c).m = (s.ctx f c).m := by
  cases d with
  | landing n => exact (s.returnSlots_ctx f c n).1
  | block b => exact (s.returnSlots_ctx f c _).1
  | straight | discard => rfl

theorem State.giveBack_faults (d : PayloadDest) : (s.giveBack f c p d).faults = s.faults := by
  cases d with
  | landing n => exact s.returnSlots_faults f c n
  | block b => exact s.returnSlots_faults f c _
  | straight | discard => rfl

/-- A header is counted by its tile, traced, and counted by its home engine (R235, R364, R369). -/
def State.headerCounted : State :=
  (((s.mCount (etOf f) 0).perf (8 + etOf f) 0x430 (s.homeOf f (oComm p)) (some f) 1).tracePkt (etOf f) 3 p).engOp f (oComm p)

theorem State.headerCounted_ctxs : (s.headerCounted f p).ctxs = s.ctxs :=
  State.tracePkt_ctxs _ p (etOf f) 3

theorem State.headerCounted_ctx (f' c' : Nat) : (s.headerCounted f p).ctx f' c' = s.ctx f' c' :=
  State.ctx_congr (s.headerCounted_ctxs f p) f' c'

theorem State.headerCounted_faults : (s.headerCounted f p).faults = s.faults :=
  State.tracePkt_faults _ p (etOf f) 3

theorem State.headerCounted_homeOf (comm : Nat) : (s.headerCounted f p).homeOf f comm = s.homeOf f comm := by
  unfold State.homeOf State.headerCounted
  rw [State.engOp_keeps (·.home) (fun _ _ => rfl), State.tracePkt_mctx]
  rfl

variable {s f c p}

theorem State.header_format (d : PayloadDest) (hmsg : s.msg? f c (oMsn p) = none)
    (hbad : oMkind p = 3 ∨ 64 ≤ s.msnAbove f c (oMsn p)) :
    s.header f c p d = ((s.headerCounted f p).matchFormat f c (oComm p)).giveBack f c p d := by
  have hmsg' : (s.headerCounted f p).msg? f c (oMsn p) = none :=
    (State.msg?_congr (s.headerCounted_ctx f p f c) _).trans hmsg
  have habove : (s.headerCounted f p).msnAbove f c (oMsn p) = s.msnAbove f c (oMsn p) := by
    rw [State.msnAbove, State.headerCounted_ctx, State.msnAbove]
  unfold State.header
  dsimp only
  rw [← State.headerCounted]
  by_cases hkind : oMkind p = 3
  · rw [if_pos hkind]
    cases d <;> rfl
  · rw [if_neg hkind, hmsg', habove]
    refine (if_pos (hbad.resolve_left hkind)).trans ?_
    cases d <;> rfl

theorem State.header_format_faults (d : PayloadDest) (hmsg : s.msg? f c (oMsn p) = none)
    (hbad : oMkind p = 3 ∨ 64 ≤ s.msnAbove f c (oMsn p)) : (s.header f c p d).faults.coming = s.faults.coming ++
      [{ code := 0x0610, cls := corrected, tile := 8 + etOf f, unit := s.homeOf f (oComm p), fn := some f, ctx := some c }] := by
  have hhome := s.headerCounted_homeOf f p (oComm p)
  rw [State.header_format d hmsg hbad, State.giveBack_faults, State.matchFormat, State.report_coming, ← hhome,
    ← s.headerCounted_faults f p]
  rfl

end Header

/-! ### An unexpected commit (R238) -/

section Commit
variable {s : State} {f : Nat} (c : Nat) (m : Msg)

/-- A message becomes unexpected and is counted (R252). -/
def State.nowUnexpected (s : State) (f c : Nat) (m : Msg) : State :=
  ((s.modMctx f m.comm (fun x => { x with unexp := x.unexp ++ [(c, m.msn)] })).modMsg f c m.msn (fun y => { y with
    st := .unexpected, recv := none })).mCount (etOf f) 5

/-- It is counted by its home engine too, and RX_MSN moves past it (R238, R364). -/
def State.madeUnexpected (s : State) (f c : Nat) (m : Msg) : State :=
  ((s.nowUnexpected f c m).perf (8 + etOf f) 0x432 ((s.nowUnexpected f c m).homeOf f m.comm) (some f) 1).modM f c
    (fun y => { y with rxMsn := y.rxMsn + 1 })

theorem State.nowUnexpected_keeps (s : State) (f c : Nat) (m : Msg) :
    (s.nowUnexpected f c m).dict = s.dict ∧ (s.nowUnexpected f c m).out = s.out ∧ (s.nowUnexpected f c m).fns = s.fns :=
  ⟨rfl, rfl, rfl⟩

theorem State.madeUnexpected_keeps (s : State) (f c : Nat) (m : Msg) :
    (s.madeUnexpected f c m).dict = s.dict ∧ (s.madeUnexpected f c m).out = s.out ∧ (s.madeUnexpected f c m).fns = s.fns :=
  s.nowUnexpected_keeps f c m

theorem State.commitUnexpected_quiet (h : bitAt (s.cfg 0x6014 f) 0 = false) :
    s.commitUnexpected f c m = s.madeUnexpected f c m := by
  have hcfg : (s.madeUnexpected f c m).cfg 0x6014 f = s.cfg 0x6014 f := by
    simp only [State.cfg, (s.madeUnexpected_keeps f c m).1]
  exact if_neg fun hev => Bool.false_ne_true (h.symm.trans (hcfg ▸ hev.1))

theorem State.madeUnexpected_unexp : ((s.madeUnexpected f c m).mctx f m.comm).unexp = (s.mctx f m.comm).unexp ++ [(c, m.msn)] := by
  rw [State.madeUnexpected, State.modM_mctx, State.perf_mctx, State.nowUnexpected, State.mCount_mctx,
    State.modMsg_mctx, State.modMctx_mctx]

theorem State.madeUnexpected_rxMsn : ((s.madeUnexpected f c m).ctx f c).m.rxMsn = (s.ctx f c).m.rxMsn + 1 := by
  rw [State.madeUnexpected, State.modM_ctx, State.perf_ctx, State.nowUnexpected, State.mCount_ctx, State.modMsg,
    State.modM_ctx, State.modMctx_ctx]

end Commit

/-! ### Rendezvous at the sender (R229, R230) -/

section Rendezvous
variable {s : State} {h f c : Nat} {p : Packet}

/-- The state in which an accepted PULL or FIN has left its tile's list. -/
def State.opTaken (s : State) (h : Nat) (o : Nat × Nat × Packet) : State := s.modEt h (fun e => { e with ops := e.ops.erase o })

theorem State.opTaken_ops (o : Nat × Nat × Packet) : ((s.opTaken h o).et h).ops = (s.et h).ops.erase o :=
  congrArg (·.ops) (State.modEt_et ..)

theorem State.opTaken_rndv? (o : Nat × Nat × Packet) (f c msn : Nat) : (s.opTaken h o).rndv? f c msn = s.rndv? f c msn :=
  congrArg (List.find? _) (State.modEt_keeps (·.rndv) s h (fun _ => by rfl) (etOf f))

theorem State.opStep_first {mkind : Nat} (go : State → Nat → Nat → Packet → State) (hop : s.firstOp h mkind = some (f, c, p))
    (hst : (s.ctx f c).c.state ≠ 0) :
    s.opStep h mkind go = ((go (s.opTaken h (f, c, p)) f c p).flushWrites f).ackIfDue f c := by
  rw [State.opStep, hop]
  exact if_neg hst

theorem State.takePull_noRecord (hr : s.rndv? f c (oMsn p) = none) :
    s.takePull f c p = s.pullResp f c (xPsn p) (oMsn p) (oOffset p) (oMlen p) stBounds [] := by
  rw [State.takePull, hr]

theorem State.takePull_inside {r : Rndv} {e : Entry} (hr : s.rndv? f c (oMsn p) = some r) (he : s.entry? f c r.idx = some e)
    (hend : oOffset p + oMlen p ≤ wLength e.words.toNat) (hpos : 0 < oMlen p) (hlen : oMlen p ≤ 4096) :
    s.takePull f c p = s.hostReadReq f (wLocal e.words.toNat + oOffset p) (oMlen p)
      (.pull c (oMsn p) (xPsn p).toNat (oOffset p) (oMlen p)) := by
  rw [State.takePull, hr]
  dsimp only
  rw [he]
  dsimp only
  rw [if_neg (by omega), if_neg (by omega)]

/-- A tile without the rendezvous record of an MSN. -/
def EtTile.dropRndv (e : EtTile) (f c msn : Nat) : EtTile :=
  { e with rndv := e.rndv.filter (fun q => !(q.fn == f && q.ctx == c && q.msn == msn)) }

theorem EtTile.dropRndv_find? (e : EtTile) (f c msn : Nat) :
    (e.dropRndv f c msn).rndv.find? (fun r => r.fn == f && r.ctx == c && r.msn == msn) = none := by
  rw [EtTile.dropRndv, List.find?_eq_none]
  intro r hmem
  exact Bool.eq_false_iff.mp ((Bool.not_eq_true' _).mp (List.mem_filter.mp hmem).2)

/-- The state in which a FIN has ended its rendezvous record and marked the record's entry, before entries settle. -/
def State.finMarked (s : State) (f c msn : Nat) (idx : U32) : State :=
  (s.modEt (etOf f) (·.dropRndv f c msn)).modEntry f c idx (fun e => { e with fin := true })

theorem State.takeFin_record {r : Rndv} (hr : s.rndv? f c (oMsn p) = some r) :
    s.takeFin f c p = (s.finMarked f c (oMsn p) r.idx).settle f c := by
  rw [State.takeFin, hr]
  rfl

theorem State.finMarked_rndv? (s : State) (f c msn : Nat) (idx : U32) :
    ((s.finMarked f c msn idx).settle f c).rndv? f c msn = none := by
  have het : ((s.finMarked f c msn idx).settle f c).et (etOf f) = (s.et (etOf f)).dropRndv f c msn :=
    State.modEt_et s (etOf f) (·.dropRndv f c msn)
  rw [State.rndv?, het, EtTile.dropRndv_find?]

theorem State.finMarked_frame (s : State) (f c msn : Nat) (idx : U32) : (s.finMarked f c msn idx).settle f c = { s with
    ctxs := ((s.finMarked f c msn idx).settle f c).ctxs, ets := ((s.finMarked f c msn idx).settle f c).ets } := rfl

theorem State.finMarked_ops (s : State) (f c msn : Nat) (idx : U32) (n : Nat) :
    (((s.finMarked f c msn idx).settle f c).et n).ops = (s.et n).ops :=
  State.modEt_keeps (·.ops) s (etOf f) (g := (·.dropRndv f c msn)) (fun _ => rfl) n

/-- Settling takes no FIN from an entry. -/
theorem State.settle_fin {idx : U32} (h : ∀ e ∈ (s.ctx f c).w.entries, e.idx = idx → e.fin = true) {e : Entry}
    (he : (s.settle f c).entry? f c idx = some e) : e.fin = true := by
  have hidx : e.idx = idx := by simpa using List.find?_some he
  have hmem := List.mem_of_find?_eq_some he
  rw [State.settle, State.modW_ctx, List.mem_map] at hmem
  obtain ⟨x, hx, rfl⟩ := hmem
  split at hidx
  · next hmet =>
    rw [if_pos hmet]
    exact h x hx hidx
  · next hmet =>
    rw [if_neg hmet]
    exact h x hx hidx

theorem State.finMarked_fin (s : State) (f c msn : Nat) (idx : U32) {e : Entry}
    (he : ((s.finMarked f c msn idx).settle f c).entry? f c idx = some e) : e.fin = true := by
  refine State.settle_fin (fun x hx hidx => ?_) he
  rw [State.finMarked, State.modEntry, State.modW_ctx, List.mem_map] at hx
  obtain ⟨y, -, rfl⟩ := hx
  split at hidx
  · next hy => rw [if_pos hy]
  · next hy => exact absurd hidx hy

end Rendezvous

/-- Settles O43: each operation of an engine has one equation per case of the statement, and `postCounted`, `itemTaken` and
`headerCounted` are what its counts and traces leave. -/
theorem messagesMeetReceives : Obligations.MessagesMeetReceives := by
  unfold Obligations.MessagesMeetReceives
  refine ⟨envMatches_iff, ?postingItem, fun f c e s hnone => ?joins, fun f c d e m s hsome => ?binds,
    fun f c r m s hsome => State.findUnexpected_some hsome, ?headerItem, fun f c p d s hmsg hbad => ?format,
    fun f c m s hquiet => ?unexpected, fun h f c p s hop hst => ?pull, fun h f c p r s hop hst hr => ?fin⟩
  case postingItem =>
    intro h f c k e rest s hitems hrun he hst hopen
    refine ⟨s.itemTaken h f (wComm e.words.toNat) k, State.itemTaken_items hitems, State.itemTaken_frame .., ?_⟩
    rw [exec_matchHeader_run hrun, State.matchItem_posting hitems hopen he hst]
  case joins =>
    obtain ⟨hposted, hpseq, hunexp⟩ := State.posting_joins_mctx hnone
    exact ⟨hposted, hpseq, hunexp, by rw [State.posting_joins hnone]; rfl⟩
  case binds =>
    obtain ⟨hposted, hpseq, hunexp⟩ := s.bound_mctx f c e d m
    exact ⟨s.bound f c e d m, State.posting_binds hsome, hposted, hpseq, hunexp, fun y hy => State.bound_msg? s f c e d m hy,
      State.bound_frame ..⟩
  case headerItem =>
    intro h f c k p d rest s hitems hrun hopen
    refine ⟨s.itemTaken h f (oComm p) k, State.itemTaken_items hitems, State.itemTaken_frame .., ?_⟩
    rw [exec_matchHeader_run hrun, State.matchItem_header hitems hopen]
  case format =>
    refine ⟨?_, fun n hd => ?_, State.header_format_faults d hmsg hbad⟩
    · rw [State.header_format d hmsg hbad, State.giveBack_ctx]
      exact congrArg (·.m) (s.headerCounted_ctx f p f c)
    · subst hd
      rw [State.header_format _ hmsg hbad]
      refine (State.returnSlots_ctx _ f c n).2.trans ?_
      exact congrArg (·.c.rxLimit + _) (s.headerCounted_ctx f p f c)
  case unexpected =>
    rw [State.commitUnexpected_quiet c m hquiet]
    exact ⟨State.madeUnexpected_unexp c m, State.madeUnexpected_rxMsn c m, (State.madeUnexpected_keeps ..).2⟩
  case pull =>
    refine ⟨s.opTaken h (f, c, p), State.opTaken_ops _, rfl, fun hr => ?_, fun r e hr he hend hpos hlen => ?_⟩
    · rw [← State.takePull_noRecord ((State.opTaken_rndv? ..).trans hr)]
      exact congrArg Host.Outcome.next (State.opStep_first _ hop hst)
    · rw [← State.takePull_inside ((State.opTaken_rndv? ..).trans hr) he hend hpos hlen]
      exact congrArg Host.Outcome.next (State.opStep_first _ hop hst)
  case fin =>
    refine ⟨((s.opTaken h (f, c, p)).finMarked f c (oMsn p) r.idx).settle f c, ?_, State.finMarked_rndv? .., ?_,
      fun e he => State.finMarked_fin _ f c (oMsn p) r.idx he, by rw [State.finMarked_frame]; rfl⟩
    · rw [← State.takeFin_record ((State.opTaken_rndv? ..).trans hr)]
      exact congrArg Host.Outcome.next (State.opStep_first _ hop hst)
    · exact (State.finMarked_ops ..).trans (State.opTaken_ops _)

end Sys2Proof.Machine
end

section
/-! SUPPORT. Balance between the engines (R242, R247, R248, R252): an exhausted landing buffer, the end of a balance interval, the
fence of a move and its tombstone, and the proof of EnginesAreBalanced. -/

namespace Sys2Proof.Machine

/-! ### An exhausted landing buffer (R242) -/

section Landing
variable {s : State} {n : Nat}

theorem exec_landingExhausted_due (hfree : s.landFree n = 0) (hlong : after (s.et n).landZeroAt 1000000 s.etNow = true)
    (hrec : (s.et n).landRec = false) : exec (.landingExhausted n) s =
      .next ((s.modEt n (fun e => { e with landRec := true })).report { code := 0x0620, cls := corrected, tile := 8 + n }) :=
  congrArg Host.Outcome.next (if_pos (by simp [hfree, hlong, hrec]))

theorem exec_landingExhausted_not
    (h : s.landFree n ≠ 0 ∨ after (s.et n).landZeroAt 1000000 s.etNow = false ∨ (s.et n).landRec = true) :
    exec (.landingExhausted n) s = .next s := by
  refine congrArg Host.Outcome.next (if_neg ?_)
  rcases h with hfree | hshort | hrec
  · simp [hfree]
  · simp [hshort]
  · simp [hrec]

end Landing

/-! ### The end of a balance interval (R247, R252) -/

section Balance
variable (s : State) (n f comm : Nat)

/-- The engine with the most operations of the interval, and that with the fewest. -/
def State.busiest : Nat := argMax (s.et n).engOps
def State.idlest : Nat := argMin (s.et n).engOps

/-- Balancing is on, and the loads of the two differ by more than the threshold (R247). -/
def State.unbalanced : Prop := bitAt (s.balanceCfg n) 0 = true ∧
  bf (s.balanceCfg n) 16 16 * 1000 * bf (s.balanceCfg n) 8 8 <
    100 * (nth (s.et n).engOps (s.busiest n) - nth (s.et n).engOps (s.idlest n))

/-- A move of a matching context from the busiest engine to the least busy one has begun. -/
def State.moveBegun : State :=
  ((s.modMctx f comm (fun x => { x with home := (x.home + s.idlest n + 4 - s.busiest n) % 4 })).modEt n (fun e => { e with
    moves := e.moves ++ [{ fn := f, comm := comm, src := s.busiest n, at_ := s.etNow }] })).mCount n 12

/-- A matching context of tile `n`, by its key `k`, counts anew. -/
def MatchCtx.counted (n k : Nat) (x : MatchCtx) : MatchCtx := if etOf (k / 2 ^ 16) = n then { x with ops := 0 } else x

theorem MatchCtx.counted_home (n k : Nat) (x : MatchCtx) : (x.counted n k).home = x.home := by
  unfold MatchCtx.counted
  split <;> rfl

theorem MatchCtx.getD_counted_home (t : Tbl MatchCtx) (n k : Nat) :
    (Tbl.getD (t.map (fun e => (e.1, MatchCtx.counted n e.1 e.2))) k {}).home = (Tbl.getD t k {}).home := by
  rw [Tbl.getD, Tbl.get?_map _ (MatchCtx.counted n), Tbl.getD]
  cases Tbl.get? t k with
  | none => rfl
  | some x => exact x.counted_home n k

/-- The counts of the interval are zero again and the next interval has begun. -/
def State.intervalBegun : State :=
  { s.modEt n (fun e => { e with engOps := [0, 0, 0, 0], balanceAt := s.etNow, balanceOld := none }) with
    mctxs := s.mctxs.map (fun e => (e.1, e.2.counted n e.1)) }

theorem State.balance_cases : s.balance n = s.intervalBegun n ∨
    s.unbalanced n ∧ ∃ f comm, s.balance n = (s.moveBegun n f comm).intervalBegun n := by
  have hmap (l : Tbl MatchCtx) : l.map (fun x => if etOf (x.1 / 2 ^ 16) = n then (x.1, { x.2 with ops := 0 }) else x) =
      l.map (fun e => (e.1, e.2.counted n e.1)) :=
    List.map_congr_left fun e _ => (apply_ite (Prod.mk e.1) (etOf (e.1 / 2 ^ 16) = n) _ _).symm
  unfold State.balance
  dsimp only
  rw [hmap]
  split
  · next hgap =>
    split
    · next f comm _ => exact .inr ⟨hgap, f, comm, rfl⟩
    · exact .inl rfl
  · exact .inl rfl

theorem State.intervalBegun_et : (s.intervalBegun n).et n =
    { s.et n with engOps := [0, 0, 0, 0], balanceAt := s.etNow, balanceOld := none } :=
  State.modEt_et s n (fun e => { e with engOps := [0, 0, 0, 0], balanceAt := s.etNow, balanceOld := none })

theorem State.intervalBegun_et_other {j : Nat} (h : j ≠ n) : (s.intervalBegun n).et j = s.et j :=
  State.modEt_et_other s (fun e => { e with engOps := [0, 0, 0, 0], balanceAt := s.etNow, balanceOld := none }) h

theorem State.intervalBegun_ops {e : Nat × MatchCtx} (he : e ∈ (s.intervalBegun n).mctxs) (htile : etOf (e.1 / 2 ^ 16) = n) :
    e.2.ops = 0 := by
  obtain ⟨x, -, rfl⟩ := List.mem_map.mp he
  dsimp only at htile ⊢
  rw [MatchCtx.counted, if_pos htile]

theorem State.intervalBegun_homeOf : (s.intervalBegun n).homeOf f comm = s.homeOf f comm :=
  congrArg (fun k => (f + comm + k) % 4) (MatchCtx.getD_counted_home s.mctxs n (mkey f comm))

theorem State.moveBegun_et : (s.moveBegun n f comm).et n = { s.et n with
    moves := (s.et n).moves ++ [{ fn := f, comm := comm, src := s.busiest n, at_ := s.etNow }],
    mCounts := bump (s.et n).mCounts 12 1 } := by
  rw [State.moveBegun, State.mCount_et, State.modEt_et, State.modMctx_et]

theorem State.moveBegun_et_other {j : Nat} (h : j ≠ n) : (s.moveBegun n f comm).et j = s.et j := by
  rw [State.moveBegun, State.mCount, State.modEt_et_other _ _ h, State.modEt_et_other _ _ h, State.modMctx_et]

theorem State.moveBegun_homeOf {g d : Nat} (h : mkey g d ≠ mkey f comm) : (s.moveBegun n f comm).homeOf g d = s.homeOf g d := by
  have hmctx : (s.moveBegun n f comm).mctx g d = s.mctx g d := Tbl.getD_put_other _ _ _ h
  rw [State.homeOf, hmctx, State.homeOf]

theorem State.intervalBegun_frame :
    s.intervalBegun n = { s with ets := (s.intervalBegun n).ets, mctxs := (s.intervalBegun n).mctxs } := rfl

theorem State.moveBegun_frame :
    s.moveBegun n f comm = { s with ets := (s.moveBegun n f comm).ets, mctxs := (s.moveBegun n f comm).mctxs } := rfl

theorem State.balance_frame : s.balance n = { s with ets := (s.balance n).ets, mctxs := (s.balance n).mctxs } := by
  rcases s.balance_cases n with hstay | ⟨-, f, comm, hmove⟩
  · rw [hstay]
    exact s.intervalBegun_frame n
  · rw [hmove, State.intervalBegun_frame, State.moveBegun_frame]

variable {s n}

theorem exec_matchBalanceInterval_due (hdue : (s.et n).balanceAt + bf (s.balanceCfg n) 16 16 * 1000 ≤ s.etNow)
    (hrun : s.island (8 + n) = true) : exec (.matchBalanceInterval n) s = .next (s.balance n) :=
  congrArg Host.Outcome.next (if_pos ⟨hdue, hrun⟩)

theorem exec_matchBalanceInterval_not (h : s.etNow < (s.et n).balanceAt + bf (s.balanceCfg n) 16 16 * 1000 ∨
    s.island (8 + n) = false) : exec (.matchBalanceInterval n) s = .next s := by
  refine congrArg Host.Outcome.next (if_neg fun hdue => ?_)
  rcases h with hearly | hreset
  · exact absurd hdue.1 (Nat.not_le.mpr hearly)
  · exact Bool.false_ne_true (hreset.symm.trans hdue.2)

end Balance

/-! ### A list parted by a test -/

section Parts
variable {α : Type} (p : α → Bool) (l : List α)

theorem filter_parts : (l.filter p ++ l.filter (fun a => !p a)).filter p = l.filter p := by
  have hyes : (l.filter p).filter p = l.filter p := List.filter_eq_self.mpr fun a ha => (List.mem_filter.mp ha).2
  have hno : (l.filter (fun a => !p a)).filter p = [] := List.filter_eq_nil_iff.mpr fun a ha =>
    Bool.eq_false_iff.mp ((Bool.not_eq_true' _).mp (List.mem_filter.mp ha).2)
  rw [List.filter_append, hyes, hno, List.append_nil]

theorem filter_not_parts : (l.filter p ++ l.filter (fun a => !p a)).filter (fun a => !p a) = l.filter (fun a => !p a) := by
  have hyes : (l.filter p).filter (fun a => !p a) = [] := List.filter_eq_nil_iff.mpr fun a ha => by
    rw [(List.mem_filter.mp ha).2]
    exact Bool.false_ne_true
  have hno : (l.filter (fun a => !p a)).filter (fun a => !p a) = l.filter (fun a => !p a) :=
    List.filter_eq_self.mpr fun a ha => (List.mem_filter.mp ha).2
  rw [List.filter_append, hyes, hno, List.nil_append]

theorem length_parts : (l.filter p ++ l.filter (fun a => !p a)).length = l.length := by
  rw [List.length_append]
  induction l with
  | nil => rfl
  | cons a l ih =>
    cases ha : p a with
    | true =>
      rw [List.filter_cons_of_pos ha, List.filter_cons_of_neg (by rw [ha]; exact Bool.false_ne_true), List.length_cons,
        List.length_cons]
      omega
    | false =>
      rw [List.filter_cons_of_neg (by rw [ha]; exact Bool.false_ne_true), List.filter_cons_of_pos (by rw [ha]; rfl),
        List.length_cons, List.length_cons]
      omega

end Parts

/-! ### The end of a move's fence (R248) -/

section Fence
variable (s : State) (n : Nat) (m : Move)

/-- What waited inside the fence of a move, the items looked up at its old engine first. -/
def State.waitedInside : List EngItem :=
  let held := (s.et n).heldItems.filter (fun i => i.key == (m.fn, m.comm))
  held.filter (EngItem.at m.src) ++ held.filter (fun i => !i.at m.src)

/-- A tile once the fence of a move has ended, its items in the hands of engine `k`. -/
def EtTile.fenceEnded (e : EtTile) (m : Move) (l : List EngItem) (k : Nat) : EtTile :=
  { e with
    moves := e.moves.erase m, tmoves := e.tmoves ++ [{ m with fenced := false }]
    heldItems := e.heldItems.filter (fun i => i.key != (m.fn, m.comm)), items := l.map (EngItem.to k) ++ e.items }

/-- A tile without the tombstones of a matching context whose moves began at least 52 µs ago. -/
def EtTile.tombsExpired (e : EtTile) (f comm now : Nat) : EtTile :=
  { e with tmoves := e.tmoves.filter (fun m => !(m.fn == f && m.comm == comm && decide (m.at_ + 52000 ≤ now))) }

/-- The state in which the fence of a move has ended, before its matching context is looked at again. -/
def State.fenceEnded : State := s.modEt n (fun e => e.fenceEnded m (s.waitedInside n m) (s.homeOf m.fn m.comm))

theorem State.tidyMctx_frame (f comm : Nat) : s.tidyMctx f comm = { s with mctxs := (s.tidyMctx f comm).mctxs } := by
  unfold State.tidyMctx
  split <;> rfl

theorem State.endFence_frame : s.endFence n m = { s.fenceEnded n m with mctxs := (s.endFence n m).mctxs } :=
  State.tidyMctx_frame (s.fenceEnded n m) m.fn m.comm

theorem State.endFence_et_eq (j : Nat) : (s.endFence n m).et j = (s.fenceEnded n m).et j := by
  rw [State.endFence_frame]
  rfl

theorem State.endFence_et : (s.endFence n m).et n = (s.et n).fenceEnded m (s.waitedInside n m) (s.homeOf m.fn m.comm) := by
  rw [State.endFence_et_eq, State.fenceEnded, State.modEt_et]

theorem State.endFence_et_other {j : Nat} (h : j ≠ n) : (s.endFence n m).et j = s.et j := by
  rw [State.endFence_et_eq, State.fenceEnded, State.modEt_et_other _ _ h]

theorem State.mem_waitedInside {i : EngItem} :
    i ∈ s.waitedInside n m ↔ i ∈ (s.et n).heldItems ∧ i.key = (m.fn, m.comm) := by
  rw [State.waitedInside, List.mem_append, List.mem_filter, List.mem_filter, List.mem_filter]
  cases i.at m.src <;> simp

theorem State.waitedInside_ordered : s.waitedInside n m =
    (s.waitedInside n m).filter (EngItem.at m.src) ++ (s.waitedInside n m).filter (fun i => !i.at m.src) := by
  unfold State.waitedInside
  dsimp only
  rw [filter_parts, filter_not_parts]

theorem State.waitedInside_length :
    ((s.et n).heldItems.filter (fun i => i.key != (m.fn, m.comm))).length + (s.waitedInside n m).length =
      (s.et n).heldItems.length := by
  rw [State.waitedInside, length_parts, Nat.add_comm, ← List.length_append]
  exact length_parts (fun i : EngItem => i.key == (m.fn, m.comm)) (s.et n).heldItems

variable {s n m}

theorem exec_fenceEnd_eq : exec (.fenceEnd n) s =
    .next (match (s.et n).moves.find? (fun m => decide (m.at_ + 2000 ≤ s.etNow)) with
      | some m => s.endFence n m
      | none => s) := rfl

theorem exec_fenceEnd_due (h : (s.et n).moves.find? (fun m => decide (m.at_ + 2000 ≤ s.etNow)) = some m) :
    exec (.fenceEnd n) s = .next (s.endFence n m) := by
  rw [exec_fenceEnd_eq, h]

theorem exec_fenceEnd_early (h : ∀ m ∈ (s.et n).moves, s.etNow < m.at_ + 2000) : exec (.fenceEnd n) s = .next s := by
  have hnone : (s.et n).moves.find? (fun m => decide (m.at_ + 2000 ≤ s.etNow)) = none :=
    List.find?_eq_none.mpr fun m hm => by simpa using h m hm
  rw [exec_fenceEnd_eq, hnone]

end Fence

/-- Settles O44: `balance_cases` says whether the end of an interval begins a move, and `waitedInside` is what the end of a fence
gives back. -/
theorem enginesAreBalanced : Obligations.EnginesAreBalanced := by
  unfold Obligations.EnginesAreBalanced
  refine ⟨fun n s => ⟨fun hfree hlong hrec => ?exhausted, exec_landingExhausted_not⟩, fun n s hdue hrun => ?interval,
    fun n s => exec_matchBalanceInterval_not, fun h i rest s hitems hrun hfence => ?held, fun n m s hfind => ?fence,
    fun n s => exec_fenceEnd_early, fun n f comm s => ?tombstone⟩
  case exhausted =>
    refine ⟨_, exec_landingExhausted_due hfree hlong hrec, ?_, fun j hj => ?_, rfl, rfl⟩
    · rw [State.report_et, State.modEt_et]
    · rw [State.report_et, State.modEt_et_other _ _ hj]
  case interval =>
    refine ⟨s.balance n, exec_matchBalanceInterval_due hdue hrun, ?_⟩
    have hframe := s.balance_frame n
    rcases s.balance_cases n with hstay | ⟨⟨hon, hgap⟩, f, comm, hmove⟩
    · rw [hstay] at hframe ⊢
      rw [State.intervalBegun_et]
      exact ⟨rfl, .inl ⟨rfl, rfl, s.intervalBegun_homeOf n⟩, fun e => State.intervalBegun_ops s n,
        fun j => State.intervalBegun_et_other s n, hframe⟩
    · rw [hmove] at hframe ⊢
      rw [State.intervalBegun_et, State.moveBegun_et]
      exact ⟨rfl, .inr ⟨hon, hgap, f, comm, rfl, rfl,
          fun g d hkey => (State.intervalBegun_homeOf ..).trans (s.moveBegun_homeOf n f comm hkey)⟩,
        fun e => State.intervalBegun_ops _ n,
        fun j hj => (State.intervalBegun_et_other _ n hj).trans (s.moveBegun_et_other n f comm hj), hframe⟩
  case held =>
    refine ⟨(s.itemPop h).modEt h (fun e => { e with heldItems := e.heldItems ++ [i] }), ?_, ?_, ?_, fun j hj => ?_, rfl⟩
    · rw [exec_matchHeader_run hrun, State.matchItem_held hitems hfence]
    · rw [State.modEt_et, State.itemPop, State.modEt_et]
      exact congrArg (List.drop 1) hitems
    · rw [State.modEt_et, State.itemPop, State.modEt_et]
    · rw [State.modEt_et_other _ _ hj, State.itemPop, State.modEt_et_other _ _ hj]
  case fence =>
    refine ⟨s.endFence n m, exec_fenceEnd_due hfind, ?_⟩
    rw [State.endFence_et]
    exact ⟨rfl, rfl, ⟨s.waitedInside n m, rfl, fun i => s.mem_waitedInside n m, s.waitedInside_ordered n m, rfl,
      s.waitedInside_length n m⟩, fun j => s.endFence_et_other n m, by rw [State.endFence_frame]; rfl⟩
  case tombstone =>
    exact ⟨s.modEt n (·.tombsExpired f comm s.etNow), rfl, State.modEt_et .., fun j hj => State.modEt_et_other _ _ hj, rfl⟩

end Sys2Proof.Machine
end

section
/-! SUPPORT. The start of a RECV and of a COLLECTIVE (R232, R237, R251, R272, R283, R284): what a started entry leaves of the
matching contexts, each outcome of a start, and the proof of ReceivesAndCollectivesStart. -/

namespace Sys2Proof.Machine

theorem State.startEntry_startable {s : State} {f c op : Nat} {e : Entry} (h : s.startable f c op = some e)
    (go : State → Entry → State) : s.startEntry f c op go = go s e := by
  rw [State.startEntry, h]

/-! ### RECV (R232, R251) -/

section Recv
variable (s : State) (f c : Nat) (e : Entry)

theorem State.tagEntry_frame (idx : U32) :
    s.tagEntry f c idx = { s with ctxs := (s.tagEntry f c idx).ctxs, ets := (s.tagEntry f c idx).ets } := by
  unfold State.tagEntry
  dsimp only
  split
  · rfl
  · split <;> rfl

theorem State.tagEntry_mctxs (idx : U32) : (s.tagEntry f c idx).mctxs = s.mctxs := by rw [State.tagEntry_frame]

theorem State.tagEntry_trees (idx : U32) : (s.tagEntry f c idx).trees = s.trees := by rw [State.tagEntry_frame]

/-- The state in which a RECV has started, before its posting is handed on. -/
def State.recvStarted : State := (s.entryStarted f c e).modEntry f c e.idx (fun e => { e with st := .started })

theorem State.recvStarted_mctx (f' comm : Nat) : (s.recvStarted f c e).mctx f' comm = s.mctx f' comm :=
  State.mctx_congr (State.tagEntry_mctxs ..) f' comm

variable {s f c e}

theorem State.recvStarted_st {x : Entry} (h : (s.recvStarted f c e).entry? f c e.idx = some x) : x.st = .started := by
  rw [State.recvStarted, State.modEntry_entry? _ _ _ _ (fun _ => by rfl)] at h
  obtain ⟨y, -, rfl⟩ := Option.map_eq_some_iff.mp h
  rfl

theorem State.startRecv_posts {x : Entry} (hroom : s.matchFull f = false)
    (hopen : (s.recvStarted f c e).fenced f (wComm e.words.toNat) = false)
    (hfirst : ((s.recvStarted f c e).et (etOf f)).items.any (fun i =>
      i.key == (f, wComm e.words.toNat) && i matches .posting _ _ _ _ _) = false)
    (hx : (s.recvStarted f c e).entry? f c e.idx = some x) : s.startRecv f c e = (s.recvStarted f c e).posting f c x := by
  unfold State.startRecv
  rw [hroom, if_neg Bool.false_ne_true]
  dsimp only
  rw [← State.recvStarted, hopen, if_neg Bool.false_ne_true]
  refine (if_neg (ne_true_of_eq_false hfirst)).trans ?_
  rw [hx]

end Recv

/-! ### COLLECTIVE (R272, R283, R284) -/

section Coll
variable {s : State} {f c : Nat} {e : Entry}

theorem exec_entryCollective_startable (h : s.startable f c opCollective = some e) :
    exec (.entryCollective f c) s = .next (s.startColl f c e) :=
  congrArg Host.Outcome.next (State.startEntry_startable h _)

theorem exec_collEntryStart_startable (h : s.startable f c opCollective = some e) :
    exec (.collEntryStart f c) s = .next (s.collStart f c e) :=
  congrArg Host.Outcome.next (State.startEntry_startable h _)

theorem State.collStart_waits {num : Nat} (hnum : e.op = some num)
    (h : s.fenceMet f c e = false ∨ s.collMayStart (wTree e.words.toNat) f num = false) : s.collStart f c e = s := by
  rw [State.collStart, hnum]
  refine if_neg ?_
  rcases h with hfence | hmay
  · simp [hfence]
  · simp [hmay]

theorem State.collStart_starts {num : Nat} (hnum : e.op = some num) (hfence : s.fenceMet f c e = true)
    (hmay : s.collMayStart (wTree e.words.toNat) f num = true) : s.collStart f c e = s.startCollective f c e num := by
  rw [State.collStart, hnum]
  exact if_pos (by rw [hfence, hmay]; rfl)

/-- The state in which a COLLECTIVE has taken its tree's next operation number. -/
def State.numberTaken (s : State) (f c : Nat) (e : Entry) (num : Nat) : State :=
  ((s.modTree (wTree e.words.toNat) (fun x => { x with next := Tbl.put x.next f ((num + 1) % 65536) })).modEntry f c e.idx
    (fun e => { e with op := some num })).tagEntry f c e.idx

theorem State.numberTaken_next (s : State) (f c : Nat) (e : Entry) (num : Nat) :
    Tbl.getD ((s.numberTaken f c e num).tree (wTree e.words.toNat)).next f 0 = (num + 1) % 65536 := by
  have htree : (s.numberTaken f c e num).tree (wTree e.words.toNat) =
      { s.tree (wTree e.words.toNat) with next := Tbl.put (s.tree (wTree e.words.toNat)).next f ((num + 1) % 65536) } := by
    rw [State.tree, State.numberTaken, State.tagEntry_trees]
    exact State.modTree_tree s (wTree e.words.toNat) (fun x => { x with next := Tbl.put x.next f ((num + 1) % 65536) })
  rw [htree, Tbl.getD_put_same]

variable (hnone : e.op = none)
include hnone

theorem State.startColl_malformed (hbad : s.badCollective f e.words.toNat = true) :
    s.startColl f c e = s.modEntry f c e.idx (fun e => e.finish stMalformed) := by
  rw [State.startColl, hnone, hbad]
  rfl

variable (hgood : s.badCollective f e.words.toNat = false)
include hgood

theorem State.startColl_broken (hbroken : (s.tree (wTree e.words.toNat)).broken = true) :
    s.startColl f c e = s.modEntry f c e.idx (fun e => e.finish stTreeBroken) := by
  unfold State.startColl
  dsimp only
  rw [hnone, hgood, if_neg (by simp), if_neg Bool.false_ne_true]
  exact if_pos hbroken

theorem State.startColl_numbered {num : Nat} (hwhole : (s.tree (wTree e.words.toNat)).broken = false)
    (hnum : num = Tbl.getD (s.tree (wTree e.words.toNat)).next f 0) {u : State} (hu : u = s.numberTaken f c e num) :
    s.startColl f c e = if !u.fenceMet f c e then u else if u.collMayStart (wTree e.words.toNat) f num
      then u.startCollective f c { e with op := some num } num else u.collCount 13 := by
  subst hnum hu
  unfold State.startColl
  dsimp only
  rw [hnone, hgood, if_neg (by simp), if_neg Bool.false_ne_true]
  exact if_neg (ne_true_of_eq_false hwhole)

end Coll

/-- Settles O13: an open start is the start of its entry, a RECV's is then `posting`, and `startColl` and `collStart` have one
equation per outcome. -/
theorem receivesAndCollectivesStart : Obligations.ReceivesAndCollectivesStart := by
  unfold Obligations.ReceivesAndCollectivesStart
  refine ⟨?recv, fun f c e s hstart hnone => ⟨fun hbad => ?malformed, fun hgood hbroken => ?broken,
    fun num u hgood hwhole hnum hu => ?numbered⟩, fun f c num e s hstart hnum hfence hmay => ?starts,
    fun f c num e s hstart hnum hwait => ?waits⟩
  case recv =>
    intro f c e x s u hstart hroom hu hopen hfirst hx hwords hnone
    have hu' : u = s.recvStarted f c e := hu
    subst hu'
    have hmctx := s.recvStarted_mctx f c e f (wComm e.words.toNat)
    have hfind : (s.recvStarted f c e).findUnexpected f ((s.recvStarted f c e).toPost f c x) = none := by
      rw [← State.postCounted_findUnexpected _ f x, State.postCounted, State.toPost, hwords]
      exact hnone
    obtain ⟨hposted, hpseq, -⟩ := State.posting_joins_mctx hfind
    rw [State.toPost, hwords, hmctx] at hposted
    rw [hwords, hmctx] at hpseq
    refine ⟨(s.recvStarted f c e).posting f c x, ?_, hposted, hpseq, State.recvStarted_st hx, ?_⟩
    · rw [← State.startRecv_posts hroom hopen hfirst hx]
      exact congrArg Host.Outcome.next (State.startEntry_startable hstart _)
    · have hcalm : ((s.recvStarted f c e).posting f c x).calm = s.calm := by
        simp [State.recvStarted, State.entryStarted]
      exact congrArg (·.2.2) hcalm
  case malformed => exact ⟨_, exec_entryCollective_startable hstart, State.startColl_malformed hnone hbad⟩
  case broken => exact ⟨_, exec_entryCollective_startable hstart, State.startColl_broken hnone hgood hbroken⟩
  case numbered =>
    refine ⟨?_, ?_⟩
    · rw [hu]
      exact s.numberTaken_next f c e num
    · rw [exec_entryCollective_startable hstart, State.startColl_numbered hnone hgood hwhole hnum hu]
  case starts => rw [exec_collEntryStart_startable hstart, State.collStart_starts hnum hfence hmay]
  case waits => rw [exec_collEntryStart_startable hstart, State.collStart_waits hnum hwait]

end Sys2Proof.Machine
end

section
/-! SUPPORT. Window commands (R254 to R258, R265): slots and the keys that name them, a registered and a revoked slot, each outcome of
a command, and the proof of WindowCommands. -/

namespace Sys2Proof.Machine

/-! ### Slots and keys (R254, R257) -/

theorem State.modWin_win_other (s : State) {n j k : Nat} (g : Win → Win) (h : j ≠ k) : (s.modWin n k g).win n j = s.win n j :=
  Tbl.getD_put_other _ _ _ (fun hkey => h (Nat.add_left_cancel hkey))

theorem rkey_slot (tag : Nat) {k : Nat} (h : k < 8192) : (tag * 65536 + k) % 65536 = k := by omega

theorem rkey_tag (tag : Nat) {k : Nat} (h : k < 8192) : (tag * 65536 + k) / 65536 = tag := by omega

theorem State.freeSlot_some {s : State} {n k : Nat} (h : s.freeSlot n = some k) :
    k < 8192 ∧ (s.win n k).reg = false ∧ ∀ j, j < k → (s.win n j).reg = true := by
  obtain ⟨hfree, hrange, hlower⟩ := List.find?_range_eq_some.mp h
  exact ⟨List.mem_range.mp hrange, by simpa using hfree, fun j hj => by simpa using hlower j hj⟩

theorem State.heldKey_iff {s : State} {f r : Nat} : s.heldKey f r = true ↔ r % 65536 < 8192 ∧
    (s.win (etOf f) (r % 65536)).reg = true ∧ (s.win (etOf f) (r % 65536)).tag = r / 65536 ∧ (s.win (etOf f) (r % 65536)).fn = f := by
  simp [State.heldKey, and_assoc]

theorem State.winOf_unregistered {s : State} {f r : Nat} (h : (s.win (etOf f) (r % 65536)).reg = false) (c : Nat) :
    s.winOf f c r = none := by
  simp [State.winOf, h]

/-! ### The oldest command (R255) -/

section Command
variable {s : State} {f v : Nat}

theorem State.winCmd_oldest {b : BitVec 512} {rest : List (BitVec 512)} {op : Nat} (hcmds : (s.fn f).winCmds = b :: rest)
    (hrun : s.faults.checkstop = false) (hop : wcOp b.toNat = op) : s.winCmd f op = some b.toNat := by
  simp [State.winCmd, hcmds, hrun, hop]

theorem exec_winRegister_command (h : s.winCmd f 0 = some v) : exec (.winRegister f) s = .next (s.register f v) := by
  simp only [exec, execWinRegister, h]

theorem exec_winRevoke_command (h : s.winCmd f 1 = some v) : exec (.winRevoke f) s = .next (s.revoke f v) := by
  simp only [exec, execWinRevoke, h]

theorem exec_winQuery_command (h : s.winCmd f 2 = some v) : exec (.winQuery f) s = .next (s.winQuery f v) := by
  simp only [exec, execWinQuery, h]

theorem State.popWinCmd_fn (s : State) (f : Nat) : (s.popWinCmd f).fn f = { s.fn f with winCmds := (s.fn f).winCmds.drop 1 } :=
  State.modFn_fn ..

/-! ### REGISTER (R256, R257) -/

/-- The key that a slot's window will have. -/
def State.slotKey (s : State) (f k : Nat) : Nat := (s.win (etOf f) k).tag * 65536 + k

/-- The record of a REGISTER that has taken slot `k`: its issue admits the window. -/
def State.admission (s : State) (f v k : Nat) : HeldWrite :=
  { addr := wcCompl v, bytes := winRecord stOk 0 (s.slotKey f k) (wcToken v), use := .bus, admits := some k }

/-- A REGISTER has taken slot `k`, and its record waits to be issued. -/
def State.registered (s : State) (f v k : Nat) : State :=
  ((s.popWinCmd f).modWin (etOf f) k (fun _ => winOfCmd f v (s.slotKey f k) (s.win (etOf f) k).tag)).modFn f
    (fun x => { x with writes := x.writes ++ [s.admission f v k] })

theorem State.register_malformed (hbad : s.badRegister f v = true) : s.register f v =
    (s.popWinCmd f).complete f (wcCompl v) (winRecord stMalformed 0 0 (wcToken v)) := if_pos hbad

theorem State.register_noRoom (hgood : s.badRegister f v = false) (hfull : s.winQuota f ≤ s.winUse f ∨ s.freeSlot (etOf f) = none) :
    s.register f v = (s.popWinCmd f).complete f (wcCompl v) (winRecord stKey 0 0 (wcToken v)) := by
  refine (if_neg (ne_true_of_eq_false hgood)).trans ?_
  by_cases hquota : s.winQuota f ≤ s.winUse f
  · exact if_pos hquota
  · have hslot : (s.popWinCmd f).freeSlot (etOf f) = none := hfull.resolve_left hquota
    refine (if_neg hquota).trans ?_
    rw [hslot]

theorem State.register_slot {k : Nat} (hgood : s.badRegister f v = false) (hroom : s.winUse f < s.winQuota f)
    (hslot : s.freeSlot (etOf f) = some k) : s.register f v = (s.registered f v k).flushWrites f := by
  have hslot' : (s.popWinCmd f).freeSlot (etOf f) = some k := hslot
  refine (if_neg (ne_true_of_eq_false hgood)).trans ((if_neg (Nat.not_le.mpr hroom)).trans ?_)
  rw [hslot']
  rfl

variable (s f v) (k : Nat)

theorem State.registered_fn : (s.registered f v k).fn f =
    { s.fn f with winCmds := (s.fn f).winCmds.drop 1, writes := (s.fn f).writes ++ [s.admission f v k] } := by
  rw [State.registered, State.modFn_fn, State.modWin_fn, State.popWinCmd_fn]

theorem State.registered_win : (s.registered f v k).win (etOf f) k = winOfCmd f v (s.slotKey f k) (s.win (etOf f) k).tag := by
  rw [State.registered, State.modFn_win, State.modWin_win]

theorem State.registered_win_other {j : Nat} (h : j ≠ k) : (s.registered f v k).win (etOf f) j = s.win (etOf f) j := by
  rw [State.registered, State.modFn_win, State.modWin_win_other _ _ h, State.popWinCmd, State.modFn_win]

/-- Until its record is issued a window is not admitted (R257). -/
theorem State.registered_admitted : (s.registered f v k).admitted f k = false := by
  simp [State.admitted, State.registered_fn, State.admission]

theorem State.registered_heldKey (h : k < 8192) : (s.registered f v k).heldKey f (s.slotKey f k) = true := by
  have hslot : s.slotKey f k % 65536 = k := rkey_slot _ h
  rw [State.heldKey_iff, hslot, State.registered_win]
  exact ⟨h, rfl, (rkey_tag _ h).symm, rfl⟩

/-! ### REVOKE (R258, R265) -/

/-- A word that lies in a window of its function. -/
def Win.covers (w : Win) (f a : Nat) : Bool := f == w.fn && decide (w.base ≤ a) && decide (a < w.base + w.len)

theorem Win.covers_iff {w : Win} {f a : Nat} : w.covers f a = true ↔ f = w.fn ∧ w.base ≤ a ∧ a < w.base + w.len := by
  simp [Win.covers, and_assoc]

/-- A read in flight after an event on what `is_` marks: an atomic's word is not cached again. -/
def HostRead.uncached (is_ : HostRead → Bool) (r : HostRead) : HostRead :=
  if r.kind == .atomic && is_ r then { r with noCache := true } else r

theorem State.uncache_reads (is_ : HostRead → Bool) :
    (s.uncache is_).reads = s.reads.map (fun e => (e.1, e.2.uncached is_)) := by
  refine List.map_congr_left fun e _ => ?_
  unfold HostRead.uncached
  split <;> rfl

/-- An uncached read differs in its note alone. -/
theorem HostRead.uncached_note (is_ : HostRead → Bool) (r : HostRead) :
    r.uncached is_ = { r with noCache := (r.uncached is_).noCache } := by
  unfold HostRead.uncached
  split <;> rfl

theorem Tbl.get?_uncached (t : Tbl HostRead) (is_ : HostRead → Bool) (n : Nat) {u : Tbl HostRead}
    (hu : u = t.map (fun e => (e.1, e.2.uncached is_))) :
    Tbl.get? u n = (Tbl.get? t n).map (fun r => { r with noCache := ((Tbl.get? u n).map (·.noCache)).getD false }) := by
  rw [hu, Tbl.get?_map t (fun _ => HostRead.uncached is_)]
  cases Tbl.get? t n with
  | none => rfl
  | some r => exact congrArg some (r.uncached_note is_)

/-- A REVOKE of a held key: the slot is free under its next TAG, and the record waits for what passed under the key. -/
def State.revoked (s : State) (f v : Nat) : State :=
  ((s.popWinCmd f).revokeSlot (etOf f) (wcRkey v % 65536)).modFn f (fun x => { x with
    revokes := x.revokes ++ [{ rkey := wcRkey v, compl := wcCompl v, token := wcToken v, reads := s.keyReads f (wcRkey v) }] })

/-- A revoked slot's window (R254, R258). -/
def Win.revoked (w : Win) : Win := { w with reg := false, gone := false, tag := bumpTag w.tag }

theorem State.revokeSlot_win (h : Nat) : (s.revokeSlot h k).win h k = (s.win h k).revoked := s.modWin_win h k Win.revoked

theorem State.revokeSlot_win_other (h : Nat) {j : Nat} (hj : j ≠ k) : (s.revokeSlot h k).win h j = s.win h j :=
  s.modWin_win_other Win.revoked hj

theorem State.revokeSlot_atoms (h : Nat) :
    ((s.revokeSlot h k).et h).atoms = (s.et h).atoms.filter (fun a => !(s.win h k).covers a.fn a.va) :=
  congrArg EtTile.atoms (State.modEt_et s h (fun e => { e with
    atoms := e.atoms.filter (fun a => !(s.win h k).covers a.fn a.va) }))

theorem State.revoked_win : (s.revoked f v).win (etOf f) (wcRkey v % 65536) = (s.win (etOf f) (wcRkey v % 65536)).revoked :=
  (s.popWinCmd f).revokeSlot_win (wcRkey v % 65536) (etOf f)

theorem State.revoked_win_other {j : Nat} (h : j ≠ wcRkey v % 65536) : (s.revoked f v).win (etOf f) j = s.win (etOf f) j :=
  (s.popWinCmd f).revokeSlot_win_other (wcRkey v % 65536) (etOf f) h

theorem State.revoked_atoms : ((s.revoked f v).et (etOf f)).atoms =
    (s.et (etOf f)).atoms.filter (fun a => !(s.win (etOf f) (wcRkey v % 65536)).covers a.fn a.va) :=
  (s.popWinCmd f).revokeSlot_atoms (wcRkey v % 65536) (etOf f)

theorem State.revoked_reads : (s.revoked f v).reads = s.reads.map
    (fun e => (e.1, e.2.uncached (fun r => (s.win (etOf f) (wcRkey v % 65536)).covers r.fn r.addr))) :=
  State.uncache_reads s (fun r => (s.win (etOf f) (wcRkey v % 65536)).covers r.fn r.addr)

theorem State.revoked_fn : (s.revoked f v).fn f = { s.fn f with
    winCmds := (s.fn f).winCmds.drop 1
    revokes := (s.fn f).revokes ++
      [{ rkey := wcRkey v, compl := wcCompl v, token := wcToken v, reads := s.keyReads f (wcRkey v) }] } := by
  have hpopped : ((s.popWinCmd f).revokeSlot (etOf f) (wcRkey v % 65536)).fn f = _ := s.popWinCmd_fn f
  rw [State.revoked, State.modFn_fn, hpopped]

variable {s f v k}

theorem State.revoke_held (h : s.heldKey f (wcRkey v) = true) : s.revoke f v = s.revoked f v := if_pos h

theorem State.revoke_notHeld (h : s.heldKey f (wcRkey v) = false) : s.revoke f v =
    (s.popWinCmd f).complete f (wcCompl v) (winRecord stKey 1 0 (wcToken v)) := if_neg (ne_true_of_eq_false h)

/-! ### QUERY (R256) -/

theorem State.winQuery_held (h : s.heldKey f (wcRkey v) = true) : s.winQuery f v = (s.popWinCmd f).complete f (wcCompl v)
    (winRecord stOk 2 (wcRkey v) (wcToken v) ++ natLe 64 (s.win (etOf f) (wcRkey v % 65536)).img.toNat) := if_pos h

theorem State.winQuery_notHeld (h : s.heldKey f (wcRkey v) = false) : s.winQuery f v =
    (s.popWinCmd f).complete f (wcCompl v) (winRecord stKey 2 0 (wcToken v)) := if_neg (ne_true_of_eq_false h)

/-! ### REVOKE_COMPLETE (R258) -/

theorem exec_revokeComplete_oldest {r : RevokeWait} {rest : List RevokeWait} (h : (s.fn f).revokes = r :: rest) :
    exec (.revokeComplete f) s = .next (if s.revokeDone f r
      then (s.modFn f (fun x => { x with revokes := rest })).complete f r.compl (winRecord stOk 1 r.rkey r.token) else s) := by
  simp only [exec, execRevokeComplete, h]

end Command

/-- Settles O45: a command comes to the one outcome its checks leave, and each outcome is one update of the slot's window and of the
function's queues. -/
theorem windowCommands : Obligations.WindowCommands := by
  unfold Obligations.WindowCommands
  refine ⟨fun f b rest s hcmds hrun => ⟨fun hop => ⟨fun hbad => ?malformed, fun hgood hfull => ?noRoom,
      fun k hgood hroom hslot => ?registers⟩,
    fun hop => ⟨fun hheld => ?revokes, fun hnot => ?revokesNone⟩, fun hop => ⟨fun hheld => ?queries, fun hnot => ?queriesNone⟩⟩,
    fun f r rest s hrevokes => ⟨fun hdone => ?completes, fun hwait => ?waits⟩⟩
  case malformed => rw [exec_winRegister_command (State.winCmd_oldest hcmds hrun hop), State.register_malformed hbad]
  case noRoom => rw [exec_winRegister_command (State.winCmd_oldest hcmds hrun hop), State.register_noRoom hgood hfull]
  case registers =>
    obtain ⟨hk, hfree, hlower⟩ := State.freeSlot_some hslot
    refine ⟨s.registered f b.toNat k, ?_, congrArg Fn.writes (s.registered_fn f b.toNat k), s.registered_admitted f b.toNat k, hlower,
      s.registered_win f b.toNat k, s.registered_heldKey f b.toNat k hk, hfree, fun j _ hj => s.registered_win_other f b.toNat k hj,
      ?_, rfl⟩
    · rw [exec_winRegister_command (State.winCmd_oldest hcmds hrun hop), State.register_slot hgood hroom hslot]
    · rw [State.registered_fn, hcmds, List.drop_one, List.tail_cons]
  case revokes =>
    obtain ⟨-, -, htag, hfn⟩ := State.heldKey_iff.mp hheld
    have hwin := s.revoked_win f b.toNat
    have hfunction := s.revoked_fn f b.toNat
    refine ⟨s.revoked f b.toNat, ?_, State.winOf_unregistered (congrArg Win.reg hwin), ?_,
      fun j _ hj => s.revoked_win_other f b.toNat hj, fun a => ?_, ?_, congrArg Fn.revokes hfunction, fun n => Tbl.get?_uncached _ _ n (s.revoked_reads f b.toNat), rfl⟩
    · rw [exec_winRevoke_command (State.winCmd_oldest hcmds hrun hop), State.revoke_held hheld]
    · rw [hwin, Win.revoked, htag]
    · rw [State.revoked_atoms, List.mem_filter, Bool.not_eq_true', ← Bool.not_eq_true, Win.covers_iff, hfn]
    · rw [hfunction, hcmds, List.drop_one, List.tail_cons]
  case revokesNone => rw [exec_winRevoke_command (State.winCmd_oldest hcmds hrun hop), State.revoke_notHeld hnot]
  case queries => rw [exec_winQuery_command (State.winCmd_oldest hcmds hrun hop), State.winQuery_held hheld]
  case queriesNone => rw [exec_winQuery_command (State.winCmd_oldest hcmds hrun hop), State.winQuery_notHeld hnot]
  case completes =>
    refine ⟨s.modFn f (fun x => { x with revokes := rest }), ?_, State.modFn_fn .., rfl⟩
    rw [exec_revokeComplete_oldest hrevokes, if_pos hdone]
  case waits => rw [exec_revokeComplete_oldest hrevokes, if_neg (ne_true_of_eq_false hwait)]

end Sys2Proof.Machine
end

section
/-! SUPPORT. Remote accesses at the target (R254, R262, R264 to R267): what passes the checks, what a refusal and a duplicate leave, the
atomic cache, the saved responses, and the proof of RemoteAccessIsChecked. -/

namespace Sys2Proof.Machine

/-! ### The checks (R262) -/

section Check
variable {s : State} {f c : Nat} {p : Packet}

theorem State.winOf_some {r : Nat} {y : Win} (h : s.winOf f c r = some y) :
    s.admitted f (r % 65536) = true ∧ y.reg = true ∧ y.fn = f ∧ (y.ctxb = true → y.bound = c) := by
  obtain ⟨⟨⟨⟨⟨⟨-, hreg⟩, -⟩, hfn⟩, hadmitted⟩, hbound⟩, rfl⟩ := by simpa [State.winOf] using h
  exact ⟨hadmitted, hreg, hfn, fun hctxb => hbound.resolve_left (by simp [hctxb])⟩

/-- The right an operation needs (R262 check 3). -/
def Win.allows (w : Win) (op : Nat) : Bool :=
  if op = opRead then w.rd else if op = opWrite then w.wr else if op = opWriteNotify then w.wr && w.nt else w.atm && !w.store

theorem Win.allows_iff (w : Win) (op : Nat) : w.allows op = true ↔
    (op = opRead → w.rd = true) ∧ (op = opWrite → w.wr = true) ∧ (op = opWriteNotify → w.wr = true ∧ w.nt = true) ∧
    (op ≠ opRead → op ≠ opWrite → op ≠ opWriteNotify → w.atm = true ∧ w.store = false) := by
  by_cases hread : op = opRead
  · subst hread
    exact ⟨fun h => ⟨fun _ => h, fun e => absurd e (by decide), fun e => absurd e (by decide), fun hr => absurd rfl hr⟩,
      fun ⟨hrd, _⟩ => hrd rfl⟩
  by_cases hwrite : op = opWrite
  · subst hwrite
    exact ⟨fun h => ⟨fun e => absurd e (by decide), fun _ => h, fun e => absurd e (by decide), fun _ hw => absurd rfl hw⟩,
      fun ⟨_, hwr, _⟩ => hwr rfl⟩
  by_cases hnotify : op = opWriteNotify
  · subst hnotify
    exact ⟨fun h => ⟨fun e => absurd e (by decide), fun e => absurd e (by decide), fun _ => Bool.and_eq_true_iff.mp h,
      fun _ _ hn => absurd rfl hn⟩, fun ⟨_, _, hnt, _⟩ => Bool.and_eq_true_iff.mpr (hnt rfl)⟩
  · rw [Win.allows, if_neg hread, if_neg hwrite, if_neg hnotify, Bool.and_eq_true_iff, Bool.not_eq_true']
    exact ⟨fun h => ⟨fun e => absurd e hread, fun e => absurd e hwrite, fun e => absurd e hnotify, fun _ _ _ => h⟩,
      fun ⟨_, _, _, hatomic⟩ => hatomic hread hwrite hnotify⟩

/-- An operation other than a read or a write is on an aligned word (R262 check 1, R264). -/
theorem rmaShape_aligned (h : rmaShape p = true) (hread : oOpc p ≠ opRead) (hwrite : oOpc p ≠ opWrite)
    (hnotify : oOpc p ≠ opWriteNotify) : oRaddr p % 8 = 0 := by
  simp only [rmaShape, hread, hwrite, hnotify, or_self, if_false, Bool.and_eq_true, beq_iff_eq] at h
  exact h.2

theorem State.rmaCheck_malformed (h : rmaShape p = false) : s.rmaCheck f c p = (stMalformed, {}) := if_pos (by rw [h]; rfl)

theorem State.rmaCheck_noWindow (hshape : rmaShape p = true) (h : s.winOf f c (oRkey p) = none) :
    s.rmaCheck f c p = (stKey, {}) := by
  simp [State.rmaCheck, hshape, h]

theorem State.rmaCheck_window {w : Win} (hshape : rmaShape p = true) (h : s.winOf f c (oRkey p) = some w) : s.rmaCheck f c p =
    if !w.allows (oOpc p) then (stRemote, w)
    else if oRaddr p < w.base ∨ w.base + w.len < oRaddr p + rmaBytes p then (stBounds, w)
    else if w.store && (oOpc p == opWrite || oOpc p == opWriteNotify) && !s.storeSpace f (oRaddr p) (rmaBytes p)
      then (stStoreFull, w)
    else (stOk, w) := by
  rw [State.rmaCheck, hshape, h]
  rfl

/-- What has passed all the checks has passed each. -/
theorem State.rmaCheck_ok (h : (s.rmaCheck f c p).1 = stOk) : rmaShape p = true ∧ ∃ w, s.winOf f c (oRkey p) = some w ∧
    (s.rmaCheck f c p).2 = w ∧ w.allows (oOpc p) = true ∧ w.base ≤ oRaddr p ∧ oRaddr p + rmaBytes p ≤ w.base + w.len := by
  cases hshape : rmaShape p with
  | false => simp [State.rmaCheck_malformed hshape] at h
  | true =>
    cases hwin : s.winOf f c (oRkey p) with
    | none => simp [State.rmaCheck_noWindow hshape hwin] at h
    | some w =>
      rw [State.rmaCheck_window hshape hwin] at h ⊢
      split at h
      · exact absurd h (show stRemote ≠ stOk by decide)
      next hright =>
      split at h
      · exact absurd h (show stBounds ≠ stOk by decide)
      next hrange =>
      split at h
      · exact absurd h (show stStoreFull ≠ stOk by decide)
      next hspace =>
      rw [if_neg hright, if_neg hrange, if_neg hspace]
      exact ⟨rfl, w, rfl, rfl, by simpa using hright, by omega, by omega⟩

end Check

/-! ### The saved-response table (R266, R267) -/

section Watch
variable (s : State) (h : Nat)

/-- The watch changes what it notes and nothing else of a tile. -/
theorem State.saveWatch_keeps {α : Type} (part : EtTile → α)
    (hpart : ∀ e a r n, part { e with saveAt := a, saveRec := r, saveFreeAt := n } = part e) (j : Nat) :
    part ((s.saveWatch h).et j) = part (s.et j) := by
  unfold State.saveWatch
  split
  · refine State.modEt_keeps part s h (fun e => ?_) j
    split
    · rfl
    · exact hpart ..
  · split
    · exact State.modEt_keeps part s h (fun e => hpart ..) j
    · rfl

theorem State.saveWatch_saved (j : Nat) : ((s.saveWatch h).et j).saved = (s.et j).saved :=
  s.saveWatch_keeps h (·.saved) (fun _ _ _ _ => rfl) j

theorem State.saveWatch_rCounts (j : Nat) : ((s.saveWatch h).et j).rCounts = (s.et j).rCounts :=
  s.saveWatch_keeps h (·.rCounts) (fun _ _ _ _ => rfl) j

theorem State.saveWatch_notes_full : ((s.saveWatch h).et h).saveAt.isSome = true ↔ 16384 ≤ s.saveUse h := by
  unfold State.saveWatch
  by_cases hfull : 16384 ≤ s.saveUse h
  · rw [if_pos hfull, State.modEt_et]
    cases hat : (s.et h).saveAt with
    | none => simp [hfull]
    | some a => simp [hat, hfull]
  · rw [if_neg hfull]
    cases hat : (s.et h).saveAt with
    | none => simp [hat, hfull]
    | some a => simp [State.modEt_et, hfull]

/-- What is left of the saved responses after some are released (R266). -/
theorem State.mem_saved_released (drop : Saved → Bool) (r : Saved) :
    r ∈ ((s.modEt h (fun e => { e with saved := e.saved.filter (fun x => !drop x) })).et h).saved ↔
      r ∈ (s.et h).saved ∧ ¬ drop r = true := by
  rw [State.modEt_et, List.mem_filter, Bool.not_eq_true', ← Bool.not_eq_true]

variable {s h}

theorem exec_saveFull_due (hfull : after (s.et h).saveAt 1000000 s.etNow = true) (hrec : (s.et h).saveRec = false) :
    exec (.saveFull h) s =
      .next ((s.modEt h (fun e => { e with saveRec := true })).report { code := 0x0550, cls := corrected, tile := 8 + h }) :=
  congrArg Host.Outcome.next (if_pos (by simp [hfull, hrec]))

theorem exec_saveFull_not (hnot : after (s.et h).saveAt 1000000 s.etNow = false ∨ (s.et h).saveRec = true) :
    exec (.saveFull h) s = .next s := by
  refine congrArg Host.Outcome.next (if_neg ?_)
  rcases hnot with hshort | hrec
  · simp [hshort]
  · simp [hrec]

end Watch

/-- SAVE_RECORD_EXPIRY releases these (R266). -/
def Saved.expired (f c : Nat) (psn : U32) (now : Nat) (r : Saved) : Bool :=
  r.fn == f && r.ctx == c && r.psn == psn && decide (r.at_ + r.ttl ≤ now)

theorem Saved.expired_iff {f c now : Nat} {psn : U32} {r : Saved} :
    r.expired f c psn now = true ↔ r.fn = f ∧ r.ctx = c ∧ r.psn = psn ∧ r.at_ + r.ttl ≤ now := by
  simp [Saved.expired, and_assoc]

/-- An accepted packet's RACK releases these (R266). -/
def Saved.answered (f c : Nat) (p : Packet) (r : Saved) : Bool :=
  r.fn == f && r.ctx == c && (xRackOff p == 0 ||
    (decide (dist (xPsn p - BitVec.ofNat 32 (xRackOff p)) r.psn < 2 ^ 31) && xPsn p - BitVec.ofNat 32 (xRackOff p) != r.psn))

theorem Saved.answered_iff {f c : Nat} {p : Packet} {r : Saved} : r.answered f c p = true ↔ r.fn = f ∧ r.ctx = c ∧
    (xRackOff p = 0 ∨ (1 ≤ dist (xPsn p - BitVec.ofNat 32 (xRackOff p)) r.psn ∧
      dist (xPsn p - BitVec.ofNat 32 (xRackOff p)) r.psn < 2 ^ 31)) := by
  simp only [Saved.answered, Bool.and_eq_true, Bool.or_eq_true, beq_iff_eq, bne_iff_ne, decide_eq_true_eq, and_assoc,
    Nat.one_le_iff_ne_zero, ne_eq, dist_eq_zero_iff, and_comm]

theorem State.rack_saved {s : State} {f c : Nat} {p : Packet} {r : Saved} :
    r ∈ ((s.rack f c p).et (etOf f)).saved ↔ r ∈ (s.et (etOf f)).saved ∧ ¬ r.answered f c p = true := by
  rw [State.rack, State.saveWatch_saved]
  exact s.mem_saved_released (etOf f) (Saved.answered f c p) r

/-! ### Refusals (R262) -/

section Refusal
variable (s : State)

theorem State.rCount_et_rCounts (n k : Nat) : ((s.rCount n k).et n).rCounts = bump (s.et n).rCounts k 1 :=
  congrArg EtTile.rCounts (State.modEt_et ..)

theorem State.sendResp_frame (f c : Nat) (psn : U32) (hdr : Nat) (data : List Byte) : s.sendResp f c psn hdr data =
    { s with arch := (s.sendResp f c psn hdr data).arch, ctrs := (s.sendResp f c psn hdr data).ctrs } := State.sendCtx_frame ..

theorem State.sendResps_frame (n f c : Nat) (psn : U32) (hdr : Nat) (data : List Byte) : ∃ a k,
    State.sendResps n s f c psn hdr data = { s with arch := a, ctrs := k } := by
  induction n generalizing s with
  | zero => exact ⟨_, _, rfl⟩
  | succ n ih =>
    obtain ⟨a, k, hrest⟩ := ih (s.sendResp f c psn hdr data)
    refine ⟨a, k, ?_⟩
    rw [State.sendResps, hrest, State.sendResp_frame]

/-- A step that starts no host read, queues no write, puts nothing out and stores nothing. -/
def State.Inert (s t : State) : Prop :=
  t.fns = s.fns ∧ t.reads = s.reads ∧ t.out = s.out ∧ t.store.staging = s.store.staging ∧ t.store.reads = s.store.reads

theorem State.answer_inert (o : TargetOp) (st : Nat) (data : List Byte) : s.Inert (s.answer o st data) := by
  unfold State.answer
  obtain ⟨a, k, hsent⟩ := s.sendResps_frame (1 + o.dups) o.fn o.ctx o.psn (rmaHdr o.opc false st o.rkey o.raddr 0 data.length) data
  rw [hsent]
  split
  · rw [State.saveWatch_frame]
    exact ⟨rfl, rfl, rfl, rfl, rfl⟩
  · exact ⟨rfl, rfl, rfl, rfl, rfl⟩

theorem State.answer_rCounts (o : TargetOp) (st : Nat) (data : List Byte) (j : Nat) :
    ((s.answer o st data).et j).rCounts = (s.et j).rCounts := by
  unfold State.answer
  obtain ⟨a, k, hsent⟩ := s.sendResps_frame (1 + o.dups) o.fn o.ctx o.psn (rmaHdr o.opc false st o.rkey o.raddr 0 data.length) data
  rw [hsent]
  split
  · rw [State.saveWatch_rCounts]
    refine State.modEt_keeps (·.rCounts) _ (etOf o.fn) ?_ j
    exact fun _ => rfl
  · rfl

variable (f c : Nat) (p : Packet)

/-- A refused READ (`n` = 1) or atomic (`n` = 2) is counted and answered with its status. -/
def State.refusedAnswer (n : Nat) : State :=
  ((s.rCount (etOf f) n).answer (targetOf f c p) (s.rmaCheck f c p).1 []).rCount (etOf f) (refusalCtr (s.rmaCheck f c p).1)

theorem State.refusedAnswer_inert (n : Nat) : s.Inert (s.refusedAnswer f c p n) :=
  (s.rCount (etOf f) n).answer_inert (targetOf f c p) (s.rmaCheck f c p).1 []

theorem State.refusedAnswer_rCounts (n : Nat) : ((s.refusedAnswer f c p n).et (etOf f)).rCounts =
    bump (bump (s.et (etOf f)).rCounts n 1) (refusalCtr (s.rmaCheck f c p).1) 1 := by
  rw [State.refusedAnswer, State.rCount_et_rCounts, State.answer_rCounts, State.rCount_et_rCounts]

/-- A refused packet of a write is counted and its status kept. -/
def State.refusedWrite : State :=
  ((if (s.rmaCheck f c p).1 = stStoreFull then (s.rCount (etOf f) 0).storeCount 7 1 else s.rCount (etOf f) 0).keepStatus f c
    (s.rmaCheck f c p).1).rCount (etOf f) (refusalCtr (s.rmaCheck f c p).1)

theorem State.refusedWrite_inert : s.Inert (s.refusedWrite f c p) := by
  unfold State.refusedWrite
  split <;> exact ⟨rfl, rfl, rfl, rfl, rfl⟩

theorem State.keepStatus_et (st j : Nat) : (s.keepStatus f c st).et j = s.et j := rfl

theorem State.refusedWrite_rCounts : ((s.refusedWrite f c p).et (etOf f)).rCounts =
    bump (bump (s.et (etOf f)).rCounts 0 1) (refusalCtr (s.rmaCheck f c p).1) 1 := by
  rw [State.refusedWrite, State.rCount_et_rCounts, State.keepStatus_et, ← s.rCount_et_rCounts (etOf f) 0]
  split <;> rfl

variable {s f c p}

theorem State.rmaTake_read_refused (hop : oOpc p = opRead) (hbad : (s.rmaCheck f c p).1 ≠ stOk) :
    s.rmaTake f c p = s.refusedAnswer f c p 1 := (if_pos hop).trans (if_neg hbad)

theorem State.rmaTake_atomic_refused (hop : isAtomic (oOpc p) = true) (hbad : (s.rmaCheck f c p).1 ≠ stOk) :
    s.rmaTake f c p = s.refusedAnswer f c p 2 := by
  have hread : oOpc p ≠ opRead := fun h => absurd (h ▸ hop) (show ¬ isAtomic opRead = true by decide)
  exact (if_neg hread).trans ((if_pos hop).trans (if_neg hbad))

/-- The last packet of a write is noted besides (R268). -/
theorem State.rmaTake_write_refused (hread : oOpc p ≠ opRead) (hatomic : ¬ isAtomic (oOpc p) = true)
    (hbad : (s.rmaCheck f c p).1 ≠ stOk) : ∃ ctxs, s.rmaTake f c p = { s.refusedWrite f c p with ctxs := ctxs } := by
  unfold State.rmaTake
  rw [if_neg hread, if_neg hatomic]
  dsimp only
  rw [if_pos hbad]
  split <;> exact ⟨_, rfl⟩

/-- A refused request leaves memory, store and host alone and is counted under its cause. -/
theorem State.rmaTake_refused (hbad : (s.rmaCheck f c p).1 ≠ stOk) : s.Inert (s.rmaTake f c p) ∧ ∃ n, n ∈ [0, 1, 2] ∧
    ((s.rmaTake f c p).et (etOf f)).rCounts = bump (bump (s.et (etOf f)).rCounts n 1) (refusalCtr (s.rmaCheck f c p).1) 1 := by
  by_cases hread : oOpc p = opRead
  · rw [State.rmaTake_read_refused hread hbad]
    exact ⟨s.refusedAnswer_inert f c p 1, 1, by decide, s.refusedAnswer_rCounts f c p 1⟩
  by_cases hatomic : isAtomic (oOpc p) = true
  · rw [State.rmaTake_atomic_refused hatomic hbad]
    exact ⟨s.refusedAnswer_inert f c p 2, 2, by decide, s.refusedAnswer_rCounts f c p 2⟩
  · obtain ⟨ctxs, htake⟩ := State.rmaTake_write_refused hread hatomic hbad
    rw [htake]
    exact ⟨s.refusedWrite_inert f c p, 0, by decide, s.refusedWrite_rCounts f c p⟩

end Refusal

/-! ### Duplicates (R266) -/

section Duplicate
variable (s : State) (f c : Nat) (p : Packet)

/-- A stored READ in progress with its duplicates noted anew. -/
def StoreRead.repeated (x : StoreRead) : StoreRead :=
  if x.op.fn == f && x.op.ctx == c && x.op.psn == xPsn p then { x with op := { x.op with dups := x.op.dups + 1 } } else x

theorem StoreRead.repeated_dups (x : StoreRead) :
    { x.repeated f c p with op := { (x.repeated f c p).op with dups := 0 } } = { x with op := { x.op with dups := 0 } } := by
  unfold StoreRead.repeated
  split <;> rfl

/-- What a duplicate of a request other than READ comes to: it is noted on its original where that is in progress, and else answered
from the saved response, if there is one. -/
theorem State.rmaDuplicate_cases (hop : oOpc p ≠ opRead) :
    (∃ l : List TargetOp → List TargetOp, s.rmaDuplicate f c p = (s.rCount (etOf f) 14).modEt (etOf f) (fun e => { e with targets := l e.targets })) ∨
    s.rmaDuplicate f c p =
      { s.rCount (etOf f) 14 with store := { s.store with reads := s.store.reads.map (StoreRead.repeated f c p) } } ∨
    (∃ g, s.rmaDuplicate f c p = (s.rCount (etOf f) 14).modW f c g) ∨
    (∃ psn hdr data, s.rmaDuplicate f c p = (s.rCount (etOf f) 14).sendResp f c psn hdr data) ∨
    s.rmaDuplicate f c p = s := by
  by_cases hbusy : (s.target? f c (xPsn p)).isSome = true
  · exact .inl ⟨_, if_pos hbusy⟩
  by_cases hstored : s.store.reads.any (fun x => x.op.fn == f && x.op.ctx == c && x.op.psn == xPsn p) = true
  · exact .inr (.inl ((if_neg hbusy).trans (if_pos hstored)))
  have hended : s.rmaDuplicate f c p = _ := (if_neg hbusy).trans ((if_neg hstored).trans (if_neg hop))
  by_cases hlast : (s.ctx f c).w.lasts.any (fun l => l.psn == xPsn p) = true
  · exact .inr (.inr (.inl ⟨_, hended.trans (if_pos hlast)⟩))
  replace hended := hended.trans (if_neg hlast)
  split at hended
  · exact .inr (.inr (.inr (.inl ⟨_, _, _, hended⟩)))
  · exact .inr (.inr (.inr (.inr hended)))

theorem State.rCount_saved (n k j : Nat) : ((s.rCount n k).et j).saved = (s.et j).saved := by
  refine State.modEt_keeps (·.saved) s n ?_ j
  exact fun _ => rfl

/-- A duplicate of a request other than READ saves nothing, and of the store it changes the noted duplicates alone. -/
theorem State.rmaDuplicate_keeps (hop : oOpc p ≠ opRead) :
    (s.rmaDuplicate f c p).fns = s.fns ∧ (s.rmaDuplicate f c p).reads = s.reads ∧
    (s.rmaDuplicate f c p).store = { s.store with reads := (s.rmaDuplicate f c p).store.reads } ∧
    (s.rmaDuplicate f c p).store.reads.map (fun x => { x with op := { x.op with dups := 0 } }) =
      s.store.reads.map (fun x => { x with op := { x.op with dups := 0 } }) ∧
    (s.rmaDuplicate f c p).out = s.out ∧ ((s.rmaDuplicate f c p).et (etOf f)).saved = (s.et (etOf f)).saved := by
  have hcounted := s.rCount_saved (etOf f) 14 (etOf f)
  rcases s.rmaDuplicate_cases f c p hop with ⟨l, h⟩ | h | ⟨g, h⟩ | ⟨psn, hdr, data, h⟩ | h
  · rw [h, State.modEt_et]
    exact ⟨rfl, rfl, rfl, rfl, rfl, hcounted⟩
  · rw [h]
    refine ⟨rfl, rfl, rfl, ?_, rfl, hcounted⟩
    rw [List.map_map]
    exact List.map_congr_left fun x _ => x.repeated_dups f c p
  · rw [h]
    exact ⟨rfl, rfl, rfl, rfl, rfl, hcounted⟩
  · rw [h, State.sendResp_frame]
    exact ⟨rfl, rfl, rfl, rfl, rfl, hcounted⟩
  · rw [h]
    exact ⟨rfl, rfl, rfl, rfl, rfl, rfl⟩

end Duplicate

/-! ### The atomic cache (R265) -/

section Cache
variable {s : State} {h : Nat} {x : AtomWord}

/-- A word of the cache that is not at a word's place. -/
def AtomWord.elsewhere (x y : AtomWord) : Bool := !(y.fn == x.fn && y.bus == x.bus)

theorem AtomWord.elsewhere_iff {y : AtomWord} : x.elsewhere y = true ↔ (y.fn = x.fn → y.bus ≠ x.bus) := by
  simp [AtomWord.elsewhere, Classical.or_iff_not_imp_left]

/-- The tile's cache without what is at a word's place, and with the word in the stead of its `i`-th. -/
def EtTile.freePlace (e : EtTile) (x : AtomWord) : EtTile := { e with atoms := e.atoms.filter x.elsewhere }
def EtTile.replaceAtom (e : EtTile) (i : Nat) (x : AtomWord) : EtTile := { e with atoms := e.atoms.eraseIdx i ++ [x] }

/-- No word of the cache is at a word's place. -/
def State.placeFreed (s : State) (h : Nat) (x : AtomWord) : State := s.modEt h (·.freePlace x)

theorem State.placeFreed_atoms (s : State) (h : Nat) (x : AtomWord) :
    ((s.placeFreed h x).et h).atoms = (s.et h).atoms.filter x.elsewhere :=
  congrArg EtTile.atoms (State.modEt_et s h (·.freePlace x))

theorem State.cacheWord_on (hon : s.cacheOn h = true) : s.cacheWord h x =
    if ((s.placeFreed h x).et h).atoms.length < 1024 then (s.placeFreed h x).modEt h (fun e => { e with atoms := e.atoms ++ [x] })
    else ((s.placeFreed h x).modEt h (·.replaceAtom ((s.placeFreed h x).freeVal 16 % 1024) x)).nextFree :=
  if_neg (by simp [hon])

/-- A word joins words of other places, of which a full cache has lost one. -/
theorem State.cacheWord_atoms (hon : s.cacheOn h = true) (hfits : (s.et h).atoms.length ≤ 1024) :
    ∃ l, ((s.cacheWord h x).et h).atoms = l ++ [x] ∧ l.Sublist ((s.et h).atoms.filter x.elsewhere) ∧ l.length < 1024 := by
  have hfew : ((s.et h).atoms.filter x.elsewhere).length ≤ 1024 := Nat.le_trans (List.length_filter_le ..) hfits
  have hatoms := s.placeFreed_atoms h x
  rw [State.cacheWord_on hon, hatoms]
  split
  · next hroom => exact ⟨_, by rw [State.modEt_et, hatoms], List.Sublist.refl _, hroom⟩
  · next hfull =>
    have hlost : (s.placeFreed h x).freeVal 16 % 1024 < ((s.et h).atoms.filter x.elsewhere).length :=
      Nat.lt_of_lt_of_le (Nat.mod_lt _ (Nat.zero_lt_succ 1023)) (Nat.not_lt.mp hfull)
    refine ⟨_, ?_, List.eraseIdx_sublist _ ((s.placeFreed h x).freeVal 16 % 1024), ?_⟩
    · exact (congrArg EtTile.atoms (State.modEt_et _ h (·.replaceAtom _ x))).trans (by rw [EtTile.replaceAtom, hatoms])
    · rw [List.length_eraseIdx_of_lt hlost]
      omega

theorem State.cacheWord_only (hon : s.cacheOn h = true) (hfits : (s.et h).atoms.length ≤ 1024) :
    x ∈ ((s.cacheWord h x).et h).atoms ∧ ((s.cacheWord h x).et h).atoms.length ≤ 1024 ∧
    ∀ y ∈ ((s.cacheWord h x).et h).atoms, y.fn = x.fn → y.bus = x.bus → y = x := by
  obtain ⟨l, hatoms, hothers, hfew⟩ := State.cacheWord_atoms (x := x) hon hfits
  rw [hatoms]
  refine ⟨List.mem_append_right _ (List.mem_singleton_self x), by rw [List.length_append]; exact hfew, fun y hy hfn hbus => ?_⟩
  rcases List.mem_append.mp hy with hy | hy
  · exact absurd hbus (AtomWord.elsewhere_iff.mp (List.mem_filter.mp (hothers.subset hy)).2 hfn)
  · exact List.mem_singleton.mp hy

end Cache

/-- Settles O46: the checks are inverted once, a refusal is counted and at most answered, a duplicate is one of five updates, and
each of the rest is the equation of its operation. -/
theorem remoteAccessIsChecked : Obligations.RemoteAccessIsChecked := by
  unfold Obligations.RemoteAccessIsChecked
  refine ⟨⟨fun f c p s hok => ?passes, fun f c p s hbad => ?refused, fun f c p s hop => s.rmaDuplicate_keeps f c p hop,
    fun a b old => ⟨rfl, rfl, rfl⟩, fun h x s hon hfits => State.cacheWord_only hon hfits⟩,
    fun f c psn s => ?expires, fun h s => ⟨s.saveWatch_notes_full h, s.saveWatch_saved h h, s.saveWatch_frame h⟩,
    fun h s => ⟨fun hfull hrec => ?full, fun hnot => exec_saveFull_not hnot⟩, fun f c p r s hr => ?rack⟩
  case passes =>
    obtain ⟨hshape, w, hwin, hcheck, hright, hlow, hhigh⟩ := State.rmaCheck_ok hok
    obtain ⟨hadmitted, hreg, hfn, hbound⟩ := State.winOf_some hwin
    obtain ⟨hread, hwrite, hnotify, hatomic⟩ := (w.allows_iff _).mp hright
    refine ⟨w, hwin, hcheck, hadmitted, hreg, hfn, hbound, hlow, hhigh, hread, hwrite, hnotify, fun hr hw hn => ?_⟩
    obtain ⟨hatm, hstore⟩ := hatomic hr hw hn
    exact ⟨hatm, hstore, rmaShape_aligned hshape hr hw hn⟩
  case refused =>
    obtain ⟨⟨hfns, hreads, hout, hstaging, hstored⟩, hcounted⟩ := State.rmaTake_refused hbad
    exact ⟨hfns, hreads, hout, hstaging, hstored, hcounted⟩
  case expires =>
    refine ⟨s.modEt (etOf f) (fun e => { e with saved := e.saved.filter (fun r => !r.expired f c psn s.etNow) }), rfl, fun r => ?_,
      fun j hj => State.modEt_et_other _ _ hj, rfl⟩
    rw [s.mem_saved_released (etOf f) (Saved.expired f c psn s.etNow), Saved.expired_iff]
  case full =>
    exact ⟨_, exec_saveFull_due hfull hrec, (State.report_et ..).trans (State.modEt_et ..),
      fun j hj => (State.report_et ..).trans (State.modEt_et_other _ _ hj), rfl, rfl⟩
  case rack =>
    rw [State.rack_saved, Saved.answered_iff]
    exact and_iff_right hr

end Sys2Proof.Machine
end

section
/-! SUPPORT. What every command keeps (R335, R353): the queue, the clock, and outside a change the target mode as the mode;
and the proofs of StepRunsFront, CommandsLeaveQueueAndClock and StableModeIsItsTarget. -/

namespace Sys2Proof.Machine

/-! ### The relation of a state to what an operation makes of it -/

/-- Outside a change the target mode is the mode. -/
def ModeSt.Settled (m : ModeSt) : Prop := m.changing = false → m.target = m.mode

theorem ModeSt.settled_of_changing {m : ModeSt} (h : m.changing = true) : m.Settled := fun hc => by simp [h] at hc

theorem ModeSt.settled_of_target {m : ModeSt} (h : m.target = m.mode) : m.Settled := fun _ => h

section
variable {s t : State} (h : t.calm = s.calm)
include h

theorem State.pending_of_calm : t.pending = s.pending := congrArg (·.1) h
theorem State.now_of_calm : t.now = s.now := congrArg (·.2.1) h
theorem State.mode_of_calm : t.mode = s.mode := congrArg (·.2.2) h

end

/-- `t` has the queue and the clock of `s`, and a settled mode where `s` has one. -/
structure State.Keeps (s t : State) : Prop where
  pending : t.pending = s.pending
  now : t.now = s.now
  settled : s.mode.Settled → t.mode.Settled

namespace State.Keeps

theorem refl (s : State) : s.Keeps s := ⟨rfl, rfl, id⟩

theorem trans {s t u : State} (h : s.Keeps t) (k : t.Keeps u) : s.Keeps u :=
  ⟨k.pending.trans h.pending, k.now.trans h.now, k.settled ∘ h.settled⟩

/-- An operation that leaves the mode alone too. -/
theorem of_calm {s t : State} (h : t.calm = s.calm) : s.Keeps t :=
  ⟨State.pending_of_calm h, State.now_of_calm h, fun hs => State.mode_of_calm h ▸ hs⟩

/-- An operation that sets the mode after one that leaves it alone. -/
theorem of_calm_mode {s t u : State} (h : t.calm = s.calm) (hp : u.pending = t.pending) (hn : u.now = t.now)
    (hm : s.mode.Settled → u.mode.Settled) : s.Keeps u :=
  ⟨hp.trans (State.pending_of_calm h), hn.trans (State.now_of_calm h), hm⟩

theorem calm_right {s t u : State} (h : s.Keeps t) (k : u.calm = t.calm) : s.Keeps u := h.trans (of_calm k)

theorem calm_left {s t u : State} (k : t.calm = s.calm) (h : t.Keeps u) : s.Keeps u := (of_calm k).trans h

theorem ite {c : Prop} [Decidable c] {s t u : State} (h : s.Keeps t) (k : s.Keeps u) : s.Keeps (if c then t else u) := by
  split
  · exact h
  · exact k

/-- Where an operation acts on a condition and else leaves the state. -/
theorem guarded {c : Prop} [Decidable c] {s t : State} (h : s.Keeps t) : s.Keeps (if c then t else s) := h.ite (refl s)

theorem foldl {α : Type} {g : State → α → State} (h : ∀ (s : State) a, s.Keeps (g s a)) (l : List α) (s : State) : s.Keeps (l.foldl g s) := by
  induction l generalizing s with
  | nil => exact refl s
  | cons a l ih => exact (h s a).trans (ih _)

end State.Keeps

/-! ### The operations that change the mode: changes, reactions and BOOT (R334, R335, R339, R390) -/

theorem State.beginChange_keeps (s : State) (m : Mode) (k : Nat) : s.Keeps (s.beginChange m k) := by
  have h : (s.beginChange m k).calm = (s.pending, s.now, { s.mode with
      target := m, changing := true, cause := k, changeAt := s.now, quiesced := quiesces s.mode.mode m, drained := false }) := by
    simp [State.beginChange, apply_ite State.calm]
  simp only [State.calm, Prod.mk.injEq] at h
  obtain ⟨hp, hn, hm⟩ := h
  exact ⟨hp, hn, fun _ => hm ▸ ModeSt.settled_of_changing rfl⟩

theorem State.reactTo_keeps (s : State) (m : Mode) : s.Keeps (s.reactTo m) := by
  unfold State.reactTo
  exact .ite ⟨rfl, rfl, id⟩ (.guarded (s.beginChange_keeps m 2))

theorem State.endChange_keeps (s : State) : s.Keeps s.endChange := by
  have entered (m : Mode) {t : State} (ht : s.Keeps t) : s.Keeps (t.entered s.mode.mode m) := ht.calm_right (by simp)
  unfold State.endChange
  have done := entered s.mode.target (t := { s with
      mode := { s.mode with mode := s.mode.target, changing := false, quiesced := false, drained := false, react := [] }
      arch := { s.arch with islands := s.arch.islands ||| modeIslands s.mode.target } })
    ⟨rfl, rfl, fun _ => ModeSt.settled_of_target rfl⟩
  exact .ite (done.trans (.foldl State.reactTo_keeps _ _)) done

theorem State.drainOver_keeps (s : State) : s.Keeps s.drainOver := by
  have drained : s.Keeps { s.discardAll with mode := { s.mode with drained := true } } :=
    .of_calm_mode s.discardAll_calm rfl rfl id
  exact .ite (drained.calm_right (by simp)) drained

theorem State.bootImage_keeps (s : State) : s.Keeps s.bootImage := by
  have h : (((s.setCfg 0x2018 1 (s.freeVal 64)).nextFree.restore).bootSrec.bootFaults).calm = s.calm := by simp
  unfold State.bootImage
  generalize ((s.setCfg 0x2018 1 (s.freeVal 64)).nextFree.restore).bootSrec.bootFaults = u at h ⊢
  exact .of_calm_mode h rfl rfl (fun _ => ModeSt.settled_of_target rfl)

theorem State.boot_keeps (s : State) : s.Keeps s.boot := by
  have started : ((s.setMeas 0 (Config.sha384 Config.bootRom)).bootFlush.bootStore).calm = s.calm := by simp
  unfold State.boot
  generalize (s.setMeas 0 (Config.sha384 Config.bootRom)).bootFlush.bootStore = u at started ⊢
  refine .calm_left started ?_
  dsimp only
  split
  · exact .calm_left (by simp) (State.bootImage_keeps _)
  · exact ⟨rfl, rfl, id⟩

/-! ### The collector (R358 to R363) -/

theorem State.checkstop_keeps (s : State) : s.Keeps s.checkstop := by
  have h : ((s.faults.classes.filterMap (·.record)).foldl State.logClassRec s).calm = s.calm := by simp
  exact .of_calm_mode h rfl rfl (fun _ => ModeSt.settled_of_target rfl)

theorem State.handleOne_keeps (s : State) (f : FaultReport) (esc : Bool) : s.Keeps (s.handleOne f esc) := by
  unfold State.handleOne
  dsimp only
  split
  · exact .calm_left (by simp [apply_ite State.calm]) (State.reactTo_keeps _ _)
  · exact .of_calm (by simp [apply_ite State.calm])

theorem State.collect_keeps (s : State) (f : FaultReport) (esc : Bool) : s.Keeps (s.collect f esc).1 := by
  unfold State.collect
  simp only [apply_ite Prod.fst]
  exact .ite (.of_calm (by simp)) (.ite (s.handleOne_keeps f esc)
    (.ite ((s.handleOne_keeps f esc).trans (State.checkstop_keeps _)) (s.handleOne_keeps f esc)))

theorem State.collectAll_keeps (l : List FaultReport) (esc : Bool) (s : State) : s.Keeps (s.collectAll esc l).1 := by
  induction l generalizing s with
  | nil => exact .refl s
  | cons f l ih => exact (s.collect_keeps f esc).trans (ih _)

theorem State.collectFrom_keeps (n c : Nat) (s : State) (direct raised : List FaultReport) :
    s.Keeps (State.collectFrom n c s direct raised) := by
  induction n generalizing c s raised with
  | zero => exact .refl s
  | succ n ih =>
    have here : s.Keeps (s.collectClass c direct raised).1 :=
      (State.collectAll_keeps _ false s).trans (State.collectAll_keeps _ true _)
    exact here.trans (ih _ _ _)

theorem State.collectCycle_keeps (s : State) (ext : List FaultReport) : s.Keeps (s.collectCycle ext) :=
  .calm_left (rfl : State.calm { s with faults := { s.faults with coming := [] } } = s.calm) (State.collectFrom_keeps ..)

/-! ### The supervisor (R341 to R349) -/

theorem State.islandsOff_keeps (s : State) (staged : Bool) : s.Keeps (s.islandsOff staged) :=
  ⟨rfl, rfl, fun _ => ModeSt.settled_of_target rfl⟩

theorem State.enterBoot_keeps (s : State) : s.Keeps s.enterBoot := ⟨rfl, rfl, fun _ => ModeSt.settled_of_target rfl⟩

theorem State.startFlush_keeps (s : State) : s.Keeps s.startFlush := by
  have off : s.Keeps s.seatOff := .calm_left (by simp [apply_ite State.calm]) (State.islandsOff_keeps _ false)
  exact .ite (.refl s) (.ite off (.of_calm (by simp)))

theorem State.trip_keeps (s : State) (k : Nat) : s.Keeps (s.trip k) :=
  .ite (.refl s) (.calm_left (by simp) (State.startFlush_keeps _))

theorem State.seatTrip_keeps (s : State) : s.Keeps s.seatTrip := .guarded s.startFlush_keeps

theorem State.railsOff_keeps (s : State) : s.Keeps s.railsOff := .calm_left (by simp) (State.islandsOff_keeps _ false)

/-! ### Writes (R308, R327, R334) -/

theorem State.effectHigh_keeps (s : State) (idx sub old v : Nat) : s.Keeps (s.effectHigh idx sub old v) := by
  unfold State.effectHigh
  split
  · unfold State.writeMode
    split
    · exact .ite (.refl s) (s.beginChange_keeps _ 1)
    · exact .refl s
  all_goals exact .of_calm (by simp [apply_ite State.calm])

theorem State.takeWrite_keeps (s : State) (f idx sub v : Nat) : s.Keeps (s.takeWrite f idx sub v) := by
  have effect (u : State) (old : Nat) : u.Keeps (if idx < 0x8000 then u.effectLow f idx sub old v else u.effectHigh idx sub old v) :=
    .ite (.of_calm (by simp)) (u.effectHigh_keeps idx sub old v)
  have measure {u w : State} (h : u.Keeps w) {c : Prop} [Decidable c] {i j : Nat} {l : List Byte} : u.Keeps (if c then w.extendM4 i j l else w) :=
    .ite (h.calm_right (by simp)) h
  unfold State.takeWrite
  exact measure (.calm_left (by simp [apply_ite State.calm]) (effect _ _))

theorem State.valueStep_keeps (s : State) (r : Req) (idx sub : Nat) (bytes : List Byte) (o : Obj) :
    s.Keeps (s.valueStep r idx sub bytes o).1 := by
  unfold State.valueStep
  dsimp only
  split
  · exact .of_calm (by simp [apply_ite State.calm])
  · simp only [apply_ite Prod.fst]
    exact .ite (.of_calm (by simp)) (.ite (.of_calm (by simp)) (.calm_left (by simp [apply_ite State.calm]) (State.takeWrite_keeps ..)))

theorem State.writeStep_keeps (s : State) (r : Req) (idx sub : Nat) (bytes : List Byte) : s.Keeps (s.writeStep r idx sub bytes).1 := by
  refine .calm_left (s.trialFirst_calm idx sub) ?_
  unfold State.writeStep
  dsimp only
  split
  · exact .refl _
  · exact .refl _
  · exact State.valueStep_keeps ..

theorem State.lateStep_keeps (s : State) (r : Req) (idx sub : Nat) (bytes : List Byte) : s.Keeps (s.lateStep r idx sub bytes).1 := by
  unfold State.lateStep
  split
  · exact .refl s
  · simp only [apply_ite Prod.fst]
    exact .ite (.refl s) (.ite (.refl s) (s.valueStep_keeps ..))

/-! ### The engine (R308, R319) -/

theorem State.finishWrite_keeps (s : State) (x : DictReq) (bytes : List Byte) (late : Bool) : s.Keeps (s.finishWrite x bytes late) := by
  unfold State.finishWrite
  dsimp only
  have done : s.Keeps (if late then s.lateStep x.r (dIndex (pduHdr x.pdu)) (dSub (pduHdr x.pdu)) bytes
      else s.writeStep x.r (dIndex (pduHdr x.pdu)) (dSub (pduHdr x.pdu)) bytes).1 := by
    simp only [apply_ite Prod.fst]
    exact .ite (s.lateStep_keeps ..) (s.writeStep_keeps ..)
  split
  · exact done.calm_right (by simp)
  · exact done.calm_right (by simp)

theorem State.nextSeg_keeps (s : State) (x : DictReq) : s.Keeps (s.nextSeg x) := by
  unfold State.nextSeg
  dsimp only
  split
  · exact .of_calm (by simp)
  · refine .ite (.of_calm (by simp)) (.ite (.of_calm (by simp)) (.ite ?_ (.of_calm (by simp))))
    exact .calm_left (by simp) (State.finishWrite_keeps ..)

theorem State.serveWrite_keeps (s : State) (x : DictReq) : s.Keeps (s.serveWrite x) :=
  .ite (s.nextSeg_keeps x) (.ite (s.finishWrite_keeps ..) (.of_calm (by simp)))

theorem State.serve_keeps (s : State) (x : DictReq) : s.Keeps (s.serve x) := by
  refine .calm_left s.countReq_calm ?_
  unfold State.serve
  dsimp only
  split
  · exact .of_calm (by simp)
  · refine .ite (.of_calm (by simp [apply_ite State.calm])) ?_
    split
    case h_2 => exact State.serveWrite_keeps ..
    all_goals exact .of_calm (by simp)

theorem State.serveQueue_keeps (s : State) (q svc : Nat) : s.Keeps (s.serveQueue q svc) := by
  unfold State.serveQueue
  split
  · exact .refl s
  · exact .guarded (.calm_left (by simp) (State.serve_keeps _ _))

theorem State.acceptWrite_keeps (s : State) (r : Req) (idx sub : Nat) (bytes : List Byte) : s.Keeps (s.acceptWrite r idx sub bytes) := by
  unfold State.acceptWrite
  refine .ite (.of_calm (by simp [apply_ite State.calm])) (.calm_left s.countReq_calm ?_)
  dsimp only
  split
  · exact .of_calm (by simp)
  · exact (State.writeStep_keeps _ r idx sub bytes).calm_right (by simp)

theorem State.acceptNat_keeps (s : State) (r : Req) (idx sub len v : Nat) : s.Keeps (s.acceptNat r idx sub len v) :=
  s.acceptWrite_keeps r idx sub _

theorem State.acceptRead_keeps (s : State) (r : Req) (idx sub : Nat) : s.Keeps (s.acceptRead r idx sub) :=
  .ite (s.serve_keeps _) (.of_calm (by simp))

/-! ### Commands -/

/-- A command answers a next state, which keeps what `State.Keeps` says. -/
def State.KeepsIn (s : State) (o : Res) : Prop := ∃ t, o = .next t ∧ s.Keeps t

theorem State.Keeps.next {s t : State} (h : s.Keeps t) : s.KeepsIn (.next t) := ⟨t, rfl, h⟩

theorem State.calm_next {s t : State} (h : t.calm = s.calm) : s.KeepsIn (.next t) := (State.Keeps.of_calm h).next

/-- Every command answers a next state that keeps the queue, the clock and a settled mode. -/
theorem exec_keeps (c : Instr) (s : State) : s.KeepsIn (exec c s) := by
  cases c
  -- dictionary requests
  case eqCreate | eqDestroy | xlateInvalidate | acuRegionWrite | semCfgWrite | portLpsEnterReq | portEnableWrite | portTestWrite |
      routeGenActiveWrite | ftSetWrite | gateSchedWrite | atomicCacheWrite | treeInstall | treeUninstall | dictUserDefineWrite |
      dictFactoryWrite | modeReqTrain | modeReqRun | modeReqHold | modeReqPass | modeReqTest | modeReqStandby | faultAck |
      faultClear | ctrCfgWrite | ctrValueWrite | ctrReaderEnableWrite | fnStoreAllotWrite | fnStoreErase | fnStoreTrimWrite |
      storeLogCursorWrite | fwUploadOpen | fwUploadCommit | fwUploadAbort | fwActivate | fwConfirm | fwFallback | fwKeyRevoke |
      attestReq =>
    exact (s.acceptNat_keeps ..).next
  case fwUploadData => exact (s.acceptWrite_keeps ..).next
  case acuSyncRead => exact (s.acceptRead_keeps ..).next
  case portLpsExit r p =>
    cases r
    · exact State.calm_next (by simp [apply_ite State.calm])
    · exact (s.acceptNat_keeps ..).next
  case dictRead | dictWrite | dictDescribe | dictCancel | dictRelay => exact (s.serveQueue_keeps ..).next
  -- mode changes, BOOT and faults
  case quiesceDrainEnd => exact (s.drainOver_keeps.guarded).next
  case modeChangeComplete => exact (s.endChange_keeps.guarded).next
  case bootEnd => exact (s.boot_keeps.guarded).next
  case faultReport ext => exact (State.Keeps.calm_left (by simp [apply_ite State.calm]) (State.collectCycle_keeps _ _)).next
  -- the supervisor
  case fastTrip => exact (State.Keeps.calm_left (s.pwrCount_calm 4) (State.trip_keeps _ 0)).guarded.next
  case overvoltage => exact (s.trip_keeps 1).next
  case railFault => exact (s.trip_keeps 3).guarded.next
  case thermalTrip => exact (s.trip_keeps 4).guarded.next
  case breaker =>
    refine State.Keeps.next ?_
    split
    · exact (State.Keeps.calm_left (s.pwrCount_calm 3) (State.trip_keeps _ 2)).guarded
    · exact .refl s
  case inputUndervoltage => exact (State.Keeps.ite (.refl s) s.startFlush_keeps).next
  case resetNAssert =>
    exact (State.Keeps.calm_left (s.modSup_calm _) (State.Keeps.ite (.refl _) (State.islandsOff_keeps _ true))).next
  case resetNRelease =>
    refine State.Keeps.next ?_
    split
    · exact .refl s
    · refine .calm_left (s.modSup_calm _) (.ite (.of_calm (by simp [apply_ite State.calm])) (State.enterBoot_keeps _).guarded)
  case supervisorPowerLoss =>
    exact (State.Keeps.ite (.of_calm (s.modSup_calm _)) (.calm_left (s.modSup_calm _) (State.islandsOff_keeps _ false))).next
  case powerGoodAssert =>
    exact (State.Keeps.guarded (.calm_left (by simp) (State.Keeps.ite (.refl _) (State.enterBoot_keeps _)))).next
  case flushComplete =>
    refine State.Keeps.next ?_
    split
    · exact .calm_left (by simp) (State.railsOff_keeps _)
    · exact .refl s
  -- commands that find their subject first
  case parentReselectTimer | timeOutMessage | eopRx | xoffStuck | laneFailTimer | lpiTimeout | lpsExitFail | codewordRx |
      genQuietEnd | gateSwitch | semTry | semRelease | semStatus | handover | invalidationComplete | segTimeout |
      snapshotExpiry | acuSyncReturn | sramScrubWord | storeReadDone | entryFinish | headWriteTimer | ctxOpen | ctxClose |
      ctxQuery | rnrBackoffTimer | fenceEnd | winRegister | winRevoke | winQuery | revokeComplete | seatDebounceEnd =>
    refine State.calm_next ?_
    repeat' split
    all_goals simp
  case trainSilenceEnd | eopStompRx | semAcquire | semWaitTimeout | tempRead | inputSample =>
    refine State.calm_next ?_
    dsimp only
    repeat' split
    all_goals simp
  case timeInMessage => exact State.calm_next (State.timeSample_calm _ _ _ (fun _ => rfl))
  -- each other command is one operation that leaves queue, clock and mode alone
  all_goals exact State.calm_next (by simp [apply_ite State.calm])

/-- What passes in a nanosecond before a seat pin may open the switch leaves the mode alone. -/
theorem tick_eq_seatTrip (s : State) : ∃ u : State, tick s = u.seatTrip ∧ u.mode = s.mode := by
  refine ⟨_, rfl, ?_⟩
  have landed (v : State) : (match v.faultedRead with | some tag => v.readEnded tag .failed | none => v).calm = v.calm := by
    split <;> simp
  have drained (v : State) : ((if v.island 12 then State.logDrain 1 v else v).readerStep.land).calm = v.calm := by
    simp [apply_ite State.calm]
  have ran (v : State) (d : Int) : (if !s.faults.checkstop then v.islandsRun d else v).mode = v.mode := by split <;> rfl
  have counted : s.sendAll.countCycles.calm = s.calm := by simp
  exact ((State.mode_of_calm (landed _)).trans (State.mode_of_calm (drained _))).trans
    ((ran _ _).trans (State.mode_of_calm counted))

theorem tick_settled (s : State) (h : s.mode.Settled) : (tick s).mode.Settled := by
  obtain ⟨u, hu, hm⟩ := tick_eq_seatTrip s
  exact hu ▸ u.seatTrip_keeps.settled (hm ▸ h)

/-- Settles O1: both sides are the command's run with the queue's rest. -/
theorem stepRunsFront : Obligations.StepRunsFront := fun _ _ _ => rfl

/-- Settles O3, from what each command keeps. -/
theorem commandsLeaveQueueAndClock : Obligations.CommandsLeaveQueueAndClock := by
  intro c s
  obtain ⟨t, ht, hk⟩ := exec_keeps c s
  exact ⟨t, ht, hk.pending, hk.now⟩

/-- Settles O4: a step is a command, or a nanosecond. -/
theorem stableModeIsItsTarget : Obligations.StableModeIsItsTarget := by
  intro s t hs ht
  unfold step at ht
  split at ht
  · cases ht
    exact tick_settled s hs
  case h_2 c rest _ =>
    obtain ⟨u, hu, hk⟩ := exec_keeps c { s with pending := rest }
    cases hu.symm.trans ht
    exact hk.settled hs

end Sys2Proof.Machine
end

section
/-! SUPPORT. The state after reset (R27, R90, R105, R194, R331, R357), and the proof of ResetIsStableSeat. -/

namespace Sys2Proof.Machine

theorem State.reset_sem_pos {n : Nat} (h : 0 < n) : State.reset.sem n = {} := by
  have hn : ¬ 0 = n := by omega
  simp [State.sem, State.reset, Tbl.getD, Tbl.get?, hn]

/-- No island is out of reset (R27). -/
theorem State.reset_island (k : Nat) : State.reset.island k = false := by
  simp [State.island, State.reset, bitAt, bf]

/-- Settles O5: each register's value after reset is read off the reset state. -/
theorem resetIsStableSeat : Obligations.ResetIsStableSeat :=
  ⟨rfl, rfl, rfl, fun k _ => State.reset_island k, rfl, rfl, rfl, rfl, fun _ => State.reset_sem_pos, fun _ => ⟨rfl, rfl⟩, rfl, rfl,
    fun _ _ => rfl⟩

end Sys2Proof.Machine
end

section
/-! SUPPORT. How a write is decided and taken (R308, R315, R322, R327), for every object, and the proof of
WritesAreDecidedInOneStep. -/

namespace Sys2Proof.Machine

/-! ### The checks (R327) -/

theorem firstAbort_eq_none {l : List (Bool × Abort)} : firstAbort l = none ↔ ∀ e ∈ l, e.1 = false := by
  induction l with
  | nil => simp [firstAbort]
  | cons e l ih =>
    obtain ⟨b, a⟩ := e
    cases b <;> simp [firstAbort, ih]

theorem State.reach_eq_none {s : State} {r : Req} {idx sub : Nat} {wr : Bool} : s.reach r idx sub wr = none ↔
    ∃ o, s.obj? idx sub = some o ∧ s.hasRight r o idx wr = true ∧ inScope r o idx sub wr = true := by
  cases ho : s.obj? idx sub <;> simp [State.reach, ho, firstAbort_eq_none]

theorem State.openCheck_eq_none {s : State} {r : Req} {idx sub len : Nat} : s.openCheck r idx sub len = none ↔
    ∃ o, s.obj? idx sub = some o ∧ s.hasRight r o idx true = true ∧ inScope r o idx sub true = true ∧ s.noAuthority r idx sub = false ∧
      o.acc.writable = true ∧ o.lenOk len = true := by
  cases hr : s.reach r idx sub true with
  | some a =>
    have hno : s.openCheck r idx sub len ≠ none := by simp [State.openCheck, hr]
    refine iff_of_false hno fun ⟨o, ho, hright, hscope, _⟩ => ?_
    simp [State.reach_eq_none.mpr ⟨o, ho, hright, hscope⟩] at hr
  | none =>
    obtain ⟨o, ho, hright, hscope⟩ := State.reach_eq_none.mp hr
    simp [State.openCheck, hr, ho, hright, hscope, firstAbort_eq_none]

theorem State.valueCheck_eq_none {s : State} {r : Req} {idx sub v : Nat} : s.valueCheck r idx sub v = none ↔
    (∀ o, s.obj? idx sub = some o → o.ty = 0 → v ≤ 1) ∧
    s.unavailable ((reqFn r).getD 0) idx sub = false ∧ s.wrongMode idx sub v = false ∧ s.blockRuns idx sub v = false ∧
    s.blockBusy ((reqFn r).getD 0) idx sub = false ∧ s.stateClash ((reqFn r).getD 0) idx sub v = false ∧
    s.noRoom ((reqFn r).getD 0) idx v = false ∧ badValue ((reqFn r).getD 0) idx sub v = false ∧ s.badRange idx sub v = false ∧
    s.valueClash idx sub v = false := by
  have bool : ((s.obj? idx sub).any (fun o => o.ty == 0) && decide (1 < v)) = false ↔ ∀ o, s.obj? idx sub = some o → o.ty = 0 → v ≤ 1 := by
    cases s.obj? idx sub <;> simp
  simp only [State.valueCheck, firstAbort_eq_none, List.forall_mem_cons, Bool.or_eq_false_iff, bool]
  simp
  tauto

theorem State.writeCheck_eq_none {s : State} {r : Req} {idx sub len v : Nat} :
    s.writeCheck r idx sub len v = none ↔ s.openCheck r idx sub len = none ∧ s.valueCheck r idx sub v = none := by
  simp [State.writeCheck]

/-! ### The journal (R315) -/

/-- `u` is `s` with records staged for the journal: beside the staging buffer only what counts and lists them differs. -/
def State.Journalled (s u : State) : Prop := u.dict.vals = s.dict.vals ∧
  u = { s with
    store := u.store, ctrs := u.ctrs
    dict := { s.dict with counts := u.dict.counts, journal := u.dict.journal, journal2 := u.dict.journal2 } }

theorem State.Journalled.refl (s : State) : s.Journalled s := ⟨rfl, rfl⟩

theorem State.Journalled.trans {s u w : State} (h : s.Journalled u) (k : u.Journalled w) : s.Journalled w := by
  obtain ⟨hv, h⟩ := h
  obtain ⟨kv, k⟩ := k
  exact ⟨kv.trans hv, k.trans (by rw [h])⟩

theorem State.Journalled.of_countReq (s : State) : s.Journalled s.countReq := ⟨rfl, rfl⟩

theorem State.Journalled.record (s : State) (e : Nat × Nat) : s.Journalled ((s.stage (.journal e.1 e.2)).storeCount 1 16) := ⟨rfl, rfl⟩

theorem State.Journalled.records (s : State) (l : List (Nat × Nat)) :
    s.Journalled (l.foldl (fun s e => (s.stage (.journal e.1 e.2)).storeCount 1 16) s) := by
  induction l generalizing s with
  | nil => exact .refl s
  | cons e l ih => exact (State.Journalled.record s e).trans (ih _)

theorem State.Journalled.journalWrite (s : State) (l : List (Nat × Nat)) : s.Journalled (s.journalWrite l) :=
  (State.Journalled.records s l).trans ⟨rfl, rfl⟩

/-- Every record written stands in the staging buffer, behind what it held. -/
theorem State.journalWrite_staging (s : State) (l : List (Nat × Nat)) :
    (s.journalWrite l).store.staging = s.store.staging ++ l.map (fun e => .journal e.1 e.2) := by
  suffices h : ∀ (l : List (Nat × Nat)) (s : State),
      (l.foldl (fun s e => (s.stage (.journal e.1 e.2)).storeCount 1 16) s).store.staging
        = s.store.staging ++ l.map (fun e => .journal e.1 e.2) from h l s
  intro l
  induction l with
  | nil => simp
  | cons e l ih => intro s; rw [List.foldl_cons, ih]; simp [State.stage, State.storeCount, State.perf]

theorem State.own_record_mem_allRecs (s : State) (idx sub v : Nat) : (okey idx sub, keptValue idx v) ∈ s.allRecs idx sub v := by
  unfold State.allRecs
  dsimp only
  split <;> simp [journalRecs]

/-! ### One step of the engine (R308) -/

theorem State.trialFirst_of_ne (s : State) {idx sub : Nat} (h : ¬ (idx = 0xC002 ∧ sub = 2)) : s.trialFirst idx sub = s :=
  if_neg (fun hc => h ⟨hc.1, hc.2.1⟩)

/-- The state in which an accepted write is taken: its records are in the journal where its object persists. -/
def State.recorded (s : State) (o : Obj) (idx sub v : Nat) : State := if o.persist then s.journalWrite (s.allRecs idx sub v) else s

theorem State.Journalled.recorded (s : State) (o : Obj) (idx sub v : Nat) : s.Journalled (s.recorded o idx sub v) := by
  unfold State.recorded
  split
  · exact .journalWrite s _
  · exact .refl s

section
variable {s : State} {r : Req} {idx sub : Nat} {bytes : List Byte} {o : Obj}

/-- A write whose value passes every check, of an object that is no firmware upload. -/
theorem State.valueStep_passed (hidx : idx ≠ 0xC001) (hv : s.valueCheck r idx sub (o.valueOf bytes) = none)
    (hj : o.persist = true → s.journalTakes (s.allRecs idx sub (o.valueOf bytes)) = true) :
    s.valueStep r idx sub bytes o = ((s.recorded o idx sub (o.valueOf bytes)).takeWrite ((reqFn r).getD 0) idx sub (o.valueOf bytes), none) := by
  have hfull : (o.persist && !s.journalTakes (s.allRecs idx sub (o.valueOf bytes))) = false := by
    cases hp : o.persist
    · rfl
    · simp [hj hp]
  simp [State.valueStep, hidx, hv, hfull, State.recorded]

/-- A write with an abort records at most a fault. -/
theorem State.valueStep_refused (hidx : idx ≠ 0xC001) {a : Abort} (h : (s.valueStep r idx sub bytes o).2 = some a) :
    ∃ l, (s.valueStep r idx sub bytes o).1 = { s with faults := { s.faults with coming := l } } := by
  unfold State.valueStep at h ⊢
  simp only [hidx, false_and, if_false] at h ⊢
  split
  · dsimp only
    split
    · exact ⟨_, rfl⟩
    · exact ⟨_, rfl⟩
  · next hn =>
    rw [hn] at h
    dsimp only at h ⊢
    split
    · exact ⟨_, rfl⟩
    · next hc => simp [hc] at h

theorem State.writeStep_refused (hidx : idx ≠ 0xC001) (hc : ¬ (idx = 0xC002 ∧ sub = 2)) {a : Abort}
    (h : (s.writeStep r idx sub bytes).2 = some a) :
    ∃ l, (s.writeStep r idx sub bytes).1 = { s with faults := { s.faults with coming := l } } := by
  unfold State.writeStep at h ⊢
  rw [s.trialFirst_of_ne hc] at h ⊢
  dsimp only at h ⊢
  split
  · exact ⟨_, rfl⟩
  · exact ⟨_, rfl⟩
  · next hopen ho =>
    rw [hopen, ho] at h
    exact State.valueStep_refused hidx h

theorem State.writeStep_passed (hidx : idx ≠ 0xC001) (ht : s.trialFirst idx sub = s) (ho : s.obj? idx sub = some o)
    (hopen : s.openCheck r idx sub bytes.length = none) (hv : s.valueCheck r idx sub (o.valueOf bytes) = none)
    (hj : o.persist = true → s.journalTakes (s.allRecs idx sub (o.valueOf bytes)) = true) :
    s.writeStep r idx sub bytes = ((s.recorded o idx sub (o.valueOf bytes)).takeWrite ((reqFn r).getD 0) idx sub (o.valueOf bytes), none) := by
  simp only [State.writeStep, ht, hopen, ho]
  exact State.valueStep_passed hidx hv hj

end

/-! ### Where a write goes (R308, R322) -/

section
variable {s : State} {r : Req} (idx sub : Nat) {bytes : List Byte}

theorem State.acceptWrite_waiting (h : s.atOnce r = false) : s.acceptWrite r idx sub bytes =
    if segSize r < bytes.length then s else s.submit r (natLe 16 (writeHdr r idx sub bytes.length) ++ bytes) := by
  simp [State.acceptWrite, h]

theorem State.acceptWrite_retry (h : s.atOnce r = true) {k : Kept} (hk : s.keptFor r (writeHdr r idx sub bytes.length) = some k) :
    s.acceptWrite r idx sub bytes = (s.countReq.dictCount 2).respond r 0 k.pdu := by
  have hk' : s.countReq.keptFor r (writeHdr r idx sub bytes.length) = some k := hk
  simp [State.acceptWrite, h, hk']

theorem State.acceptWrite_served (h : s.atOnce r = true) (hk : s.keptFor r (writeHdr r idx sub bytes.length) = none) :
    s.acceptWrite r idx sub bytes = (s.countReq.writeStep r idx sub bytes).1.answerReq r 0 (writeHdr r idx sub bytes.length)
      (match (s.countReq.writeStep r idx sub bytes).2 with
        | some a => abortPdu (writeHdr r idx sub bytes.length) a
        | none => okPdu (writeHdr r idx sub bytes.length)) := by
  have hk' : s.countReq.keptFor r (writeHdr r idx sub bytes.length) = none := hk
  simp only [State.acceptWrite, h, hk']
  rfl

end

/-- A number's write that passes, and that no ended trial precedes, is taken and answered. -/
theorem taken_of_passes_of_trialFirst {s : State} {r : Req} {idx sub len v w : Nat} (hidx : idx ≠ 0xC001)
    (ht : s.countReq.trialFirst idx sub = s.countReq) (h : Safety.passes s r idx sub len v w) :
    Safety.taken s (s.acceptNat r idx sub len v) r idx sub len w := by
  obtain ⟨honce, hkept, hopen, hvalue, o, ho, rfl, hj⟩ := h
  have hopen' : s.countReq.openCheck r idx sub (natLe len v).length = none := by rw [natLe_length]; exact hopen
  have hkept' : s.keptFor r (writeHdr r idx sub (natLe len v).length) = none := by rw [natLe_length]; exact hkept
  have hserved := State.acceptWrite_served idx sub honce hkept'
  rw [State.writeStep_passed (s := s.countReq) hidx ht ho hopen' hvalue hj, natLe_length] at hserved
  obtain ⟨hvals, hframe⟩ := (State.Journalled.of_countReq s).trans (.recorded s.countReq o idx sub (o.valueOf (natLe len v)))
  exact ⟨_, hserved, hvals, hframe⟩

theorem taken_of_passes {s : State} {r : Req} {idx sub len v w : Nat} (hidx : idx ≠ 0xC001) (hc : ¬ (idx = 0xC002 ∧ sub = 2))
    (h : Safety.passes s r idx sub len v w) : Safety.taken s (s.acceptNat r idx sub len v) r idx sub len w :=
  taken_of_passes_of_trialFirst hidx (s.countReq.trialFirst_of_ne hc) h

/-! ### Taking a value (R308) -/

/-- An object whose write is its value alone. -/
def plainObjects : List Nat := [0x1010, 0x1032, 0x2023, 0x3003, 0x3004, 0x3005, 0x3006, 0x3007, 0x300A, 0x300B, 0x300D, 0x4001,
  0x4003, 0x4006, 0x5000, 0x5014, 0x5033, 0x6000, 0x6010, 0x7000]

theorem State.effectLow_plain {idx sub : Nat} (h : idx ∈ plainObjects) (hs : idx = 0x6000 → sub ≠ 4) (s : State) (f old v : Nat) :
    s.effectLow f idx sub old v = s := by
  simp only [plainObjects, List.mem_cons, List.not_mem_nil, or_false] at h
  rcases h with rfl | rfl | rfl | rfl | rfl | rfl | rfl | rfl | rfl | rfl | rfl | rfl | rfl | rfl | rfl | rfl | rfl | rfl | rfl | rfl
  any_goals rfl
  exact if_neg (hs rfl)

theorem plain_facts : ∀ idx ∈ plainObjects, idx ≠ 0xD000 ∧ idx < 0x8000 ∧ measured idx = false ∧ (∀ v, keptValue idx v = v) ∧
    ∀ sub, elsewhere idx sub = false := by
  intro idx h
  simp only [plainObjects, List.mem_cons, List.not_mem_nil, or_false] at h
  rcases h with rfl | rfl | rfl | rfl | rfl | rfl | rfl | rfl | rfl | rfl | rfl | rfl | rfl | rfl | rfl | rfl | rfl | rfl | rfl | rfl <;>
    exact ⟨by decide, by decide, by decide, fun _ => rfl, fun sub => by simp [elsewhere]⟩

theorem State.takeWrite_plain {idx sub : Nat} (h : idx ∈ plainObjects) (hs : idx = 0x6000 → sub ≠ 4) (s : State) (f v : Nat) :
    s.takeWrite f idx sub v = s.setCfg idx sub v := by
  obtain ⟨hD, hlow, hm, hkept, he⟩ := plain_facts idx h
  simp [State.takeWrite, hD, hlow, hm, hkept, he, State.effectLow_plain h hs]

/-- A write of a MAILBOX page is that page's GO. -/
theorem State.submit_host {s : State} {r : Req} {f : Nat} (hf : r.pr = .host f) (pdu : List Byte) (hlen : pdu.length < 2 ^ 20) :
    exec (.mailboxGo f (BitVec.ofNat 32 (1 + 2 * ((pdu.length + 3) / 4))) pdu) s = .next (s.submit r pdu) := by
  have hctrl : (BitVec.ofNat 32 (1 + 2 * ((pdu.length + 3) / 4))).toNat = 1 + 2 * ((pdu.length + 3) / 4) := by
    rw [BitVec.toNat_ofNat]
    exact Nat.mod_eq_of_lt (by omega)
  simp only [State.submit, hf]
  exact congrArg (fun c => Host.Outcome.next (s.mailbox f c pdu)) hctrl

theorem segSize_le (r : Req) : segSize r ≤ 4096 := by
  unfold segSize
  split <;> omega

/-- Settles O52: the checks of R327 one by one, and what a write does once they have been made. -/
theorem writesAreDecidedInOneStep : Obligations.WritesAreDecidedInOneStep := by
  refine ⟨?passes, ?refused, ?accepted, ?value, ?plain, ?way⟩
  case passes =>
    intro r idx sub len v s
    rw [State.writeCheck_eq_none, State.openCheck_eq_none, State.valueCheck_eq_none]
    constructor
    · rintro ⟨⟨o, ho, hright, hscope, hauth, hacc, hlen⟩, hbool, hrest⟩
      exact ⟨⟨o, ho, hright, hscope, hauth, hacc, hlen, hbool o ho⟩, hrest⟩
    · rintro ⟨⟨o, ho, hright, hscope, hauth, hacc, hlen, hbool⟩, hrest⟩
      exact ⟨⟨o, ho, hright, hscope, hauth, hacc, hlen⟩, fun p hp => by cases ho.symm.trans hp; exact hbool, hrest⟩
  case refused =>
    intro r idx sub bytes a s hidx hc h
    obtain ⟨l, hl⟩ := State.writeStep_refused hidx hc h
    rw [hl]
  case accepted =>
    intro r idx sub bytes o s hidx hc ho hopen hv hj
    obtain ⟨hvals, hframe⟩ := State.Journalled.recorded s o idx sub (o.valueOf bytes)
    refine ⟨_, State.writeStep_passed hidx (s.trialFirst_of_ne hc) ho hopen hv hj, hvals, fun hp => by simp [State.recorded, hp], fun hp => ?_, hframe⟩
    simp only [State.recorded, hp, if_true, State.journalWrite_staging, List.mem_append, List.mem_map]
    exact .inr ⟨_, s.own_record_mem_allRecs idx sub _, rfl⟩
  case value => exact fun idx sub v s => ⟨s.setCfg_cfg idx sub v, fun i j h => s.setCfg_cfg_other v h, rfl⟩
  case plain => exact fun f idx sub v s h hs => State.takeWrite_plain h hs s f v
  case way =>
    intro r idx sub bytes s
    have submitted (h : s.atOnce r = false) (hlen : bytes.length ≤ segSize r) :
        s.acceptWrite r idx sub bytes = s.submit r (natLe 16 (writeHdr r idx sub bytes.length) ++ bytes) := by
      rw [State.acceptWrite_waiting idx sub h, if_neg (by omega)]
    refine ⟨fun h hlen => by rw [State.acceptWrite_waiting idx sub h, if_pos hlen], fun h hlen hhost => ?_, fun f h hlen hf => ?_, fun h => ?_⟩
    · have path (pdu : List Byte) : s.submit r pdu = if s.pathOpen r then s.enqueue { r := r, pdu := pdu } else s := by
        unfold State.submit
        split
        · next f hf => exact absurd hf (hhost f)
        · rfl
      rw [submitted h hlen, path]
      exact ⟨fun hp => by simp [hp], fun hp => by simp [hp]⟩
    · have hpdu : (natLe 16 (writeHdr r idx sub bytes.length) ++ bytes).length = 16 + bytes.length := by simp
      rw [submitted h hlen, ← hpdu]
      exact State.submit_host hf _ (by have := segSize_le r; omega)
    · exact ⟨s.countReq, rfl, fun k hk => State.acceptWrite_retry idx sub h hk, fun hk => State.acceptWrite_served idx sub h hk⟩

end Sys2Proof.Machine
end

section
/-! SUPPORT. Acknowledging and clearing class records (R360), and the proof of AcknowledgesAndClears. -/

namespace Sys2Proof.Machine

/-! ### What refuses such a write -/

/-- The record that a value names stands and bears the value's SEQ bits. -/
theorem State.recordNamed_iff (s : State) (v : Nat) : s.recordNamed v = true ↔ (s.classRec (v % 8)).st ≠ .empty ∧
    ((s.classRec (v % 8)).record.map (fun x => x.seq % 2 ^ 56)) = some (v / 256 % 2 ^ 56) := by
  have hclass : bf v 0 3 = v % 8 := by simp [bf]
  have hseq : bf v 8 56 = v / 256 % 2 ^ 56 := rfl
  unfold State.recordNamed
  rw [hclass, hseq]
  cases hr : (s.classRec (v % 8)).record <;> simp [hr]

/-- Only the class record's state speaks against a well-formed acknowledge or clear. -/
theorem State.valueCheck_ack {s : State} (r : Req) {k v : Nat} (hk : k = 1 ∨ k = 2) (hv : v % 8 ≤ 4) (hc : s.faults.checkstop = false) :
    s.valueCheck r 0x9001 k v = if s.recordNamed v = true then none else some .conflictState := by
  have hclass : bf v 0 3 = v % 8 := by simp [bf]
  have hk2 : k ≤ 2 := by omega
  have hobj : (s.obj? 0x9001 k).any (fun o => o.ty == 0) = false := by
    rcases hk with rfl | rfl <;> rfl
  have hun : s.unavailable ((reqFn r).getD 0) 0x9001 k = false := rfl
  have hmode : s.wrongMode 0x9001 k v = false := by simp [State.wrongMode, hc]
  have hruns : s.blockRuns 0x9001 k v = false := by simp [State.blockRuns, genOf, isTreeIdx]
  have hbusy : s.blockBusy ((reqFn r).getD 0) 0x9001 k = false := rfl
  have hroom : s.noRoom ((reqFn r).getD 0) 0x9001 v = false := by simp [State.noRoom]
  have hbad : badValue ((reqFn r).getD 0) 0x9001 k v = false := by simp [badValue, rangeOf, hclass, hv]
  have hrange : s.badRange 0x9001 k v = false := rfl
  have hclash : s.valueClash 0x9001 k v = false := by simp [State.valueClash, isTreeIdx]
  have hstate : s.stateClash ((reqFn r).getD 0) 0x9001 k v = !s.recordNamed v := by
    simp [State.stateClash, isTreeIdx, hclass, hk2, hv]
  simp only [State.valueCheck, hobj, hun, hmode, hruns, hbusy, hroom, hbad, hrange, hclash, hstate, firstAbort]
  cases s.recordNamed v <;> simp

/-! ### What such a write does -/

theorem State.modClass_classRec {s : State} {c : Nat} (g : ClassRec → ClassRec) (h : c < s.faults.classes.length) :
    (s.modClass c g).classRec c = g (s.classRec c) := by
  simp [State.classRec, State.modClass, h]

theorem State.modClass_classRec_other (s : State) {c d : Nat} (g : ClassRec → ClassRec) (h : d ≠ c) :
    (s.modClass c g).classRec d = s.classRec d := by
  simp [State.classRec, State.modClass, List.getD_eq_getElem?_getD, List.getElem?_set_ne h.symm]

theorem State.takeWrite_ack (s : State) (g v : Nat) : s.takeWrite g 0x9001 1 v =
    (s.setCfg 0x9001 1 v).modClass (v % 8) (fun x => if x.st = .latched then { x with st := .acked } else x) := by
  have hclass : bf v 0 3 = v % 8 := by simp [bf]
  simp [State.takeWrite, elsewhere, keptValue, State.effectHigh, State.writeAck, measured, hclass]

theorem State.takeWrite_clear (s : State) (g v : Nat) : s.takeWrite g 0x9001 2 v = (s.setCfg 0x9001 2 v).modClass (v % 8) (fun _ => {}) := by
  have hclass : bf v 0 3 = v % 8 := by simp [bf]
  simp [State.takeWrite, elsewhere, keptValue, State.effectHigh, State.writeClear, measured, hclass]

/-- Settles O58, from the one check that such a write meets and the one record that it changes. -/
theorem acknowledgesAndClears : Obligations.AcknowledgesAndClears := by
  refine ⟨fun r k v w s h => taken_of_passes (by decide) (by omega) h, fun r v s => ⟨rfl, rfl⟩, fun r k v s hk hv hc => ?_,
    fun g v s hlen hv => ⟨?_, ?_⟩⟩
  · rw [State.valueCheck_ack r hk hv hc]
    exact if_congr (s.recordNamed_iff v) rfl rfl
  · have hin : v % 8 < (s.setCfg 0x9001 1 v).faults.classes.length := by simpa [hlen] using Nat.lt_succ_of_le hv
    have hrec := State.modClass_classRec (fun x => if x.st = .latched then { x with st := .acked } else x) hin
    refine ⟨_, s.takeWrite_ack g v, fun h => hrec.trans ?_, fun h => hrec.trans ?_, fun c hc => State.modClass_classRec_other _ _ hc,
      s.setCfg_cfg 0x9001 1 v, rfl⟩
    · exact if_pos h
    · have hacked : ((s.setCfg 0x9001 1 v).classRec (v % 8)).st ≠ .latched := fun e => by cases h.symm.trans e
      exact if_neg hacked
  · have hin : v % 8 < (s.setCfg 0x9001 2 v).faults.classes.length := by simpa [hlen] using Nat.lt_succ_of_le hv
    have hrec := State.modClass_classRec (fun _ => {}) hin
    exact ⟨_, s.takeWrite_clear g v, by rw [hrec], by rw [hrec], by rw [hrec], by rw [hrec],
      fun c hc => State.modClass_classRec_other _ _ hc, s.setCfg_cfg 0x9001 2 v, rfl⟩

end Sys2Proof.Machine
end

section
/-! SUPPORT. The sizes of operands on the wire (R282), and the proof of WireSizes. -/

namespace Sys2Proof.Machine

theorem dtSize_pos (d : Nat) : 0 < dtSize d := by
  unfold dtSize
  split <;> decide

/-! ### Elements of a byte string (R281) -/

@[simp] theorem unelems_length (k : Nat) (l : List Nat) : (unelems k l).length = k * l.length := by
  induction l with
  | nil => rfl
  | cons x l ih =>
    have hcons : unelems k (x :: l) = natLe k x ++ unelems k l := rfl
    simp only [hcons, List.length_append, natLe_length, ih, List.length_cons]
    ring

/-- A string of `m` whole elements has `m` elements, where the fuel allows. -/
theorem elems_length {k m : Nat} (hk : 0 < k) {n : Nat} {a : List Byte} (ha : a.length = k * m) (hn : m ≤ n) :
    (elems k n a).length = m := by
  induction n generalizing m a with
  | zero => simp [elems, Nat.le_zero.mp hn]
  | succ n ih =>
    cases m with
    | zero => simp [elems, List.eq_nil_of_length_eq_zero (ha.trans (Nat.mul_zero k))]
    | succ m =>
      have hlen : a.length = k + k * m := by rw [ha]; ring
      have hne : a ≠ [] := by rintro rfl; simp only [List.length_nil] at hlen; omega
      have hrest : (a.drop k).length = k * m := by rw [List.length_drop]; omega
      simp [elems, hne, ih hrest (Nat.le_of_succ_le_succ hn)]

theorem elems_length_whole {k m : Nat} (hk : 0 < k) {a : List Byte} (ha : a.length = k * m) : (elems k (a.length + 1) a).length = m :=
  elems_length hk ha (by nlinarith)

/-! ### What the unit folds and the root rounds (R289, R290) -/

section
variable {d m : Nat} {a b : List Byte}

theorem liftPartial_length (ha : a.length = dtSize d * m) : (liftPartial d a).length = 40 * m := by
  simp [liftPartial, elems_length_whole (dtSize_pos d) ha]

theorem lowerPartial_length (d : Nat) (ha : a.length = 40 * m) : (lowerPartial d a).length = dtSize d * m := by
  simp [lowerPartial, elems_length_whole (by decide : 0 < 40) ha]

theorem foldNative_length (op : Nat) (ha : a.length = dtSize d * m) (hb : b.length = dtSize d * m) :
    (foldNative d op a b).length = dtSize d * m := by
  simp [foldNative, elems_length_whole (dtSize_pos d) ha, elems_length_whole (dtSize_pos d) hb]

theorem foldPartial_length (ha : a.length = 40 * m) (hb : b.length = 40 * m) : (foldPartial a b).length = 40 * m := by
  simp [foldPartial, elems_length_whole (by decide : 0 < 40) ha, elems_length_whole (by decide : 0 < 40) hb]

end

/-! ### The sizes (R282) -/

section
variable {k : Nat} (hk : k = 2 ∨ k = 3)
include hk

theorem upWire_ordered (d len : Nat) : upWire k d false len = len := by rcases hk with rfl | rfl <;> rfl

theorem upWire_exact (d len : Nat) : upWire k d true len = 40 * len / dtSize d := by rcases hk with rfl | rfl <;> rfl

theorem downWire_reduce (len : Nat) : downWire k len = len := by rcases hk with rfl | rfl <;> rfl

/-- Of whole elements each is 40 bytes upward. -/
theorem upWire_exact_whole (d m : Nat) : upWire k d true (dtSize d * m) = 40 * m := by
  rw [upWire_exact hk, Nat.mul_left_comm]
  exact Nat.mul_div_cancel_left _ (dtSize_pos d)

end

/-- Settles O49: counting elements gives each size, and a size beyond its buffer is one of the refusals of R283. -/
theorem wireSizes : Obligations.WireSizes := by
  refine ⟨fun d len x => ⟨rfl, rfl, rfl, rfl⟩, fun k d len hk => ⟨upWire_ordered hk d len, upWire_exact hk d len, downWire_reduce hk len⟩, ?_, ?_⟩
  · intro k d a hk hwhole
    obtain ⟨m, ha⟩ := Nat.dvd_of_mod_eq_zero hwhole
    rw [upWire_ordered hk, downWire_reduce hk, ha, upWire_exact_whole hk]
    refine ⟨liftPartial_length ha, lowerPartial_length d (liftPartial_length ha), fun b hb op => ⟨foldNative_length op ha hb, ?_⟩⟩
    exact foldPartial_length (liftPartial_length ha) (liftPartial_length hb)
  · intro f w s h
    have hbig : (decide (256 * tUbuf (s.tree (wTree w)).entry.toNat < upWire (wKind w) (wDtype w) (wExact w) (wLength w)) ||
        decide (256 * tDbuf (s.tree (wTree w)).entry.toNat < downWire (wKind w) (wLength w))) = true := by simpa using h
    simp only [State.badCollective, Bool.or_eq_true] at hbig ⊢
    tauto

end Sys2Proof.Machine
end

section
/-! SUPPORT. Exact partials (R286, R290, R291): their sums, and elements that come back from conversion and rounding; the proof
of ExactSumsAnyOrder. -/

namespace Sys2Proof.Machine

/-! ### Two's complement -/

theorem unsigned_lt (w : Nat) (i : Int) : unsigned w i < 2 ^ w := by
  have hpos : (0 : Int) < ((2 ^ w : Nat) : Int) := by exact_mod_cast Nat.two_pow_pos w
  have hlt := Int.emod_lt_of_pos i hpos
  have hnn := Int.emod_nonneg i hpos.ne'
  unfold unsigned
  omega

theorem cast_unsigned (w : Nat) (i : Int) : (unsigned w i : Int) = i % ((2 ^ w : Nat) : Int) :=
  Int.toNat_of_nonneg (Int.emod_nonneg i (by exact_mod_cast (Nat.two_pow_pos w).ne'))

/-- The two's complement of the number a word stands for is the word. -/
theorem signed_emod (w v : Nat) : signed w v % ((2 ^ w : Nat) : Int) = (v : Int) % ((2 ^ w : Nat) : Int) := by
  unfold signed
  split
  · push_cast; exact Int.emod_emod_of_dvd _ dvd_rfl
  · rw [Int.sub_emod_right]; push_cast; exact Int.emod_emod_of_dvd _ dvd_rfl

theorem unsigned_congr {w : Nat} {i j : Int} (h : i ≡ j [ZMOD ((2 ^ w : Nat) : Int)]) : unsigned w i = unsigned w j := by
  unfold unsigned
  rw [h.eq]

theorem signed_unsigned_modEq (w : Nat) (i : Int) : signed w (unsigned w i) ≡ i [ZMOD ((2 ^ w : Nat) : Int)] := by
  rw [Int.ModEq, signed_emod, cast_unsigned, Int.emod_emod_of_dvd _ dvd_rfl]

/-- A number that fits comes back. -/
theorem signed_unsigned {w : Nat} {i : Int} (hlo : -((2 ^ w : Nat) : Int) ≤ i) (hhi : i < ((2 ^ w : Nat) : Int)) :
    signed (w + 1) (unsigned (w + 1) i) = i := by
  have hpow : (2 : Nat) ^ (w + 1) = 2 * 2 ^ w := by ring
  have hlt := unsigned_lt (w + 1) i
  have hcast := cast_unsigned (w + 1) i
  unfold signed
  rw [Nat.mod_eq_of_lt hlt, Nat.add_sub_cancel]
  rw [hpow] at hcast ⊢
  generalize hu : unsigned (w + 1) i = u at *
  generalize hk : 2 ^ w = K at *
  have hK : 0 < K := hk ▸ Nat.two_pow_pos w
  rcases Int.lt_or_le i 0 with hneg | hnn
  · have hval : (u : Int) = i + ((2 * K : Nat) : Int) := by
      rw [hcast, ← Int.add_emod_right, Int.emod_eq_of_lt (by push_cast; omega) (by push_cast; omega)]
    rw [if_neg (by omega), hval]
    omega
  · have hval : (u : Int) = i := by rw [hcast, Int.emod_eq_of_lt hnn (by push_cast; omega)]
    rw [if_pos (by omega), hval]

/-! ### Sums of partials (R290, R291) -/

/-- Bits 319 and 318 of a partial. -/
def partialClass (a : Nat) : Nat := bf a 318 2

theorem partialClass_lt (a : Nat) : partialClass a < 4 := Nat.mod_lt _ (by decide)

theorem partialClass_top {c : Nat} (h : c < 4) : partialClass (c * 2 ^ 318) = c := by
  simp only [partialClass, bf]
  omega

theorem partialClass_unsigned (i : Int) : partialClass (unsigned 318 i) = 0 := by
  have hlt := unsigned_lt 318 i
  simp only [partialClass, bf]
  omega

/-- The class of a sum: NaN with a NaN or of two opposite infinities, else the infinity there is. -/
def joinClass (a b : Nat) : Nat :=
  if a = 3 ∨ b = 3 ∨ (a = 1 ∧ b = 2) ∨ (a = 2 ∧ b = 1) then 3 else if a ≠ 0 then a else b

theorem joinClass_comm : ∀ a < 4, ∀ b < 4, joinClass a b = joinClass b a := by decide

theorem joinClass_assoc : ∀ a < 4, ∀ b < 4, ∀ c < 4, joinClass (joinClass a b) c = joinClass a (joinClass b c) := by decide

theorem joinClass_lt : ∀ a < 4, ∀ b < 4, joinClass a b < 4 := by decide

theorem joinClass_eq_zero : ∀ a < 4, ∀ b < 4, (joinClass a b = 0 ↔ a = 0 ∧ b = 0) := by decide

theorem addPartial_eq (a b : Nat) : addPartial a b =
    if joinClass (partialClass a) (partialClass b) = 0 then unsigned 318 (signed 318 a + signed 318 b)
    else joinClass (partialClass a) (partialClass b) * 2 ^ 318 := by
  unfold addPartial joinClass partialClass
  dsimp only
  generalize bf a 318 2 = ca, bf b 318 2 = cb, 2 ^ 318 = top
  split_ifs <;> simp_all

theorem addPartial_finite {a b : Nat} (h : joinClass (partialClass a) (partialClass b) = 0) :
    addPartial a b = unsigned 318 (signed 318 a + signed 318 b) := by rw [addPartial_eq, if_pos h]

theorem addPartial_special {a b : Nat} (h : joinClass (partialClass a) (partialClass b) ≠ 0) :
    addPartial a b = joinClass (partialClass a) (partialClass b) * 2 ^ 318 := by rw [addPartial_eq, if_neg h]

theorem partialClass_addPartial (a b : Nat) : partialClass (addPartial a b) = joinClass (partialClass a) (partialClass b) := by
  by_cases h : joinClass (partialClass a) (partialClass b) = 0
  · rw [addPartial_finite h, partialClass_unsigned, h]
  · rw [addPartial_special h, partialClass_top (joinClass_lt _ (partialClass_lt a) _ (partialClass_lt b))]

theorem addPartial_comm (a b : Nat) : addPartial a b = addPartial b a := by
  simp only [addPartial_eq, joinClass_comm _ (partialClass_lt a) _ (partialClass_lt b), Int.add_comm (signed 318 a)]

/-- Both orders of three partials have one class; finite sums agree in 318 bits. -/
theorem addPartial_assoc (a b c : Nat) : addPartial (addPartial a b) c = addPartial a (addPartial b c) := by
  have hab := partialClass_addPartial a b
  have hbc := partialClass_addPartial b c
  have hclass := joinClass_assoc _ (partialClass_lt a) _ (partialClass_lt b) _ (partialClass_lt c)
  by_cases h : joinClass (joinClass (partialClass a) (partialClass b)) (partialClass c) = 0
  · have hleft : joinClass (partialClass (addPartial a b)) (partialClass c) = 0 := hab ▸ h
    have hright : joinClass (partialClass a) (partialClass (addPartial b c)) = 0 := by rw [hbc, ← hclass, h]
    obtain ⟨hab0, -⟩ := (joinClass_eq_zero _ (partialClass_lt _) _ (partialClass_lt c)).mp hleft
    obtain ⟨-, hbc0⟩ := (joinClass_eq_zero _ (partialClass_lt a) _ (partialClass_lt _)).mp hright
    rw [addPartial_finite hleft, addPartial_finite hright, addPartial_finite (hab ▸ hab0), addPartial_finite (hbc ▸ hbc0)]
    have hleftSum := (signed_unsigned_modEq 318 (signed 318 a + signed 318 b)).add_right (signed 318 c)
    have hrightSum := (signed_unsigned_modEq 318 (signed 318 b + signed 318 c)).add_left (signed 318 a)
    rw [Int.add_assoc] at hleftSum
    exact unsigned_congr (hleftSum.trans hrightSum.symm)
  · have hleft : joinClass (partialClass (addPartial a b)) (partialClass c) ≠ 0 := hab ▸ h
    have hright : joinClass (partialClass a) (partialClass (addPartial b c)) ≠ 0 := by rw [hbc, ← hclass]; exact h
    rw [addPartial_special hleft, addPartial_special hright, hab, hbc, hclass]

/-! ### Rounding a number of units that a format holds (R290) -/

theorem bitLen_le_iff (n k : Nat) : bitLen n ≤ k ↔ n < 2 ^ k := by
  unfold bitLen
  split
  · next h => simp [h]
  · next h => rw [Nat.succ_le_iff, Nat.log2_lt h]

section
variable {d m q : Nat} {sh : Int} (hm : m ≠ 0) (hq : (1 + sh).toNat ≤ q) (hlt : m < 2 ^ fpPrec d)
  (hfull : (1 + sh).toNat < q → 2 ^ (fpPrec d - 1) ≤ m)
include hm hq hlt hfull

/-- The place of the last bit kept is the place of the element's own last bit. -/
theorem lastPlace : max (bitLen (m * 2 ^ q) - fpPrec d) (1 + sh).toNat = q := by
  have hupper : bitLen (m * 2 ^ q) ≤ fpPrec d + q :=
    (bitLen_le_iff _ _).mpr (by rw [Nat.pow_add]; exact Nat.mul_lt_mul_of_pos_right hlt (Nat.two_pow_pos q))
  rcases Nat.lt_or_eq_of_le hq with hbelow | heq
  · have hp : fpPrec d ≠ 0 := by rintro h0; rw [h0] at hlt; omega
    have hlower : ¬ bitLen (m * 2 ^ q) ≤ fpPrec d - 1 + q := by
      rw [bitLen_le_iff, Nat.pow_add]
      exact Nat.not_lt.mpr (Nat.mul_le_mul_right _ (hfull hbelow))
    omega
  · omega

theorem fpRound_exact (neg : Bool) (hfin : (if m < 2 ^ (fpPrec d - 1) then 0 else ((q : Int) - sh).toNat) < fpEmax d) :
    fpRound d sh (if neg then -((m * 2 ^ q : Nat) : Int) else ((m * 2 ^ q : Nat) : Int)) =
      b2n neg * 2 ^ (fpWidth d - 1) + (if m < 2 ^ (fpPrec d - 1) then 0 else ((q : Int) - sh).toNat) * 2 ^ (fpPrec d - 1)
        + m % 2 ^ (fpPrec d - 1) := by
  have hpos : 0 < m * 2 ^ q := Nat.mul_pos (Nat.pos_of_ne_zero hm) (Nat.two_pow_pos q)
  set v : Int := if neg then -((m * 2 ^ q : Nat) : Int) else ((m * 2 ^ q : Nat) : Int) with hv
  have habs : v.natAbs = m * 2 ^ q := by cases neg <;> (simp only [hv]; omega)
  have hne : v ≠ 0 := by intro h0; rw [h0] at habs; simp at habs; omega
  have hneg : decide (v < 0) = neg := by cases neg <;> simp only [hv, decide_eq_true_eq, decide_eq_false_iff_not] <;> simp <;> omega
  unfold fpRound
  rw [if_neg hne, habs, hneg]
  dsimp only
  rw [lastPlace hm hq hlt hfull, Nat.mul_div_cancel _ (Nat.two_pow_pos q), Nat.mul_mod_left]
  have hq2 : (0 : Nat) < 2 ^ q := Nat.two_pow_pos q
  simp [hq2.ne, hlt.ne, Nat.not_le.mpr hfin]

end

/-! ### An element's fields (R290) -/

/-- The formats whose elements become partials: FP32, BF16 and FP16. -/
def IsPartialType (d : Nat) : Prop := d = 5 ∨ d = 6 ∨ d = 7

/-- The significand of a finite element, and the place of its last bit in units. -/
def fpSig (d x : Nat) : Nat := if fpExp d x = 0 then fpFrac d x else fpFrac d x + 2 ^ (fpPrec d - 1)
def fpPlace (d x : Nat) : Nat := (((max (fpExp d x) 1 : Nat) : Int) + fpShift d).toNat

theorem fpUnits_eq (d x : Nat) : fpUnits d (fpShift d) x =
    if fpSign d x then -((fpSig d x * 2 ^ fpPlace d x : Nat) : Int) else ((fpSig d x * 2 ^ fpPlace d x : Nat) : Int) := rfl

theorem fpFrac_lt (d x : Nat) : fpFrac d x < 2 ^ (fpPrec d - 1) := Nat.mod_lt _ (Nat.two_pow_pos _)

theorem fpExp_le (d x : Nat) : fpExp d x ≤ fpEmax d := Nat.le_sub_one_of_lt (Nat.mod_lt _ (Nat.two_pow_pos _))

section
variable {d x : Nat} (hd : IsPartialType d)
include hd

/-- An element is its sign, its exponent and its fraction. -/
theorem element_eq (hx : x < 2 ^ fpWidth d) :
    x = b2n (fpSign d x) * 2 ^ (fpWidth d - 1) + fpExp d x * 2 ^ (fpPrec d - 1) + fpFrac d x := by
  have hsign : b2n (fpSign d x) = bf x (fpWidth d - 1) 1 := by
    have hbit : bf x (fpWidth d - 1) 1 < 2 := Nat.mod_lt _ (by decide)
    unfold fpSign bitAt b2n
    generalize bf x (fpWidth d - 1) 1 = b at hbit
    interval_cases b <;> rfl
  rw [hsign]
  rcases hd with rfl | rfl | rfl <;>
  · simp only [fpExp, fpFrac, fpWidth, fpPrec, fpEbits, dtSize, bf] at hx ⊢
    omega

theorem fpPrec_pos : fpPrec d = fpPrec d - 1 + 1 := by rcases hd with rfl | rfl | rfl <;> rfl

theorem fpSig_lt : fpSig d x < 2 ^ fpPrec d := by
  have hf := fpFrac_lt d x
  have hpow : 2 ^ fpPrec d = 2 * 2 ^ (fpPrec d - 1) := by
    conv_lhs => rw [fpPrec_pos hd, Nat.pow_succ']
  unfold fpSig
  split <;> omega

omit hd in
theorem fpSig_lt_iff : fpSig d x < 2 ^ (fpPrec d - 1) ↔ fpExp d x = 0 := by
  have hf := fpFrac_lt d x
  unfold fpSig
  split <;> omega

theorem fpPlace_sub : ((fpPlace d x : Int) - fpShift d).toNat = max (fpExp d x) 1 := by
  unfold fpPlace
  rcases hd with rfl | rfl | rfl <;> simp only [fpShift] <;> omega

theorem first_le_fpPlace : (1 + fpShift d).toNat ≤ fpPlace d x := by
  unfold fpPlace
  rcases hd with rfl | rfl | rfl <;> simp only [fpShift] <;> omega

omit hd in
theorem fpExp_pos_of_fpPlace (h : (1 + fpShift d).toNat < fpPlace d x) : fpExp d x ≠ 0 := by
  rintro h0
  simp [fpPlace, h0] at h

/-- The number of units of a finite element fits a partial. -/
theorem fpUnits_fits (hfin : fpExp d x < fpEmax d) : fpSig d x * 2 ^ fpPlace d x < 2 ^ 317 := by
  have hsig := fpSig_lt (x := x) hd
  have hplace : fpPrec d + fpPlace d x ≤ 317 := by
    unfold fpPlace
    rcases hd with rfl | rfl | rfl <;> simp only [fpShift, fpPrec, fpEmax, fpEbits] at hfin ⊢ <;> omega
  calc fpSig d x * 2 ^ fpPlace d x < 2 ^ fpPrec d * 2 ^ fpPlace d x := Nat.mul_lt_mul_of_pos_right hsig (Nat.two_pow_pos _)
    _ = 2 ^ (fpPrec d + fpPlace d x) := (Nat.pow_add ..).symm
    _ ≤ 2 ^ 317 := Nat.pow_le_pow_right (by decide) hplace

/-- The units of a finite element round to the element, but for minus zero, whose units are those of zero. -/
theorem fpRound_fpUnits (hx : x < 2 ^ fpWidth d) (hzero : x ≠ 2 ^ (fpWidth d - 1)) (hfin : fpExp d x < fpEmax d) :
    fpRound d (fpShift d) (fpUnits d (fpShift d) x) = x := by
  have hsplit := element_eq hd hx
  rw [fpUnits_eq]
  by_cases hsig : fpSig d x = 0
  · have hexp : fpExp d x = 0 := (fpSig_lt_iff).mp (by rw [hsig]; exact Nat.two_pow_pos _)
    have hfrac : fpFrac d x = 0 := by simpa [fpSig, hexp] using hsig
    have hsign : fpSign d x = false := by
      cases hs : fpSign d x
      · rfl
      · rw [hs, hexp, hfrac] at hsplit
        simp [b2n] at hsplit
        exact absurd hsplit hzero
    rw [hsign, hexp, hfrac] at hsplit
    simp [hsig, fpRound, b2n] at hsplit ⊢
    exact hsplit.symm
  · have hfull (h : (1 + fpShift d).toNat < fpPlace d x) : 2 ^ (fpPrec d - 1) ≤ fpSig d x :=
      Nat.le_of_not_lt (mt (fpSig_lt_iff).mp (fpExp_pos_of_fpPlace h))
    have hexp : (if fpSig d x < 2 ^ (fpPrec d - 1) then 0 else ((fpPlace d x : Int) - fpShift d).toNat) = fpExp d x := by
      rw [fpPlace_sub hd]
      split
      · next h => exact ((fpSig_lt_iff).mp h).symm
      · next h => have := mt (fpSig_lt_iff).mpr h; omega
    have hfrac : fpSig d x % 2 ^ (fpPrec d - 1) = fpFrac d x := by
      unfold fpSig
      split
      · exact Nat.mod_eq_of_lt (fpFrac_lt d x)
      · rw [Nat.add_mod_right]; exact Nat.mod_eq_of_lt (fpFrac_lt d x)
    rw [fpRound_exact hsig (first_le_fpPlace hd) (fpSig_lt hd) hfull (fpSign d x) (hexp ▸ hfin), hexp, hfrac]
    exact hsplit.symm

/-! ### There and back (R290) -/

theorem isInf_eq (hx : x < 2 ^ fpWidth d) (h : isInf d x = true) : x = fpInf d (fpSign d x) := by
  have hsplit := element_eq hd hx
  obtain ⟨hexp, hfrac⟩ : fpExp d x = fpEmax d ∧ fpFrac d x = 0 := by simpa [isInf] using h
  rw [hexp, hfrac] at hsplit
  exact hsplit

end

theorem roundPartial_finite (d : Nat) {a : Nat} (h : partialClass a = 0) : roundPartial d a = fpRound d (fpShift d) (signed 318 a) := by
  unfold roundPartial
  rw [show bf a 318 2 = 0 from h]
  rfl

theorem roundPartial_special (d : Nat) {c : Nat} (hc : c < 4) (h0 : c ≠ 0) :
    roundPartial d (c * 2 ^ 318) = if c = 3 then fpNaN d else fpInf d (c == 2) := by
  unfold roundPartial
  rw [show bf (c * 2 ^ 318) 318 2 = c from partialClass_top hc]
  obtain rfl | rfl | rfl : c = 1 ∨ c = 2 ∨ c = 3 := by omega
  all_goals rfl

theorem roundPartial_nan {d x : Nat} (h : isNaN d x = true) : roundPartial d (toPartial d x) = fpNaN d := by
  have hto : toPartial d x = 3 * 2 ^ 318 := if_pos h
  rw [hto]
  exact roundPartial_special d (c := 3) (by decide) (by decide)

/-- An element that is no NaN and not minus zero comes back. -/
theorem roundPartial_toPartial {d x : Nat} (hd : IsPartialType d) (hx : x < 2 ^ fpWidth d) (hnan : isNaN d x = false)
    (hzero : x ≠ 2 ^ (fpWidth d - 1)) : roundPartial d (toPartial d x) = x := by
  by_cases hinf : isInf d x = true
  · have hto : toPartial d x = (if fpSign d x then 2 else 1) * 2 ^ 318 := (if_neg (by simp [hnan])).trans (if_pos hinf)
    rw [hto]
    cases hs : fpSign d x
    · exact (roundPartial_special d (c := 1) (by decide) (by decide)).trans (hs ▸ isInf_eq hd hx hinf).symm
    · exact (roundPartial_special d (c := 2) (by decide) (by decide)).trans (hs ▸ isInf_eq hd hx hinf).symm
  · have hfin : fpExp d x < fpEmax d := by
      have hle := fpExp_le d x
      simp only [isNaN, isInf, Bool.and_eq_false_iff, Bool.not_eq_true, beq_eq_false_iff_ne, bne_eq_false_iff_eq] at hnan hinf
      omega
    have hto : toPartial d x = unsigned 318 (fpUnits d (fpShift d) x) := (if_neg (by simp [hnan])).trans (if_neg hinf)
    have hfits := fpUnits_fits hd hfin
    have hback : signed 318 (unsigned 318 (fpUnits d (fpShift d) x)) = fpUnits d (fpShift d) x := by
      refine signed_unsigned ?_ ?_ <;> rw [fpUnits_eq] <;> split <;> omega
    rw [hto, roundPartial_finite d (partialClass_unsigned _), hback]
    exact fpRound_fpUnits hd hx hzero hfin

/-! ### NaN among the elements of an operator (R286) -/

theorem combine_nan {d op a b : Nat} (hd : 4 ≤ d) (hop : op ≤ 2) (h : isNaN d a = true ∨ isNaN d b = true) : combine d op a b = fpNaN d := by
  have hnan : (isNaN d a || isNaN d b) = true := by simpa using h
  interval_cases op <;> simp [combine, fpAdd, hd, hnan]

/-- Settles O48. Partials join their classes and add in 318 bits; an element's units round to the element, because its last
place is the last place the format keeps. -/
theorem exactSumsAnyOrder : Obligations.ExactSumsAnyOrder := by
  refine ⟨fun a b c => ⟨addPartial_comm a b, addPartial_assoc a b c⟩, fun a b ha hb hlo hhi => ?_, fun d x hd hx => ⟨roundPartial_nan, ?_⟩,
    fun d op a b h4 _ hop h => combine_nan h4 hop h, rfl, rfl, rfl, rfl⟩
  · have hclass : joinClass (partialClass a) (partialClass b) = 0 := by rw [partialClass, partialClass, ha, hb]; rfl
    rw [addPartial_finite hclass]
    exact ⟨signed_unsigned (by push_cast; exact hlo) (by push_cast; exact hhi), partialClass_unsigned _⟩
  · exact roundPartial_toPartial hd hx

end Sys2Proof.Machine
end

section
/-! SUPPORT. Collective packets, breaks and keepalives (R278, R296 to R303): what giving back a packet's bytes leaves of the
state, what each step of a break changes, and the proof of CollectivePacketsArrive. -/

namespace Sys2Proof.Machine

/-! ### Folds -/

/-- A part of the state that no round of a fold changes. -/
theorem foldl_field {α β γ : Type} (f : β → γ) {g : β → α → β} (h : ∀ b a, f (g b a) = f b) (l : List α) (b : β) :
    f (l.foldl g b) = f b := by
  induction l generalizing b with
  | nil => rfl
  | cons a l ih => exact (ih _).trans (h b a)

theorem Tbl.mem_of_get? {α : Type} {t : Tbl α} {k : Nat} {v : α} (h : Tbl.get? t k = some v) : (k, v) ∈ t := by
  induction t with
  | nil => simp [Tbl.get?] at h
  | cons e r ih =>
    obtain ⟨j, u⟩ := e
    by_cases hj : j = k
    · simp [Tbl.get?, hj] at h
      simp [hj, h]
    · simp only [Tbl.get?, hj, if_false] at h
      exact List.mem_cons_of_mem _ (ih h)

/-! ### Giving back a packet's bytes (R126, R127, R161) -/

/-- `u` differs from `s` in the links, the port tiles and the outputs alone. -/
def State.Freed (s u : State) : Prop := u = { s with links := u.links, pts := u.pts, out := u.out }

namespace State.Freed

theorem refl (s : State) : s.Freed s := rfl

theorem trans {s u w : State} (h : s.Freed u) (k : u.Freed w) : s.Freed w := by
  unfold State.Freed at h k ⊢
  exact k.trans (by rw [h])

theorem foldl {α : Type} {g : State → α → State} (h : ∀ (s : State) a, s.Freed (g s a)) (l : List α) (s : State) : s.Freed (l.foldl g s) := by
  induction l generalizing s with
  | nil => exact refl s
  | cons a l ih => exact (h s a).trans (ih _)

theorem modLink (s : State) (p : Nat) (g : Link → Link) : s.Freed (s.modLink p g) := rfl

theorem modPt (s : State) (n : Nat) (g : PtTile → PtTile) : s.Freed (s.modPt n g) := rfl

theorem fcWatch (s : State) (p : Nat) : s.Freed (s.fcWatch p) := by
  unfold State.fcWatch
  dsimp only
  split <;> rfl

theorem leaves (s : State) (q : QPkt) (v : Nat) : s.Freed (s.leaves q v) := by
  have watch (t : State) (n : Nat) : t.Freed (t.throttleWatch n) := by
    unfold State.throttleWatch
    split <;> rfl
  refine .trans ?_ (watch _ _)
  split
  · exact (modLink s _ _).trans (fcWatch _ _)
  · exact refl s

end State.Freed

/-- What a collective packet's removal leaves: the queue without it, and its bytes given back. -/
theorem State.Freed.portq {s u : State} (h : s.Freed u) (p : Nat) : u.portq p = s.portq p := by
  rw [h]; rfl

/-! ### The packet at the head of a port (R296, R300) -/

section
variable {s : State} {p : Nat} {q : QPkt} {rest : List QPkt}

theorem State.collTake_head (hq : (s.portq p).coll = q :: rest) (hs : s.faults.checkstop = false) {is_ : Packet → Bool}
    (hi : is_ q.pkt = true) (go : State → Packet → State) : s.collTake p is_ go = go ((s.collPop p).leaves q q.vc) q.pkt := by
  simp [State.collTake, hq, hs, hi]

theorem State.collPop_coll (hq : (s.portq p).coll = q :: rest) : ((s.collPop p).portq p).coll = rest := by
  simp [State.collPop, hq]

end

/-! ### Trees that take no packet (R298, R300) -/

section
variable {s : State} (p : Nat) {k : Packet}

theorem State.take_stale (h : (s.tree (kTree k)).installed = false ∨ kInst k ≠ tInst (s.tree (kTree k)).entry.toNat) :
    s.takeCup p k = s.collCount 11 ∧ s.takeCdn p k = s.collCount 11 ∧ s.takeAbort p k = s := by
  have hc : !(s.tree (kTree k)).installed ∨ kInst k ≠ tInst (s.tree (kTree k)).entry.toNat := by simpa using h
  exact ⟨if_pos hc, if_pos hc, if_pos (hc.imp id .inl)⟩

variable (hin : (s.tree (kTree k)).installed = true) (hinst : kInst k = tInst (s.tree (kTree k)).entry.toNat)
include hin hinst

theorem State.take_broken (hb : (s.tree (kTree k)).broken = true) : s.takeCup p k = s ∧ s.takeCdn p k = s ∧ s.takeAbort p k = s := by
  simp [State.takeCup, State.takeCdn, State.takeAbort, hin, hinst, hb]

variable (hb : (s.tree (kTree k)).broken = false)
include hb

theorem State.takeCup_protocol (h : 2 < kCtype k ∨ tChild (s.tree (kTree k)).entry.toNat p = false) :
    s.takeCup p k = (s.collCount 12).breakTree (kTree k) 0x0A40 none (some p) := by
  simp [State.takeCup, hin, hinst, hb, h]

theorem State.takeCdn_protocol (h : 2 < kCtype k ∨ tRoot (s.tree (kTree k)).entry.toNat = true ∨ p ≠ tParent (s.tree (kTree k)).entry.toNat) :
    s.takeCdn p k = (s.collCount 12).breakTree (kTree k) 0x0A40 none (some p) := by
  simp [State.takeCdn, hin, hinst, hb, h]

theorem State.takeAbort_edge (h : k.kind = kindCup ∧ tChild (s.tree (kTree k)).entry.toNat p = true ∨
      k.kind = kindCdn ∧ tRoot (s.tree (kTree k)).entry.toNat = false ∧ p = tParent (s.tree (kTree k)).entry.toNat) :
    s.takeAbort p k = (s.collCount 9).breakTree (kTree k) 0x0A70 (some p) := by
  have edge : ((k.kind == kindCup) = true ∧ tChild (s.tree (kTree k)).entry.toNat p) ∨
      (!(k.kind == kindCup) ∧ !tRoot (s.tree (kTree k)).entry.toNat ∧ p = tParent (s.tree (kTree k)).entry.toNat) := by
    rcases h with ⟨hk, hc⟩ | ⟨hk, hr, hp⟩
    · exact .inl ⟨by simp [hk], hc⟩
    · exact .inr ⟨by simp [hk, kindCdn, kindCup], by simp [hr], hp⟩
  have live : ¬ ((!(s.tree (kTree k)).installed) = true ∨ kInst k ≠ tInst (s.tree (kTree k)).entry.toNat ∨ (s.tree (kTree k)).broken = true) := by
    simp [hin, hinst, hb]
  unfold State.takeAbort
  dsimp only
  rw [if_neg live, if_pos edge]

end

/-! ### What a break closes (R298) -/

/-- An entry finished is the same entry, and met. -/
theorem Entry.finish_same (e : Entry) (st : Nat) : (e.finish st).idx = e.idx ∧ (e.finish st).words = e.words ∧ (e.finish st).op = e.op ∧
    (e.finish st).open = false := by
  unfold Entry.finish
  split
  · next h => exact ⟨rfl, rfl, rfl, by simp [Entry.open, h]⟩
  · next h => exact ⟨rfl, rfl, rfl, by simp [Entry.open, h]⟩
  · exact ⟨rfl, rfl, rfl, rfl⟩

/-- Of the entries that stay open when the listed ones are finished, each was there and is none of those. -/
theorem State.open_of_finishAll (l : List (Nat × Nat × Entry)) (s : State) {f c : Nat} {x : Entry}
    (hx : x ∈ ((l.foldl (fun s e => s.modEntry e.1 e.2.1 e.2.2.idx (fun y => y.finish stTreeBroken)) s).ctx f c).w.entries)
    (ho : x.open = true) : x ∈ (s.ctx f c).w.entries ∧ ∀ e ∈ l, ckey e.1 e.2.1 = ckey f c → e.2.2.idx ≠ x.idx := by
  induction l generalizing s with
  | nil => exact ⟨hx, by simp⟩
  | cons e l ih =>
    obtain ⟨hmem, hrest⟩ := ih _ hx
    change x ∈ ((s.modEntry e.1 e.2.1 e.2.2.idx (fun y => y.finish stTreeBroken)).ctx f c).w.entries at hmem
    by_cases hk : ckey f c = ckey e.1 e.2.1
    · have hctx (s : State) : s.ctx f c = s.ctx e.1 e.2.1 := by simp [State.ctx, hk]
      rw [hctx, State.modEntry, State.modW_ctx] at hmem
      obtain ⟨y, hy, rfl⟩ := List.mem_map.mp hmem
      by_cases hi : y.idx = e.2.2.idx
      · have hclosed := (y.finish_same stTreeBroken).2.2.2
        rw [if_pos hi] at ho
        exact absurd ho (by simp [hclosed])
      · rw [if_neg hi] at ho hrest ⊢
        rw [hctx s]
        refine ⟨hy, fun d hd => ?_⟩
        rcases List.mem_cons.mp hd with rfl | hd
        · exact fun _ h => hi h.symm
        · exact hrest d hd
    · rw [State.modEntry, State.modW, State.modCtx_ctx_other _ _ hk] at hmem
      refine ⟨hmem, fun d hd => ?_⟩
      rcases List.mem_cons.mp hd with rfl | hd
      · exact fun h => absurd h.symm hk
      · exact hrest d hd

/-- The entries of a tree's members whose operation is not complete here. -/
def State.cutEntries (s : State) (t : Nat) : List (Nat × Nat × Entry) := (s.collEntries t).filter (fun e => !(e.2.2.op.any (s.opOver t)))

theorem State.mem_cutEntries {s : State} {t f c n : Nat} {x : Entry} (hx : x ∈ (s.ctx f c).w.entries) (hcode : wOpcode x.words.toNat = opCollective)
    (htree : wTree x.words.toNat = t) (hop : x.op = some n) (hover : s.opOver t n = false) (ho : x.open = true) :
    (ckey f c / 2 ^ 20, ckey f c % 2 ^ 20, x) ∈ s.cutEntries t := by
  cases hget : Tbl.get? s.ctxs (ckey f c) with
  | none => simp [State.ctx, Tbl.getD, hget] at hx
  | some a =>
    have ha : s.ctx f c = a := by simp [State.ctx, Tbl.getD, hget]
    rw [ha] at hx
    have hlisted : (ckey f c / 2 ^ 20, ckey f c % 2 ^ 20, x) ∈ s.collEntries t :=
      List.mem_flatMap.mpr ⟨_, Tbl.mem_of_get? hget, List.mem_map.mpr ⟨x, List.mem_filter.mpr ⟨hx, by simp [hcode, htree, ho, hop]⟩, rfl⟩⟩
    exact List.mem_filter.mpr ⟨hlisted, by simp [hop, hover]⟩

/-- What a break does here, before its ABORTs leave: the entries and the operations end, and the tree and its fault say so. -/
def State.breakHere (s : State) (t code : Nat) (port fn : Option Nat) : State :=
  let s1 := (s.cutEntries t).foldl (fun s e => s.modEntry e.1 e.2.1 e.2.2.idx (fun y => y.finish stTreeBroken)) s
  let s2 := (s.tree t).ops.foldl (fun s o => if o.complete then s else s.collCount 2) s1
  let s3 := s2.modTree t (fun y => { y with broken := true, breakCode := code, ops := [] })
  (if code = 0x0A70 then s3 else s3.collCount 10).breakFault t code port fn

section
variable {s : State} {t : Nat} (code : Nat) (arr port fn : Option Nat)

theorem State.breakTree_live (hin : (s.tree t).installed = true) (hb : (s.tree t).broken = false) : s.breakTree t code arr port fn =
    ((tEdges (s.tree t).entry.toNat).filter (fun p => arr != some p)).foldl (fun x p =>
        (x.sendColl (treeHome t (s.tree t).entry.toNat) p (!tRoot (s.tree t).entry.toNat && p == tParent (s.tree t).entry.toNat)
          (collHdr 1 t (s.tree t).oldest 0 0 0 false false 0 (tInst (s.tree t).entry.toNat) 0 0) []).collCount 8) (s.breakHere t code port fn) :=
  if_neg (by simp [hin, hb])

theorem State.breakTree_dead (h : (s.tree t).installed = false ∨ (s.tree t).broken = true) : s.breakTree t code arr port fn = s :=
  if_pos (by simpa using h)

variable (s t)

theorem State.finishAll_frame (l : List (Nat × Nat × Entry)) (s : State) : ∃ x,
    l.foldl (fun s e => s.modEntry e.1 e.2.1 e.2.2.idx (fun y => y.finish stTreeBroken)) s = { s with ctxs := x } := by
  induction l generalizing s with
  | nil => exact ⟨s.ctxs, rfl⟩
  | cons e l ih =>
    obtain ⟨x, hx⟩ := ih (s.modEntry e.1 e.2.1 e.2.2.idx (fun y => y.finish stTreeBroken))
    exact ⟨x, hx⟩

theorem State.countOps_frame (l : List CollOp) (s : State) : ∃ x,
    l.foldl (fun s o => if o.complete then s else s.collCount 2) s = { s with collCounts := x } := by
  induction l generalizing s with
  | nil => exact ⟨s.collCounts, rfl⟩
  | cons o l ih =>
    obtain ⟨x, hx⟩ := ih (if o.complete then s else s.collCount 2)
    refine ⟨x, hx.trans ?_⟩
    split <;> rfl

/-- The faults that a break sends (R303). -/
def breakFaults (home t code : Nat) (port fn : Option Nat) : List FaultReport :=
  if code = 0x0A10 ∨ code = 0x0A20 ∨ code = 0x0A40 then [{ code := code, cls := deferred, tile := home, info := collInfo t port }]
  else if code = 0x0A30 then [{ code := code, cls := corrected, tile := home, fn := fn, info := collInfo t none }] else []

theorem State.breakFault_eq (s : State) (t code : Nat) (port fn : Option Nat) : s.breakFault t code port fn =
    { s with faults := { s.faults with
      coming := s.faults.coming ++ breakFaults (treeHome t (s.tree t).entry.toNat) t code port fn } } := by
  unfold State.breakFault breakFaults
  dsimp only
  split
  · rfl
  · split
    · rfl
    · simp

theorem State.breakHere_eq : ∃ ctxs counts, s.breakHere t code port fn = { s with
      ctxs := ctxs, collCounts := counts
      trees := Tbl.put s.trees t { s.tree t with broken := true, breakCode := code, ops := [] }
      faults := { s.faults with coming := s.faults.coming ++ breakFaults (treeHome t (s.tree t).entry.toNat) t code port fn } } ∧
    ((s.cutEntries t).foldl (fun s e => s.modEntry e.1 e.2.1 e.2.2.idx (fun y => y.finish stTreeBroken)) s).ctxs = ctxs := by
  obtain ⟨ctxs, hctxs⟩ := s.finishAll_frame (s.cutEntries t)
  obtain ⟨counts, hcounts⟩ := State.countOps_frame (s.tree t).ops { s with ctxs := ctxs }
  unfold State.breakHere
  dsimp only
  rw [State.breakFault_eq, hctxs, hcounts]
  split
  · exact ⟨ctxs, counts, by simp [State.modTree, State.tree], rfl⟩
  · exact ⟨ctxs, bump counts 10 1, by simp [State.modTree, State.tree, State.collCount], rfl⟩

end

/-! ### Packets that the unit sends (R287, R429) -/

/-- A packet that the unit of port tile n sends on a port. -/
def State.collQ (s : State) (p : Nat) (up : Bool) (ext : Nat) (bytes : List Byte) : QPkt :=
  { pkt := s.collPacket p up ext bytes, vc := if up then 6 else 7, ingress := 72, arr := s.now }

section
variable (s : State) {n p : Nat} (up : Bool) (ext : Nat) (bytes : List Byte)

/-- On a port of its own tile: the packet joins the port's egress queue, and nothing else but queues' depths changes. -/
theorem State.sendColl_own (h : n = ptOf p) :
    ((s.sendColl n p up ext bytes).portq p).egress = (s.portq p).egress ++ [s.collQ p up ext bytes] ∧
    (∀ j, j ≠ p → (s.sendColl n p up ext bytes).portq j = s.portq j) ∧
    s.sendColl n p up ext bytes = { s with portqs := (s.sendColl n p up ext bytes).portqs } := by
  have hsend : s.sendColl n p up ext bytes =
      (s.modPortq p (fun x => x.enqueue (s.collQ p up ext bytes))).noteDepth p (if up then 6 else 7) := by
    simp [State.sendColl, State.queueAt, h, State.collQ]
  rw [hsend]
  refine ⟨?_, fun j hj => ?_, rfl⟩
  · simp [State.noteDepth, PortQ.enqueue]
  · simp [State.noteDepth, State.modPortq_portq_other _ _ hj]

theorem State.sendColl_other (h : n ≠ ptOf p) : s.sendColl n p up ext bytes =
    (s.offer n (ptOf p) (p % 8) (.egress p (s.collQ p up ext bytes))).noteDepth p (if up then 6 else 7) := by
  simp [State.sendColl, State.queueAt, h, State.collQ]

theorem State.sendColl_trees (n p : Nat) : (s.sendColl n p up ext bytes).trees = s.trees := by
  by_cases h : n = ptOf p
  · obtain ⟨-, -, hframe⟩ := s.sendColl_own up ext bytes h
    rw [hframe]
  · rw [s.sendColl_other up ext bytes h, State.noteDepth, State.offer_frame]
    rfl

end

/-! ### Breaks and the trees (R280, R298) -/

theorem State.breakTree_trees {s : State} {t : Nat} (code : Nat) (arr port fn : Option Nat) (hin : (s.tree t).installed = true)
    (hb : (s.tree t).broken = false) : (s.breakTree t code arr port fn).trees =
      Tbl.put s.trees t { s.tree t with broken := true, breakCode := code, ops := [] } := by
  obtain ⟨ctxs, counts, hhere, -⟩ := s.breakHere_eq t code port fn
  rw [State.breakTree_live code arr port fn hin hb]
  refine (foldl_field State.trees (fun u p => ?_) _ _).trans (congrArg State.trees hhere)
  exact u.sendColl_trees ..

theorem State.breakTree_tree_other {j t : Nat} (h : j ≠ t) (s : State) (code : Nat) (arr port fn : Option Nat) :
    (s.breakTree t code arr port fn).tree j = s.tree j := by
  by_cases hlive : (s.tree t).installed = true ∧ (s.tree t).broken = false
  · rw [State.tree, State.breakTree_trees code arr port fn hlive.1 hlive.2, Tbl.getD_put_other _ _ _ h]
    rfl
  · rw [State.breakTree_dead code arr port fn (by simpa [or_iff_not_imp_left] using hlive)]

/-! ### Keepalives (R297) -/

/-- A KEEPALIVE on a port, up or down. -/
def State.keepalive (up : Bool) (s : State) (p : Nat) : State :=
  (s.sendColl (ptOf p) p up (collHdr 2 0 0 0 0 0 false false 0 0 0 0) []).collCount 6

theorem keepalive_header : bf (collHdr 2 0 0 0 0 0 false false 0 0 0 0) 0 4 = 2 ∧ bf (collHdr 2 0 0 0 0 0 false false 0 0 0 0) 4 12 = 0 := by
  decide

theorem State.keepalives_eq (s : State) : s.keepalives = s.childPorts.foldl (State.keepalive false) (s.parentPorts.foldl (State.keepalive true) s) := rfl

theorem State.keepalive_eq (up : Bool) (s : State) (p : Nat) : ∃ x q,
    s.keepalive up p = { s with portqs := x, collCounts := bump s.collCounts 6 1 } ∧
    ((s.keepalive up p).portq p).egress = (s.portq p).egress ++ [q] ∧ (∀ j, j ≠ p → (s.keepalive up p).portq j = s.portq j) ∧
    kCtype q.pkt = 2 ∧ kTree q.pkt = 0 ∧ q.vc = if up then 6 else 7 := by
  obtain ⟨hsent, hother, hframe⟩ := s.sendColl_own up (collHdr 2 0 0 0 0 0 false false 0 0 0 0) [] (rfl : ptOf p = ptOf p)
  have hcount := congrArg (State.collCount · 6) hframe
  exact ⟨_, _, hcount, hsent, hother, keepalive_header.1, keepalive_header.2, rfl⟩

/-- `m` is what KEEPALIVEs of one virtual channel to the listed ports put behind port p's queue. -/
def KeepQ (l : List Nat) (v p : Nat) (m : List QPkt) : Prop :=
  (∀ q ∈ m, kCtype q.pkt = 2 ∧ kTree q.pkt = 0) ∧ m.map (·.vc) = if p ∈ l then [v] else []

/-- After a KEEPALIVE on each of some ports. -/
theorem State.foldl_keepalive (up : Bool) {l : List Nat} (hl : l.Nodup) (s : State) :
    (∃ x y, l.foldl (State.keepalive up) s = { s with portqs := x, collCounts := y }) ∧
    ∀ p, ∃ m, ((l.foldl (State.keepalive up) s).portq p).egress = (s.portq p).egress ++ m ∧ KeepQ l (if up then 6 else 7) p m := by
  induction l generalizing s with
  | nil => exact ⟨⟨s.portqs, s.collCounts, rfl⟩, fun p => ⟨[], by simp [KeepQ]⟩⟩
  | cons a l ih =>
    obtain ⟨ha, hl⟩ := List.nodup_cons.mp hl
    obtain ⟨z, q, hframe, hsent, hother, htype, htree, hvc⟩ := s.keepalive_eq up a
    obtain ⟨⟨x, y, hrest⟩, hq⟩ := ih hl (s.keepalive up a)
    refine ⟨⟨x, y, hrest.trans (by rw [hframe])⟩, fun p => ?_⟩
    obtain ⟨m, hm, hk, hv⟩ := hq p
    by_cases hp : p = a
    · subst hp
      refine ⟨q :: m, ?_, ?_, ?_⟩
      · rw [List.foldl_cons, hm, hsent, List.append_assoc, List.singleton_append]
      · exact List.forall_mem_cons.mpr ⟨⟨htype, htree⟩, hk⟩
      · rw [if_neg ha] at hv
        simp [hv, hvc]
    · refine ⟨m, ?_, hk, ?_⟩
      · rw [List.foldl_cons, hm, hother p hp]
      · simpa [hp] using hv

/-- All of a tick's KEEPALIVEs. -/
theorem State.keepalives_spec (s : State) : (∃ x y, s.keepalives = { s with portqs := x, collCounts := y }) ∧
    ∀ p, ∃ l, (s.keepalives.portq p).egress = (s.portq p).egress ++ l ∧ (∀ q ∈ l, kCtype q.pkt = 2 ∧ kTree q.pkt = 0) ∧
      l.map (·.vc) = (if p ∈ s.parentPorts then [6] else []) ++ (if p ∈ s.childPorts then [7] else []) := by
  have ports (f : Nat → Bool) : ((List.range 64).filter f).Nodup := List.nodup_range.filter _
  obtain ⟨⟨x, y, hup⟩, hqup⟩ := State.foldl_keepalive true (l := s.parentPorts) (ports _) s
  obtain ⟨⟨z, w, hdown⟩, hqdown⟩ := State.foldl_keepalive false (l := s.childPorts) (ports _) (s.parentPorts.foldl (State.keepalive true) s)
  rw [State.keepalives_eq]
  refine ⟨⟨z, w, hdown.trans (by rw [hup])⟩, fun p => ?_⟩
  obtain ⟨m, hm, hk, hv⟩ := hqup p
  obtain ⟨n, hn, hj, hu⟩ := hqdown p
  refine ⟨m ++ n, by rw [hn, hm, List.append_assoc], fun q hq => (List.mem_append.mp hq).elim (hk q) (hj q), ?_⟩
  rw [List.map_append, hv, hu]
  rfl

/-! ### Assembly -/

theorem State.collHead_taken {s : State} {p : Nat} {q : QPkt} {rest : List QPkt} (hq : (s.portq p).coll = q :: rest) (hs : s.faults.checkstop = false) :
    ∃ u : State, (u.portq p).coll = rest ∧ (∀ j, j ≠ p → u.portq j = s.portq j) ∧
      u = { s with portqs := u.portqs, links := u.links, pts := u.pts, out := u.out } ∧
      (q.pkt.kind = kindCup → kCtype q.pkt ≠ 1 → kCtype q.pkt ≠ 2 → exec (.cupRx p) s = .next (u.takeCup p q.pkt)) ∧
      (q.pkt.kind = kindCdn → kCtype q.pkt ≠ 1 → kCtype q.pkt ≠ 2 → exec (.cdnRx p) s = .next (u.takeCdn p q.pkt)) ∧
      (kCtype q.pkt = 1 → exec (.collAbortRx p) s = .next (u.takeAbort p q.pkt)) ∧
      (kCtype q.pkt = 2 → exec (.keepaliveRx p) s = .next { u with collCounts := bump s.collCounts 7 1 }) := by
  have hfree := State.Freed.leaves (s.collPop p) q q.vc
  have data (is_ : Packet → Bool) (hi : is_ q.pkt = true) (go : State → Packet → State) := State.collTake_head hq hs hi go
  refine ⟨(s.collPop p).leaves q q.vc, ?_, fun j hj => ?_, ?_, fun hk h1 h2 => ?_, fun hk h1 h2 => ?_, fun h => ?_, fun h => ?_⟩
  · rw [hfree.portq]
    exact State.collPop_coll hq
  · rw [hfree.portq]
    exact s.modPortq_portq_other _ hj
  · rw [hfree]
    rfl
  · exact congrArg Host.Outcome.next (data _ (by simp [hk, isCollData, h1, h2]) _)
  · exact congrArg Host.Outcome.next (data _ (by simp [hk, isCollData, h1, h2]) _)
  · exact congrArg Host.Outcome.next (data _ (by simp [h]) _)
  · refine congrArg Host.Outcome.next ((data _ (by simp [h]) _).trans ?_)
    rw [hfree]
    rfl

theorem breakFaults_none {code : Nat} (h : code = 0x0A60 ∨ code = 0x0A70 ∨ code = 0x0A80) (home t : Nat) (port fn : Option Nat) :
    breakFaults home t code port fn = [] := by
  rcases h with rfl | rfl | rfl <;> rfl

/-- Settles O47: who takes a port's head, what stops it, the ticks' KEEPALIVEs, and a break as its own part and its ABORTs. -/
theorem collectivePacketsArrive : Obligations.CollectivePacketsArrive := by
  refine ⟨⟨fun p q rest s hq hs => State.collHead_taken hq hs, fun p k s => ⟨State.take_stale p, State.take_broken p, fun hin hinst hb =>
      ⟨State.takeCup_protocol p hin hinst hb, State.takeCdn_protocol p hin hinst hb, State.takeAbort_edge p hin hinst hb⟩⟩,
    fun s hrun hstop hdue => ?due, fun s h => ?notDue, fun p s => ⟨fun hrun hs hedge hdue => ?silent, fun h => ?notSilent⟩⟩,
    fun t code arr port fn s hin hb => ?broken, fun n p ext up bytes s => ⟨s.sendColl_own up ext bytes, s.sendColl_other up ext bytes⟩,
    fun t code arr port fn s h => State.breakTree_dead code arr port fn h, fun t s => ?uninstall⟩
  case due =>
    obtain ⟨⟨x, y, hframe⟩, hq⟩ := s.keepalives_spec
    refine ⟨{ s.keepalives with keepAt := s.now }, ?_, rfl, hq, ?_⟩
    · exact congrArg Host.Outcome.next (if_pos ⟨hrun, by simp [hstop], hdue⟩)
    · rw [hframe]
  case notDue =>
    refine congrArg Host.Outcome.next (if_neg fun ⟨hrun, hstop, hdue⟩ => ?_)
    rcases h with h | h | h
    · simp [h] at hrun
    · simp [h] at hstop
    · exact absurd h (Nat.not_lt.mpr hdue)
  case silent => exact congrArg Host.Outcome.next (if_pos ⟨hrun, by simp [hs], hedge, hdue⟩)
  case notSilent =>
    refine congrArg Host.Outcome.next (if_neg fun ⟨hrun, _, hedge, hdue⟩ => ?_)
    rcases h with h | h | h
    · simp [h] at hrun
    · simp [h] at hedge
    · exact absurd h (Nat.not_lt.mpr hdue)
  case broken =>
    obtain ⟨ctxs, counts, hhere, hctxs⟩ := s.breakHere_eq t code port fn
    refine ⟨_, State.breakTree_live code arr port fn hin hb, ?_, fun j hj => ?_, fun f c n x hx hcode htree hop hover => ?_, fun h => ?_, fun h => ?_,
      fun h => ?_, ?_⟩
    · rw [hhere]
      exact Tbl.getD_put_same ..
    · rw [hhere]
      exact Tbl.getD_put_other _ _ _ hj
    · by_contra hopen
      have ho : x.open = true := by simpa using hopen
      have hctx : (s.breakHere t code port fn).ctx f c =
          ((s.cutEntries t).foldl (fun s e => s.modEntry e.1 e.2.1 e.2.2.idx (fun y => y.finish stTreeBroken)) s).ctx f c :=
        State.ctx_congr (by rw [hhere, hctxs]) f c
      rw [hctx] at hx
      obtain ⟨hwas, hnot⟩ := s.open_of_finishAll _ hx ho
      exact hnot _ (State.mem_cutEntries hwas hcode htree hop hover ho) (Nat.div_add_mod' _ _) rfl
    · rw [hhere]
      simp [breakFaults, h]
    · rw [hhere]
      simp [breakFaults, h]
    · rw [hhere]
      simp [breakFaults_none h]
    · rw [hhere]
  case uninstall =>
    refine ⟨State.modTree_tree .., fun j hj => ?_⟩
    rw [State.uninstallTree, State.modTree_tree_other _ _ hj, State.breakTree_tree_other hj]

end Sys2Proof.Machine
end

section
/-! SUPPORT. Mode changes (R334 to R339): what a request meets and starts, the quiesce's end and what it discards, the end of a
change, and the proof of ModeChanges. -/

namespace Sys2Proof.Machine

/-! ### The request (R334, R327) -/

theorem modeOf_lt {v : Nat} {m : Mode} (h : modeOf v = some m) : v ≤ 7 := by
  have hlt := (List.getElem?_eq_some_iff.mp h).1
  exact Nat.le_of_lt_succ hlt

/-- A request meets the checks for a change in progress, for the table of changes and for its code alone. -/
theorem State.valueCheck_mode {s : State} (r : Req) (v : Nat) (hc : s.faults.checkstop = false) : s.valueCheck r 0x8000 1 v =
    firstAbort [(s.mode.changing, .busy),
      (s.stateClash ((reqFn r).getD 0) 0x8000 1 v, .conflictState),
      (decide (v < 2) || decide (7 < v), .valueRange)] := by
  have hobj : (s.obj? 0x8000 1).any (fun o => o.ty == 0) = false := rfl
  have hun : s.unavailable ((reqFn r).getD 0) 0x8000 1 = false := rfl
  have hmode : s.wrongMode 0x8000 1 v = false := by simp [State.wrongMode, hc]
  have hruns : s.blockRuns 0x8000 1 v = false := by simp [State.blockRuns, genOf, isTreeIdx]
  have hbusy : s.blockBusy ((reqFn r).getD 0) 0x8000 1 = s.mode.changing := by simp [State.blockBusy]
  have hroom : s.noRoom ((reqFn r).getD 0) 0x8000 v = false := by simp [State.noRoom]
  have hbad : badValue ((reqFn r).getD 0) 0x8000 1 v = (decide (v < 2) || decide (7 < v)) := by simp [badValue, rangeOf]
  have hrange : s.badRange 0x8000 1 v = false := rfl
  have hclash : s.valueClash 0x8000 1 v = false := by simp [State.valueClash, isTreeIdx]
  simp [State.valueCheck, hobj, hun, hmode, hruns, hbusy, hroom, hbad, hrange, hclash, firstAbort]

theorem State.stateClash_mode (s : State) (f : Nat) {v : Nat} {m : Mode} (h : modeOf v = some m) :
    s.stateClash f 0x8000 1 v = (decide (2 ≤ v) && m != s.mode.mode && !modeAllowed s.mode.mode m) := by
  simp [State.stateClash, isTreeIdx, h]

/-- A code outside 2 to 7 clashes with no state. -/
theorem State.stateClash_badMode (s : State) (f : Nat) {v : Nat} (h : v < 2 ∨ 7 < v) : s.stateClash f 0x8000 1 v = false := by
  cases hm : modeOf v with
  | none => simp [State.stateClash, isTreeIdx, hm]
  | some m =>
    have hv : v < 2 := h.resolve_right (Nat.not_lt.mpr (modeOf_lt hm))
    simp [s.stateClash_mode f hm, hv]

theorem State.takeWrite_mode (s : State) (f : Nat) {v : Nat} {m : Mode} (h : modeOf v = some m) : s.takeWrite f 0x8000 1 v =
    if m = s.mode.mode then s.setCfg 0x8000 1 v else (s.setCfg 0x8000 1 v).beginChange m 1 := by
  simp [State.takeWrite, elsewhere, keptValue, State.effectHigh, State.writeMode, measured, h]

/-! ### The start of a change (R335, R298) -/

theorem State.beginChange_mode (s : State) (m : Mode) (k : Nat) : (s.beginChange m k).mode = { s.mode with
    target := m, changing := true, cause := k, changeAt := s.now, quiesced := quiesces s.mode.mode m, drained := false } := by
  have h : (s.beginChange m k).calm = (s.pending, s.now, { s.mode with
      target := m, changing := true, cause := k, changeAt := s.now, quiesced := quiesces s.mode.mode m, drained := false }) := by
    simp [State.beginChange, apply_ite State.calm]
  exact congrArg (·.2.2) h

theorem State.breakTree_self {s : State} {t code : Nat} (arr port fn : Option Nat) (hin : (s.tree t).installed = true) :
    ((s.breakTree t code arr port fn).tree t).broken = true ∧ ((s.breakTree t code arr port fn).tree t).installed = true := by
  by_cases hb : (s.tree t).broken = true
  · rw [State.breakTree_dead code arr port fn (.inr hb)]
    exact ⟨hb, hin⟩
  · rw [State.tree, State.breakTree_trees code arr port fn hin (by simpa using hb), Tbl.getD_put_same]
    exact ⟨rfl, hin⟩

theorem State.foldl_breakTree_broken {t : Nat} {l : List (Nat × Tree)} (code : Nat) (port fn : Option Nat) (s : State)
    (hin : (s.tree t).installed = true) (h : (s.tree t).broken = true ∨ ∃ e ∈ l, e.1 = t) :
    ((l.foldl (fun s e => s.breakTree e.1 code none port fn) s).tree t).broken = true := by
  induction l generalizing s with
  | nil => simpa using h
  | cons e l ih =>
    by_cases he : e.1 = t
    · subst he
      have hafter := State.breakTree_self (code := code) none port fn hin
      exact ih _ hafter.2 (.inl hafter.1)
    · have hsame : (s.breakTree e.1 code none port fn).tree t = s.tree t := State.breakTree_tree_other (Ne.symm he) ..
      refine ih _ (by rw [hsame]; exact hin) ?_
      rw [hsame]
      refine h.imp id fun ⟨d, hd, hdt⟩ => ⟨d, (List.mem_cons.mp hd).resolve_left ?_, hdt⟩
      rintro rfl
      exact he hdt

theorem State.breakTrees_broken {s : State} {t : Nat} (hin : (s.tree t).installed = true) :
    ((s.breakTrees (fun _ _ => true) 0x0A80).tree t).broken = true := by
  refine State.foldl_breakTree_broken _ _ _ s hin ?_
  cases hget : Tbl.get? s.trees t with
  | none => simp [State.tree, Tbl.getD, hget] at hin
  | some x =>
    have hx : s.tree t = x := by simp [State.tree, Tbl.getD, hget]
    rw [hx] at hin ⊢
    cases hb : x.broken with
    | true => exact .inl rfl
    | false => exact .inr ⟨(t, x), List.mem_filter.mpr ⟨Tbl.mem_of_get? hget, by simp [hin, hb]⟩, rfl⟩

/-! ### The quiesce's end (R336) -/

theorem Tbl.getD_map {α : Type} (t : Tbl α) (g : α → α) (k : Nat) (d : α) (hd : g d = d) :
    Tbl.getD (t.map (fun e => (e.1, g e.2)) : Tbl α) k d = g (Tbl.getD t k d) := by
  induction t with
  | nil => simp [Tbl.getD, Tbl.get?, hd]
  | cons e r ih =>
    by_cases hk : e.1 = k
    · simp [Tbl.getD, Tbl.get?, hk]
    · simpa [Tbl.getD, Tbl.get?, hk] using ih

theorem State.fcWatch_pts (s : State) (p : Nat) : (s.fcWatch p).pts = s.pts := by
  unfold State.fcWatch
  dsimp only
  split <;> rfl

theorem State.throttleWatch_modeDrops (s : State) (m n : Nat) : ((s.throttleWatch m).pt n).modeDrops = (s.pt n).modeDrops := by
  unfold State.throttleWatch
  split
  · rfl
  · by_cases hn : n = m
    · subst hn
      simp
    · simp [State.modPt_pt_other _ _ hn]

/-- Giving back bytes leaves a port tile's count of packets that a mode discarded. -/
theorem State.leaves_modeDrops (s : State) (q : QPkt) (v n : Nat) : ((s.leaves q v).pt n).modeDrops = (s.pt n).modeDrops := by
  unfold State.leaves
  rw [State.throttleWatch_modeDrops]
  split
  · exact congrArg (fun t => (Tbl.getD t n {}).modeDrops) (State.fcWatch_pts _ _)
  · rfl

/-- Each port tile's count rises by what is discarded of it. -/
theorem State.foldl_countHeld (gone : QPkt → Bool) {l : List Nat} (hl : l.Nodup) (s : State) : ∃ pts,
    l.foldl (fun s n => s.modPt n (fun t => { t with modeDrops := satAdd 64 t.modeDrops (s.heldIn n gone) })) s = { s with pts := pts } ∧
    ∀ n, (Tbl.getD pts n {}).modeDrops = if n ∈ l then satAdd 64 (s.pt n).modeDrops (s.heldIn n gone) else (s.pt n).modeDrops := by
  induction l generalizing s with
  | nil => exact ⟨s.pts, rfl, fun n => rfl⟩
  | cons a l ih =>
    obtain ⟨ha, hl⟩ := List.nodup_cons.mp hl
    obtain ⟨pts, hfold, hpts⟩ := ih hl (s.modPt a (fun t => { t with modeDrops := satAdd 64 t.modeDrops (s.heldIn a gone) }))
    refine ⟨pts, hfold, fun n => (hpts n).trans ?_⟩
    by_cases hn : n = a
    · subst hn
      simp [ha]
    · have held : (s.modPt a (fun t => { t with modeDrops := satAdd 64 t.modeDrops (s.heldIn a gone) })).heldIn n gone = s.heldIn n gone := rfl
      simp [hn, s.modPt_pt_other _ hn, held]

/-- The buffers and channels without the packets of which `gone` holds. -/
def State.emptied (s : State) (gone : QPkt → Bool) : State :=
  let keep (qs : List QPkt) : List QPkt := qs.filter (fun q => !gone q)
  { s with
    portqs := s.portqs.map (fun e => (e.1, { e.2 with ingress := keep e.2.ingress, coll := keep e.2.coll, egress := keep e.2.egress }))
    arch := { s.arch with
      inbox := s.arch.inbox.map (fun e => (e.1, if e.1 < 8 then keep e.2 else e.2))
      chans := s.arch.chans.map (fun e => (e.1, e.2.filter (fun f =>
        match f.x.heldAt (e.1 / 8 % 16) with | some h => !gone h.2.2 | none => true))) } }

theorem State.discard_stages (s : State) (gone : QPkt → Bool) : s.discard gone =
    (s.heldPkts.filter (fun e => gone e.2.2)).foldl (fun s e => s.leaves e.2.2 e.2.1)
      (((List.range 8).foldl (fun s n => s.modPt n (fun t => { t with modeDrops := satAdd 64 t.modeDrops (s.heldIn n gone) })) s).emptied gone) :=
  rfl

theorem State.emptied_portq (s : State) (gone : QPkt → Bool) (p : Nat) : (s.emptied gone).portq p = { s.portq p with
    ingress := (s.portq p).ingress.filter (fun q => !gone q), coll := (s.portq p).coll.filter (fun q => !gone q)
    egress := (s.portq p).egress.filter (fun q => !gone q) } :=
  Tbl.getD_map s.portqs (fun y => { y with
    ingress := y.ingress.filter (fun q => !gone q), coll := y.coll.filter (fun q => !gone q), egress := y.egress.filter (fun q => !gone q) }) p {} rfl

/-- The quiesce's discard: every queue is empty, each tile has counted what it held, and beside that only bytes are given back. -/
theorem State.discardAll_spec (s : State) :
    (∀ p, (s.discardAll.portq p).ingress = [] ∧ (s.discardAll.portq p).coll = [] ∧ (s.discardAll.portq p).egress = []) ∧
    (∀ n, n < 8 → (s.discardAll.pt n).modeDrops = satAdd 64 (s.pt n).modeDrops (s.heldIn n)) ∧
    ∃ portqs links pts arch out, s.discardAll = { s with portqs := portqs, links := links, pts := pts, arch := arch, out := out } := by
  obtain ⟨pts, hcount, hpts⟩ := State.foldl_countHeld (fun _ => true) (List.nodup_range (n := 8)) s
  have hall := s.discard_stages (fun _ => true)
  rw [hcount] at hall
  have hfree := State.Freed.foldl (fun (s : State) (e : Nat × Nat × QPkt) => State.Freed.leaves s e.2.2 e.2.1)
    (s.heldPkts.filter (fun _ => true)) (({ s with pts := pts } : State).emptied (fun _ => true))
  rw [← hall] at hfree
  refine ⟨fun p => ?_, fun n hn => ?_, _, _, _, _, _, hfree⟩
  · rw [State.discardAll, hfree.portq]
    simp [State.emptied_portq]
  · rw [State.discardAll, hall, foldl_field (fun s : State => (s.pt n).modeDrops) (fun s e => State.leaves_modeDrops s _ _ n)]
    exact (hpts n).trans (if_pos (List.mem_range.mpr hn))

/-- What stands in the way of the quiesce's end. -/
theorem execQuiesceDrainEnd_due {s : State} (hq : s.mode.quiesced = true) (hd : s.mode.drained = false) (hat : s.mode.changeAt + 100000 ≤ s.now)
    (hf : s.sup.flushAt = none) : execQuiesceDrainEnd s = .next s.drainOver :=
  congrArg Host.Outcome.next (if_pos ⟨by simp [hf], hq, by simp [hd], hat⟩)

theorem execQuiesceDrainEnd_notDue {s : State} (h : s.now < s.mode.changeAt + 100000 ∨ s.sup.flushAt ≠ none) : execQuiesceDrainEnd s = .next s := by
  refine congrArg Host.Outcome.next (if_neg fun ⟨hf, _, _, hat⟩ => ?_)
  rcases h with h | h
  · exact absurd h (Nat.not_lt.mpr hat)
  · simp_all

/-! ### The end of a change (R335, R339) -/

/-- The mode at the end of a change on which no fault record waits. -/
theorem State.endChange_mode {s : State} (h : s.mode.react = [] ∨ s.mode.target ≠ .run ∧ s.mode.target ≠ .pass) : s.endChange.mode =
    { s.mode with mode := s.mode.target, changing := false, quiesced := false, drained := false, react := [] } := by
  have entered (t : State) (a m : Mode) : (t.entered a m).mode = t.mode := State.mode_of_calm (by simp)
  unfold State.endChange
  rcases h with h | ⟨hrun, hpass⟩
  · simp [h, entered]
  · simp [hrun, hpass, entered]

theorem State.react_idle {s : State} (a : Nat) (hc : s.mode.changing = false) : s.react a =
    if (s.mode.mode = .run ∨ s.mode.mode = .pass) ∧ s.reaction a ≠ s.mode.mode then s.beginChange (s.reaction a) 2 else s := by
  simp [State.react, State.reactTo, hc, State.inMode]

theorem State.react_waits {s : State} (a : Nat) (hc : s.mode.changing = true) :
    s.react a = { s with mode := { s.mode with react := s.mode.react ++ [s.reaction a] } } := by
  simp [State.react, State.reactTo, hc]

/-- Settles O54: the checks that a request meets, the start of a change, what the quiesce's end discards, and where a change ends. -/
theorem modeChanges : Obligations.ModeChanges := by
  refine ⟨fun r s => ⟨rfl, rfl, rfl, rfl, rfl, rfl⟩, fun r v w s h => taken_of_passes (by decide) (by omega) h,
    fun r v s hstop => ⟨fun hc => ?busy, fun hc hv => ?range, fun m hc hv hm => ?table⟩,
    fun f v m s hm => ⟨fun h => (s.takeWrite_mode f hm).trans (if_pos h), fun h => (s.takeWrite_mode f hm).trans (if_neg h)⟩,
    fun m k s => s.beginChange_mode m k, fun k s hrun => ?leave, fun t s hin => State.breakTrees_broken hin,
    fun s hq hd => ⟨fun hat hf => ?drained, execQuiesceDrainEnd_notDue⟩, fun s hc hq hp hf hreact => ?ended, fun s h => ?notEnded,
    fun a s => ⟨fun hc hm => ?reacts, fun hc hrun hpass => ?deaf, State.react_waits a, rfl⟩⟩
  case busy => simp [State.valueCheck_mode r v hstop, hc, firstAbort]
  case range =>
    have hout : (decide (v < 2) || decide (7 < v)) = true := by simpa using hv
    rw [State.valueCheck_mode r v hstop, s.stateClash_badMode _ hv, hc, hout]
    rfl
  case table =>
    have hle := modeOf_lt hm
    have hin : (decide (v < 2) || decide (7 < v)) = false := by simp; omega
    rw [State.valueCheck_mode r v hstop, s.stateClash_mode _ hm, hc, hin]
    by_cases hsame : m = s.mode.mode
    · simp [firstAbort, hsame]
    · cases hallow : modeAllowed s.mode.mode m <;> simp [firstAbort, hsame, hv]
  case leave => simp [State.beginChange, hrun, quiesces]
  case drained =>
    obtain ⟨hempty, hdrops, portqs, links, pts, arch, out, hframe⟩ := s.discardAll_spec
    refine ⟨{ s.discardAll with mode := { s.mode with drained := true } }, fun ht => ?_, fun ht => ?_, rfl, hempty, hdrops, ?_⟩
    · exact (execQuiesceDrainEnd_due hq hd hat hf).trans (congrArg Host.Outcome.next (if_neg ht))
    · exact (execQuiesceDrainEnd_due hq hd hat hf).trans (congrArg Host.Outcome.next (if_pos ht))
    · rw [hframe]
  case ended => exact ⟨s.endChange, congrArg Host.Outcome.next (if_pos ⟨by simp [hf], hc, by simpa using hq, hp⟩), State.endChange_mode hreact⟩
  case notEnded =>
    refine congrArg Host.Outcome.next (if_neg fun ⟨hf, hc, hq, hp⟩ => ?_)
    rcases h with h | ⟨h, h'⟩ | h | h
    · simp [h] at hc
    · simp [h, h'] at hq
    · simp [h] at hp
    · exact h (by simpa using hf)
  case reacts =>
    rw [State.react_idle a hc]
    by_cases h : s.reaction a = s.mode.mode
    · simp [h]
    · simp [h, hm]
  case deaf =>
    rw [State.react_idle a hc]
    simp [hrun, hpass]

end Sys2Proof.Machine
end

section
/-! SUPPORT. What the resets, events and time operations leave of the parts that power and firmware own: the supervisor, the
islands out of reset, the store, the images and their fuses, and the journal. -/

namespace Sys2Proof.Machine

/-- The parts that power, flash and fuses hold, without the measurement registers. -/
def State.firm (s : State) : Supervisor × BitVec 15 × Store × Firmware × Tbl Nat × Tbl Nat × Nat :=
  (s.sup, s.arch.islands, { s.store with reads := [] }, { s.fw with meas := [] }, s.dict.journal, s.dict.journal2, s.dict.fwVersion)

@[simp] theorem firm_fold (s : State) : (s.sup, s.arch.islands, ({ s.store with reads := [] } : Store), ({ s.fw with meas := [] } : Firmware), s.dict.journal, s.dict.journal2,
    s.dict.fwVersion) = s.firm := rfl

@[simp] theorem firm_mk (pending now etNow free nextTag arch hosts fns eqs ctxs ets reads walks mctxs wins acu priv sems nextTicket links portqs
    tports gates pts quiet time trees collCounts keepAt dict mode sup faults ctrs store fw out) :
    State.firm ⟨pending, now, etNow, free, nextTag, arch, hosts, fns, eqs, ctxs, ets, reads, walks, mctxs, wins, acu, priv, sems, nextTicket, links, portqs,
      tports, gates, pts, quiet, time, trees, collCounts, keepAt, dict, mode, sup, faults, ctrs, store, fw, out⟩ =
    (sup, arch.islands, { store with reads := [] }, { fw with meas := [] }, dict.journal, dict.journal2, dict.fwVersion) := rfl

@[simp] theorem foldl_firm {α : Type} (g : State → α → State) (l : List α) (s : State) (h : ∀ s a, (g s a).firm = s.firm) :
    (l.foldl g s).firm = s.firm :=
  foldl_field State.firm h l s

@[simp] theorem State.modHost_firm (s : State) (h : Nat) (f : HostPort → HostPort) : (State.modHost s h f).firm = s.firm := by
  rfl

@[simp] theorem State.modFn_firm (s : State) (f : Nat) (g : Fn → Fn) : (State.modFn s f g).firm = s.firm := by
  rfl

@[simp] theorem State.modCtx_firm (s : State) (f c : Nat) (g : CtxAll → CtxAll) : (State.modCtx s f c g).firm = s.firm := by
  rfl

@[simp] theorem State.modW_firm (s : State) (f c : Nat) (g : CtxWork → CtxWork) : (State.modW s f c g).firm = s.firm := by
  rfl

@[simp] theorem State.modM_firm (s : State) (f c : Nat) (g : CtxMatch → CtxMatch) : (State.modM s f c g).firm = s.firm := by
  rfl

@[simp] theorem State.modEq_firm (s : State) (f q : Nat) (g : EventQ → EventQ) : (State.modEq s f q g).firm = s.firm := by
  rfl

@[simp] theorem State.modEt_firm (s : State) (n : Nat) (g : EtTile → EtTile) : (State.modEt s n g).firm = s.firm := by
  rfl

@[simp] theorem State.modPortq_firm (s : State) (p : Nat) (g : PortQ → PortQ) : (State.modPortq s p g).firm = s.firm := by
  rfl

@[simp] theorem State.modTport_firm (s : State) (p : Nat) (g : TimePort → TimePort) : (State.modTport s p g).firm = s.firm := by
  rfl

@[simp] theorem State.modGate_firm (s : State) (p : Nat) (g : Gate → Gate) : (State.modGate s p g).firm = s.firm := by
  rfl

@[simp] theorem State.setSem_firm (s : State) (n : Nat) (x : Sem) : (State.setSem s n x).firm = s.firm := by
  rfl

@[simp] theorem State.modMctx_firm (s : State) (f comm : Nat) (g : MatchCtx → MatchCtx) : (State.modMctx s f comm g).firm = s.firm := by
  rfl

@[simp] theorem State.modWin_firm (s : State) (n k : Nat) (g : Win → Win) : (State.modWin s n k g).firm = s.firm := by
  rfl

@[simp] theorem State.modTree_firm (s : State) (t : Nat) (g : Tree → Tree) : (State.modTree s t g).firm = s.firm := by
  rfl

@[simp] theorem State.setCfg_firm (s : State) (idx sub v : Nat) : (State.setCfg s idx sub v).firm = s.firm := by
  rfl

@[simp] theorem State.emit_firm (s : State) (o : Out) : (State.emit s o).firm = s.firm := by
  rfl

@[simp] theorem State.report_firm (s : State) (f : FaultReport) : (State.report s f).firm = s.firm := by
  rfl

@[simp] theorem State.fnFault_firm (s : State) (code cls f : Nat) (ctx : Option Nat) (info : Nat) : (State.fnFault s code cls f ctx info).firm = s.firm := by
  rfl

@[simp] theorem State.hostWrite_firm (s : State) (f addr : Nat) (bytes : List Byte) : (State.hostWrite s f addr bytes).firm = s.firm := by
  simp [State.hostWrite]

@[simp] theorem State.perf_firm (s : State) (t ev unit : Nat) (fn : Option Nat) (n : Nat) : (State.perf s t ev unit fn n).firm = s.firm := by
  rfl

@[simp] theorem State.fnCtr_firm (s : State) (f k n : Nat) : (State.fnCtr s f k n).firm = s.firm := by
  rfl

@[simp] theorem State.tCount_firm (s : State) (n k : Nat) (c : Nat) : (State.tCount s n k c).firm = s.firm := by
  rfl

@[simp] theorem State.mCount_firm (s : State) (n k : Nat) (c : Nat) : (State.mCount s n k c).firm = s.firm := by
  rfl

@[simp] theorem State.rCount_firm (s : State) (n k : Nat) (c : Nat) : (State.rCount s n k c).firm = s.firm := by
  rfl

@[simp] theorem State.collCount_firm (s : State) (k : Nat) : (State.collCount s k).firm = s.firm := by
  rfl

@[simp] theorem State.offer_firm (s : State) (src dst k : Nat) (x : Cross) : (State.offer s src dst k x).firm = s.firm := by
  simp [State.offer, apply_ite Arch.islands]

@[simp] theorem State.injectFrom_firm (s : State) (src : Nat) (p : Packet) (k : Nat) : (State.injectFrom s src p k).firm = s.firm := by
  simp [State.injectFrom]

@[simp] theorem State.sendCtx_firm (s : State) (f : Nat) (p : Packet) : (State.sendCtx s f p).firm = s.firm := by
  simp [State.sendCtx, apply_ite State.firm]

@[simp] theorem State.sendAck_firm (s : State) (f c : Nat) : (State.sendAck s f c).firm = s.firm := by
  simp [State.sendAck]

@[simp] theorem State.ackNow_firm (s : State) (f c : Nat) : (State.ackNow s f c).firm = s.firm := by
  simp [State.ackNow, apply_ite State.firm]

@[simp] theorem State.ackIfDue_firm (s : State) (f c : Nat) : (State.ackIfDue s f c).firm = s.firm := by
  simp [State.ackIfDue, apply_ite State.firm]

@[simp] theorem State.sendResp_firm (s : State) (f c : Nat) (psn : U32) (hdr : Nat) (payload : List Byte) : (State.sendResp s f c psn hdr payload).firm = s.firm := by
  simp [State.sendResp]

@[simp] theorem State.modEntry_firm (s : State) (f c : Nat) (idx : U32) (g : Entry → Entry) : (State.modEntry s f c idx g).firm = s.firm := by
  rfl

@[simp] theorem State.replayWatch_firm (s : State) (h : Nat) : (State.replayWatch s h).firm = s.firm := by
  simp only [State.replayWatch]; repeat' split
  all_goals simp

@[simp] theorem State.modMsg_firm (s : State) (f c msn : Nat) (g : Msg → Msg) : (State.modMsg s f c msn g).firm = s.firm := by
  rfl

@[simp] theorem State.tidyMctx_firm (s : State) (f comm : Nat) : (State.tidyMctx s f comm).firm = s.firm := by
  simp [State.tidyMctx, apply_ite State.firm]

@[simp] theorem State.dropMsg_firm (s : State) (f c msn : Nat) : (State.dropMsg s f c msn).firm = s.firm := by
  simp only [State.dropMsg]; repeat' split
  all_goals simp

@[simp] theorem State.engOp_firm (s : State) (f comm : Nat) : (State.engOp s f comm).firm = s.firm := by
  rfl

@[simp] theorem State.firstMatch_firm (n : Nat) (s : State) (a0 : Nat) (a1 : Nat) (a2 : Nat) : (State.firstMatch n s a0 a1 a2).firm = s.firm := by
  induction n generalizing s a0 a1 a2 with
  | zero => rfl
  | succ n ih =>
    unfold State.firstMatch; repeat' split
    all_goals simp [ih]

@[simp] theorem State.recvEnd_firm (s : State) (f c : Nat) (m : Msg) (status len : Nat) : (State.recvEnd s f c m status len).firm = s.firm := by
  simp only [State.recvEnd]; repeat' split
  all_goals simp

@[simp] theorem State.releaseClaim_firm (s : State) (f c : Nat) (m : Msg) : (State.releaseClaim s f c m).firm = s.firm := by
  rfl

@[simp] theorem State.returnSlots_firm (s : State) (f c n : Nat) : (State.returnSlots s f c n).firm = s.firm := by
  simp [State.returnSlots, apply_ite State.firm]

@[simp] theorem State.landWatch_firm (s : State) (h : Nat) : (State.landWatch s h).firm = s.firm := by
  simp only [State.landWatch]; repeat' split
  all_goals simp

@[simp] theorem State.returnFor_firm (s : State) (f c msn n : Nat) : (State.returnFor s f c msn n).firm = s.firm := by
  simp [State.returnFor, apply_ite State.firm]

@[simp] theorem State.queueFin_firm (s : State) (f c msn n : Nat) : (State.queueFin s f c msn n).firm = s.firm := by
  rfl

@[simp] theorem State.tryEnd_firm (s : State) (f c msn : Nat) : (State.tryEnd s f c msn).firm = s.firm := by
  simp only [State.tryEnd]; repeat' split
  all_goals simp

@[simp] theorem State.discardMsg_firm (s : State) (f c : Nat) (m : Msg) : (State.discardMsg s f c m).firm = s.firm := by
  simp [State.discardMsg]

@[simp] theorem State.closeMsg_firm (s : State) (f c : Nat) (m : Msg) : (State.closeMsg s f c m).firm = s.firm := by
  simp only [State.closeMsg]; repeat' split
  all_goals simp

@[simp] theorem State.closePosted_firm (s : State) (f : Nat) (r : Posted) : (State.closePosted s f r).firm = s.firm := by
  simp only [State.closePosted]; repeat' split
  all_goals simp

@[simp] theorem State.dropItem_firm (s : State) (i : EngItem) : (s.dropItem i).firm = s.firm := by
  unfold State.dropItem; split <;> simp

@[simp] theorem State.closeMatching_firm (s : State) (f c : Nat) : (State.closeMatching s f c).firm = s.firm := by
  simp [State.closeMatching]

@[simp] theorem State.xlateFault_firm (s : State) (f va code level : Nat) (k : AccKind) : (State.xlateFault s f va code level k).firm = s.firm := by
  simp [State.xlateFault, apply_ite State.firm]

@[simp] theorem State.issueRead_firm (s : State) (num : Nat) (r : HostRead) (l : List (Nat × Nat)) : (State.issueRead s num r l).firm = s.firm := by
  rfl

@[simp] theorem State.issueTable_firm (s : State) (w : Walk) : (State.issueTable s w).firm = s.firm := by
  simp [State.issueTable, apply_ite State.firm]

@[simp] theorem State.nextWalk_firm (s : State) (et : Nat) : (State.nextWalk s et).firm = s.firm := by
  simp only [State.nextWalk]; repeat' split
  all_goals simp

@[simp] theorem State.startWalks_firm (n : Nat) (s : State) (a0 : Nat) : (State.startWalks n s a0).firm = s.firm := by
  induction n generalizing s a0 with
  | zero => rfl
  | succ n ih =>
    simp [State.startWalks, ih]

@[simp] theorem State.beginWalk_firm (s : State) (ex : List Nat) (f va : Nat) (k : AccKind) (tag : Option Nat) : (State.beginWalk s ex f va k tag).1.firm = s.firm := by
  simp only [State.beginWalk]; repeat' split
  all_goals simp

@[simp] theorem State.readFault_firm (s : State) (tag : Nat) (r : HostRead) (va code level : Nat) : (State.readFault s tag r va code level).firm = s.firm := by
  simp only [State.readFault]; repeat' split
  all_goals simp

@[simp] theorem State.readTranslated_firm (s : State) (tag : Nat) (r : HostRead) (l : List (Nat × Nat)) : (State.readTranslated s tag r l).firm = s.firm := by
  simp only [State.readTranslated]; repeat' split
  all_goals simp

theorem State.firm_of_beginWalk {s u : State} {ex : List Nat} {f va : Nat} {k : AccKind} {tag : Option Nat} {r : Option (Nat × Nat)}
    (h : s.beginWalk ex f va k tag = (u, r)) : u.firm = s.firm := by
  have walk := s.beginWalk_firm ex f va k tag
  rwa [h] at walk

@[simp] theorem State.tryRead_firm (s : State) (tag : Nat) : (State.tryRead s tag).firm = s.firm := by
  unfold State.tryRead
  dsimp only
  split
  · rfl
  · split
    · rfl
    · split
      · simp
      · simp
      · split
        · next h => simp [State.firm_of_beginWalk h]
        · next h => simp [State.firm_of_beginWalk h]

@[simp] theorem State.hostReadReq_firm (s : State) (f va len : Nat) (use : ReadFor) (kind : AccKind) : (State.hostReadReq s f va len use kind).firm = s.firm := by
  simp [State.hostReadReq]

@[simp] theorem State.queueWrite_firm (s : State) (f addr : Nat) (bytes : List Byte) (use : AddrUse) (land : Option Landing) : (State.queueWrite s f addr bytes use land).firm = s.firm := by
  rfl

@[simp] theorem State.queueEvent_firm (s : State) (f q : Nat) (e : Event) : (State.queueEvent s f q e).firm = s.firm := by
  rfl

@[simp] theorem State.settle_firm (s : State) (f c : Nat) : (State.settle s f c).firm = s.firm := by
  rfl

@[simp] theorem State.startFill_firm (s : State) (f c : Nat) : (State.startFill s f c).firm = s.firm := by
  simp [State.startFill, apply_ite State.firm]

@[simp] theorem State.atHome_firm (s : State) (f c : Nat) (go : State → State) (h : ∀ s, (go s).firm = s.firm) :
    (s.atHome f c go).firm = s.firm := by
  unfold State.atHome; split <;> simp [h]

@[simp] theorem State.queueHead_firm (s : State) (f c : Nat) : (State.queueHead s f c).firm = s.firm := by
  rfl

@[simp] theorem State.advanceHead_firm (s : State) (f c : Nat) : (State.advanceHead s f c).firm = s.firm := by
  simp [State.advanceHead, apply_ite State.firm]

@[simp] theorem State.entryFinished_firm (s : State) (f c : Nat) (idx : U32) : (State.entryFinished s f c idx).firm = s.firm := by
  simp [State.entryFinished]

@[simp] theorem State.saveResp_firm (s : State) (f c : Nat) (psn : U32) (opc rkey raddr status : Nat) (data : List Byte) : (State.saveResp s f c psn opc rkey raddr status data).firm = s.firm := by
  rfl

@[simp] theorem State.sendResps_firm (n : Nat) (s : State) (a0 : Nat) (a1 : Nat) (a2 : U32) (a3 : Nat) (a4 : List Byte) : (State.sendResps n s a0 a1 a2 a3 a4).firm = s.firm := by
  induction n generalizing s a0 a1 a2 a3 a4 with
  | zero => rfl
  | succ n ih =>
    simp [State.sendResps, ih]

@[simp] theorem State.lastDone_firm (s : State) (f c : Nat) (l : LastPkt) : (State.lastDone s f c l).firm = s.firm := by
  simp [State.lastDone]

@[simp] theorem State.completeLasts_firm (n : Nat) (s : State) (a0 : Nat) (a1 : Nat) : (State.completeLasts n s a0 a1).firm = s.firm := by
  induction n generalizing s a0 a1 with
  | zero => rfl
  | succ n ih =>
    unfold State.completeLasts; repeat' split
    all_goals simp [ih]

@[simp] theorem State.completeAll_firm (s : State) (f c : Nat) : (State.completeAll s f c).firm = s.firm := by
  simp [State.completeAll]

@[simp] theorem State.msixSend_firm (s : State) (f v : Nat) : (State.msixSend s f v).firm = s.firm := by
  simp [State.msixSend, apply_ite State.firm]

@[simp] theorem State.moderate_firm (s : State) (f q : Nat) : (State.moderate s f q).firm = s.firm := by
  simp only [State.moderate]; repeat' split
  all_goals simp

@[simp] theorem State.eventWritten_firm (s : State) (f q : Nat) (e : Event) : (State.eventWritten s f q e).firm = s.firm := by
  simp only [State.eventWritten]; repeat' split
  all_goals simp

@[simp] theorem State.asyncDrop_firm (s : State) (f : Nat) : (State.asyncDrop s f).firm = s.firm := by
  rfl

@[simp] theorem State.eventWaits_firm (s : State) (f q : Nat) (e : Event) : (State.eventWaits s f q e).firm = s.firm := by
  rfl

@[simp] theorem State.endContext_firm (s : State) (f c : Nat) (one : Option U32) (st : Nat) : (State.endContext s f c one st).firm = s.firm := by
  simp [State.endContext]

@[simp] theorem State.loseContext_firm (s : State) (f c : Nat) : (State.loseContext s f c).firm = s.firm := by
  simp [State.loseContext]

@[simp] theorem State.recvFault_firm (s : State) (f c : Nat) (idx : U32) (n : Nat) : (State.recvFault s f c idx n).firm = s.firm := by
  rfl

@[simp] theorem State.written_firm (s : State) (f : Nat) (h : HeldWrite) : (State.written s f h).firm = s.firm := by
  simp only [State.written]; repeat' split
  all_goals simp

@[simp] theorem State.recordLost_firm (s : State) (rtype port : Nat) : (State.recordLost s rtype port).firm = s.firm := by
  simp [State.recordLost, apply_ite State.firm]

@[simp] theorem State.ringLost_firm (s : State) : (State.ringLost s).firm = s.firm := by
  simp [State.ringLost]

@[simp] theorem State.dropPieces_firm (s : State) (f : Nat) : (State.dropPieces s f).firm = s.firm := by
  rfl

@[simp] theorem State.writeFault_firm (s : State) (f : Nat) (h : HeldWrite) (code level va : Nat) : (State.writeFault s f h code level va).firm = s.firm := by
  simp only [State.writeFault]; repeat' split
  all_goals simp

@[simp] theorem State.writeIssued_firm (s : State) (f : Nat) (h : HeldWrite) : (State.writeIssued s f h).firm = s.firm := by
  simp only [State.writeIssued]; repeat' split
  all_goals simp

@[simp] theorem State.uncache_firm (s : State) (is_ : HostRead → Bool) : (State.uncache s is_).firm = s.firm := by
  rfl

@[simp] theorem State.dropAtoms_firm (s : State) (h bus len : Nat) : (State.dropAtoms s h bus len).firm = s.firm := by
  rfl

@[simp] theorem State.popWrite_firm (s : State) (f : Nat) : (State.popWrite s f).firm = s.firm := by
  rfl

@[simp] theorem State.writeExcl_firm (s : State) (f : Nat) (ex : List Nat) : (State.writeExcl s f ex).firm = s.firm := by
  rfl

@[simp] theorem State.drain_firm (n : Nat) (s : State) (a0 : Nat) : (State.drain n s a0).firm = s.firm := by
  induction n generalizing s a0 with
  | zero => rfl
  | succ n ih =>
    simp only [State.drain]
    split
    · rfl
    · split
      · split
        · split
          · simp [ih, apply_ite State.firm]
          · split
            · simp [ih, apply_ite State.firm]
            · split
              · simp [ih]
              · simp [ih]
              · split
                · next h => simp [ih, State.firm_of_beginWalk h]
                · next h => simp [State.firm_of_beginWalk h]
        · simp [ih]
      · split
        · simp only [ih, State.written_firm, State.writeIssued_firm]
          split <;> simp [apply_ite State.firm]
        · simp [ih]
        · split
          · next h => simp [ih, State.firm_of_beginWalk h]
          · next h => simp [State.firm_of_beginWalk h]

@[simp] theorem State.flushWrites_firm (s : State) (f : Nat) : (State.flushWrites s f).firm = s.firm := by
  simp [State.flushWrites, apply_ite State.firm]

@[simp] theorem State.post_firm (s : State) (f q : Nat) (e : Event) : (State.post s f q e).firm = s.firm := by
  simp [State.post]

@[simp] theorem State.postAsync_firm (s : State) (f : Nat) (e : Event) : (State.postAsync s f e).firm = s.firm := by
  simp [State.postAsync]

@[simp] theorem State.revokeSlot_firm (s : State) (h k : Nat) : (State.revokeSlot s h k).firm = s.firm := by
  rfl

@[simp] theorem State.saveWatch_firm (s : State) (h : Nat) : (State.saveWatch s h).firm = s.firm := by
  simp only [State.saveWatch]; repeat' split
  all_goals simp

@[simp] theorem State.noteDepth_firm (s : State) (p v : Nat) : (State.noteDepth s p v).firm = s.firm := by
  rfl

@[simp] theorem State.queueAt_firm (s : State) (n p : Nat) (q : QPkt) : (State.queueAt s n p q).firm = s.firm := by
  simp [State.queueAt, apply_ite State.firm]

@[simp] theorem State.sendColl_firm (s : State) (n p : Nat) (up : Bool) (ext : Nat) (payload : List Byte) : (State.sendColl s n p up ext payload).firm = s.firm := by
  simp [State.sendColl]

@[simp] theorem State.breakFault_firm (s : State) (t code : Nat) (port fn : Option Nat) : (State.breakFault s t code port fn).firm = s.firm := by
  simp [State.breakFault, apply_ite State.firm]

@[simp] theorem State.breakTree_firm (s : State) (t code : Nat) (arrived : Option Nat) (port : Option Nat) (fn : Option Nat) : (State.breakTree s t code arrived port fn).firm = s.firm := by
  simp [State.breakTree, apply_ite State.firm]

@[simp] theorem State.breakTrees_firm (s : State) (pick : Nat → Nat → Bool) (code : Nat) (port : Option Nat) (fn : Option Nat) : (State.breakTrees s pick code port fn).firm = s.firm := by
  simp [State.breakTrees]

@[simp] theorem State.semGrant_firm (s : State) (n : Nat) (who : SemMaster) (prio : Nat) : (State.semGrant s n who prio).firm = s.firm := by
  simp [State.semGrant, apply_ite State.firm]

@[simp] theorem State.semServe_firm (n : Nat) (s : State) (a0 : Nat) : (State.semServe n s a0).firm = s.firm := by
  induction n generalizing s a0 with
  | zero => rfl
  | succ n ih =>
    unfold State.semServe; dsimp only; repeat' split
    all_goals simp_all

@[simp] theorem State.semServeAll_firm (s : State) (n : Nat) : (State.semServeAll s n).firm = s.firm := by
  simp [State.semServeAll]

@[simp] theorem State.holderFree_firm (s : State) (who : SemMaster) (told : Bool) : (State.holderFree s who told).firm = s.firm := by
  simp [State.holderFree, apply_ite State.firm]

@[simp] theorem State.semServeEach_firm (s : State) : (State.semServeEach s).firm = s.firm := by
  simp [State.semServeEach]

@[simp] theorem State.holderReset_firm (s : State) (who : SemMaster) (told : Bool) : (State.holderReset s who told).firm = s.firm := by
  simp [State.holderReset]

@[simp] theorem State.semConfigure_firm (s : State) (n v : Nat) : (State.semConfigure s n v).firm = s.firm := by
  simp [State.semConfigure, apply_ite State.firm]

@[simp] theorem State.gateEvent_firm (s : State) (p c : Nat) : (State.gateEvent s p c).firm = s.firm := by
  rfl

@[simp] theorem State.gatesRead_firm (s : State) : (State.gatesRead s).firm = s.firm := by
  simp [State.gatesRead]

@[simp] theorem State.timeNames_firm (s : State) : (State.timeNames s).firm = s.firm := by
  simp [State.timeNames]

@[simp] theorem State.timeFault_firm (s : State) (code cls : Nat) : (State.timeFault s code cls).firm = s.firm := by
  rfl

@[simp] theorem State.takeParent_firm (s : State) (p : Nat) : (State.takeParent s p).firm = s.firm := by
  simp [State.takeParent]

@[simp] theorem State.orphan_firm (s : State) : (State.orphan s).firm = s.firm := by
  simp [State.orphan, apply_ite State.firm]

@[simp] theorem State.reselect_firm (s : State) : (State.reselect s).firm = s.firm := by
  simp only [State.reselect]; repeat' split
  all_goals simp

@[simp] theorem State.watchBetter_firm (s : State) : (State.watchBetter s).firm = s.firm := by
  rfl

@[simp] theorem State.watchRoots_firm (s : State) : (State.watchRoots s).firm = s.firm := by
  simp [State.watchRoots, apply_ite State.firm]

@[simp] theorem State.timeWatch_firm (s : State) : (State.timeWatch s).firm = s.firm := by
  simp [State.timeWatch]

@[simp] theorem State.timeUnlock_firm (s : State) (p : Nat) (need : Nat) : (State.timeUnlock s p need).firm = s.firm := by
  simp [State.timeUnlock]

@[simp] theorem State.timeRole_firm (s : State) : (State.timeRole s).firm = s.firm := by
  simp [State.timeRole, apply_ite State.firm]

@[simp] theorem State.wipeReads_firm (s : State) (f : Nat) : (State.wipeReads s f).firm = s.firm := by
  simp [State.wipeReads]

@[simp] theorem State.wipeTile_firm (s : State) (f : Nat) : (State.wipeTile s f).firm = s.firm := by
  simp [State.wipeTile]

@[simp] theorem State.wipeWins_firm (s : State) (f : Nat) : (State.wipeWins s f).firm = s.firm := by
  simp [State.wipeWins]

@[simp] theorem State.wipeMailbox_firm (s : State) (f : Nat) : (State.wipeMailbox s f).firm = s.firm := by
  rfl

@[simp] theorem State.wipe_firm (s : State) (f : Nat) (told mailbox : Bool) : (State.wipe s f told mailbox).firm = s.firm := by
  have ring (u : State) : (if ringOwner u.ring = f ∧ u.cfg 0xA002 1 = 1 then
      ({ u.ringLost with ctrs := { u.ringLost.ctrs with waitRec := none, producer := u.ringLost.ctrs.wrote } } : State).setCfg 0xA002 1 0
      else u).firm = u.firm := by
    split <;> simp
  exact (ring _).trans (by simp [apply_ite State.firm])

@[simp] theorem State.flrOne_firm (s : State) (f : Nat) (told : Bool) : (State.flrOne s f told).firm = s.firm := by
  simp [State.flrOne, apply_ite State.firm]

@[simp] theorem State.hostDown_firm (s : State) (h : Nat) : (State.hostDown s h).firm = s.firm := by
  simp [State.hostDown]

@[simp] theorem State.writeBuckets_firm (s : State) (shape : Bool) (p old v : Nat) : (State.writeBuckets s shape p old v).firm = s.firm := by
  rfl

@[simp] theorem State.restoreEffect_firm (s : State) (key v : Nat) : (State.restoreEffect s key v).firm = s.firm := by
  simp only [State.restoreEffect]; repeat' split
  all_goals simp

end Sys2Proof.Machine
end

section
/-! SUPPORT. Seating, the ramp, POWER_GOOD, RESET_N, the supervisor's samples and temperature (R340 to R348, R352, R421), and the
proof of SeatingAndPower. -/

namespace Sys2Proof.Machine

/-! ### What an operation keeps of power and flash -/

section
variable {s t : State} (h : t.firm = s.firm)
include h

theorem State.sup_of_firm : t.sup = s.sup := congrArg (·.1) h

theorem State.islands_of_firm : t.arch.islands = s.arch.islands := congrArg (·.2.1) h

theorem State.flush_of_firm : t.store.flush = s.store.flush := congrArg (·.2.2.1.flush) h

theorem State.staging_of_firm : t.store.staging = s.store.staging := congrArg (·.2.2.1.staging) h

theorem State.pages_of_firm : t.store.pages = s.store.pages := congrArg (·.2.2.1.pages) h

end

/-! ### The switch (R341) and the warning (R348) -/

theorem State.tryRamp_open {s : State} (hp : s.sup.powered = true) (hd : s.sup.debounced = true) (hl : s.sup.latched = false)
    (ha : s.sup.seatA = false) (hb : s.sup.seatB = false) (h40 : 40000 ≤ s.sup.mv) (h60 : s.sup.mv ≤ 60000) (hs : s.sup.switch = false)
    (hf : s.sup.flushAt = none) :
    s.tryRamp = { s with sup := { s.sup with switch := true, ramping := true, events := bump s.sup.events 1 1 } } :=
  if_pos (by simp [hp, hd, hl, ha, hb, h40, h60, hs, hf])

theorem State.tryRamp_shut {s : State} (h : s.sup.debounced = false ∨ s.sup.latched = true ∨ s.sup.seatA = true ∨ s.sup.seatB = true ∨
    s.sup.mv < 40000 ∨ 60000 < s.sup.mv ∨ s.sup.switch = true) : s.tryRamp = s := by
  refine if_neg fun hc => ?_
  simp only [Bool.and_eq_true, Bool.not_eq_true', decide_eq_true_eq] at hc
  obtain ⟨⟨⟨⟨⟨⟨⟨⟨-, hd⟩, hl⟩, ha⟩, hb⟩, h40⟩, h60⟩, hs⟩, -⟩ := hc
  rcases h with h | h | h | h | h | h | h
  · simp [h] at hd
  · simp [h] at hl
  · simp [h] at ha
  · simp [h] at hb
  · omega
  · omega
  · simp [h] at hs

/-- A device that has not been warned notes the warning, and tells its functions. -/
def State.warned (s : State) : State := (s.modSup (fun x => { x with pwrWarn := true, okAt := none })).pwrCount 5

theorem State.warn_again {s : State} (h : s.sup.pwrWarn = true) : s.warn = s := if_pos h

theorem State.warn_stopped {s : State} (h : s.sup.pwrWarn = false) (hc : s.faults.checkstop = true) : s.warn = s.warned := by
  have hc' : s.warned.faults.checkstop = true := hc
  simp only [State.warn, h]
  exact if_pos hc'

theorem State.warn_tells {s : State} (h : s.sup.pwrWarn = false) (hc : s.faults.checkstop = false) : s.warn =
    ((s.fns.filter (fun e => e.2.state == 1)).map (·.1)).foldl (fun v f => v.postAsync f { type := evPwrWarn, info := s.sup.mv % 2 ^ 32 }) s.warned := by
  have hc' : ¬ s.warned.faults.checkstop = true := by simpa [State.warned, State.modSup, State.pwrCount] using hc
  simp only [State.warn, h]
  exact if_neg hc'

/-- The supervisor after a warning. -/
theorem State.warn_sup (s : State) : s.warn.sup = if s.sup.pwrWarn then s.sup else s.warned.sup := by
  cases hw : s.sup.pwrWarn with
  | true => rw [State.warn_again hw]; rfl
  | false =>
    cases hc : s.faults.checkstop with
    | true => rw [State.warn_stopped hw hc]; rfl
    | false =>
      rw [State.warn_tells hw hc]
      exact foldl_field State.sup (fun v f => State.sup_of_firm (v.postAsync_firm f _)) _ _

/-! ### The seat pins (R341, R346, R422) -/

/-- A seat pin's low sample clears at most the latch. -/
theorem State.seatClears_eq (s : State) : s.seatClears = { s with sup := { s.sup with
    latched := s.sup.latched && !(s.highLong s.sup.seatHighA || s.highLong s.sup.seatHighB) } } := by
  unfold State.seatClears
  split
  · next h => simp [State.modSup, h]
  · next h => simp [h]

theorem execSeatPinChange_high (pin : Nat) (s : State) : ∃ t : State, execSeatPinChange pin true s = .next t ∧ t = { s with sup := t.sup } ∧
    t.sup.debounced = false ∧ t.sup.seatLowAt = none ∧ t.sup.latched = s.sup.latched ∧ t.sup.switch = s.sup.switch ∧
    (pin = 0 → t.sup.seatA = true ∧ t.sup.seatHighA = some (s.sup.seatHighA.getD s.now) ∧ t.sup.seatB = s.sup.seatB) ∧
    (pin ≠ 0 → t.sup.seatB = true ∧ t.sup.seatHighB = some (s.sup.seatHighB.getD s.now) ∧ t.sup.seatA = s.sup.seatA) := by
  refine ⟨_, rfl, rfl, ?_⟩
  by_cases hp : pin = 0 <;> simp [State.modSup, hp]

theorem execSeatPinChange_low (pin : Nat) (s : State) : ∃ t : State, execSeatPinChange pin false s = .next t ∧ t = { s with sup := t.sup } ∧
    (pin = 0 → t.sup.seatA = false ∧ t.sup.seatB = s.sup.seatB ∧ (s.sup.seatB = false → s.sup.seatLowAt = none → t.sup.seatLowAt = some s.now)) ∧
    (pin ≠ 0 → t.sup.seatB = false ∧ t.sup.seatA = s.sup.seatA ∧ (s.sup.seatA = false → s.sup.seatLowAt = none → t.sup.seatLowAt = some s.now)) ∧
    t.sup.latched = s.seatClears.sup.latched := by
  refine ⟨_, rfl, ?_⟩
  rw [State.seatClears_eq]
  by_cases hp : pin = 0
  · cases hb : s.sup.seatB <;> simp +contextual [State.modSup, hp, hb]
  · cases ha : s.sup.seatA <;> simp +contextual [State.modSup, hp, ha]

theorem execSeatDebounceEnd_eq {s : State} {a : Nat} (h : s.sup.seatLowAt = some a) : execSeatDebounceEnd s = .next (
    if s.sup.powered ∧ !s.sup.debounced ∧ a + 100 * ms ≤ s.now then ((s.modSup (fun x => { x with debounced := true })).pwrCount 0).tryRamp else s) := by
  unfold execSeatDebounceEnd
  rw [h]

/-! ### The ramp and the rails (R342, R343) -/

theorem State.starts_spec (s : State) : ∃ a b, s.starts = [s.now, a, b] ∧ s.now ≤ a ∧ a ≤ s.now + 1000000 ∧ a ≤ b ∧ b ≤ a + 1000000 := by
  refine ⟨_, _, rfl, ?_⟩
  have bound (n : Nat) : n % (ms + 1) ≤ 1000000 := Nat.le_of_lt_succ (Nat.mod_lt _ (by decide))
  exact ⟨Nat.le_add_right .., Nat.add_le_add_left (bound _) _, Nat.le_add_right .., Nat.add_le_add_left (bound _) _⟩

theorem railsGood_spec (w : Nat) : 873 ≤ bf (railsGood w) 0 16 ∧ bf (railsGood w) 0 16 ≤ 927 ∧ 1164 ≤ bf (railsGood w) 16 16 ∧
    bf (railsGood w) 16 16 ≤ 1236 ∧ 1746 ≤ bf (railsGood w) 32 16 ∧ bf (railsGood w) 32 16 ≤ 1854 := by
  have apart : Apart [(0, 16, 873 + w % 2 ^ 16 % 55), (16, 16, 1164 + w / 2 ^ 16 % 2 ^ 16 % 73), (32, 16, 1746 + w / 2 ^ 32 % 109)] := by
    simp [Apart]
  have rail (base n : Nat) (lo m : Nat) (hm : 0 < m) (hsmall : base + m ≤ 65536)
      (hmem : (lo, 16, base + n % m) ∈ [(0, 16, 873 + w % 2 ^ 16 % 55), (16, 16, 1164 + w / 2 ^ 16 % 2 ^ 16 % 73), (32, 16, 1746 + w / 2 ^ 32 % 109)]) :
      base ≤ bf (railsGood w) lo 16 ∧ bf (railsGood w) lo 16 < base + m := by
    have hlt := Nat.mod_lt n hm
    have hval : bf (railsGood w) lo 16 = base + n % m := (bf_pack apart hmem).trans (Nat.mod_eq_of_lt (by omega))
    omega
  have h1 := rail 873 (w % 2 ^ 16) 0 55 (by decide) (by decide) (by simp)
  have h2 := rail 1164 (w / 2 ^ 16 % 2 ^ 16) 16 73 (by decide) (by decide) (by simp)
  have h3 := rail 1746 (w / 2 ^ 32) 32 109 (by decide) (by decide) (by simp)
  omega

/-- What starts the converters. -/
theorem execRampComplete_ramping {s : State} (h : s.sup.ramping = true) : execRampComplete s = .next { s with
    sup := { s.sup with ramping := false, rampDone := true, converters := true, convAt := s.starts, rails := s.freeVal 48 }, free := s.free + 2 } := by
  simp [execRampComplete, h, State.modSup, State.nextFree]

/-- The state once every rail has been found in its window, with what they read. -/
def State.poweredGood (s : State) (w : Nat) : State :=
  { s with sup := { s.sup with powerGood := true, warnHeld := false, pwrWarn := s.sup.sag, rails := w }, free := s.free + 1 }

theorem State.poweredGood_enters (s : State) (w : Nat) : (
    let s := (s.modSup (fun x => { x with powerGood := true, warnHeld := false, pwrWarn := x.sag, rails := w })).nextFree
    if s.sup.resetAt.isSome then s else s.enterBoot) = if s.sup.resetAt.isSome then s.poweredGood w else (s.poweredGood w).enterBoot := rfl

section
variable {s : State} (hr : s.sup.rampDone = true) (hc : s.sup.converters = true) (hg : s.sup.powerGood = false)

include hr hc hg in
theorem execPowerGoodAssert_due (ht : s.sup.timerAt = none) (hat : ∀ a ∈ s.sup.convAt, a ≤ s.now) : execPowerGoodAssert s =
    .next (if s.sup.resetAt.isSome then s.poweredGood (railsGood (s.freeVal 48)) else (s.poweredGood (railsGood (s.freeVal 48))).enterBoot) := by
  have hall : s.sup.convAt.all (fun t => decide (t ≤ s.now)) = true := by simpa using hat
  have hcond : (s.sup.rampDone && s.sup.converters && s.sup.convAt.all (fun t => decide (t ≤ s.now)) && s.sup.timerAt.isNone && !s.sup.powerGood) = true := by
    simp only [hr, hc, hg, ht, hall, Option.isNone_none, Bool.and_true, Bool.not_false]
  unfold execPowerGoodAssert
  rw [if_pos hcond]
  exact congrArg Host.Outcome.next (s.poweredGood_enters (railsGood (s.freeVal 48)))

theorem execPowerGoodAssert_notDue (h : s.sup.timerAt ≠ none ∨ ∃ a ∈ s.sup.convAt, s.now < a) : execPowerGoodAssert s = .next s := by
  refine congrArg Host.Outcome.next (if_neg fun hcond => ?_)
  simp only [Bool.and_eq_true, List.all_eq_true, decide_eq_true_eq, Option.isNone_iff_eq_none] at hcond
  obtain ⟨⟨⟨-, hat⟩, ht⟩, -⟩ := hcond
  rcases h with h | ⟨a, ha, hlt⟩
  · exact h ht
  · exact absurd (hat a ha) (Nat.not_le.mpr hlt)

end

/-! ### RESET_N (R346, R421) -/

theorem execResetNAssert_eq (s : State) : execResetNAssert s = .next (if s.sup.latched || s.sup.flushAt.isSome
    then s.modSup (fun x => { x with resetAt := some (x.resetAt.getD s.now) })
    else (s.modSup (fun x => { x with resetAt := some (x.resetAt.getD s.now) })).islandsOff true) := rfl

/-- The supervisor once RESET_N is high again after `a`. -/
def State.resetEnded (s : State) (a : Nat) : State := s.modSup (fun x => { x with
  resetAt := none, latched := x.latched && !decide (a + 10 * ms ≤ s.now)
  debounced := x.debounced || (x.latched && decide (a + 10 * ms ≤ s.now) && !x.seatA && !x.seatB) })

theorem execResetNRelease_eq {s : State} {a : Nat} (h : s.sup.resetAt = some a) : execResetNRelease s = .next (
    if s.sup.latched then (if decide (a + 10 * ms ≤ s.now) then (s.resetEnded a).tryRamp else s.resetEnded a)
    else if s.sup.powerGood && s.sup.flushAt.isNone then (s.resetEnded a).enterBoot else s.resetEnded a) := by
  simp only [execResetNRelease, h]
  rfl

/-! ### Samples (R347, R348) -/

/-- A sample kept. -/
def State.measured (s : State) (mv ma : Nat) : State := s.modSup (fun x => { x with
  sag := decide (mv < 42000) || x.sag, mv := mv % 2 ^ 32, ma := ma % 2 ^ 32, mw := mv * ma / 1000 % 2 ^ 32, energy := x.energy + mv * ma
  okAt := if mv < 43000 then none else some (x.okAt.getD s.now) })

/-- The warning ends once the input has been back for 1 ms. -/
def State.warnEnds (s : State) : State :=
  match s.sup.okAt with
  | some t => if t + ms ≤ s.now then s.modSup (fun x => { x with sag := false, pwrWarn := x.warnHeld }) else s
  | none => s

theorem execInputSample_eq {s : State} (mv ma : Nat) (h : s.sup.powered = true) : execInputSample mv ma s =
    .next (if mv < 42000 then (s.measured mv ma).warn else s.measured mv ma).warnEnds.tryRamp := by
  simp only [execInputSample, h]
  rfl

/-- No sample has been good since one below 42 V. -/
theorem State.warn_measured_okAt (s : State) {mv : Nat} (ma : Nat) (h : mv < 42000) : (s.measured mv ma).warn.sup.okAt = none := by
  rw [State.warn_sup]
  split
  · exact if_pos (by omega)
  · rfl

theorem State.warnEnds_of_none {s : State} (h : s.sup.okAt = none) : s.warnEnds = s := by
  simp only [State.warnEnds, h]

theorem State.warnEnds_eq (s : State) : ∃ sag warn, s.warnEnds = { s with sup := { s.sup with sag := sag, pwrWarn := warn } } := by
  unfold State.warnEnds
  split
  · split
    · exact ⟨false, s.sup.warnHeld, rfl⟩
    · exact ⟨s.sup.sag, s.sup.pwrWarn, rfl⟩
  · exact ⟨s.sup.sag, s.sup.pwrWarn, rfl⟩

/-! ### Temperature (R352) -/

/-- The limit of a warning, in thousandths of a degree. -/
def State.warnLimit (s : State) : Int := ((s.cfg 0x8020 2 : Nat) : Int) * 1000

section
variable {l : List Int} {s : State}

theorem execTempRead_hot (h : ∃ x ∈ l, s.warnLimit ≤ x) : execTempRead l s = .next (
    if s.sup.warnRec then s.modSup (fun x => { x with temps := l, warnRec := true, coolAt := none })
    else (s.modSup (fun x => { x with temps := l, warnRec := true, coolAt := none })).report { code := 0x0860, cls := corrected, tile := 15 }) := by
  have hany : l.any (fun t => decide (s.warnLimit ≤ t)) = true := by simpa using h
  exact congrArg Host.Outcome.next (if_pos hany)

/-- Readings below the limit record nothing, and note how long they have been well below it. -/
def State.cooling (s : State) (l : List Int) : State :=
  let s' := s.modSup (fun x => { x with temps := l })
  if l.all (fun t => decide (t ≤ s.warnLimit - 5000)) then
    match s.sup.coolAt with
    | some t => if t + sec ≤ s.now then s'.modSup (fun x => { x with warnRec := false }) else s'
    | none => s'.modSup (fun x => { x with coolAt := some s.now })
  else s'.modSup (fun x => { x with coolAt := none })

theorem execTempRead_cool (h : ∀ x ∈ l, x < s.warnLimit) : execTempRead l s = .next (s.cooling l) := by
  have hany : ¬ l.any (fun t => decide (s.warnLimit ≤ t)) = true := by simpa using h
  exact congrArg Host.Outcome.next (if_neg hany)

theorem State.cooling_frame (l : List Int) (s : State) : s.cooling l = { s with sup := (s.cooling l).sup } ∧ (s.cooling l).sup.temps = l := by
  unfold State.cooling
  dsimp only
  split
  · split
    · split <;> exact ⟨rfl, rfl⟩
    · exact ⟨rfl, rfl⟩
  · exact ⟨rfl, rfl⟩

theorem State.cooling_warnRec (h : s.sup.warnRec = true) : (s.cooling l).sup.warnRec = false ↔
    (∀ x ∈ l, x ≤ s.warnLimit - 5000) ∧ ∃ a, s.sup.coolAt = some a ∧ a + 1000000000 ≤ s.now := by
  unfold State.cooling
  by_cases hall : ∀ x ∈ l, x ≤ s.warnLimit - 5000
  · have hall' : l.all (fun t => decide (t ≤ s.warnLimit - 5000)) = true := by simpa using hall
    cases hc : s.sup.coolAt with
    | none => simp [hall', State.modSup, h]
    | some a =>
      by_cases ha : a + 1000000000 ≤ s.now
      · simpa [hall', State.modSup, ha] using hall
      · simp [hall', State.modSup, ha, h]
  · have hall' : ¬ l.all (fun t => decide (t ≤ s.warnLimit - 5000)) = true := by simpa using hall
    simp [hall', hall, State.modSup, h]

end

theorem execTempRead_spec (l : List Int) (s : State) : ∃ t : State, exec (.tempRead l) s = .next t ∧ t.sup.temps = l ∧
    ((∃ x ∈ l, s.warnLimit ≤ x) → t.sup.warnRec = true ∧ t.faults.coming = (if s.sup.warnRec then s.faults.coming
      else s.faults.coming ++ [{ code := 0x0860, cls := corrected, tile := 15 }])) ∧
    ((∀ x ∈ l, x < s.warnLimit) → t.faults.coming = s.faults.coming ∧
      (s.sup.warnRec = true → (t.sup.warnRec = false ↔ (∀ x ∈ l, x ≤ s.warnLimit - 5000) ∧
        ∃ a, s.sup.coolAt = some a ∧ a + 1000000000 ≤ s.now))) ∧
    t = { s with sup := t.sup, faults := { s.faults with coming := t.faults.coming } } := by
  by_cases hot : ∃ x ∈ l, s.warnLimit ≤ x
  · have notCool : ¬ ∀ x ∈ l, x < s.warnLimit := fun hall => by
      obtain ⟨x, hx, hle⟩ := hot
      exact absurd (hall x hx) (not_lt.mpr hle)
    refine ⟨_, execTempRead_hot hot, ?_⟩
    cases hw : s.sup.warnRec <;> exact ⟨rfl, fun _ => ⟨rfl, rfl⟩, fun h => absurd h notCool, rfl⟩
  · have cool : ∀ x ∈ l, x < s.warnLimit := fun x hx => not_le.mp fun hle => hot ⟨x, hx, hle⟩
    obtain ⟨hframe, htemps⟩ := State.cooling_frame l s
    refine ⟨_, execTempRead_cool cool, htemps, fun h => absurd h hot, fun _ => ⟨?_, State.cooling_warnRec⟩, ?_⟩
    · rw [hframe]
    · rw [hframe]

/-! ### Assembly -/

theorem execPowerGoodAssert_spec {s : State} (hr : s.sup.rampDone = true) (hc : s.sup.converters = true) (hg : s.sup.powerGood = false)
    (ht : s.sup.timerAt = none) (hat : ∀ a ∈ s.sup.convAt, a ≤ s.now) : ∃ t : State, exec .powerGoodAssert s = .next t ∧
      t.sup.powerGood = true ∧ t.sup.warnHeld = false ∧
      (873 ≤ bf t.sup.rails 0 16 ∧ bf t.sup.rails 0 16 ≤ 927 ∧ 1164 ≤ bf t.sup.rails 16 16 ∧ bf t.sup.rails 16 16 ≤ 1236 ∧
        1746 ≤ bf t.sup.rails 32 16 ∧ bf t.sup.rails 32 16 ≤ 1854) ∧
      (s.sup.resetAt = none → t.mode = { mode := .boot, target := .boot } ∧ t.arch.islands = 0x7F00 ∧
        t = { s with sup := t.sup, mode := t.mode, arch := t.arch, dict := t.dict, hosts := t.hosts, free := s.free + 1 }) ∧
      (s.sup.resetAt ≠ none → t = { s with sup := t.sup, free := s.free + 1 }) := by
  have hexec := execPowerGoodAssert_due hr hc hg ht hat
  have hspec := railsGood_spec (s.freeVal 48)
  generalize railsGood (s.freeVal 48) = w at hexec hspec
  by_cases h : s.sup.resetAt = none
  · rw [if_neg (by simp [h])] at hexec
    exact ⟨_, hexec, rfl, rfl, hspec, fun _ => ⟨rfl, rfl, rfl⟩, fun hne => absurd h hne⟩
  · rw [if_pos (Option.isSome_iff_ne_none.mpr h)] at hexec
    exact ⟨_, hexec, rfl, rfl, hspec, fun he => absurd he h, fun _ => rfl⟩

/-- What RESET_N and power loss leave of a device whose islands are reset. -/
theorem execResetNAssert_spec (s : State) : ∃ t : State, exec .resetNAssert s = .next t ∧ t.sup = { s.sup with resetAt := some (s.sup.resetAt.getD s.now) } ∧
    ((s.sup.latched = true ∨ s.sup.flushAt.isSome = true) → t = { s with sup := t.sup }) ∧
    (s.sup.latched = false → s.sup.flushAt = none → t.mode.mode = .seat ∧ t.arch.islands = 0 ∧ t.store.staging = s.store.staging ∧
      t.store.pages = s.store.pages ∧ t.dict.journal = s.dict.journal ∧ t.dict.vals = [] ∧ t.ctxs = [] ∧ t.fns = [] ∧ t.pending = s.pending ∧ t.out = s.out) := by
  refine ⟨_, execResetNAssert_eq s, ?_⟩
  by_cases h : (s.sup.latched || s.sup.flushAt.isSome) = true
  · rw [if_pos h]
    refine ⟨rfl, fun _ => rfl, fun hl hf => ?_⟩
    simp [hl, hf] at h
  · rw [if_neg h]
    refine ⟨rfl, fun hc => absurd ?_ h, fun _ _ => ⟨rfl, rfl, rfl, rfl, rfl, rfl, rfl, rfl, rfl, rfl⟩⟩
    simpa using hc

theorem execInputSample_spec (mv ma : Nat) {s : State} (hp : s.sup.powered = true) : ∃ u : State, u = { s with sup := u.sup } ∧
    u.sup.mv = mv % 2 ^ 32 ∧ u.sup.ma = ma % 2 ^ 32 ∧
    u.sup.mw = mv * ma / 1000 % 2 ^ 32 ∧ u.sup.energy = s.sup.energy + mv * ma ∧ u.sup.latched = s.sup.latched ∧
    (mv < 42000 → exec (.inputSample mv ma) s = .next u.warn.tryRamp) ∧ (42000 ≤ mv → exec (.inputSample mv ma) s = .next u.tryRamp) := by
  have hexec := execInputSample_eq mv ma hp
  by_cases h : mv < 42000
  · rw [if_pos h, State.warnEnds_of_none (s.warn_measured_okAt ma h)] at hexec
    exact ⟨s.measured mv ma, rfl, rfl, rfl, rfl, rfl, rfl, fun _ => hexec, fun hge => absurd h (Nat.not_lt.mpr hge)⟩
  · rw [if_neg h] at hexec
    obtain ⟨sag, warn, hends⟩ := (s.measured mv ma).warnEnds_eq
    rw [hends] at hexec
    exact ⟨{ s.measured mv ma with sup := { (s.measured mv ma).sup with sag := sag, pwrWarn := warn } }, rfl, rfl, rfl, rfl, rfl, rfl,
      fun hlt => absurd hlt h, fun _ => hexec⟩

theorem execSupervisorPowerLoss_spec (s : State) : ∃ t : State, exec .supervisorPowerLoss s = .next t ∧ t.sup.powered = false ∧ t.sup.latched = false ∧
    t.sup.causes = 0 ∧ t.sup.energy = 0 ∧
    t.sup.events = List.replicate 8 0 ∧ t.sup.switch = false ∧ t.store.flush = s.store.flush ∧ t.dict.journal = s.dict.journal ∧ t.pending = s.pending ∧
    ((s.sup.powered = false ∨ s.sup.flushAt = none) → t.mode.mode = .seat ∧ t.arch.islands = 0 ∧ t.store.staging = [] ∧ t.sup.flushAt = none) ∧
    (s.sup.powered = true → s.sup.flushAt ≠ none → t.sup.flushAt = s.sup.flushAt ∧ t = { s with sup := t.sup }) := by
  by_cases h : (s.sup.powered && s.sup.flushAt.isSome) = true
  · refine ⟨_, congrArg Host.Outcome.next (if_pos h), rfl, rfl, rfl, rfl, rfl, rfl, rfl, rfl, rfl, fun hc => absurd h ?_, fun _ _ => ⟨rfl, rfl⟩⟩
    rcases hc with hc | hc <;> simp [hc]
  · refine ⟨_, congrArg Host.Outcome.next (if_neg h), rfl, rfl, rfl, rfl, rfl, rfl, rfl, rfl, rfl, fun _ => ⟨rfl, rfl, rfl, rfl⟩, fun hp hf => absurd ?_ h⟩
    simpa [hp, Option.isSome_iff_ne_none] using hf

/-- Settles O55, from one lemma on each of the supervisor's commands. -/
theorem seatingAndPower : Obligations.SeatingAndPower := by
  refine ⟨execSeatPinChange_high, fun a s hs hpin ha => ?trip, fun pin s => ?low, fun a s hlow => ⟨fun hp hd ha => ?debounced, fun ha => ?bouncing⟩,
    fun s => ⟨State.tryRamp_open, State.tryRamp_shut⟩, fun s => ⟨fun h => ?ramp, fun h => ?noRamp⟩,
    fun s hr hc hg => ⟨fun ht hat => ?good, execPowerGoodAssert_notDue⟩, execResetNAssert_spec, fun a s ha => ?released,
    fun mv ma s hp => execInputSample_spec mv ma hp,
    fun s => ⟨State.warn_again, fun hw => ⟨s.warned, rfl, rfl, rfl, State.warn_stopped hw, State.warn_tells hw⟩⟩, execSupervisorPowerLoss_spec,
    fun s => ⟨fun hp => ?on, fun hp => ?already⟩, execTempRead_spec⟩
  case trip =>
    refine if_pos ?_
    have hdue : decide (a + us ≤ s.now) = true := decide_eq_true ha
    rcases hpin with h | h <;> simp [hs, State.highTwice, h, hdue]
  case low =>
    obtain ⟨t, ht, hframe, hA, hB, hl⟩ := execSeatPinChange_low pin s
    rw [State.seatClears_eq] at hl
    refine ⟨t, ht, hframe, hA, hB, fun ha hb => hl.trans ?_, fun a hpin ha => hl.trans ?_⟩
    · simp [State.highLong, ha, hb]
    · have hdue : decide (a + 10 * ms ≤ s.now) = true := decide_eq_true ha
      rcases hpin with h | h <;> simp [State.highLong, h, hdue]
  case debounced =>
    have hcond : s.sup.powered ∧ !s.sup.debounced ∧ a + 100 * ms ≤ s.now := ⟨hp, by simp [hd], ha⟩
    exact (execSeatDebounceEnd_eq hlow).trans (congrArg Host.Outcome.next (if_pos hcond))
  case bouncing =>
    have hcond : ¬ (s.sup.powered ∧ !s.sup.debounced ∧ a + 100 * ms ≤ s.now) := fun ⟨_, _, hdue⟩ => absurd ha (Nat.not_lt.mpr hdue)
    exact (execSeatDebounceEnd_eq hlow).trans (congrArg Host.Outcome.next (if_neg hcond))
  case ramp => exact ⟨_, execRampComplete_ramping h, rfl, rfl, s.starts_spec⟩
  case noRamp => exact congrArg Host.Outcome.next (if_neg (by simp [h]))
  case good => exact execPowerGoodAssert_spec hr hc hg ht hat
  case released =>
    have hexec := execResetNRelease_eq ha
    refine ⟨s.resetEnded a, rfl, rfl, fun hl hg hf => ⟨hexec.trans ?_, rfl⟩, fun hl hlong => ?_, fun hl hshort => ?_⟩
    · simp [hl, hg, hf]
    · have hdue : decide (a + 10 * ms ≤ s.now) = true := decide_eq_true hlong
      exact ⟨hexec.trans (by simp only [hl, hdue, if_true]), by simp only [State.resetEnded, State.modSup, hdue, Bool.not_true, Bool.and_false]⟩
    · have hdue : decide (a + 10 * ms ≤ s.now) = false := decide_eq_false (Nat.not_le.mpr hshort)
      exact ⟨hexec.trans (by simp only [hl, hdue, if_true, Bool.false_eq_true, if_false]),
        by simp only [State.resetEnded, State.modSup, hdue, hl, Bool.not_false, Bool.and_true]⟩
  case on => exact ⟨_, congrArg Host.Outcome.next (if_neg (by simp [hp])), rfl, rfl, rfl, rfl, rfl⟩
  case already => exact congrArg Host.Outcome.next (if_pos hp)

end Sys2Proof.Machine
end

section
/-! SUPPORT. The fault timer, the trips and the power-fail flush (R344, R345, R349, R351, R354, R376), and the proof of
TripsAndFlush. -/

namespace Sys2Proof.Machine

/-! ### The fault timer (R344) -/

theorem execFaultTimerEnd_running {s : State} (h : s.sup.timerAt ≠ none) : ∃ t : State, execFaultTimerEnd s = .next t ∧ t.sup.timerAt = none ∧
      ((s.inMode .seat = true ∨ s.inMode .boot = true) → t.sup.bootFaults = s.sup.bootFaults ++ [0x0870] ∧ t.faults = s.faults) ∧
      (s.inMode .seat = false → s.inMode .boot = false → t.sup.bootFaults = s.sup.bootFaults ∧
        t.faults.coming = s.faults.coming ++ [{ code := 0x0870, cls := corrected, tile := 15 }]) ∧
      t = { s with sup := t.sup, faults := { s.faults with coming := t.faults.coming } } := by
  refine ⟨_, congrArg Host.Outcome.next (if_neg h), ?_⟩
  by_cases hm : ((s.modSup (fun x => { x with timerAt := none })).inMode .seat || (s.modSup (fun x => { x with timerAt := none })).inMode .boot) = true
  · rw [if_pos hm]
    refine ⟨rfl, fun _ => ⟨rfl, rfl⟩, fun hs hb => ?_, rfl⟩
    have hm' : (s.inMode .seat || s.inMode .boot) = true := hm
    simp [hs, hb] at hm'
  · rw [if_neg hm]
    refine ⟨rfl, fun hsb => absurd ?_ hm, fun _ _ => ⟨rfl, rfl⟩, rfl⟩
    exact (Bool.or_eq_true _ _).mpr hsb

theorem execBreaker_running {s : State} {a : Nat} (h : s.sup.timerAt = some a) : execBreaker s =
    .next (if a + s.sup.timerLimit ≤ s.now then (s.pwrCount 3).trip 2 else s) := by
  unfold execBreaker
  rw [h]

theorem execBreaker_stopped {s : State} (h : s.sup.timerAt = none) : execBreaker s = .next s := by
  unfold execBreaker
  rw [h]

/-! ### Trips (R345, R346) -/

/-- A bit by its place. -/
theorem getLsbD_one_shiftLeft {w k : Nat} (hk : k < w) (j : Nat) : (1#w <<< k).getLsbD j = decide (j = k) := by
  have h : (1#w <<< k).getLsbD j = (decide (k < w) && decide (k = j)) := BitVec.getLsbD_twoPow k j
  rw [h]
  simp [hk, eq_comm]

/-- The supervisor once a cause has tripped it. -/
def Supervisor.tripped (x : Supervisor) (now k : Nat) : Supervisor := { x with
  causes := if x.latched then x.causes ||| (1#5 <<< k) else 1#5 <<< k
  first := if x.latched then (if x.latchAt / us = now / us then min x.first (k + 1) else x.first) else k + 1
  latchAt := if x.latched then x.latchAt else now, latched := true
  latches := if x.latched then x.latches else satAdd 16 x.latches 1
  timerAt := none
  bootFaults := if x.latched && x.causes.getLsbD k then x.bootFaults else x.bootFaults ++ [tripCode k]
  debounced := false }

theorem State.trip_unpowered {s : State} (h : s.sup.powered = false) (k : Nat) : s.trip k = s := if_pos (by simp [h])

theorem State.trip_seated {s : State} (hp : s.sup.powered = true) (ha : s.sup.seatHighA = none) (hb : s.sup.seatHighB = none) (k : Nat) :
    s.trip k = ({ s with sup := s.sup.tripped s.now k } : State).startFlush := by
  have hclear : s.seatClears = s := if_neg (by simp [State.highLong, ha, hb])
  unfold State.trip
  rw [hclear, if_neg (by simp [hp])]
  rfl

theorem Supervisor.tripped_first {x : Supervisor} (now k : Nat) (h : x.latched = false) : (x.tripped now k).causes = 1#5 <<< k ∧
    (x.tripped now k).first = k + 1 ∧ (x.tripped now k).latches = satAdd 16 x.latches 1 ∧
    (x.tripped now k).bootFaults = x.bootFaults ++ [[0x0820, 0x0830, 0x0810, 0x0840, 0x0850].getD k 0] := by
  simp [Supervisor.tripped, h, tripCode]

theorem Supervisor.tripped_again {x : Supervisor} (now : Nat) {k : Nat} (hk : k < 5) (h : x.latched = true) :
    (∀ j, (x.tripped now k).causes.getLsbD j = (x.causes.getLsbD j || decide (j = k))) ∧ (x.tripped now k).latches = x.latches ∧
    (x.latchAt / 1000 = now / 1000 → (x.tripped now k).first = min x.first (k + 1)) ∧
    (x.latchAt / 1000 ≠ now / 1000 → (x.tripped now k).first = x.first) := by
  refine ⟨fun j => ?_, ?_, fun hc => ?_, fun hc => ?_⟩
  · simp [Supervisor.tripped, h, getLsbD_one_shiftLeft hk]
  · simp [Supervisor.tripped, h]
  · simp [Supervisor.tripped, h, hc]
  · simp [Supervisor.tripped, h, hc]

/-! ### The flush (R349) -/

/-- What shedding the loads leaves: what power and flash hold, but that the port and endpoint tiles are in reset and every port off. -/
theorem State.shed_spec (s : State) : s.shed.sup = s.sup ∧ s.shed.mode = s.mode ∧ s.shed.store.flush = s.store.flush ∧
    s.shed.store.staging = s.store.staging ∧ s.shed.store.pages = s.store.pages ∧
    s.shed.arch.islands = s.arch.islands &&& 0x7000 ∧ ∀ p, (s.shed.link p).stage = 0 := by
  let down (s : State) (h : Nat) : State := if (s.hostPort h).train = .l0 then s.hostDown h else s
  have hfirm : ((List.range 64).foldl (fun s p => s.timeUnlock p) ((List.range 4).foldl down s)).firm = s.firm := by
    simp [down, apply_ite State.firm]
  have hcalm : ((List.range 64).foldl (fun s p => s.timeUnlock p) ((List.range 4).foldl down s)).calm = s.calm := by
    simp [down, apply_ite State.calm]
  unfold State.shed
  dsimp only
  generalize (List.range 64).foldl (fun s p => s.timeUnlock p) ((List.range 4).foldl down s) = u at hfirm hcalm ⊢
  refine ⟨State.sup_of_firm hfirm, State.mode_of_calm hcalm, State.flush_of_firm hfirm, State.staging_of_firm hfirm, State.pages_of_firm hfirm,
    ?_, fun p => ?_⟩
  · exact congrArg (· &&& 0x7000) (State.islands_of_firm hfirm)
  · exact congrArg Link.stage (Tbl.getD_map u.links (fun l => { l with stage := 0, rx := none }) p {} rfl)

theorem State.startFlush_running {s : State} (h : s.sup.flushAt.isSome = true) : s.startFlush = s := if_pos h

theorem State.startFlush_seat {s : State} (hf : s.sup.flushAt = none) (hm : s.inMode .seat = true) : s.startFlush = s.seatOff := by
  unfold State.startFlush
  rw [if_neg (by simp [hf]), if_pos hm]

/-- The state in which a warned device's loads are shed: the switch open and the image in the flush area. -/
def State.flushing (w : State) (now : Nat) : State :=
  let s := (w.modSup (fun x => { x with
    switch := false, ramping := false, warnHeld := true, rampDone := false, flushAt := some now, flushOk := false
    bootFaults := x.bootFaults ++ [0x0880] })).pwrCount 6
  { s with store := { s.store with flush := some (s.store.flush.getD (s.store.staging, false)) } }

theorem State.startFlush_on {s : State} (hf : s.sup.flushAt = none) (hm : s.inMode .seat = false) : s.startFlush = (s.warn.flushing s.now).shed := by
  unfold State.startFlush
  rw [if_neg (by simp [hf]), if_neg (by simp [hm])]
  rfl

theorem State.warn_mode (s : State) : s.warn.mode = s.mode := State.mode_of_calm s.warn_calm

/-- The supervisor after a switch opens in SEAT: a flush that did not run does not. -/
theorem State.seatOff_sup (s : State) : s.seatOff.sup.switch = false ∧ s.seatOff.sup.powerGood = false ∧ s.seatOff.sup.converters = false ∧
    s.seatOff.sup.ramping = false ∧ s.seatOff.sup.flushAt = s.sup.flushAt ∧ s.seatOff.mode.mode = .seat := by
  have hwarn : (if s.sup.rampDone then s.warn else s).sup.flushAt = s.sup.flushAt := by
    split
    · rw [State.warn_sup]
      split <;> rfl
    · rfl
  exact ⟨rfl, rfl, rfl, rfl, hwarn, rfl⟩

theorem Store.flushed_staged {x : Store} (h : x.staging ≠ [] ∨ x.flush = none) : x.flushed = some (x.staging, true) := by
  unfold Store.flushed
  split
  · next i b hf =>
    rcases h with h | h
    · exact if_neg fun ⟨he, _⟩ => h he
    · simp [hf] at h
  · rfl

theorem State.flushing_shed (w : State) (now : Nat) : (w.flushing now).shed.sup.switch = false ∧
    (w.flushing now).shed.sup.flushAt = some now ∧ (w.flushing now).shed.sup.flushOk = false ∧ (w.flushing now).shed.mode = w.mode ∧
    (w.flushing now).shed.store.flush = some (w.store.flush.getD (w.store.staging, false)) ∧
    (w.flushing now).shed.store.staging = w.store.staging ∧ (w.flushing now).shed.store.pages = w.store.pages ∧
    (w.flushing now).shed.sup.bootFaults = w.sup.bootFaults ++ [0x0880] ∧ (w.flushing now).shed.sup.events = bump w.sup.events 6 1 ∧
    (w.flushing now).shed.arch.islands = w.arch.islands &&& 0x7000 ∧ (∀ p, ((w.flushing now).shed.link p).stage = 0) := by
  obtain ⟨hsup, hmode, hflush, hstaging, hpages, hislands, hlinks⟩ := (w.flushing now).shed_spec
  rw [hsup, hflush, hstaging, hpages]
  exact ⟨rfl, rfl, rfl, hmode, rfl, rfl, rfl, rfl, rfl, hislands, hlinks⟩

theorem execFlushComplete_spec {s : State} (hf : s.sup.flushAt.isSome = true) : ∃ t : State, exec .flushComplete s = .next t ∧
      t.store.flush = s.store.flushed ∧ t.store.staging = [] ∧
      t.store.pages = s.store.pages ∧ t.dict.journal = s.dict.journal ∧ t.sup.flushOk = true ∧ t.sup.powerGood = false ∧
      t.sup.converters = false ∧ t.sup.flushAt = none ∧ t.sup.latched = s.sup.latched ∧ t.sup.causes = s.sup.causes ∧ t.mode.mode = .seat ∧
      t.arch.islands = 0 ∧ t.pending = s.pending := by
  obtain ⟨a, ha⟩ := Option.isSome_iff_exists.mp hf
  refine ⟨(({ s with store := { s.store with flush := s.store.flushed } } : State).modSup (fun x => { x with flushOk := true })).railsOff, ?_,
    rfl, rfl, rfl, rfl, rfl, rfl, rfl, rfl, rfl, rfl, rfl, rfl, rfl⟩
  change execFlushComplete s = _
  unfold execFlushComplete
  rw [ha]

/-- Settles O56: each trip is `Supervisor.tripped` and then a flush trigger, and a flush is `State.flushing` with its loads shed. -/
theorem tripsAndFlush : Obligations.TripsAndFlush := by
  refine ⟨fun s hs ht => congrArg Host.Outcome.next (if_pos ⟨hs, ht⟩), fun s h => ?noTimer, fun s => ⟨execFaultTimerEnd_running, fun h => ?stopped⟩,
    fun a s ha => ⟨fun hdue => ?breaks, fun hearly => ?holds⟩, fun s => ⟨fun hp => ?fast, rfl, fun hg => ?rail, fun hg => ?noRail, fun k hk => ?thermal⟩,
    fun k s hp hk ha hb => ?trip, fun s hp k => State.trip_unpowered hp k, fun s hf => State.startFlush_running hf, fun s hf hm => ?seat, fun s hf hm => ?flush,
    fun s => ⟨fun hm => ?inSeat, fun hm => ?under⟩, fun s => ⟨fun hf => ?ends, fun hf => ?noFlush⟩, fun x => Store.flushed_staged⟩
  case noTimer =>
    refine congrArg Host.Outcome.next (if_neg fun ⟨hs, ht⟩ => ?_)
    rcases h with h | h
    · simp [h] at hs
    · exact h ht
  case stopped => exact ⟨congrArg Host.Outcome.next (if_pos h), execBreaker_stopped h⟩
  case breaks => exact (execBreaker_running ha).trans (congrArg Host.Outcome.next (if_pos hdue))
  case holds => exact (execBreaker_running ha).trans (congrArg Host.Outcome.next (if_neg (Nat.not_le.mpr hearly)))
  case fast => exact congrArg Host.Outcome.next (if_pos hp)
  case rail => exact congrArg Host.Outcome.next (if_pos hg)
  case noRail => exact congrArg Host.Outcome.next (if_neg (by simp [hg]))
  case thermal => exact congrArg Host.Outcome.next (if_pos hk)
  case trip =>
    refine ⟨_, State.trip_seated hp ha hb k, rfl, rfl, rfl, Supervisor.tripped_first _ _, Supervisor.tripped_again _ hk⟩
  case seat =>
    obtain ⟨hs, hg, hc, hr, hfl, hmode⟩ := s.seatOff_sup
    rw [State.startFlush_seat hf hm]
    exact ⟨hs, hg, hc, hr, hfl.trans hf, hmode⟩
  case flush =>
    have hspec := s.warn.flushing_shed s.now
    rw [← State.startFlush_on hf hm, State.warn_mode] at hspec
    exact ⟨s.warn, rfl, hspec⟩
  case inSeat => exact congrArg Host.Outcome.next (if_pos hm)
  case under => exact congrArg Host.Outcome.next (if_neg (by simp [hm]))
  case ends => exact execFlushComplete_spec hf
  case noFlush =>
    change execFlushComplete s = _
    unfold execFlushComplete
    rw [hf]

end Sys2Proof.Machine
end

section
/-! SUPPORT. The flash store's programs and retirements (R372, R373, R382): what a move out of staging changes. -/

namespace Sys2Proof.Machine

/-! ### The move out of staging (R63, R88) -/

/-- `u` differs from `s` in what a checked and translated transfer changes. -/
def State.Moved (s u : State) : Prop :=
  u = { s with acu := u.acu, priv := u.priv, free := u.free, faults := { s.faults with coming := u.faults.coming } }

namespace State.Moved

theorem refl (s : State) : s.Moved s := rfl

theorem trans {s u w : State} (h : s.Moved u) (k : u.Moved w) : s.Moved w := by
  unfold State.Moved at h k ⊢
  exact k.trans (by rw [h])

theorem foldl {α : Type} {g : State → α → State} (h : ∀ (s : State) a, s.Moved (g s a)) (l : List α) (s : State) : s.Moved (l.foldl g s) := by
  induction l generalizing s with
  | nil => exact refl s
  | cons a l ih => exact (h s a).trans (ih _)

theorem privPtr (s : State) (m : Nat) (p : WalkPtr) : s.Moved (s.privPtr m p) := by
  unfold State.privPtr
  split <;> rfl

theorem privLeaf (s : State) (m : Nat) (l : Leaf) : s.Moved (s.privLeaf m l) := by
  unfold State.privLeaf
  split <;> rfl

theorem privXlate (s : State) (m va : Nat) (k : AccKind) : s.Moved (s.privXlate m va k).1 := by
  have walked (l : List WalkPtr) : s.Moved (l.foldl (fun s p => s.privPtr m p) s) := foldl (fun s p => privPtr s m p) l s
  unfold State.privXlate
  split
  · exact refl s
  · split
    · exact refl s
    · split
      · exact refl s
      · dsimp only
        split
        · exact walked _
        · split
          · exact (walked _).trans (privLeaf _ m _)
          · exact walked _

theorem privAll (s : State) (m : Nat) (k : AccKind) (l : List (Nat × Nat)) : s.Moved (s.privAll m k l).1 := by
  induction l generalizing s with
  | nil => exact refl s
  | cons e l ih =>
    obtain ⟨a, n⟩ := e
    have first := privXlate s m a k
    unfold State.privAll
    split
    · next t b h =>
      rw [h] at first
      have rest := ih t
      split
      · next u l' h' =>
        rw [h'] at rest
        exact first.trans rest
      · exact first.trans rest
    · next t code level h =>
      rw [h] at first
      exact first
    · next t h =>
      rw [h] at first
      exact first

theorem fillPieces (s : State) (l : List (Nat × Nat)) (d : List Byte) : s.Moved (s.fillPieces l d) := by
  rw [State.fillPieces_frame]
  rfl

theorem acuDeny (s : State) (m addr len : Nat) (wr : Bool) (code : Nat) : s.Moved (s.acuDeny m addr len wr code) := by
  unfold State.acuDeny
  dsimp only
  split <;> rfl

theorem transfer (s : State) (m len : Nat) (wr : Bool) (d : List Byte) : s.Moved (s.transfer m len wr d).1 := by
  have pieces : s.Moved (s.transferPieces m (s.bufferAddr m) len wr).1 := by
    unfold State.transferPieces
    split
    · exact privAll s m _ _
    · exact refl s
  unfold State.transfer
  dsimp only
  split
  · next t code h =>
    rw [h] at pieces
    exact pieces.trans rfl
  · next t l h =>
    rw [h] at pieces
    split
    · refine pieces.trans (.trans (u := if wr then t.fillPieces l d else t) ?_ rfl)
      split
      · exact fillPieces t l d
      · exact refl t
    · exact pieces.trans ((acuDeny t m _ len wr _).trans rfl)

end State.Moved

theorem State.Moved.same {s u : State} (h : s.Moved u) : u.store = s.store ∧ u.dict = s.dict ∧ u.out = s.out ∧ u.ctrs = s.ctrs := by
  rw [h]
  exact ⟨rfl, rfl, rfl, rfl⟩

/-! ### Programs (R372, R373, R384) -/

/-- A program changes the pages, the log and the journals. -/
theorem State.programItem_frame (s : State) (b : Nat) (i : StageItem) : ∃ pages log j j2, s.programItem b i = { s with
    store := { s.store with pages := pages, log := log }, dict := { s.dict with journal := j, journal2 := j2 } } := by
  cases i with
  | window f page off bs =>
    cases hg : Tbl.get? s.store.pages (pkey f page) with
    | none => exact ⟨s.store.pages, s.store.log, s.dict.journal, s.dict.journal2, by simp only [State.programItem, hg]⟩
    | some g => exact ⟨_, s.store.log, s.dict.journal, s.dict.journal2, by simp only [State.programItem, hg]; rfl⟩
  | journal k v =>
    by_cases hk : k < newFormat
    · exact ⟨s.store.pages, s.store.log, _, s.dict.journal2, if_pos hk⟩
    · exact ⟨s.store.pages, s.store.log, s.dict.journal, _, if_neg hk⟩
  | log r => exact ⟨s.store.pages, _, s.dict.journal, s.dict.journal2, rfl⟩

theorem State.programItem_window {s : State} {f page : Nat} {g : FlashPage} (h : Tbl.get? s.store.pages (pkey f page) = some g) (b off : Nat) (bs : List Byte) :
    (s.programItem b (.window f page off bs)).store.pages = Tbl.put s.store.pages (pkey f page) { g with
      bytes := Mem.write g.bytes off bs, block := b, flashed := true, unreadable := g.unreadable && bs.length != 4096 } := by
  simp [State.programItem, h]

theorem State.programItem_journal (s : State) (b k v : Nat) : (s.programItem b (.journal k v)).store.pages = s.store.pages ∧
    (k < 2 ^ 26 → (s.programItem b (.journal k v)).dict.journal = Tbl.put s.dict.journal k v ∧ (s.programItem b (.journal k v)).dict.journal2 = s.dict.journal2) ∧
    (2 ^ 26 ≤ k → (s.programItem b (.journal k v)).dict.journal2 = Tbl.put s.dict.journal2 (k - 2 ^ 26) v ∧
      (s.programItem b (.journal k v)).dict.journal = s.dict.journal) := by
  by_cases hk : k < 2 ^ 26
  · have he : s.programItem b (.journal k v) = { s with dict := { s.dict with journal := Tbl.put s.dict.journal k v } } := if_pos hk
    rw [he]
    exact ⟨rfl, fun _ => ⟨rfl, rfl⟩, fun h => absurd hk (Nat.not_lt.mpr h)⟩
  · have he : s.programItem b (.journal k v) = { s with dict := { s.dict with journal2 := Tbl.put s.dict.journal2 (k - newFormat) v } } := if_neg hk
    rw [he]
    exact ⟨rfl, fun h => absurd h hk, fun _ => ⟨rfl, rfl⟩⟩

/-- The newest of a list that has room for one more. -/
theorem newest_append_of_lt {α : Type} {n : Nat} {l : List α} (h : l.length < n) (x : α) : newest n (l ++ [x]) = l ++ [x] := by
  have hall : (l ++ [x]).length - n = 0 := by
    rw [List.length_append]
    exact Nat.sub_eq_zero_of_le h
  rw [newest, hall, List.drop_zero]

theorem State.pages_of_log (s : State) (l : List FaultRec) : ({ s with store := { s.store with log := l } } : State).store.pages = s.store.pages := rfl

theorem State.programItem_logged {s : State} (h : s.store.log.length < 134217728) (b : Nat) (x : FaultRec) :
    s.programItem b (.log x) = { s with store := { s.store with log := s.store.log ++ [x] } } := by
  rw [State.programItem_log, newest_append_of_lt h]

/-- The oldest staged item taken out of staging. -/
def State.unstaged (s : State) (i : StageItem) (rest : List StageItem) : State :=
  { s with store := { s.store with staging := rest, programmed := s.store.programmed + i.size } }

theorem State.programFirst_cons {s : State} {i : StageItem} {rest : List StageItem} (h : s.store.staging = i :: rest) (b : Nat) :
    s.programFirst b = ((((s.unstaged i rest).programItem b i).storeCount 3 i.size).perf 12 0x801 0x3F none i.size).emit (.flashProgram b) := by
  unfold State.programFirst
  rw [h]
  rfl

/-- A program's count and its output. -/
theorem State.countProgram_eq (s : State) (b n : Nat) : ∃ ctrs, ((s.storeCount 3 n).perf 12 0x801 0x3F none n).emit (.flashProgram b) = { s with
    store := { s.store with counts := bump s.store.counts 3 n }, ctrs := ctrs, out := s.out ++ [.flashProgram b] } := ⟨_, rfl⟩

/-- A program of the oldest staged item. -/
theorem State.programFirst_spec {s : State} {i : StageItem} {rest : List StageItem} (h : s.store.staging = i :: rest) (b : Nat) :
    (s.programFirst b).store.staging = rest ∧ (s.programFirst b).store.programmed = s.store.programmed + i.size ∧
    (s.programFirst b).out = s.out ++ [.flashProgram b] ∧
    (s.programFirst b).store.pages = ((s.unstaged i rest).programItem b i).store.pages ∧
    (s.programFirst b).store.log = ((s.unstaged i rest).programItem b i).store.log ∧
    (s.programFirst b).dict.journal = ((s.unstaged i rest).programItem b i).dict.journal ∧
    (s.programFirst b).dict.journal2 = ((s.unstaged i rest).programItem b i).dict.journal2 ∧
    s.programFirst b = { s with
      store := (s.programFirst b).store, out := (s.programFirst b).out, ctrs := (s.programFirst b).ctrs
      dict := { s.dict with journal := (s.programFirst b).dict.journal, journal2 := (s.programFirst b).dict.journal2 } } := by
  obtain ⟨pages, log, j, j2, hitem⟩ := (s.unstaged i rest).programItem_frame b i
  obtain ⟨ctrs, hcount⟩ := ((s.unstaged i rest).programItem b i).countProgram_eq b i.size
  rw [State.programFirst_cons h, hcount, hitem]
  exact ⟨rfl, rfl, rfl, rfl, rfl, rfl, rfl, rfl⟩

theorem execStagingProgramDone_runs {b : Nat} {s : State} (hr : s.flashRuns = true) (hb : b ∉ s.store.grown) :
    execStagingProgramDone b s = .next (s.programMove b) :=
  congrArg Host.Outcome.next (if_pos (by simp [hr, hb]))

section
variable {s : State} {i : StageItem} {rest : List StageItem} (h : s.store.staging = i :: rest) (b : Nat)
include h

theorem State.programMove_refused (ht : (s.transfer 10 i.size false).2 = false) : s.programMove b = (s.transfer 10 i.size false).1 := by
  unfold State.programMove
  rw [h]
  dsimp only
  split
  · next t he => simp [he] at ht
  · next t he => rw [he]

theorem State.programMove_passed (ht : (s.transfer 10 i.size false).2 = true) : s.programMove b = (s.transfer 10 i.size false).1.programFirst b := by
  unfold State.programMove
  rw [h]
  dsimp only
  split
  · next t he => rw [he]
  · next t he => simp [he] at ht

end

/-- The oldest staged item's move, once access control lets it pass. -/
theorem execStagingProgramDone_spec {b : Nat} {s : State} (hr : s.flashRuns = true) (hb : b ∉ s.store.grown) {i : StageItem} {rest : List StageItem}
    (h : s.store.staging = i :: rest) (ht : (s.transfer 10 i.size false).2 = true) :
    ∃ t : State, exec (.stagingProgramDone b) s = .next t ∧ t.store.staging = rest ∧ t.store.programmed = s.store.programmed + i.size ∧
        t.out = s.out ++ [.flashProgram b] ∧
        (∀ (f page off : Nat) (bs : List Byte) (g : FlashPage), i = .window f page off bs → Tbl.get? s.store.pages (f * 2 ^ 28 + page) = some g →
          Tbl.get? t.store.pages (f * 2 ^ 28 + page) = some { g with
            bytes := Mem.write g.bytes off bs, block := b, flashed := true, unreadable := g.unreadable && bs.length != 4096 } ∧
          (∀ k, k ≠ f * 2 ^ 28 + page → Tbl.get? t.store.pages k = Tbl.get? s.store.pages k)) ∧
        (∀ k v : Nat, i = .journal k v → t.store.pages = s.store.pages ∧
          (k < 2 ^ 26 → Tbl.get? t.dict.journal k = some v ∧ t.dict.journal2 = s.dict.journal2) ∧
          (2 ^ 26 ≤ k → Tbl.get? t.dict.journal2 (k - 2 ^ 26) = some v ∧ t.dict.journal = s.dict.journal)) ∧
        (∀ x : FaultRec, i = .log x → t.store.pages = s.store.pages ∧
          (s.store.log.length < 134217728 → t.store.log = s.store.log ++ [x])) ∧
        t = { (s.transfer 10 i.size false).1 with
          store := t.store, out := t.out, ctrs := t.ctrs, dict := { s.dict with journal := t.dict.journal, journal2 := t.dict.journal2 } } := by
  obtain ⟨hstore, hdict, hout, -⟩ := (State.Moved.transfer s 10 i.size false []).same
  have hexec := (execStagingProgramDone_runs hr hb).trans (congrArg Host.Outcome.next (State.programMove_passed h b ht))
  generalize (s.transfer 10 i.size false).1 = u at hstore hdict hout hexec ⊢
  obtain ⟨hstaging, hprog, hemit, hpages, hlog, hj, hj2, hframe⟩ := State.programFirst_spec (hstore ▸ h : u.store.staging = i :: rest) b
  rw [hstore] at hprog
  rw [hout] at hemit
  rw [hdict] at hframe
  have hpages' : (u.unstaged i rest).store.pages = s.store.pages := by rw [← hstore]; rfl
  have hlog' : (u.unstaged i rest).store.log = s.store.log := by rw [← hstore]; rfl
  refine ⟨_, hexec, hstaging, hprog, hemit, fun f page off bs g hi hg => ?_, fun k v hi => ?_, fun x hi => ?_, hframe⟩
  · subst hi
    rw [← hpages'] at hg ⊢
    rw [hpages, State.programItem_window hg]
    exact ⟨Tbl.get?_put_same _ _ _, fun k hk => Tbl.get?_put_other _ _ hk⟩
  · subst hi
    obtain ⟨hp, hold, hnew⟩ := (u.unstaged (.journal k v) rest).programItem_journal b k v
    refine ⟨(hpages.trans hp).trans hpages', fun hk => ?_, fun hk => ?_⟩
    · rw [hj, hj2, (hold hk).1, (hold hk).2]
      exact ⟨Tbl.get?_put_same _ _ _, congrArg Dict.journal2 hdict⟩
    · rw [hj, hj2, (hnew hk).1, (hnew hk).2]
      exact ⟨Tbl.get?_put_same _ _ _, congrArg Dict.journal hdict⟩
  · subst hi
    refine ⟨hpages.trans (by rw [State.programItem_log, State.pages_of_log, hpages']), fun hlen => ?_⟩
    rw [hlog, ← hlog', State.programItem_logged (hlog' ▸ hlen)]

/-! ### Retirement (R382) -/

/-- The two marks of the spare watch. -/
def State.lowWatch (s : State) : State :=
  if s.store.usable < 1024 ∧ !s.store.lowRec then
    ({ s with store := { s.store with lowRec := true, st := max s.store.st 1 } }).stFault 0x0B30 deferred
  else s
def State.critWatch (s : State) : State :=
  if s.store.usable < 256 ∧ !s.store.critRec then
    ({ s with store := { s.store with critRec := true, st := max s.store.st 2 } }).stFault 0x0B31 deferred
  else s

theorem State.spareWatch_eq (s : State) : s.spareWatch = s.lowWatch.critWatch := rfl

theorem State.lowWatch_frame (s : State) : ∃ low st coming, s.lowWatch = { s with
    store := { s.store with lowRec := low, st := st }, faults := { s.faults with coming := coming } } := by
  unfold State.lowWatch
  split <;> exact ⟨_, _, _, rfl⟩

theorem State.critWatch_frame (s : State) : ∃ crit st coming, s.critWatch = { s with
    store := { s.store with critRec := crit, st := st }, faults := { s.faults with coming := coming } } := by
  unfold State.critWatch
  split <;> exact ⟨_, _, _, rfl⟩

/-- The spare watch changes the store's state and its records. -/
theorem State.spareWatch_frame (s : State) : ∃ low crit st coming, s.spareWatch = { s with
    store := { s.store with lowRec := low, critRec := crit, st := st }, faults := { s.faults with coming := coming } } := by
  obtain ⟨low, st, coming, hlow⟩ := s.lowWatch_frame
  obtain ⟨crit, st', coming', hcrit⟩ := s.lowWatch.critWatch_frame
  rw [State.spareWatch_eq, hcrit, hlow]
  exact ⟨_, _, _, _, rfl⟩

theorem State.spareWatch_quiet {s : State} (h : 1024 ≤ s.store.usable) : s.spareWatch = s := by
  have hlow : s.lowWatch = s := if_neg fun hc => absurd hc.1 (Nat.not_lt.mpr h)
  have hcrit : s.critWatch = s := if_neg fun hc => by omega
  rw [State.spareWatch_eq, hlow, hcrit]

/-- Few spare blocks leave a store that no longer takes everything, unless that was recorded before. -/
theorem State.spareWatch_low {s : State} (h : s.store.usable < 1024) : 1 ≤ s.spareWatch.store.st ∨ s.store.lowRec = true := by
  have crit (u : State) (hu : 1 ≤ u.store.st) : 1 ≤ u.critWatch.store.st := by
    unfold State.critWatch
    split
    · exact le_trans hu (le_max_left _ _)
    · exact hu
  cases hl : s.store.lowRec with
  | true => exact .inr rfl
  | false =>
    have hlow : s.lowWatch = ({ s with store := { s.store with lowRec := true, st := max s.store.st 1 } } : State).stFault 0x0B30 deferred :=
      if_pos ⟨h, by simp [hl]⟩
    left
    rw [State.spareWatch_eq]
    refine crit _ ?_
    rw [hlow]
    exact le_max_right _ _

/-- The state of a block's retirement before the spare blocks are counted. -/
def State.retired (s : State) (b : Nat) : State := { s with
  store := { s.store with
    grown := s.store.grown ++ [b], spare := s.store.spare - 1, refreshing := s.store.refreshing.filter (· != b), counts := bump s.store.counts 14 1 }
  faults := { s.faults with coming := s.faults.coming ++ [{ code := 0x0B20, cls := corrected, tile := 12, info := b }] } }

theorem State.retire_eq {s : State} {b : Nat} (hb : b ∉ s.store.grown) : s.retire b = (s.retired b).spareWatch := if_neg (by simpa using hb)

theorem State.retired_usable (s : State) (b : Nat) : (s.retired b).store.usable = s.store.spare - 1 - factoryBad := rfl

theorem State.retire_spec {s : State} {b : Nat} (hb : b ∉ s.store.grown) : (s.retire b).store.grown = s.store.grown ++ [b] ∧
    (s.retire b).store.spare = s.store.spare - 1 ∧ (s.retire b).store.staging = s.store.staging ∧ (s.retire b).store.pages = s.store.pages ∧
    (1025 ≤ s.store.usable → (s.retire b).store.st = s.store.st ∧
      (s.retire b).faults.coming = s.faults.coming ++ [{ code := 0x0B20, cls := corrected, tile := 12, info := b }]) ∧
    (s.store.usable < 1025 → 1 ≤ (s.retire b).store.st ∨ s.store.lowRec = true) ∧
    s.retire b = { s with store := (s.retire b).store, faults := { s.faults with coming := (s.retire b).faults.coming } } := by
  have husable : s.store.usable = s.store.spare - factoryBad := rfl
  have hafter := s.retired_usable b
  have many : 1025 ≤ s.store.usable → (s.retired b).spareWatch = s.retired b := fun h => State.spareWatch_quiet (by omega)
  have few : s.store.usable < 1025 → 1 ≤ (s.retired b).spareWatch.store.st ∨ s.store.lowRec = true := fun h => State.spareWatch_low (by omega)
  rw [State.retire_eq hb]
  obtain ⟨low, crit, st, coming, hwatch⟩ := (s.retired b).spareWatch_frame
  refine ⟨?_, ?_, ?_, ?_, fun h => ?_, few, ?_⟩
  · rw [hwatch]; rfl
  · rw [hwatch]; rfl
  · rw [hwatch]; rfl
  · rw [hwatch]; rfl
  · rw [many h]
    exact ⟨rfl, rfl⟩
  · rw [hwatch]; rfl

end Sys2Proof.Machine
end

section
/-! SUPPORT. Reads of flash, what decoding them changes, and lost pages (R374, R380, R381). -/

namespace Sys2Proof.Machine

/-! ### Decoding (R380, R381) -/

theorem State.countRead_frame (s : State) (res : FlashRead) : ∃ counts ctrs, s.countRead res = { s with
    store := { s.store with counts := counts }, ctrs := ctrs } := by
  unfold State.countRead
  split
  · dsimp only
    split
    · split <;> exact ⟨_, _, rfl⟩
    · split <;> exact ⟨_, _, rfl⟩
  · exact ⟨_, _, rfl⟩

theorem State.refresh_frame (s : State) (b : Nat) : ∃ r, s.refresh b = { s with store := { s.store with refreshing := r } } := by
  unfold State.refresh
  split <;> exact ⟨_, rfl⟩

theorem State.decodeRead_frame (s : State) (b : Nat) (res : FlashRead) : ∃ r counts ctrs, s.decodeRead b res = { s with
    store := { s.store with refreshing := r, counts := counts }, ctrs := ctrs } := by
  obtain ⟨counts, ctrs, hcount⟩ := s.countRead_frame res
  unfold State.decodeRead
  dsimp only
  rw [hcount]
  split
  · obtain ⟨r, hr⟩ := State.refresh_frame ({ s with store := { s.store with counts := counts }, ctrs := ctrs } : State) b
    exact ⟨r, counts, ctrs, hr⟩
  · exact ⟨_, counts, ctrs, rfl⟩

theorem State.mem_refresh (s : State) (b : Nat) : b ∈ (s.refresh b).store.refreshing ∨ b ∈ (s.refresh b).store.grown := by
  by_cases h : (s.store.refreshing.contains b || s.store.grown.contains b) = true
  · have he : s.refresh b = s := if_pos h
    rw [he]
    simpa using h
  · have he : s.refresh b = { s with store := { s.store with refreshing := s.store.refreshing ++ [b] } } := if_neg h
    rw [he]
    exact .inl (by simp)

/-- A block with an unreadable codeword is to be refreshed, or retired already. -/
theorem State.decodeRead_unreadable (s : State) (b : Nat) : b ∈ (s.decodeRead b .unreadable).store.refreshing ∨
    b ∈ (s.decodeRead b .unreadable).store.grown :=
  State.mem_refresh _ b

theorem State.decodeRead_good {s : State} {b : Nat} (hr : b ∉ s.store.refreshing) (hg : b ∉ s.store.grown) (n : Nat) (retried : Bool) :
    (s.decodeRead b (.good n retried)).store.refreshing =
      (if retried = true ∨ s.cfg 0xB000 6 * 120 < n * 100 then s.store.refreshing ++ [b] else s.store.refreshing) := by
  obtain ⟨counts, ctrs, hcount⟩ := s.countRead_frame (.good n retried)
  unfold State.decodeRead
  dsimp only
  rw [hcount]
  generalize hu : ({ s with store := { s.store with counts := counts }, ctrs := ctrs } : State) = u
  have hcfg : u.cfg 0xB000 6 = s.cfg 0xB000 6 := by rw [← hu]; rfl
  have hrefreshing : u.store.refreshing = s.store.refreshing := by rw [← hu]
  have hgrown : u.store.grown = s.store.grown := by rw [← hu]
  have hworn : u.wornRead (.good n retried) = true ↔ retried = true ∨ s.cfg 0xB000 6 * 120 < n * 100 := by
    simp [State.wornRead, hcfg, Nat.mul_comm]
  by_cases h : retried = true ∨ s.cfg 0xB000 6 * 120 < n * 100
  · rw [if_pos h, if_pos (hworn.mpr h)]
    simp [State.refresh, hrefreshing, hgrown, hr, hg]
  · rw [if_neg h, if_neg (fun hw => h (hworn.mp hw)), hrefreshing]

/-! ### Lost pages (R380) -/

theorem State.loseFlashPage_some {s : State} {f page : Nat} {g : FlashPage} (h : Tbl.get? s.store.pages (pkey f page) = some g) :
    s.loseFlashPage f page = { s with
      store := { s.store with pages := Tbl.put s.store.pages (pkey f page) { g with unreadable := true } }
      faults := { s.faults with coming := s.faults.coming ++ [{ code := 0x0B10, cls := deferred, tile := 12, fn := some f }] } } := by
  unfold State.loseFlashPage
  rw [h]
  rfl

theorem State.loseFlashPage_frame (s : State) (f page : Nat) : ∃ pages coming, s.loseFlashPage f page = { s with
    store := { s.store with pages := pages }, faults := { s.faults with coming := coming } } := by
  cases h : Tbl.get? s.store.pages (pkey f page) with
  | none => exact ⟨_, _, by unfold State.loseFlashPage; rw [h]⟩
  | some g => exact ⟨_, _, State.loseFlashPage_some h⟩

/-! ### Reads for windows (R374) -/

theorem State.flashPageOf_some {s : State} {f off len page b : Nat} (h : s.flashPageOf f off len = some (page, b)) :
    ∃ g, Tbl.get? s.store.pages (pkey f page) = some g := by
  obtain ⟨p, hfind, he⟩ := Option.map_eq_some_iff.mp h
  have hp := List.find?_some hfind
  simp only [Prod.mk.injEq] at he
  rw [he.1, Bool.and_eq_true] at hp
  exact Option.isSome_iff_exists.mp hp.1

/-- The read that ended is no longer awaited. -/
def State.readTaken (s : State) (x : StoreRead) : State := s.modStore (fun y => { y with reads := y.reads.filter (fun z => z.id != x.id) })

/-- What decoding the read counts, and the refresh it asks for. -/
def State.readDecoded (s : State) (x : StoreRead) (res : FlashRead) : State :=
  match s.flashPageOf x.op.fn x.op.raddr x.op.len with
  | some (_, b) => s.decodeRead b res
  | none => s.countRead res

/-- The page that could not be read is lost. -/
def State.readLost (s : State) (page : Option (Nat × Nat)) (f : Nat) : State :=
  match page with
  | some (p, _) => s.loseFlashPage f p
  | none => s

theorem State.storeReadEnd_failed {s : State} (h : s.store.st = 3) (x : StoreRead) (res : FlashRead) :
    s.storeReadEnd x res = ((s.readTaken x).answer x.op stRemote []).rCount (etOf x.op.fn) 6 := if_pos h

theorem State.storeReadEnd_good {s : State} (h : s.store.st ≠ 3) (x : StoreRead) (n : Nat) (retried : Bool) :
    s.storeReadEnd x (.good n retried) = ((s.readTaken x).readDecoded x (.good n retried)).answer x.op stOk x.bytes := if_neg h

theorem State.storeReadEnd_unreadable {s : State} (h : s.store.st ≠ 3) (x : StoreRead) : s.storeReadEnd x .unreadable =
    ((((s.readTaken x).readDecoded x .unreadable).readLost (s.flashPageOf x.op.fn x.op.raddr x.op.len) x.op.fn).answer x.op stRemote []).rCount
      (etOf x.op.fn) 6 := if_neg h

theorem State.readDecoded_frame (s : State) (x : StoreRead) (res : FlashRead) : ∃ r counts ctrs, s.readDecoded x res = { s with
    store := { s.store with refreshing := r, counts := counts }, ctrs := ctrs } := by
  unfold State.readDecoded
  split
  · exact State.decodeRead_frame ..
  · obtain ⟨counts, ctrs, h⟩ := s.countRead_frame res
    exact ⟨_, counts, ctrs, h⟩

theorem State.readLost_frame (s : State) (page : Option (Nat × Nat)) (f : Nat) : ∃ pages coming, s.readLost page f = { s with
    store := { s.store with pages := pages }, faults := { s.faults with coming := coming } } := by
  unfold State.readLost
  split
  · exact State.loseFlashPage_frame ..
  · exact ⟨_, _, rfl⟩

theorem execStoreReadDone_found {s : State} {k : Nat} {x : StoreRead} (hi : s.island 13 = true)
    (h : s.store.reads.find? (fun y => y.id == k) = some x) (res : FlashRead) : execStoreReadDone k res s = .next (s.storeReadEnd x res) := by
  unfold execStoreReadDone
  rw [h]
  exact congrArg Host.Outcome.next (if_pos hi)

theorem execStoreReadDone_idle {s : State} {k : Nat} (res : FlashRead) (h : s.island 13 = false ∨ s.store.reads.find? (fun y => y.id == k) = none) :
    execStoreReadDone k res s = .next s := by
  unfold execStoreReadDone
  split
  · next x hx =>
    have hi : s.island 13 = false := h.resolve_right (by simp [hx])
    exact congrArg Host.Outcome.next (if_neg (by simp [hi]))
  · rfl

end Sys2Proof.Machine
end

section
/-! SUPPORT. The store's programs, reads, scrubbed sites and refreshes, case by case (R373, R374, R380 to R383), and the proof of
StoreEvents. -/

namespace Sys2Proof.Machine

/-! ### Programs (R373, R382) -/

theorem execStagingProgramDone_refused {b : Nat} {s : State} (hr : s.flashRuns = true) (hb : b ∉ s.store.grown) {i : StageItem} {rest : List StageItem}
    (h : s.store.staging = i :: rest) (ht : (s.transfer 10 i.size false).2 = false) :
    exec (.stagingProgramDone b) s = .next (s.transfer 10 i.size false).1 :=
  (execStagingProgramDone_runs hr hb).trans (congrArg Host.Outcome.next (State.programMove_refused h b ht))

theorem execStagingProgramDone_idle {b : Nat} {s : State} (h : s.flashRuns = false ∨ b ∈ s.store.grown) : exec (.stagingProgramDone b) s = .next s :=
  congrArg Host.Outcome.next (if_neg (by simpa [imp_iff_not_or] using h))

theorem execProgramFail_idle {b : Nat} {s : State} (h : s.flashRuns = false ∨ b ∈ s.store.grown) : exec (.programFail b) s = .next s := by
  refine congrArg Host.Outcome.next ?_
  by_cases hr : s.flashRuns = true
  · have hb : b ∈ s.store.grown := h.resolve_left (by simp [hr])
    rw [if_pos hr]
    exact if_pos (by simpa using hb)
  · exact if_neg hr

theorem execProgramFail_spec {b : Nat} {s : State} (hr : s.flashRuns = true) (hb : b ∉ s.store.grown) : ∃ t : State, exec (.programFail b) s = .next t ∧
    t.store.grown = s.store.grown ++ [b] ∧ t.store.spare = s.store.spare - 1 ∧ t.store.staging = s.store.staging ∧ t.store.pages = s.store.pages ∧
    (1025 ≤ s.store.usable → t.store.st = s.store.st ∧
      t.faults.coming = s.faults.coming ++ [{ code := 0x0B20, cls := corrected, tile := 12, info := b }]) ∧
    (s.store.usable < 1025 → 1 ≤ t.store.st ∨ s.store.lowRec = true) ∧ t = { s with store := t.store, faults := { s.faults with coming := t.faults.coming } } :=
  ⟨s.retire b, congrArg Host.Outcome.next (if_pos hr), State.retire_spec hb⟩

/-! ### Window reads (R374) -/

theorem State.mem_readTaken (s : State) (x y : StoreRead) : y ∈ (s.readTaken x).store.reads ↔ y ∈ s.store.reads ∧ y.id ≠ x.id := by
  simp [State.readTaken, State.modStore]

/-- The state in which an ended read is answered. -/
def State.readSettled (s : State) (x : StoreRead) (res : FlashRead) : State :=
  if s.store.st = 3 then s.readTaken x
  else
    match res with
    | .good n retried => (s.readTaken x).readDecoded x (.good n retried)
    | .unreadable => ((s.readTaken x).readDecoded x .unreadable).readLost (s.flashPageOf x.op.fn x.op.raddr x.op.len) x.op.fn

/-- What an ended read changes before its answer. -/
theorem State.readSettled_frame (s : State) (x : StoreRead) (res : FlashRead) : ∃ r counts pages ctrs coming, s.readSettled x res =
    { s.readTaken x with
      store := { (s.readTaken x).store with refreshing := r, counts := counts, pages := pages }
      ctrs := ctrs, faults := { s.faults with coming := coming } } := by
  unfold State.readSettled
  split
  · exact ⟨_, _, _, _, _, rfl⟩
  · cases res with
    | good n retried =>
      obtain ⟨r, counts, ctrs, h⟩ := (s.readTaken x).readDecoded_frame x (.good n retried)
      dsimp only
      rw [h]
      exact ⟨_, _, _, _, _, rfl⟩
    | unreadable =>
      obtain ⟨r, counts, ctrs, h⟩ := (s.readTaken x).readDecoded_frame x .unreadable
      obtain ⟨pages, coming, h'⟩ := ((s.readTaken x).readDecoded x .unreadable).readLost_frame (s.flashPageOf x.op.fn x.op.raddr x.op.len) x.op.fn
      dsimp only
      rw [h', h]
      exact ⟨_, _, _, _, _, rfl⟩

theorem State.readSettled_good {s : State} (h : s.store.st ≠ 3) (x : StoreRead) (n : Nat) (retried : Bool) :
    s.storeReadEnd x (.good n retried) = (s.readSettled x (.good n retried)).answer x.op stOk x.bytes ∧
    (s.readSettled x (.good n retried)).faults = s.faults ∧ (s.readSettled x (.good n retried)).store.pages = s.store.pages := by
  have hu : s.readSettled x (.good n retried) = (s.readTaken x).readDecoded x (.good n retried) := if_neg h
  obtain ⟨r, counts, ctrs, hframe⟩ := (s.readTaken x).readDecoded_frame x (.good n retried)
  refine ⟨(State.storeReadEnd_good h x n retried).trans (by rw [hu]), ?_, ?_⟩
  · rw [hu, hframe]; rfl
  · rw [hu, hframe]; rfl

theorem State.readSettled_remote {s : State} {x : StoreRead} {res : FlashRead} (h : s.store.st = 3 ∨ res = .unreadable) :
    s.storeReadEnd x res = ((s.readSettled x res).answer x.op stRemote []).rCount (etOf x.op.fn) 6 := by
  unfold State.readSettled
  by_cases hst : s.store.st = 3
  · rw [if_pos hst]
    exact State.storeReadEnd_failed hst x res
  · rw [if_neg hst, h.resolve_left hst]
    exact State.storeReadEnd_unreadable hst x

/-- An unreadable page of the read is marked, recorded, and its block refreshed. -/
theorem State.readSettled_unreadable {s : State} {x : StoreRead} {page b : Nat} (hst : s.store.st ≠ 3)
    (h : s.flashPageOf x.op.fn x.op.raddr x.op.len = some (page, b)) :
    (∃ g, Tbl.get? (s.readSettled x .unreadable).store.pages (pkey x.op.fn page) = some g ∧ g.unreadable = true) ∧
    (b ∈ (s.readSettled x .unreadable).store.refreshing ∨ b ∈ (s.readSettled x .unreadable).store.grown) ∧
    (s.readSettled x .unreadable).faults.coming = s.faults.coming ++ [{ code := 0x0B10, cls := deferred, tile := 12, fn := some x.op.fn }] := by
  obtain ⟨g, hg⟩ := State.flashPageOf_some h
  have hu : s.readSettled x .unreadable =
      ((s.readTaken x).readDecoded x .unreadable).readLost (s.flashPageOf x.op.fn x.op.raddr x.op.len) x.op.fn := if_neg hst
  have hd : (s.readTaken x).readDecoded x .unreadable = (s.readTaken x).decodeRead b .unreadable := by
    have htaken : (s.readTaken x).flashPageOf x.op.fn x.op.raddr x.op.len = some (page, b) := h
    unfold State.readDecoded
    rw [htaken]
  have hmem := (s.readTaken x).decodeRead_unreadable b
  obtain ⟨r, counts, ctrs, hframe⟩ := (s.readTaken x).decodeRead_frame b .unreadable
  rw [hd, h] at hu
  generalize (s.readTaken x).decodeRead b .unreadable = d at hu hmem hframe
  have hpages : d.store.pages = s.store.pages := by rw [hframe]; rfl
  have hcoming : d.faults = s.faults := by rw [hframe]; rfl
  have hlost : s.readSettled x .unreadable = _ := hu.trans (State.loseFlashPage_some (hpages ▸ hg : Tbl.get? d.store.pages _ = some g))
  rw [hlost, ← hcoming]
  exact ⟨⟨_, Tbl.get?_put_same _ _ _, rfl⟩, hmem, rfl⟩

theorem execStoreReadDone_spec {k : Nat} {x : StoreRead} {s : State} (hi : s.island 13 = true)
    (h : s.store.reads.find? (fun y => y.id == k) = some x) (res : FlashRead) :
    ∃ u : State, (∀ y, y ∈ u.store.reads ↔ y ∈ s.store.reads ∧ y.id ≠ x.id) ∧ u.store.staging = s.store.staging ∧
      u = { s with store := u.store, ctrs := u.ctrs, faults := { s.faults with coming := u.faults.coming } } ∧
      (s.store.st ≠ 3 → ∀ (n : Nat) (retried : Bool), res = .good n retried →
        exec (.storeReadDone k res) s = .next (u.answer x.op 0 x.bytes) ∧ u.faults = s.faults ∧ u.store.pages = s.store.pages) ∧
      ((s.store.st = 3 ∨ res = .unreadable) → exec (.storeReadDone k res) s = .next ((u.answer x.op 8 []).rCount (etOf x.op.fn) 6)) ∧
      (∀ page b, s.store.st ≠ 3 → res = .unreadable → s.flashPageOf x.op.fn x.op.raddr x.op.len = some (page, b) →
        (∃ g, Tbl.get? u.store.pages (x.op.fn * 2 ^ 28 + page) = some g ∧ g.unreadable = true) ∧ (b ∈ u.store.refreshing ∨ b ∈ u.store.grown) ∧
        u.faults.coming = s.faults.coming ++ [{ code := 0x0B10, cls := deferred, tile := 12, fn := some x.op.fn }]) := by
  have hexec : exec (.storeReadDone k res) s = .next (s.storeReadEnd x res) := execStoreReadDone_found hi h res
  obtain ⟨r, counts, pages, ctrs, coming, hframe⟩ := s.readSettled_frame x res
  refine ⟨s.readSettled x res, fun y => ?_, ?_, ?_, fun hst n retried hres => ?_, fun hbad => ?_, fun page b hst hres hpage => ?_⟩
  · rw [hframe]
    exact s.mem_readTaken x y
  · rw [hframe]; rfl
  · rw [hframe]; rfl
  · subst hres
    obtain ⟨hend, hkept⟩ := State.readSettled_good hst x n retried
    exact ⟨hexec.trans (congrArg Host.Outcome.next hend), hkept⟩
  · exact hexec.trans (congrArg Host.Outcome.next (State.readSettled_remote hbad))
  · subst hres
    exact State.readSettled_unreadable hst hpage

/-! ### Scrubbing (R380, R381) -/

theorem State.scrubMark_frame (s : State) (site : FlashSite) : ∃ seen at_ behind counts, s.scrubMark site = { s with
    store := { s.store with scrubbed := seen, scrubAt := at_, scrubBehind := behind, counts := counts } } := by
  unfold State.scrubMark
  dsimp only
  generalize (if s.store.scrubbed.contains site then s.store.scrubbed else s.store.scrubbed ++ [site]) = seen
  split <;> exact ⟨_, _, _, _, rfl⟩

/-- The flush area is no site of a scrub pass. -/
theorem State.flush_notMem_flashSites (s : State) : FlashSite.flush ∉ s.flashSites := by
  simp [State.flashSites]

theorem execStoreScrubPage_idle {b : Nat} {site : FlashSite} (res : FlashRead) {s : State}
    (h : s.flashRuns = false ∨ site ≠ .flush ∧ (s.store.scrubbing = false ∨ site ∉ s.flashSites) ∨ site = .flush ∧ s.inMode .boot = false) :
    exec (.storeScrubPage b site res) s = .next s := by
  refine congrArg Host.Outcome.next ?_
  by_cases hr : s.flashRuns = true
  · rw [if_neg (by simp [hr])]
    rcases h with hr' | ⟨hs, hq⟩ | ⟨hs, hm⟩
    · simp [hr] at hr'
    · rw [if_neg hs]
      exact if_neg (by simpa [imp_iff_not_or] using hq)
    · rw [if_pos hs]
      exact if_neg (by simp [hm])
  · exact if_pos (by simpa using hr)

theorem execStoreScrubPage_spec {b : Nat} {site : FlashSite} (res : FlashRead) {s : State} (hr : s.flashRuns = true) (hs : s.store.scrubbing = true)
    (hsite : site ∈ s.flashSites) : ∃ u : State, u = (s.decodeRead b res).scrubMark site ∧
      (res ≠ .unreadable → exec (.storeScrubPage b site res) s = .next u) ∧
      (res = .unreadable → exec (.storeScrubPage b site res) s = .next (u.loseSite site)) ∧
      (b ∉ s.store.refreshing → b ∉ s.store.grown → ∀ (n : Nat) (retried : Bool), res = .good n retried →
        u.store.refreshing = (if retried = true ∨ s.cfg 0xB000 6 * 120 < n * 100 then s.store.refreshing ++ [b] else s.store.refreshing)) ∧
      u = { s with store := u.store, ctrs := u.ctrs } := by
  have hflush : site ≠ .flush := fun he => s.flush_notMem_flashSites (he ▸ hsite)
  have hexec : exec (.storeScrubPage b site res) s = .next (s.scrubSite b site res) := by
    refine congrArg Host.Outcome.next ?_
    rw [if_neg (by simp [hr]), if_neg hflush]
    exact if_pos (by simp [hs, hsite])
  obtain ⟨r, counts, ctrs, hdecode⟩ := s.decodeRead_frame b res
  obtain ⟨seen, at_, behind, counts', hmark⟩ := (s.decodeRead b res).scrubMark_frame site
  refine ⟨_, rfl, fun hres => hexec.trans (congrArg Host.Outcome.next (if_neg hres)),
    fun hres => hexec.trans (congrArg Host.Outcome.next (if_pos hres)), fun hb hg n retried hres => ?_, ?_⟩
  · subst hres
    rw [hmark]
    exact State.decodeRead_good hb hg n retried
  · rw [hmark, hdecode]

/-- The read of the flush area in BOOT. -/
theorem execStoreScrubPage_flush (b : Nat) (res : FlashRead) {s : State} (hr : s.flashRuns = true) (hm : s.inMode .boot = true) :
    ∃ t : State, exec (.storeScrubPage b .flush res) s = .next t ∧
      t.store.flush = (if res = .unreadable then s.store.flush.map (fun e => (e.1, false)) else s.store.flush) ∧
      t = { s with store := { s.store with flush := t.store.flush, counts := t.store.counts }, ctrs := t.ctrs } := by
  have hexec : exec (.storeScrubPage b .flush res) s = .next (if res = .unreadable then (s.countRead res).loseSite .flush else s.countRead res) := by
    refine congrArg Host.Outcome.next ?_
    rw [if_neg (by simp [hr]), if_pos rfl]
    exact if_pos hm
  obtain ⟨counts, ctrs, hcount⟩ := s.countRead_frame res
  refine ⟨_, hexec, ?_⟩
  rw [hcount]
  split
  · exact ⟨rfl, rfl⟩
  · exact ⟨rfl, rfl⟩

theorem State.loseSite_journal (s : State) {k : Nat} (hk : k < 2 ^ 26) :
    s.loseSite (.journal k) = { s with dict := { s.dict with journal := Tbl.del s.dict.journal k } } := if_pos hk

theorem State.loseSite_spec (s : State) :
    (∀ k, k < 2 ^ 26 → ∃ t : State, s.loseSite (.journal k) = t ∧ Tbl.get? t.dict.journal k = none ∧
      (∀ j, j ≠ k → Tbl.get? t.dict.journal j = Tbl.get? s.dict.journal j) ∧ t = { s with dict := { s.dict with journal := t.dict.journal } }) ∧
    (∀ q, ∃ t : State, s.loseSite (.log q) = t ∧ (∀ x, x ∈ t.store.log ↔ x ∈ s.store.log ∧ x.seq ≠ q) ∧
      t = { s with store := { s.store with log := t.store.log } }) ∧
    (∀ (f page : Nat) (g : FlashPage), Tbl.get? s.store.pages (f * 2 ^ 28 + page) = some g → ∃ t : State, s.loseSite (.pool f page) = t ∧
      Tbl.get? t.store.pages (f * 2 ^ 28 + page) = some { g with unreadable := true } ∧
      t.faults.coming = s.faults.coming ++ [{ code := 0x0B10, cls := deferred, tile := 12, fn := some f }] ∧
      t = { s with store := { s.store with pages := t.store.pages }, faults := { s.faults with coming := t.faults.coming } }) := by
  refine ⟨fun k hk => ⟨_, s.loseSite_journal hk, Tbl.get?_del_same _ _, fun j hj => Tbl.get?_del_other _ hj, rfl⟩,
    fun q => ⟨_, rfl, fun x => ?_, rfl⟩, fun f page g hg => ⟨_, State.loseFlashPage_some hg, Tbl.get?_put_same _ _ _, rfl, rfl⟩⟩
  simp [State.loseSite, State.modStore]

/-! ### Refreshes and levelling (R381 to R383) -/

/-- The wear marks change their two flags and the coming faults. -/
theorem State.wearWatch_frame (s : State) : ∃ w90 w100 coming, s.wearWatch = { s with
    store := { s.store with wear90 := w90, wear100 := w100 }, faults := { s.faults with coming := coming } } := by
  unfold State.wearWatch
  dsimp only
  split <;> split <;> exact ⟨_, _, _, rfl⟩

theorem State.eraseBlock_erases (s : State) (b : Nat) : Tbl.getD (s.eraseBlock b).store.erases b 0 = Tbl.getD s.store.erases b 0 + 1 := by
  obtain ⟨w90, w100, coming, h⟩ :=
    (({ s with store := { s.store with erases := Tbl.put s.store.erases b (Tbl.getD s.store.erases b 0 + 1) } } : State).storeCount 13 1).wearWatch_frame
  unfold State.eraseBlock
  rw [h]
  exact Tbl.getD_put_same _ _ _ _

/-- The valid pages moved off the block, which is no longer to be refreshed. -/
def State.blockMoved (s : State) (b : Nat) : State := (s.movePages b).modStore (fun x => { x with refreshing := x.refreshing.filter (· != b) })

/-- A page of the old block lies on the new one, every other where it was. -/
def movedPage (b dest : Nat) (e : Nat × FlashPage) : Nat × FlashPage :=
  if e.2.block = b ∧ e.2.flashed then (e.1, { e.2 with block := dest }) else e

theorem movedPage_key (b dest : Nat) (e : Nat × FlashPage) : (movedPage b dest e).1 = e.1 := by
  unfold movedPage
  split <;> rfl

theorem movedPage_other {b : Nat} (dest : Nat) {e : Nat × FlashPage} (h : e.2.block ≠ b ∨ e.2.flashed = false) : movedPage b dest e = e :=
  if_neg fun hc => h.elim (fun hb => hb hc.1) (fun hf => by simp [hf] at hc)

theorem State.blockMoved_frame (s : State) (b : Nat) : ∃ n counts ctrs, s.blockMoved b = { s with
    store := { s.store with
      pages := s.store.pages.map (movedPage b (s.freeVal 16)), programmed := n, counts := counts, refreshing := s.store.refreshing.filter (· != b) }
    free := s.free + 1, ctrs := ctrs } := ⟨_, _, _, rfl⟩

theorem execBlockRefreshDone_runs {b : Nat} {s : State} (hr : s.flashRuns = true) (hb : b ∈ s.store.refreshing ∨ s.mayLevel b = true) (done : Bool) :
    exec (.blockRefreshDone b done) s = .next (s.refreshEnd b done) :=
  congrArg Host.Outcome.next (if_pos (by simpa [hr] using hb))

theorem execBlockRefreshDone_idle {b : Nat} {s : State} (h : s.flashRuns = false ∨ b ∉ s.store.refreshing ∧ s.mayLevel b = false) (done : Bool) :
    exec (.blockRefreshDone b done) s = .next s :=
  congrArg Host.Outcome.next (if_neg (by rcases h with h | ⟨hb, hl⟩ <;> simp [*]))

theorem execBlockRefreshDone_spec {b : Nat} {s : State} (hr : s.flashRuns = true) (hb : b ∈ s.store.refreshing ∨ s.mayLevel b = true) :
    ∃ (u : State) (n : Nat), n = (if b ∈ s.store.refreshing then 1 else 0) ∧ u.store.refreshing = s.store.refreshing.filter (· != b) ∧
      u.store.pages.map (·.1) = s.store.pages.map (·.1) ∧ u.store.staging = s.store.staging ∧
      (∀ k v, (k, v) ∈ s.store.pages → (v.block ≠ b ∨ v.flashed = false) → (k, v) ∈ u.store.pages) ∧
      u = { s with store := u.store, free := s.free + 1, ctrs := u.ctrs } ∧
      exec (.blockRefreshDone b false) s = .next (u.retire b) ∧
      exec (.blockRefreshDone b true) s = .next ((u.storeCount 11 n).eraseBlock b) ∧
      Tbl.getD ((u.storeCount 11 n).eraseBlock b).store.erases b 0 = Tbl.getD s.store.erases b 0 + 1 := by
  have hn : b2n (s.store.refreshing.contains b) = if b ∈ s.store.refreshing then 1 else 0 := by simp [b2n]
  obtain ⟨n, counts, ctrs, hframe⟩ := s.blockMoved_frame b
  refine ⟨s.blockMoved b, b2n (s.store.refreshing.contains b), hn, ?_, ?_, ?_, fun k v hm ho => ?_, ?_,
    execBlockRefreshDone_runs hr hb false, execBlockRefreshDone_runs hr hb true, ?_⟩
  · rw [hframe]
  · rw [hframe]
    simp [movedPage_key, Function.comp_def]
  · rw [hframe]
  · rw [hframe]
    exact List.mem_map.mpr ⟨_, hm, movedPage_other _ ho⟩
  · rw [hframe]
  · rw [State.eraseBlock_erases]
    generalize s.blockMoved b = u at hframe
    rw [hframe]
    rfl

/-! ### A late pass and a failed die (R381, R382) -/

theorem execScrubBehind_spec (s : State) :
    (s.flashRuns = true → s.store.scrubbing = true → s.store.scrubBehind = false → s.store.scrubAt + s.cfg 0xB000 5 * 3600000000000 < s.now →
      exec .scrubBehind s = .next { s with
        store := { s.store with scrubBehind := true }
        faults := { s.faults with coming := s.faults.coming ++ [{ code := 0x0B50, cls := corrected, tile := 12 }] } }) ∧
    ((s.store.scrubBehind = true ∨ s.now ≤ s.store.scrubAt + s.cfg 0xB000 5 * 3600000000000) → exec .scrubBehind s = .next s) := by
  have hperiod : s.scrubPeriod = s.cfg 0xB000 5 * 3600000000000 := Nat.mul_assoc _ _ _
  refine ⟨fun hr hs hb ht => congrArg Host.Outcome.next (if_pos ?_), fun h => congrArg Host.Outcome.next (if_neg ?_)⟩
  · simp [hr, hs, hb, hperiod, ht]
  · rw [hperiod]
    rcases h with hb | ht
    · simp [hb]
    · simp [Nat.not_lt.mpr ht]

theorem execDieFailed_spec (d : Nat) (s : State) : (s.island 13 = true → exec (.dieFailed d) s = .next { s with
        store := { s.store with st := 3 }
        faults := { s.faults with coming := s.faults.coming ++ [{ code := 0x0B60, cls := fatalDevice, tile := 12, info := d }] } }) ∧
    (s.island 13 = false → exec (.dieFailed d) s = .next s) :=
  ⟨fun h => congrArg Host.Outcome.next (if_pos h), fun h => congrArg Host.Outcome.next (if_neg (by simp [h]))⟩

/-! ### Allotments (R377 to R379) -/

theorem State.mem_freePages (s : State) (f lo hi : Nat) (e : Nat × FlashPage) : e ∈ (s.freePages f lo hi).store.pages ↔
    e ∈ s.store.pages ∧ ¬ (e.1 / 2 ^ 28 = f ∧ lo ≤ e.1 % 2 ^ 28 ∧ e.1 % 2 ^ 28 < hi) := by
  simp [State.freePages, imp_iff_not_or, or_assoc]

theorem State.takeWrite_allot (s : State) (g f v : Nat) : s.takeWrite g 0xB010 f v = (s.setCfg 0xB010 f (v % 2 ^ 32)).writeAllot f v := by
  simp [State.takeWrite, elsewhere, keptValue, State.effectHigh, Machine.measured]

theorem State.takeWrite_trim (s : State) (g f v : Nat) : s.takeWrite g 0xB013 f v = (s.setCfg 0xB013 f v).writeTrim f v := by
  simp [State.takeWrite, elsewhere, keptValue, State.effectHigh, Machine.measured]

theorem State.takeWrite_cursor (s : State) (g v : Nat) : s.takeWrite g 0xB000 7 v = s.setCfg 0xB000 7 v := by
  simp [State.takeWrite, elsewhere, keptValue, State.effectHigh, Machine.measured]

theorem State.takeWrite_allot_spec (s : State) (g f v : Nat) : ∃ t : State, s.takeWrite g 0xB010 f v = t ∧ t.cfg 0xB010 f = v % 2 ^ 32 ∧
    (∀ e, e ∈ t.store.pages ↔ e ∈ s.store.pages ∧ ¬ (bitAt v 32 = true ∧ e.1 / 2 ^ 28 = f)) ∧
    t = { s with store := { s.store with pages := t.store.pages, staging := t.store.staging }, dict := { s.dict with vals := t.dict.vals } } := by
  have hcfg := s.setCfg_cfg 0xB010 f (v % 2 ^ 32)
  refine ⟨_, s.takeWrite_allot g f v, ?_⟩
  by_cases h : bitAt v 32 = true
  · have hw : (s.setCfg 0xB010 f (v % 2 ^ 32)).writeAllot f v = (s.setCfg 0xB010 f (v % 2 ^ 32)).freePages f 0 (2 ^ 28) := if_pos h
    rw [hw]
    refine ⟨hcfg, fun e => ?_, rfl⟩
    rw [State.mem_freePages]
    have hlt : e.1 % 2 ^ 28 < 2 ^ 28 := Nat.mod_lt _ (by decide)
    exact and_congr_right fun _ => not_congr ⟨fun he => ⟨h, he.1⟩, fun he => ⟨he.2, Nat.zero_le _, hlt⟩⟩
  · have hw : (s.setCfg 0xB010 f (v % 2 ^ 32)).writeAllot f v = s.setCfg 0xB010 f (v % 2 ^ 32) := if_neg h
    rw [hw]
    exact ⟨hcfg, fun e => by simp [h, State.setCfg], rfl⟩

theorem State.takeWrite_trim_spec (s : State) (g f v : Nat) : ∃ t : State, s.takeWrite g 0xB013 f v = t ∧
    (∀ e, e ∈ t.store.pages ↔ e ∈ s.store.pages ∧ ¬ (e.1 / 2 ^ 28 = f ∧ bf v 0 64 / 4096 ≤ e.1 % 2 ^ 28 ∧ e.1 % 2 ^ 28 < (bf v 0 64 + bf v 64 64) / 4096)) ∧
    t = { s with store := { s.store with pages := t.store.pages, staging := t.store.staging }, dict := { s.dict with vals := t.dict.vals } } :=
  ⟨_, s.takeWrite_trim g f v, (s.setCfg 0xB013 f v).mem_freePages f _ _, rfl⟩

/-- Space can be had for a write of no new page, within the guarantee, or from the free pool. -/
theorem State.storeSpace_iff (s : State) (f off len : Nat) : s.storeSpace f off len = true ↔ s.store.st = 0 ∧
    ((s.newPages f off len).length = 0 ∨ s.usedPages f + (s.newPages f off len).length ≤ s.guarPages f ∨
      s.usedPages f + (s.newPages f off len).length - max (s.usedPages f) (s.guarPages f) ≤ 201326592 - s.claimed) := by
  unfold State.storeSpace State.freePool
  simp [or_assoc]

/-- Settles O59, one fact for each event. -/
theorem storeEvents : Obligations.StoreEvents := by
  refine ⟨fun b s => ⟨fun hr hb i rest hi => ⟨execStagingProgramDone_refused hr hb hi, State.Moved.transfer s 10 i.size false [],
      execStagingProgramDone_spec hr hb hi⟩, execStagingProgramDone_idle⟩,
    fun b s => ⟨execProgramFail_spec, execProgramFail_idle⟩, fun k x s hi h => execStoreReadDone_spec hi h,
    fun k res s h => execStoreReadDone_idle res h,
    fun b site res s => ⟨execStoreScrubPage_spec res, execStoreScrubPage_idle res, execStoreScrubPage_flush b res⟩, State.loseSite_spec,
    fun b s => ⟨execBlockRefreshDone_spec, fun done h => execBlockRefreshDone_idle h done⟩, execScrubBehind_spec, execDieFailed_spec,
    fun r idx sub len v w s hidx hc h => taken_of_passes hidx hc h, fun r f s => ⟨fun v => ⟨rfl, rfl, rfl⟩, fun v => rfl⟩,
    fun g f v s => ⟨s.takeWrite_allot_spec g f v, s.takeWrite_trim_spec g f v, s.takeWrite_cursor g v⟩,
    fun f off len s => s.storeSpace_iff f off len⟩

end Sys2Proof.Machine
end

section
/-! SUPPORT. Firmware images and slots (R389 to R403): what verification holds, uploads, updates, trials, fallbacks, confirmation,
keys and quotes. -/

namespace Sys2Proof.Machine

/-! ### Slots -/

theorem State.modSlot_frame (s : State) (k : Nat) (g : Slot → Slot) : ∃ s0 s1 srec, s.modSlot k g = { s with
    fw := { s.fw with s0 := s0, s1 := s1, srec := srec } } := by
  unfold State.modSlot State.modFw
  dsimp only
  split
  · exact ⟨_, _, _, rfl⟩
  · split <;> exact ⟨_, _, _, rfl⟩

@[simp] theorem State.modSlot_slot (s : State) (k : Nat) (g : Slot → Slot) : (s.modSlot k g).fw.slot k = g (s.fw.slot k) := by
  unfold State.modSlot State.modFw Firmware.slot
  by_cases h0 : k = 0
  · simp [h0]
  · by_cases h1 : k = 1 <;> simp [h0, h1]

/-- Numbers from 2 on name SREC. -/
theorem State.modSlot_slot_other (s : State) {j k : Nat} (g : Slot → Slot) (h : min j 2 ≠ min k 2) :
    (s.modSlot k g).fw.slot j = s.fw.slot j := by
  unfold State.modSlot State.modFw Firmware.slot
  by_cases hk0 : k = 0
  · have hj : j ≠ 0 := by omega
    simp [hk0, hj]
  · by_cases hk1 : k = 1
    · have hj : j ≠ 1 := by omega
      simp [hk1, hj]
    · have hj0 : j = 0 ∨ j = 1 := by omega
      rcases hj0 with rfl | rfl <;> simp [hk0, hk1]

/-- What every slot keeps, each slot keeps. -/
theorem State.modSlot_keeps {α : Type} (p : Slot → α) (s : State) (k : Nat) {g : Slot → Slot} (h : ∀ x, p (g x) = p x) (j : Nat) :
    p ((s.modSlot k g).fw.slot j) = p (s.fw.slot j) := by
  by_cases hj : min j 2 = min k 2
  · have same (x : Firmware) : x.slot j = x.slot k := by
      unfold Firmware.slot
      split
      · rw [if_pos (by omega)]
      · split
        · rw [if_neg (by omega), if_pos (by omega)]
        · rw [if_neg (by omega), if_neg (by omega)]
    rw [same, same, State.modSlot_slot, h]
  · rw [State.modSlot_slot_other s g hj]

/-! ### Verification (R394) -/

/-- Only the fuses of the unit bear on an image. -/
theorem Firmware.headerCheck_congr {x y : Firmware} (ha : x.arb = y.arb) (hr : x.revoked = y.revoked) (l : List Byte) :
    x.headerCheck l = y.headerCheck l := by
  have fuses (z : Firmware) : z.headerCheck l = ({ arb := z.arb, revoked := z.revoked } : Firmware).headerCheck l := rfl
  rw [fuses x, fuses y, ha, hr]

theorem Firmware.verify_congr {x y : Firmware} (ha : x.arb = y.arb) (hr : x.revoked = y.revoked) (t : Slot) : x.verify t = y.verify t := by
  have fuses (z : Firmware) : z.verify t = ({ arb := z.arb, revoked := z.revoked } : Firmware).verify t := rfl
  rw [fuses x, fuses y, ha, hr]

theorem State.modSlot_verify (s : State) (k : Nat) (g : Slot → Slot) (t : Slot) : (s.modSlot k g).fw.verify t = s.fw.verify t := by
  obtain ⟨s0, s1, srec, h⟩ := s.modSlot_frame k g
  rw [h]
  exact Firmware.verify_congr rfl rfl t

theorem State.modSlot_headerCheck (s : State) (k : Nat) (g : Slot → Slot) (l : List Byte) :
    (s.modSlot k g).fw.headerCheck l = s.fw.headerCheck l := by
  obtain ⟨s0, s1, srec, h⟩ := s.modSlot_frame k g
  rw [h]
  exact Firmware.headerCheck_congr rfl rfl l

theorem Firmware.verify_unread (x : Firmware) {y : Slot} (h : y.unread = true) : x.verify y = 10 := if_pos h

/-- A check that answers 0 passed, and so did the checks behind it. -/
theorem not_and_of_ite_eq_zero {p : Prop} [Decidable p] {n e : Nat} (hn : n ≠ 0) (h : (if p then n else e) = 0) : ¬ p ∧ e = 0 := by
  by_cases hp : p
  · rw [if_pos hp] at h
    exact absurd h hn
  · rw [if_neg hp] at h
    exact ⟨hp, h⟩

/-- A header that passes has its fuse counter in range and its key unrevoked. -/
theorem Firmware.headerCheck_zero {x : Firmware} {l : List Byte} (h : x.headerCheck l = 0) :
    x.arb ≤ iArb (leNat l) ∧ iArb (leNat l) ≤ 128 ∧ x.revoked.getLsbD (iKey (leNat l)) = false := by
  obtain ⟨-, h⟩ := not_and_of_ite_eq_zero (by decide) h
  obtain ⟨-, h⟩ := not_and_of_ite_eq_zero (by decide) h
  obtain ⟨-, h⟩ := not_and_of_ite_eq_zero (by decide) h
  obtain ⟨harb, h⟩ := not_and_of_ite_eq_zero (by decide) h
  obtain ⟨hkey, -⟩ := not_and_of_ite_eq_zero (by decide) h
  rw [not_or] at harb hkey
  exact ⟨Nat.not_lt.mp harb.1, Nat.not_lt.mp harb.2, Bool.eq_false_iff.mpr hkey.1⟩

/-- An image that verifies is whole, and both signatures are good. -/
theorem Firmware.verify_zero {x : Firmware} {y : Slot} (h : x.verify y = 0) : x.headerCheck (y.image.take 4096) = 0 ∧
    y.image.length = imageLen y.hdr ∧
    Config.rsaVerify (bf y.hdr 896 3072) (y.image.take 4096) ((y.image.drop (4096 + iBodyLen y.hdr)).take 384) = true ∧
    Config.slhVerify (bf y.hdr 3968 384) (y.image.take 4096) ((y.image.drop (4096 + iBodyLen y.hdr)).drop 384) = true := by
  obtain ⟨-, h⟩ := not_and_of_ite_eq_zero (by decide) h
  by_cases hcheck : x.headerCheck (y.image.take 4096) = 0
  · rw [if_neg (not_not.mpr hcheck)] at h
    obtain ⟨hlen, h⟩ := not_and_of_ite_eq_zero (by decide) h
    obtain ⟨hrsa, h⟩ := not_and_of_ite_eq_zero (by decide) h
    obtain ⟨hslh, -⟩ := not_and_of_ite_eq_zero (by decide) h
    simp only [Bool.not_eq_true', Bool.not_eq_false] at hrsa hslh
    exact ⟨hcheck, not_not.mp hlen, hrsa, hslh⟩
  · rw [if_pos hcheck] at h
    exact absurd h hcheck

/-! ### Uploads (R395) -/

theorem State.upload_ctrl_passed {s : State} {v : Nat} (h : (s.writeUpload v).2 = 0) (b : List Byte) :
    s.upload 1 v b = ((s.writeUpload v).1.setCfg 0xC001 1 v, none) := if_pos h

theorem State.upload_ctrl_failed {s : State} {v : Nat} (h : (s.writeUpload v).2 ≠ 0) (b : List Byte) :
    s.upload 1 v b = ((s.writeUpload v).1, some .conflictValue) := if_neg h

theorem State.upload_data_passed {s : State} {b : List Byte} (h : (s.uploadData b).2 = 0) (v : Nat) :
    s.upload 2 v b = ((s.uploadData b).1, none) := if_pos h

theorem State.upload_data_failed {s : State} {b : List Byte} (h : (s.uploadData b).2 ≠ 0) (v : Nat) :
    s.upload 2 v b = ((s.uploadData b).1, some .conflictValue) := if_neg h

/-- An upload opened: its slot is empty, the other as it was. -/
theorem State.uploadOpen_spec (s : State) : s.uploadOpen.fw.upSlot = some (if s.fw.s0.st = .confirmed then 1 else 0) ∧ s.uploadOpen.fw.upOff = 0 ∧
    s.uploadOpen.fw.phase = 1 ∧ s.uploadOpen.fw.slot (if s.fw.s0.st = .confirmed then 1 else 0) = {} ∧
    s.uploadOpen.fw.slot (if s.fw.s0.st = .confirmed then 0 else 1) = s.fw.slot (if s.fw.s0.st = .confirmed then 0 else 1) ∧
    s.uploadOpen.fw.srec = s.fw.srec ∧ s.uploadOpen = { s with fw := s.uploadOpen.fw } := by
  unfold State.uploadOpen Firmware.target
  split <;> exact ⟨rfl, rfl, rfl, rfl, rfl, rfl, rfl⟩

/-- A change of firmware alone. -/
def State.FwOnly (s u : State) : Prop := u = { s with fw := u.fw }

theorem State.modFw_fwOnly (s : State) (g : Firmware → Firmware) : s.FwOnly (s.modFw g) := rfl

theorem State.FwOnly.trans {s u w : State} (h : s.FwOnly u) (k : u.FwOnly w) : s.FwOnly w := by
  unfold State.FwOnly at h k ⊢
  exact k.trans (by rw [h])

theorem State.modSlot_fwOnly (s : State) (k : Nat) (g : Slot → Slot) : s.FwOnly (s.modSlot k g) := s.modFw_fwOnly _

/-- A change of firmware that no slot sees. -/
theorem State.modFw_slot (s : State) {g : Firmware → Firmware} (h : ∀ x, (g x).s0 = x.s0 ∧ (g x).s1 = x.s1 ∧ (g x).srec = x.srec) (k : Nat) :
    (s.modFw g).fw.slot k = s.fw.slot k := by
  obtain ⟨h0, h1, h2⟩ := h s.fw
  simp [State.modFw, Firmware.slot, h0, h1, h2]

theorem State.uploadFail_spec (s : State) (k r : Nat) : (s.uploadFail k r).fw.upSlot = none ∧ (s.uploadFail k r).fw.phase = 0 ∧
    ((s.uploadFail k r).fw.slot k).st = .empty ∧ (s.uploadFail k r).fw.result = r ∧ s.FwOnly (s.uploadFail k r) := by
  have hslot := State.modFw_slot (s.modSlot k (fun _ => { result := r })) (g := fun x => { x with upSlot := none, phase := 0, result := r })
    (fun _ => ⟨rfl, rfl, rfl⟩) k
  refine ⟨rfl, rfl, ?_, rfl, (s.modSlot_fwOnly k _).trans (State.modFw_fwOnly _ _)⟩
  unfold State.uploadFail
  rw [hslot, State.modSlot_slot]

/-- The upload with the chunk behind what its slot held. -/
def State.chunked (s : State) (k : Nat) (chunk : List Byte) : State :=
  (s.modSlot k (fun x => { x with image := x.image ++ chunk })).modFw (fun x => { x with upOff := x.upOff + 65536 })

theorem State.chunked_spec (s : State) (k : Nat) (chunk : List Byte) : (s.chunked k chunk).fw.upOff = s.fw.upOff + 65536 ∧
    ((s.chunked k chunk).fw.slot k).image = (s.fw.slot k).image ++ chunk ∧ (s.chunked k chunk).fw.upSlot = s.fw.upSlot ∧
    s.FwOnly (s.chunked k chunk) := by
  obtain ⟨s0, s1, srec, hframe⟩ := s.modSlot_frame k (fun x => { x with image := x.image ++ chunk })
  have hslot := State.modFw_slot (s.modSlot k (fun x => { x with image := x.image ++ chunk })) (g := fun x => { x with upOff := x.upOff + 65536 })
    (fun _ => ⟨rfl, rfl, rfl⟩) k
  refine ⟨?_, ?_, ?_, (s.modSlot_fwOnly k _).trans (State.modFw_fwOnly _ _)⟩
  · unfold State.chunked
    rw [hframe]
    rfl
  · unfold State.chunked
    rw [hslot, State.modSlot_slot]
  · unfold State.chunked
    rw [hframe]
    rfl

/-- The check that the first chunk's header meets. -/
def State.chunkCheck (s : State) (k : Nat) (chunk : List Byte) : Nat :=
  if s.fw.upOff == 0 then s.fw.headerCheck (((s.fw.slot k).image ++ chunk).take 4096) else 0

section
variable {s : State} {k : Nat} (h : s.fw.upSlot = some k)

include h

theorem State.uploadAbort_spec : s.uploadAbort.fw.upSlot = none ∧ s.uploadAbort.fw.phase = 0 ∧ s.uploadAbort.fw.slot k = {} ∧
    s.FwOnly s.uploadAbort := by
  have hslot := State.modFw_slot (s.modSlot k (fun _ => {})) (g := fun x => { x with upSlot := none, phase := 0 }) (fun _ => ⟨rfl, rfl, rfl⟩) k
  unfold State.uploadAbort
  rw [h]
  exact ⟨rfl, rfl, by rw [hslot, State.modSlot_slot], (s.modSlot_fwOnly k _).trans (State.modFw_fwOnly _ _)⟩

/-- The committed image: what the slot received, without its last chunk's filling. -/
theorem State.uploadCommit_eq : s.uploadCommit =
    if s.fw.verify { s.fw.slot k with image := (s.fw.slot k).image.take (imageLen (s.fw.slot k).hdr) } = 0 then
      (((s.modSlot k (fun x => { x with image := x.image.take (imageLen x.hdr) })).modSlot k (fun x => { x with st := .valid, result := 0 })).modFw
        (fun x => { x with upSlot := none, phase := 2, result := 0 }), 0)
    else ((s.modSlot k (fun x => { x with image := x.image.take (imageLen x.hdr) })).uploadFail k
        (s.fw.verify { s.fw.slot k with image := (s.fw.slot k).image.take (imageLen (s.fw.slot k).hdr) }),
      s.fw.verify { s.fw.slot k with image := (s.fw.slot k).image.take (imageLen (s.fw.slot k).hdr) }) := by
  unfold State.uploadCommit
  rw [h]
  dsimp only
  rw [State.modSlot_verify, State.modSlot_slot]

theorem State.uploadCommit_passed (hv : s.fw.verify { s.fw.slot k with image := (s.fw.slot k).image.take (imageLen (s.fw.slot k).hdr) } = 0) :
    s.uploadCommit.2 = 0 ∧ s.uploadCommit.1.fw.upSlot = none ∧ s.uploadCommit.1.fw.phase = 2 ∧ (s.uploadCommit.1.fw.slot k).st = .valid ∧
      s.FwOnly s.uploadCommit.1 := by
  have hslot (u : State) := State.modFw_slot u (g := fun x => { x with upSlot := none, phase := 2, result := 0 }) (fun _ => ⟨rfl, rfl, rfl⟩) k
  rw [State.uploadCommit_eq h, if_pos hv]
  dsimp only
  refine ⟨rfl, rfl, rfl, ?_, ((s.modSlot_fwOnly k _).trans (State.modSlot_fwOnly _ k _)).trans (State.modFw_fwOnly _ _)⟩
  rw [hslot, State.modSlot_slot]

theorem State.uploadCommit_failed (hv : s.fw.verify { s.fw.slot k with image := (s.fw.slot k).image.take (imageLen (s.fw.slot k).hdr) } ≠ 0) :
    s.uploadCommit.2 ≠ 0 ∧ s.uploadCommit.1.fw.upSlot = none ∧ s.uploadCommit.1.fw.phase = 0 ∧ (s.uploadCommit.1.fw.slot k).st = .empty ∧
      s.uploadCommit.1.fw.result = s.fw.verify { s.fw.slot k with image := (s.fw.slot k).image.take (imageLen (s.fw.slot k).hdr) } ∧
      s.FwOnly s.uploadCommit.1 := by
  rw [State.uploadCommit_eq h, if_neg hv]
  obtain ⟨hup, hphase, hst, hresult, honly⟩ := (s.modSlot k (fun x => { x with image := x.image.take (imageLen x.hdr) })).uploadFail_spec k
    (s.fw.verify { s.fw.slot k with image := (s.fw.slot k).image.take (imageLen (s.fw.slot k).hdr) })
  exact ⟨hv, hup, hphase, hst, hresult, (s.modSlot_fwOnly k _).trans honly⟩

theorem State.uploadData_eq (chunk : List Byte) : s.uploadData chunk =
    if s.chunkCheck k chunk = 0 then (s.chunked k chunk, 0)
    else ((s.chunked k chunk).uploadFail k (s.chunkCheck k chunk), s.chunkCheck k chunk) := by
  have hoff : (s.modSlot k (fun x => { x with image := x.image ++ chunk })).fw.upOff = s.fw.upOff := by
    obtain ⟨s0, s1, srec, hframe⟩ := s.modSlot_frame k (fun x => { x with image := x.image ++ chunk })
    rw [hframe]
  have hcheck : (s.chunked k chunk).fw.headerCheck (((s.chunked k chunk).fw.slot k).image.take 4096) =
      s.fw.headerCheck (((s.fw.slot k).image ++ chunk).take 4096) := by
    rw [(s.chunked_spec k chunk).2.1]
    exact State.modSlot_headerCheck s k _ _
  unfold State.uploadData State.chunkCheck
  rw [h, ← hcheck]
  dsimp only
  rw [hoff]
  rfl

theorem State.uploadData_passed {chunk : List Byte}
    (hc : s.fw.upOff ≠ 0 ∨ s.fw.headerCheck (((s.fw.slot k).image ++ chunk).take 4096) = 0) : s.uploadData chunk = (s.chunked k chunk, 0) := by
  have hzero : s.chunkCheck k chunk = 0 := by
    rcases hc with h0 | hc
    · exact if_neg (by simpa using h0)
    · simp [State.chunkCheck, hc]
  rw [State.uploadData_eq h, if_pos hzero]

theorem State.uploadData_failed {chunk : List Byte} (h0 : s.fw.upOff = 0)
    (hc : s.fw.headerCheck (((s.fw.slot k).image ++ chunk).take 4096) ≠ 0) :
    s.uploadData chunk = ((s.chunked k chunk).uploadFail k (s.fw.headerCheck (((s.fw.slot k).image ++ chunk).take 4096)),
      s.fw.headerCheck (((s.fw.slot k).image ++ chunk).take 4096)) := by
  have hcheck : s.chunkCheck k chunk = s.fw.headerCheck (((s.fw.slot k).image ++ chunk).take 4096) := by simp [State.chunkCheck, h0]
  rw [State.uploadData_eq h, hcheck, if_neg hc]

end

/-- What each of the four upload requests does. -/
theorem State.upload_spec (b : List Byte) (s : State) :
    (∃ t : State, s.upload 1 1 b = (t.setCfg 0xC001 1 1, none) ∧ t.fw.upSlot = some (if s.fw.s0.st = .confirmed then 1 else 0) ∧ t.fw.upOff = 0 ∧ t.fw.phase = 1 ∧
      t.fw.slot (if s.fw.s0.st = .confirmed then 1 else 0) = {} ∧
      t.fw.slot (if s.fw.s0.st = .confirmed then 0 else 1) = s.fw.slot (if s.fw.s0.st = .confirmed then 0 else 1) ∧ t.fw.srec = s.fw.srec ∧
      t = { s with fw := t.fw }) ∧
    (∀ k, k < 2 → s.fw.upSlot = some k → ∃ t : State, s.upload 1 3 b = (t.setCfg 0xC001 1 3, none) ∧ t.fw.upSlot = none ∧ t.fw.phase = 0 ∧ t.fw.slot k = {} ∧
      t = { s with fw := t.fw }) ∧
    (∀ k, k < 2 → s.fw.upSlot = some k →
      (s.fw.verify { s.fw.slot k with image := (s.fw.slot k).image.take (imageLen (s.fw.slot k).hdr) } = 0 →
        ∃ t : State, s.upload 1 2 b = (t.setCfg 0xC001 1 2, none) ∧ t.fw.upSlot = none ∧ t.fw.phase = 2 ∧ (t.fw.slot k).st = .valid ∧ t = { s with fw := t.fw }) ∧
      (s.fw.verify { s.fw.slot k with image := (s.fw.slot k).image.take (imageLen (s.fw.slot k).hdr) } ≠ 0 →
        ∃ t : State, s.upload 1 2 b = (t, some .conflictValue) ∧ t.fw.upSlot = none ∧ t.fw.phase = 0 ∧ (t.fw.slot k).st = .empty ∧
          t.fw.result = s.fw.verify { s.fw.slot k with image := (s.fw.slot k).image.take (imageLen (s.fw.slot k).hdr) } ∧ t = { s with fw := t.fw })) ∧
    (∀ k, k < 2 → s.fw.upSlot = some k →
      ((s.fw.upOff ≠ 0 ∨ s.fw.headerCheck (((s.fw.slot k).image ++ b).take 4096) = 0) → ∃ t : State, s.upload 2 0 b = (t, none) ∧
        t.fw.upOff = s.fw.upOff + 65536 ∧ (t.fw.slot k).image = (s.fw.slot k).image ++ b ∧ t.fw.upSlot = some k ∧ t = { s with fw := t.fw }) ∧
      (s.fw.upOff = 0 → s.fw.headerCheck (((s.fw.slot k).image ++ b).take 4096) ≠ 0 → ∃ t : State, s.upload 2 0 b = (t, some .conflictValue) ∧
        t.fw.upSlot = none ∧ t.fw.phase = 0 ∧ (t.fw.slot k).st = .empty ∧ t.fw.result = s.fw.headerCheck (((s.fw.slot k).image ++ b).take 4096) ∧
        t = { s with fw := t.fw })) := by
  refine ⟨⟨_, State.upload_ctrl_passed rfl b, s.uploadOpen_spec⟩, fun k _ hk => ⟨_, State.upload_ctrl_passed rfl b, State.uploadAbort_spec hk⟩,
    fun k _ hk => ⟨fun hv => ?_, fun hv => ?_⟩, fun k _ hk => ⟨fun hc => ?_, fun h0 hc => ?_⟩⟩
  · obtain ⟨hzero, hspec⟩ := State.uploadCommit_passed hk hv
    exact ⟨_, State.upload_ctrl_passed (v := 2) hzero b, hspec⟩
  · obtain ⟨hfail, hspec⟩ := State.uploadCommit_failed hk hv
    exact ⟨_, State.upload_ctrl_failed (v := 2) hfail b, hspec⟩
  · have hdata := State.uploadData_passed hk hc
    obtain ⟨hoff, himage, hup, honly⟩ := s.chunked_spec k b
    exact ⟨_, (State.upload_data_passed (by rw [hdata]) 0).trans (by rw [hdata]), hoff, himage, hup.trans hk, honly⟩
  · have hdata := State.uploadData_failed hk h0 hc
    obtain ⟨-, -, -, honly⟩ := s.chunked_spec k b
    obtain ⟨hup, hphase, hst, hresult, hfail⟩ :=
      (s.chunked k b).uploadFail_spec k (s.fw.headerCheck (((s.fw.slot k).image ++ b).take 4096))
    exact ⟨_, (State.upload_data_failed (by rw [hdata]; exact hc) 0).trans (by rw [hdata]), hup, hphase, hst, hresult, honly.trans hfail⟩

end Sys2Proof.Machine
end

section
/-! SUPPORT. Updates (R396 to R401): activation, readiness, handover, trial, fallback and confirmation; revocations and quotes
(R403, R407). -/

namespace Sys2Proof.Machine

/-! ### Activation and abandonment (R396) -/

/-- Slot k loads in the cluster that does not hold control. -/
def State.loading (s : State) (k : Nat) : State :=
  s.modFw (fun x => { x with other := .loading, phase := 3, newSlot := k, oldSlot := x.running, loadAt := s.now, selftest := false })

theorem State.loading_slot (s : State) (k j : Nat) : (s.loading k).fw.slot j = s.fw.slot j := s.modFw_slot (fun _ => ⟨rfl, rfl, rfl⟩) j

theorem State.loading_verify (s : State) (k : Nat) : (s.loading k).fw.verify ((s.loading k).fw.slot k) = s.fw.verify (s.fw.slot k) := by
  rw [s.loading_slot k k]
  exact Firmware.verify_congr rfl rfl _

theorem State.activate_passed {s : State} {k : Nat} (h : s.fw.verify (s.fw.slot k) = 0) :
    s.activate k = (s.loading k).setMeas s.fw.otherMeas (Config.sha384 (((s.loading k).fw.slot k).image.take 4096)) :=
  if_pos ((s.loading_verify k).trans h)

theorem State.activate_failed {s : State} {k : Nat} (h : s.fw.verify (s.fw.slot k) ≠ 0) :
    s.activate k = ((((s.loading k).modSlot k (fun x => { x with result := s.fw.verify (s.fw.slot k) })).modFw
      (fun x => { x with result := s.fw.verify (s.fw.slot k) })).fwFault (0x0C10 + s.fw.verify (s.fw.slot k)) deferred).abandon := by
  have hverify := s.loading_verify k
  rw [← hverify] at h ⊢
  exact if_neg h

theorem State.takeWrite_activate (s : State) (g k : Nat) : s.takeWrite g 0xC002 1 k = (s.setCfg 0xC002 1 k).activate k := by
  simp [State.takeWrite, elsewhere, keptValue, State.effectHigh, Machine.measured]

theorem State.takeWrite_activate_spec (g k : Nat) (s : State) : ∃ t : State, s.takeWrite g 0xC002 1 k = t ∧
    (s.fw.verify (s.fw.slot k) = 0 → t.fw = { s.fw with
        other := .loading, phase := 3, newSlot := k, oldSlot := s.fw.running, loadAt := s.now, selftest := false, meas := t.fw.meas } ∧
      t = { s with fw := t.fw, dict := { s.dict with vals := t.dict.vals } }) ∧
    (s.fw.verify (s.fw.slot k) ≠ 0 → t.fw.phase = 0 ∧ t.fw.other = .idle ∧ (t.fw.slot k).st = (s.fw.slot k).st ∧
      t.fw.result = s.fw.verify (s.fw.slot k) ∧ t.faults.coming = s.faults.coming ++
        [{ code := 0x0C10 + s.fw.verify (s.fw.slot k), cls := deferred, tile := 13, unit := b2n s.fw.onB },
          { code := 0x0C40, cls := corrected, tile := 13, unit := b2n s.fw.onB }]) := by
  refine ⟨_, s.takeWrite_activate g k, fun h => ?_, fun h => ?_⟩
  · rw [State.activate_passed (s := s.setCfg 0xC002 1 k) h]
    exact ⟨rfl, rfl⟩
  · rw [State.activate_failed (s := s.setCfg 0xC002 1 k) h]
    have hfw : (s.setCfg 0xC002 1 k).fw = s.fw := rfl
    rw [hfw]
    generalize s.fw.verify (s.fw.slot k) = r
    obtain ⟨s0, s1, srec, hframe⟩ := ((s.setCfg 0xC002 1 k).loading k).modSlot_frame k (fun x => { x with result := r })
    have hst : ((((s.setCfg 0xC002 1 k).loading k).modSlot k (fun x => { x with result := r })).fw.slot k).st = (s.fw.slot k).st := by
      rw [State.modSlot_slot]
      exact (congrArg Slot.st ((s.setCfg 0xC002 1 k).loading_slot k k) :)
    rw [hframe] at hst ⊢
    exact ⟨rfl, rfl, hst, rfl, List.append_assoc _ _ _⟩

theorem execFwLoadingTimeout_spec (s : State) :
    (s.fw.phase = 3 → s.fw.loadAt + 60000000000 ≤ s.now → ∃ t : State, exec .fwLoadingTimeout s = .next t ∧ t.fw.phase = 0 ∧ t.fw.other = .idle ∧
      t.fw.s0 = s.fw.s0 ∧ t.fw.s1 = s.fw.s1 ∧ t.fw.running = s.fw.running ∧ t.fw.onB = s.fw.onB ∧ t.dict.journal = s.dict.journal ∧ t.dict.journal2 = [] ∧
      t.faults.coming = s.faults.coming ++ [{ code := 0x0C40, cls := corrected, tile := 13, unit := b2n s.fw.onB }]) ∧
    ((s.fw.phase ≠ 3 ∨ s.now < s.fw.loadAt + 60000000000) → exec .fwLoadingTimeout s = .next s) := by
  refine ⟨fun hp ht => ⟨s.abandon, congrArg Host.Outcome.next (if_pos ⟨hp, ht⟩), rfl, rfl, rfl, rfl, rfl, rfl, rfl, rfl, rfl⟩,
    fun h => congrArg Host.Outcome.next (if_neg fun hc => ?_)⟩
  rcases h with hp | ht
  · exact hp hc.1
  · exact absurd hc.2 (Nat.not_le.mpr ht)

/-! ### Readiness and handover (R397, R398) -/

theorem Firmware.twoFormats_loading {x : Firmware} (h : x.phase = 3) : x.twoFormats = (iCfg (x.slot x.newSlot).hdr != iCfg (x.slot x.oldSlot).hdr) := by
  simp [Firmware.twoFormats, h]

theorem execFwReady_spec (s : State) : (s.fw.phase = 3 → ∃ t : State, exec .fwReady s = .next t ∧ t.fw = { s.fw with other := .ready, phase := 4 } ∧
      t.dict = { s.dict with journal2 := t.dict.journal2 } ∧
      (iCfg (s.fw.slot s.fw.newSlot).hdr = iCfg (s.fw.slot s.fw.oldSlot).hdr → t.dict = s.dict) ∧
      (iCfg (s.fw.slot s.fw.newSlot).hdr ≠ iCfg (s.fw.slot s.fw.oldSlot).hdr → t.dict.journal2 = s.journalNow false) ∧
      t = { s with fw := t.fw, dict := t.dict }) ∧
    (s.fw.phase ≠ 3 → exec .fwReady s = .next s) := by
  refine ⟨fun hp => ⟨s.fwIsReady, congrArg Host.Outcome.next (if_pos hp), ?_⟩, fun hp => congrArg Host.Outcome.next (if_neg hp)⟩
  have htwo := Firmware.twoFormats_loading hp
  unfold State.fwIsReady
  by_cases hcfg : iCfg (s.fw.slot s.fw.newSlot).hdr = iCfg (s.fw.slot s.fw.oldSlot).hdr
  · rw [if_neg (by simp [htwo, hcfg])]
    exact ⟨rfl, rfl, fun _ => rfl, fun h => absurd hcfg h, rfl⟩
  · rw [if_pos (by simp [htwo, hcfg])]
    exact ⟨rfl, rfl, fun h => absurd h hcfg, fun _ => rfl, rfl⟩

/-- Control moves with the identity of every hold and waiter; nothing else but the semaphores does. -/
theorem State.moveControl_frame (s : State) : ∃ sems, sems.map (·.1) = s.sems.map (·.1) ∧
    s.moveControl = { s with sems := sems, fw := { s.fw with onB := !s.fw.onB } } := by
  refine ⟨_, ?_, rfl⟩
  simp [Function.comp_def]

theorem State.runSlot_eq (s : State) (k : Nat) : s.runSlot k = { s with
    fw := { s.fw with running := k }, dict := { s.dict with fwVersion := iVersion (s.fw.slot k).hdr } } := rfl

/-- Control moved, and the image of slot k runs. -/
theorem State.moveControl_runSlot_frame (s : State) (k : Nat) : ∃ sems, sems.map (·.1) = s.sems.map (·.1) ∧
    s.moveControl.runSlot k = { s with
      sems := sems, fw := { s.fw with onB := !s.fw.onB, running := k }, dict := { s.dict with fwVersion := iVersion (s.fw.slot k).hdr } } := by
  obtain ⟨sems, hsems, hmove⟩ := s.moveControl_frame
  refine ⟨sems, hsems, ?_⟩
  rw [hmove]
  rfl

theorem State.handOver_spec (s : State) : s.handOver.fw.onB = !s.fw.onB ∧ s.handOver.fw.other = .warm ∧
    s.handOver.fw.phase = 5 ∧ s.handOver.fw.trialAt = some s.now ∧ s.handOver.fw.running = s.fw.newSlot ∧ (s.handOver.fw.slot s.fw.newSlot).st = .trial ∧
    s.handOver.dict.fwVersion = iVersion (s.fw.slot s.fw.newSlot).hdr ∧ s.handOver.sems.map (·.1) = s.sems.map (·.1) ∧
    s.handOver = { s with fw := s.handOver.fw, sems := s.handOver.sems, dict := { s.dict with fwVersion := s.handOver.dict.fwVersion } } := by
  obtain ⟨sems, hsems, hmove⟩ := s.moveControl_runSlot_frame s.fw.newSlot
  have hst : (((s.moveControl.runSlot s.fw.newSlot).modSlot s.fw.newSlot (fun x => { x with st := .trial })).fw.slot s.fw.newSlot).st = .trial := by
    rw [State.modSlot_slot]
  obtain ⟨s0, s1, srec, hframe⟩ := (s.moveControl.runSlot s.fw.newSlot).modSlot_frame s.fw.newSlot (fun x => { x with st := .trial })
  rw [hframe, hmove] at hst
  unfold State.handOver
  dsimp only
  rw [hframe, hmove]
  exact ⟨rfl, rfl, rfl, rfl, rfl, hst, rfl, hsems, rfl⟩

theorem execHandover_spec (s : State) : (s.mode.changing = true → exec .handover s = .next s) ∧
    (s.mode.changing = false → s.fw.fallDue = none → s.fw.phase ≠ 4 → exec .handover s = .next s) ∧
    (s.mode.changing = false → ∀ k, s.fw.fallDue = some k → exec .handover s = .next (s.fallBackNow k)) ∧
    (s.mode.changing = false → s.fw.fallDue = none → s.fw.phase = 4 → exec .handover s = .next s.handOver) := by
  have idle (h : s.mode.changing = false) : exec .handover s = .next (match s.fw.fallDue with
      | some k => s.fallBackNow k
      | none => if s.fw.phase = 4 then s.handOver else s) := congrArg Host.Outcome.next (if_neg (by simp [h]))
  refine ⟨fun h => congrArg Host.Outcome.next (if_pos h), fun h hd hp => ?_, fun h k hd => ?_, fun h hd hp => ?_⟩
  · rw [idle h, hd]
    exact congrArg Host.Outcome.next (if_neg hp)
  · rw [idle h, hd]
  · rw [idle h, hd]
    exact congrArg Host.Outcome.next (if_pos hp)

/-! ### Fallback (R401) -/

theorem State.fallBack_idle {s : State} (h : s.fw.phase ≠ 5) (k : Nat) : s.fallBack k = s := if_pos h

theorem State.fallBack_trial {s : State} (h : s.fw.phase = 5) (k : Nat) : s.fallBack k =
    if s.mode.changing then s.modFw (fun x => { x with fallDue := some (x.fallDue.getD k) }) else s.fallBackNow k := if_neg (not_not.mpr h)

/-- The reset of the cluster without control changes, of the firmware, that cluster's state and the registers. -/
theorem State.resetOther_fw (s : State) : s.resetOther.fw = { s.fw with other := .idle, meas := s.resetOther.fw.meas } := by
  have hfirm := s.holderReset_firm (.die (if s.fw.onB then 8 else 9)) false
  have hfw : { (s.holderReset (.die (if s.fw.onB then 8 else 9)) false).fw with meas := [] } = { s.fw with meas := [] } :=
    congrArg (·.2.2.2.1) hfirm
  unfold State.resetOther
  dsimp only
  generalize s.holderReset (.die (if s.fw.onB then 8 else 9)) false = u at hfw
  exact congrArg (fun x : Firmware => { x with other := .idle, meas := u.fw.meas.set s.fw.otherMeas 0 }) hfw

theorem State.resetOther_journal (s : State) : s.resetOther.dict.journal = s.dict.journal :=
  congrArg (·.2.2.2.2.1) (s.holderReset_firm (.die (if s.fw.onB then 8 else 9)) false)

/-- The old image runs again. -/
def State.returned (s : State) : State := (s.moveControl.runSlot s.fw.oldSlot).modSlot s.fw.newSlot (fun x => { x with st := .valid })

/-- Nothing of the protocol state that a dead cluster held comes back. -/
def State.protocolLost (s : State) (sub : Nat) : State :=
  if sub = 3 then { s with dict := { s.dict with segs := [], ended := [], kept := [], relays := [] } } else s

theorem State.protocolLost_same (s : State) (sub : Nat) : (s.protocolLost sub).fw = s.fw ∧ (s.protocolLost sub).mode = s.mode ∧
    (s.protocolLost sub).dict.journal = s.dict.journal := by
  unfold State.protocolLost
  split <;> exact ⟨rfl, rfl, rfl⟩

theorem State.fallBackNow_eq (s : State) (sub : Nat) : s.fallBackNow sub = ((((s.returned.protocolLost sub).resetOther.dropNew).modFw
    (fun x => { x with phase := 0, trialAt := none, selftest := false, fallDue := none })).fwFault (0x0C50 + sub) deferred) := rfl

theorem State.returned_spec (s : State) : s.returned.fw.onB = !s.fw.onB ∧ s.returned.fw.running = s.fw.oldSlot ∧
    (s.returned.fw.slot s.fw.newSlot).st = .valid ∧ s.returned.fw.arb = s.fw.arb ∧ s.returned.dict.journal = s.dict.journal ∧
    s.returned.mode = s.mode := by
  obtain ⟨sems, -, hmove⟩ := s.moveControl_runSlot_frame s.fw.oldSlot
  have hst : (s.returned.fw.slot s.fw.newSlot).st = .valid := by
    unfold State.returned
    rw [State.modSlot_slot]
  obtain ⟨s0, s1, srec, hframe⟩ := (s.moveControl.runSlot s.fw.oldSlot).modSlot_frame s.fw.newSlot (fun x => { x with st := .valid })
  have heq : s.returned = _ := hframe
  rw [heq, hmove] at hst ⊢
  exact ⟨rfl, rfl, hst, rfl, rfl, rfl⟩

theorem State.fallBackNow_spec (s : State) (k : Nat) : (s.fallBackNow k).fw.onB = !s.fw.onB ∧ (s.fallBackNow k).fw.running = s.fw.oldSlot ∧
    ((s.fallBackNow k).fw.slot s.fw.newSlot).st = .valid ∧ (s.fallBackNow k).fw.other = .idle ∧ (s.fallBackNow k).fw.phase = 0 ∧
    (s.fallBackNow k).fw.trialAt = none ∧ (s.fallBackNow k).fw.fallDue = none ∧ (s.fallBackNow k).fw.arb = s.fw.arb ∧
    (s.fallBackNow k).dict.journal = s.dict.journal ∧ (s.fallBackNow k).dict.journal2 = [] ∧
    { code := 0x0C50 + k, cls := deferred, tile := 13, unit := b2n (!s.fw.onB) } ∈ (s.fallBackNow k).faults.coming ∧ (s.fallBackNow k).mode = s.mode := by
  obtain ⟨honB, hrun, hst, harb, hj, hmode⟩ := s.returned_spec
  obtain ⟨hlfw, hlmode, hlj⟩ := s.returned.protocolLost_same k
  rw [s.fallBackNow_eq k]
  generalize s.returned.protocolLost k = u at hlfw hlmode hlj
  have hfw := u.resetOther_fw
  have hrj := u.resetOther_journal
  have hrmode := State.mode_of_calm u.resetOther_calm
  rw [hlfw] at hfw
  generalize u.resetOther = w at hfw hrj hrmode
  have hw (α : Type) (p : Firmware → α) : p w.fw = p { s.returned.fw with other := .idle, meas := w.fw.meas } := congrArg p hfw
  refine ⟨(hw _ Firmware.onB).trans honB, (hw _ Firmware.running).trans hrun, (hw _ (fun x => (x.slot s.fw.newSlot).st)).trans hst,
    hw _ Firmware.other, rfl, rfl, rfl, (hw _ Firmware.arb).trans harb, (hrj.trans hlj).trans hj, rfl, ?_, (hrmode.trans hlmode).trans hmode⟩
  have hunit : w.fw.onB = !s.fw.onB := (hw _ Firmware.onB).trans honB
  rw [← hunit]
  exact List.mem_append_right _ (List.mem_singleton.mpr rfl)

theorem execFwSelftest_spec (s : State) : (s.fw.phase ≠ 5 → exec (.fwSelftestResult true) s = .next s ∧ exec (.fwSelftestResult false) s = .next s ∧
      exec .fwWatchdogTimeout s = .next s) ∧
    (s.fw.phase = 5 → exec (.fwSelftestResult true) s = .next { s with fw := { s.fw with selftest := true } } ∧
      exec (.fwSelftestResult false) s = .next (s.fallBack 2) ∧ exec .fwWatchdogTimeout s = .next (s.fallBack 3)) :=
  ⟨fun h => ⟨congrArg Host.Outcome.next (if_pos h), congrArg Host.Outcome.next (if_pos h), congrArg Host.Outcome.next (State.fallBack_idle h 3)⟩,
    fun h => ⟨congrArg Host.Outcome.next (if_neg (not_not.mpr h)), congrArg Host.Outcome.next (if_neg (not_not.mpr h)), rfl⟩⟩

theorem State.trialOver_iff {s : State} {a : Nat} (h : s.fw.trialAt = some a) : s.trialOver = true ↔ a + 600000000000 ≤ s.now := by
  unfold State.trialOver
  rw [h]
  exact decide_eq_true_iff

theorem execFwTrialExpiry_spec (s : State) :
    (∀ a, s.fw.trialAt = some a → (a + 600000000000 ≤ s.now → exec .fwTrialExpiry s = .next (s.fallBack 1)) ∧
      (s.now < a + 600000000000 → exec .fwTrialExpiry s = .next s)) ∧
    (s.fw.trialAt = none → exec .fwTrialExpiry s = .next s) := by
  refine ⟨fun a h => ⟨fun ht => congrArg Host.Outcome.next (if_pos ((State.trialOver_iff h).mpr ht)),
    fun ht => congrArg Host.Outcome.next (if_neg fun hc => ?_)⟩, fun h => congrArg Host.Outcome.next (if_neg ?_)⟩
  · exact absurd ((State.trialOver_iff h).mp hc) (Nat.not_le.mpr ht)
  · unfold State.trialOver
    rw [h]
    exact Bool.false_ne_true

end Sys2Proof.Machine
end

section
/-! SUPPORT. Confirmation, revocation and quotes (R400, R403, R407), and how requests of the firmware objects are taken (R395,
R402). -/

namespace Sys2Proof.Machine

/-! ### Confirmation (R400) -/

/-- One fuse bit burnt for each element. -/
theorem State.burn_frame (l : List Nat) (s : State) : ∃ meas free,
    l.foldl (fun (s : State) _ => (s.modFw (fun x => { x with arb := x.arb + 1 })).extendFuse) s =
      { s with fw := { s.fw with arb := s.fw.arb + l.length, meas := meas }, free := free } := by
  induction l generalizing s with
  | nil => exact ⟨_, _, rfl⟩
  | cons e l ih =>
    obtain ⟨meas, free, h⟩ := ih (s.modFw (fun x => { x with arb := x.arb + 1 })).extendFuse
    have hlen : s.fw.arb + (e :: l).length = s.fw.arb + 1 + l.length := by
      rw [List.length_cons]
      omega
    refine ⟨meas, free, h.trans ?_⟩
    rw [hlen]
    rfl

/-- The fuse counter rises to the image's, and never falls. -/
theorem State.burnFuses_frame (s : State) (n : Nat) : ∃ meas free, s.burnFuses n =
    { s with fw := { s.fw with arb := max s.fw.arb n, meas := meas }, free := free } := by
  obtain ⟨meas, free, h⟩ := State.burn_frame (List.range (n - s.fw.arb)) s
  have hmax : s.fw.arb + (List.range (n - s.fw.arb)).length = max s.fw.arb n := by
    rw [List.length_range]
    omega
  rw [hmax] at h
  exact ⟨meas, free, h⟩

/-- A rewritten SREC has another image. -/
theorem State.refreshSrec_frame (s : State) : ∃ image unread, s.refreshSrec.1 =
    { s with fw := { s.fw with srec := { s.fw.srec with image := image, unread := unread } } } := by
  unfold State.refreshSrec
  dsimp only
  split
  · split <;> exact ⟨_, _, rfl⟩
  · exact ⟨_, _, rfl⟩

/-- The slots of a confirmation: the old image VALID, the new one CONFIRMED. -/
def State.confirmSlots (s : State) : State :=
  (s.modSlot s.fw.oldSlot (fun x => { x with st := .valid })).modSlot s.fw.newSlot (fun x => { x with st := .confirmed })

theorem State.confirmSlots_frame (s : State) : ∃ s0 s1 srec, s.confirmSlots = { s with fw := { s.fw with s0 := s0, s1 := s1, srec := srec } } := by
  obtain ⟨s0, s1, srec, h⟩ := s.modSlot_frame s.fw.oldSlot (fun x => { x with st := .valid })
  obtain ⟨t0, t1, trec, h'⟩ := (s.modSlot s.fw.oldSlot (fun x => { x with st := .valid })).modSlot_frame s.fw.newSlot (fun x => { x with st := .confirmed })
  refine ⟨t0, t1, trec, h'.trans ?_⟩
  rw [h]

/-- The cluster without control is reset and the trial ends. -/
def State.trialEnded (s : State) : State := s.resetOther.modFw (fun x => { x with phase := 0, trialAt := none, fallDue := none })

/-- New-format records are the journal from now on, where the formats differ. -/
def State.formatKept (s : State) (two : Bool) : State := if two then s.keepNew else s

theorem State.formatKept_fw (s : State) (two : Bool) : (s.formatKept two).fw = s.fw := by
  cases two <;> rfl

theorem State.confirm_eq (s : State) : s.confirm =
    (((s.confirmSlots.burnFuses (iArb (s.confirmSlots.fw.slot s.fw.newSlot).hdr)).refreshSrec.1).formatKept s.fw.twoFormats).trialEnded := by
  obtain ⟨s0, s1, srec, h⟩ := s.confirmSlots_frame
  have hnew : s.confirmSlots.fw.newSlot = s.fw.newSlot := by rw [h]
  rw [← hnew]
  rfl

theorem State.trialEnded_fw (s : State) : ∃ meas, s.trialEnded.fw =
    { s.fw with other := .idle, phase := 0, trialAt := none, fallDue := none, meas := meas } :=
  ⟨_, congrArg (fun x : Firmware => { x with phase := 0, trialAt := none, fallDue := none }) s.resetOther_fw⟩

/-- The images and states of a confirmation's slots. -/
theorem State.confirmSlots_slots {s : State} (hne : s.fw.oldSlot ≠ s.fw.newSlot) (ho : s.fw.oldSlot < 3) (hn : s.fw.newSlot < 2) :
    (s.confirmSlots.fw.slot s.fw.newSlot).st = .confirmed ∧ (s.confirmSlots.fw.slot s.fw.oldSlot).st = .valid ∧
    (s.confirmSlots.fw.slot s.fw.newSlot).hdr = (s.fw.slot s.fw.newSlot).hdr := by
  have hother : min s.fw.oldSlot 2 ≠ min s.fw.newSlot 2 := by omega
  unfold State.confirmSlots
  rw [State.modSlot_slot, State.modSlot_slot_other _ _ hother, State.modSlot_slot, State.modSlot_slot_other _ _ hother.symm]
  exact ⟨rfl, rfl, rfl⟩

theorem State.confirm_spec {s : State} (hne : s.fw.oldSlot ≠ s.fw.newSlot) (ho : s.fw.oldSlot < 3) (hn : s.fw.newSlot < 2) :
    (s.confirm.fw.slot s.fw.newSlot).st = .confirmed ∧ (s.confirm.fw.slot s.fw.oldSlot).st = .valid ∧
    s.confirm.fw.arb = max s.fw.arb (iArb (s.fw.slot s.fw.newSlot).hdr) ∧ s.confirm.fw.phase = 0 ∧ s.confirm.fw.trialAt = none ∧
    s.confirm.fw.other = .idle ∧ s.confirm.fw.onB = s.fw.onB ∧ s.confirm.fw.running = s.fw.running := by
  obtain ⟨hnew, hold, hhdr⟩ := State.confirmSlots_slots hne ho hn
  obtain ⟨s0, s1, srec, hslots⟩ := s.confirmSlots_frame
  obtain ⟨meas, free, hburn⟩ := s.confirmSlots.burnFuses_frame (iArb (s.fw.slot s.fw.newSlot).hdr)
  rw [s.confirm_eq, hhdr]
  generalize s.confirmSlots.burnFuses (iArb (s.fw.slot s.fw.newSlot).hdr) = b at hburn
  obtain ⟨image, unread, hsrec⟩ := b.refreshSrec_frame
  obtain ⟨meas', hend⟩ := (b.refreshSrec.1.formatKept s.fw.twoFormats).trialEnded_fw
  have hbslot (j : Nat) : (b.refreshSrec.1.fw.slot j).st = (s.confirmSlots.fw.slot j).st := by
    have hrefresh : (b.refreshSrec.1.fw.slot j).st = (b.fw.slot j).st := by
      rw [hsrec]
      exact State.modSlot_keeps Slot.st b 2 (g := fun x => { x with image := image, unread := unread }) (fun _ => rfl) j
    rw [hrefresh, hburn]
    rfl
  rw [State.formatKept_fw] at hend
  rw [hend]
  have hfw : b.refreshSrec.1.fw = { b.fw with srec := { b.fw.srec with image := image, unread := unread } } := by rw [hsrec]
  have harb : b.refreshSrec.1.fw.arb = max s.fw.arb (iArb (s.fw.slot s.fw.newSlot).hdr) := by rw [hfw, hburn, hslots]
  have honB : b.refreshSrec.1.fw.onB = s.fw.onB := by rw [hfw, hburn, hslots]
  have hrun : b.refreshSrec.1.fw.running = s.fw.running := by rw [hfw, hburn, hslots]
  exact ⟨(hbslot _).trans hnew, (hbslot _).trans hold, harb, rfl, rfl, rfl, honB, hrun⟩

theorem State.takeWrite_confirm (s : State) (g v : Nat) : s.takeWrite g 0xC002 2 v = (s.setCfg 0xC002 2 v).confirm := by
  simp [State.takeWrite, elsewhere, keptValue, State.effectHigh, Machine.measured]

theorem State.takeWrite_fallback (s : State) (g v : Nat) : s.takeWrite g 0xC002 3 v = if v = 1 then s.fallBack 4 else s := by
  simp [State.takeWrite, elsewhere, State.effectHigh, Machine.measured]

theorem State.confirmation_spec (g v : Nat) (s : State) : s.stateClash g 0xC002 2 v = (s.fw.phase != 5 || !s.fw.selftest) ∧
    s.valueClash 0xC002 2 v = (v != s.dict.fwVersion) ∧
    (s.fw.oldSlot ≠ s.fw.newSlot → s.fw.oldSlot < 3 → s.fw.newSlot < 2 → ∃ t : State, s.takeWrite g 0xC002 2 v = t ∧ (t.fw.slot s.fw.newSlot).st = .confirmed ∧
      (t.fw.slot s.fw.oldSlot).st = .valid ∧ t.fw.arb = max s.fw.arb (iArb (s.fw.slot s.fw.newSlot).hdr) ∧ t.fw.phase = 0 ∧ t.fw.trialAt = none ∧
      t.fw.other = .idle ∧ t.fw.onB = s.fw.onB ∧ t.fw.running = s.fw.running) ∧
    s.takeWrite g 0xC002 3 1 = s.fallBack 4 ∧ s.takeWrite g 0xC002 3 0 = s := by
  refine ⟨by simp [State.stateClash, isTreeIdx], by simp [State.valueClash, isTreeIdx],
    fun hne ho hn => ⟨_, s.takeWrite_confirm g v, State.confirm_spec (s := s.setCfg 0xC002 2 v) hne ho hn⟩, ?_, ?_⟩
  · rw [State.takeWrite_fallback, if_pos rfl]
  · rw [State.takeWrite_fallback, if_neg Nat.zero_ne_one]

/-! ### Keys (R403) -/

theorem State.takeWrite_revoke (s : State) (g k : Nat) : s.takeWrite g 0xC010 3 k = (s.setCfg 0xC010 3 k).revokeKey k := by
  simp [State.takeWrite, elsewhere, keptValue, State.effectHigh, Machine.measured]

theorem State.revocation_spec (g k : Nat) (s : State) (hk : k < 4) : (s.stateClash g 0xC010 3 k = true ↔ s.fw.phase = 5 ∨ s.fw.keyUsed k = true) ∧
    ∃ t : State, s.takeWrite g 0xC010 3 k = t ∧ (∀ j, t.fw.revoked.getLsbD j = (s.fw.revoked.getLsbD j || decide (j = k))) ∧
      t.fw = { s.fw with revoked := t.fw.revoked, meas := t.fw.meas } ∧ (∀ j, j ≠ 3 → t.fw.meas[j]? = s.fw.meas[j]?) ∧
      t = { s with fw := t.fw, free := s.free + 1, dict := { s.dict with vals := t.dict.vals } } := by
  have hle : k ≤ 3 := Nat.le_of_lt_succ hk
  refine ⟨by simp [State.stateClash, isTreeIdx, hle], _, s.takeWrite_revoke g k, fun j => ?_, rfl, fun j hj => ?_, rfl⟩
  · have hrev : ((s.setCfg 0xC010 3 k).revokeKey k).fw.revoked = s.fw.revoked ||| (1#4 <<< k) := rfl
    rw [hrev, BitVec.getLsbD_or, getLsbD_one_shiftLeft hk]
  · exact List.getElem?_set_ne (Ne.symm hj)

/-! ### Quotes (R407) -/

theorem State.takeWrite_attest (s : State) (g k v : Nat) : s.takeWrite g 0xC021 k v = s.writeAttest k v := by
  simp [State.takeWrite, elsewhere, State.effectHigh, Machine.measured]

theorem State.attest_spec (g k v : Nat) (s : State) :
    (∃ t : State, s.takeWrite g 0xC021 k v = t ∧ Tbl.get? t.fw.nonce k = some v ∧ Tbl.get? t.fw.quotes k = none ∧ k ∈ t.fw.signing ∧
      (∀ j, j ≠ k → Tbl.get? t.fw.nonce j = Tbl.get? s.fw.nonce j ∧ Tbl.get? t.fw.quotes j = Tbl.get? s.fw.quotes j ∧ (j ∈ t.fw.signing ↔ j ∈ s.fw.signing)) ∧
      t = { s with fw := { s.fw with nonce := t.fw.nonce, quotes := t.fw.quotes, signing := t.fw.signing } }) ∧
    (k ∈ s.fw.signing → ∃ t : State, exec (.attestQuoteDone k) s = .next t ∧ Tbl.get? t.fw.quotes k = some (s.quote k) ∧ k ∉ t.fw.signing ∧
      (∀ j, j ≠ k → Tbl.get? t.fw.quotes j = Tbl.get? s.fw.quotes j ∧ (j ∈ t.fw.signing ↔ j ∈ s.fw.signing)) ∧
      t = { s with fw := { s.fw with quotes := t.fw.quotes, signing := t.fw.signing } }) ∧
    (k ∉ s.fw.signing → exec (.attestQuoteDone k) s = .next s) := by
  refine ⟨⟨_, s.takeWrite_attest g k v, Tbl.get?_put_same _ _ _, Tbl.get?_del_same _ _, ?_, fun j hj => ⟨Tbl.get?_put_other _ _ hj,
      Tbl.get?_del_other _ hj, ?_⟩, rfl⟩,
    fun h => ⟨_, congrArg Host.Outcome.next (if_pos (by simpa using h)), Tbl.get?_put_same _ _ _, ?_, fun j hj => ⟨Tbl.get?_put_other _ _ hj, ?_⟩, rfl⟩,
    fun h => congrArg Host.Outcome.next (if_neg (by simpa using h))⟩
  · simp [State.writeAttest, State.modFw]
  · simp [State.writeAttest, State.modFw, hj]
  · simp [State.modFw]
  · simp [State.modFw, hj]

/-! ### How the requests are taken (R395, R402) -/

/-- A confirmation in a trial whose time is not over is taken like any write. -/
theorem taken_of_passes_confirm {s : State} {r : Req} {v w : Nat} (ho : s.trialOver = false) (h : Safety.passes s r 0xC002 2 4 v w) :
    Safety.taken s (s.acceptNat r 0xC002 2 4 v) r 0xC002 2 4 w := by
  have hover : s.countReq.trialOver = false := ho
  exact taken_of_passes_of_trialFirst (by decide) (if_neg (by simp [hover])) h

/-- An upload's write that passes acts. -/
theorem State.writeStep_upload {s : State} {r : Req} {sub v : Nat} {b : List Byte} {o : Obj} (hopen : s.openCheck r 0xC001 sub b.length = none)
    (ho : s.obj? 0xC001 sub = some o) (hp : o.persist = false) (hv : v = (if sub = 2 then 0 else o.valueOf b)) (hc : s.valueCheck r 0xC001 sub v = none) :
    s.writeStep r 0xC001 sub b = s.upload sub v b := by
  have hfirst : s.trialFirst 0xC001 sub = s := s.trialFirst_of_ne (by simp)
  simp only [State.writeStep, hfirst, hopen, ho, State.valueStep, true_and, ← hv, hc, hp]
  rfl

theorem State.acceptWrite_upload {s : State} {r : Req} {sub v : Nat} {b : List Byte} {o : Obj} (honce : s.atOnce r = true)
    (hkept : s.keptFor r (writeHdr r 0xC001 sub b.length) = none) (hopen : s.openCheck r 0xC001 sub b.length = none) (ho : s.obj? 0xC001 sub = some o)
    (hp : o.persist = false) (hv : v = (if sub = 2 then 0 else o.valueOf b)) (hc : s.valueCheck r 0xC001 sub v = none) :
    ∃ u : State, u = { s with dict := { s.dict with counts := u.dict.counts }, ctrs := u.ctrs } ∧ s.acceptWrite r 0xC001 sub b =
      (u.upload sub v b).1.answerReq r 0 (writeHdr r 0xC001 sub b.length) (match (u.upload sub v b).2 with
        | some a => abortPdu (writeHdr r 0xC001 sub b.length) a
        | none => okPdu (writeHdr r 0xC001 sub b.length)) := by
  have hserved := State.acceptWrite_served 0xC001 sub honce hkept
  rw [State.writeStep_upload (s := s.countReq) hopen ho hp hv hc] at hserved
  exact ⟨s.countReq, rfl, hserved⟩

end Sys2Proof.Machine
end

section
/-! SUPPORT. The first steps of BOOT (R376, R382, R390): the flush image and the store. -/

namespace Sys2Proof.Machine

/-! ### The flush image (R376) -/

/-- What replaying and erasing leave as it was. -/
def State.bootCore (s : State) : Firmware × ModeSt × List Instr × Nat × Nat × Option (List StageItem × Bool) × Bool × Bool :=
  (s.fw, s.mode, s.pending, s.now, s.store.spare, s.store.flush, s.store.replayed, s.store.discarded)

theorem State.programFirst_bootCore (s : State) (b : Nat) : (s.programFirst b).bootCore = s.bootCore := by
  cases h : s.store.staging with
  | nil =>
    unfold State.programFirst
    rw [h]
  | cons i rest =>
    obtain ⟨pages, log, j, j2, hitem⟩ := (s.unstaged i rest).programItem_frame b i
    obtain ⟨ctrs, hcount⟩ := ((s.unstaged i rest).programItem b i).countProgram_eq b i.size
    rw [State.programFirst_cons h, hcount, hitem]
    rfl

theorem State.replayItems_bootCore (n : Nat) (s : State) : (State.replayItems n s).bootCore = s.bootCore := by
  induction n generalizing s with
  | zero => rfl
  | succ n ih => exact (ih _).trans (s.programFirst_bootCore _)

theorem State.eraseBlock_bootCore (s : State) (b : Nat) : (s.eraseBlock b).bootCore = s.bootCore := by
  obtain ⟨w90, w100, coming, h⟩ :=
    (({ s with store := { s.store with erases := Tbl.put s.store.erases b (Tbl.getD s.store.erases b 0 + 1) } } : State).storeCount 13 1).wearWatch_frame
  unfold State.eraseBlock
  rw [h]
  rfl

theorem State.eraseFlush_bootCore (s : State) : s.eraseFlush.bootCore = s.bootCore :=
  foldl_field State.bootCore (g := fun s _ => (s.eraseBlock (s.freeVal 16)).nextFree) (fun s _ => s.eraseBlock_bootCore _) _ s

/-- The image's items in front of what staging holds. -/
def State.imageStaged (s : State) (items : List StageItem) : State := s.modStore (fun x => { x with staging := items ++ x.staging })

theorem State.replayImage_bootCore (s : State) (items : List StageItem) :
    ((State.replayItems items.length (s.imageStaged items)).modStore (fun x => { x with flush := none, replayed := true })).eraseFlush.bootCore =
      (s.fw, s.mode, s.pending, s.now, s.store.spare, none, true, s.store.discarded) := by
  have replay : _ = (s.fw, s.mode, s.pending, s.now, s.store.spare, s.store.flush, s.store.replayed, s.store.discarded) :=
    State.replayItems_bootCore items.length (s.imageStaged items)
  generalize State.replayItems items.length (s.imageStaged items) = u at replay
  simp only [State.bootCore, Prod.mk.injEq] at replay
  obtain ⟨hfw, hmode, hpending, hnow, hspare, -, -, hdiscarded⟩ := replay
  rw [State.eraseFlush_bootCore, ← hfw, ← hmode, ← hpending, ← hnow, ← hspare, ← hdiscarded]
  rfl

/-- LOSS noted for a function, and for functions. -/
def State.lossNoted (s : State) (f : Nat) : State := { s with dict := { s.dict with journal := Tbl.put s.dict.journal (okey 0xB012 f) 1 } }
def State.lossesNoted (s : State) (fns : List Nat) : State := fns.foldl State.lossNoted s

theorem State.lossesNoted_bootCore (s : State) (fns : List Nat) : (s.lossesNoted fns).bootCore = s.bootCore :=
  foldl_field State.bootCore (g := State.lossNoted) (fun _ _ => rfl) fns s

theorem State.discardImage_frame (s : State) (items : List StageItem) : ∃ pages sup, s.discardImage items = { s.lossesNoted (imageFns items) with
    store := { (s.lossesNoted (imageFns items)).store with flush := none, discarded := true, pages := pages }, sup := sup } := ⟨_, _, rfl⟩

theorem State.discardImage_bootCore (s : State) (items : List StageItem) : (s.discardImage items).eraseFlush.bootCore =
    (s.fw, s.mode, s.pending, s.now, s.store.spare, none, s.store.replayed, true) := by
  have losses : _ = (s.fw, s.mode, s.pending, s.now, s.store.spare, s.store.flush, s.store.replayed, s.store.discarded) :=
    s.lossesNoted_bootCore (imageFns items)
  obtain ⟨pages, sup, hdiscard⟩ := s.discardImage_frame items
  rw [State.eraseFlush_bootCore, hdiscard]
  generalize s.lossesNoted (imageFns items) = u at losses
  simp only [State.bootCore, Prod.mk.injEq] at losses
  obtain ⟨hfw, hmode, hpending, hnow, hspare, -, hreplayed, -⟩ := losses
  rw [← hfw, ← hmode, ← hpending, ← hnow, ← hspare, ← hreplayed]
  rfl

/-- The flush image after BOOT's second step: replayed, or discarded, and gone. -/
theorem State.bootFlush_spec (s : State) : s.bootFlush.fw = s.fw ∧ s.bootFlush.mode = s.mode ∧ s.bootFlush.pending = s.pending ∧
    s.bootFlush.now = s.now ∧ s.bootFlush.store.spare = s.store.spare ∧ s.bootFlush.store.flush = none ∧
    (∀ items, s.store.flush = some (items, true) → s.bootFlush.store.replayed = true) ∧
    (∀ items, s.store.flush = some (items, false) → s.bootFlush.store.discarded = true) := by
  have fields {u : State} {replayed discarded : Bool} (h : u.bootCore = (s.fw, s.mode, s.pending, s.now, s.store.spare, none, replayed, discarded)) :
      u.fw = s.fw ∧ u.mode = s.mode ∧ u.pending = s.pending ∧ u.now = s.now ∧ u.store.spare = s.store.spare ∧ u.store.flush = none ∧
        u.store.replayed = replayed ∧ u.store.discarded = discarded := by
    simpa [State.bootCore] using h
  unfold State.bootFlush
  split
  · next hf => exact ⟨rfl, rfl, rfl, rfl, rfl, hf, fun _ h => by simp [hf] at h, fun _ h => by simp [hf] at h⟩
  · next items hf =>
    obtain ⟨hfw, hmode, hpending, hnow, hspare, hflush, hreplayed, -⟩ := fields (s.replayImage_bootCore items)
    exact ⟨hfw, hmode, hpending, hnow, hspare, hflush, fun _ _ => hreplayed, fun _ h => by simp [hf] at h⟩
  · next items hf =>
    obtain ⟨hfw, hmode, hpending, hnow, hspare, hflush, -, hdiscarded⟩ := fields (s.discardImage_bootCore items)
    exact ⟨hfw, hmode, hpending, hnow, hspare, hflush, fun _ h => by simp [hf] at h, fun _ _ => hdiscarded⟩

/-- The store's state and its scrub pass begun again. -/
def State.storeBegun (s : State) : State := s.modStore (fun x => { x with
  st := 0, lowRec := false, critRec := false, scrubbing := true, scrubbed := [], scrubAt := s.now, scrubBehind := false })

theorem State.bootStore_eq (s : State) : s.bootStore = s.storeBegun.spareWatch := rfl

/-- A store with spare blocks enough begins BOOT taking everything. -/
theorem State.bootStore_spec (s : State) : s.bootStore.fw = s.fw ∧ s.bootStore.mode = s.mode ∧ s.bootStore.pending = s.pending ∧
    s.bootStore.now = s.now ∧ s.bootStore.store.flush = s.store.flush ∧ s.bootStore.store.replayed = s.store.replayed ∧
    s.bootStore.store.discarded = s.store.discarded ∧ (1024 ≤ s.store.usable → s.bootStore.store.st = 0) := by
  obtain ⟨low, crit, st, coming, h⟩ := s.storeBegun.spareWatch_frame
  have husable : s.storeBegun.store.usable = s.store.usable := rfl
  rw [s.bootStore_eq]
  refine ⟨?_, ?_, ?_, ?_, ?_, ?_, ?_, fun hu => ?_⟩
  case refine_8 =>
    rw [State.spareWatch_quiet (by rw [husable]; exact hu)]
    rfl
  all_goals
    rw [h]
    rfl

end Sys2Proof.Machine
end

section
/-! SUPPORT. The slots that BOOT refuses and the one it boots, and the restored state (R315, R389 to R392). -/

namespace Sys2Proof.Machine

/-! ### The slots (R391) -/

/-- `u` differs from `s` in what choosing and booting a slot changes. -/
def State.Booted (s u : State) : Prop := u = { s with
  fw := { s.fw with s0 := u.fw.s0, s1 := u.fw.s1, srec := u.fw.srec, running := u.fw.running, meas := u.fw.meas }
  faults := { s.faults with coming := u.faults.coming }
  store := { s.store with staging := u.store.staging }
  dict := { s.dict with journal := u.dict.journal, journal2 := u.dict.journal2, fwVersion := u.dict.fwVersion } }

namespace State.Booted

theorem refl (s : State) : s.Booted s := rfl

theorem trans {s u w : State} (h : s.Booted u) (k : u.Booted w) : s.Booted w := by
  unfold State.Booted at h k ⊢
  exact k.trans (by rw [h])

theorem modSlot (s : State) (k : Nat) (g : Slot → Slot) : s.Booted (s.modSlot k g) := by
  obtain ⟨s0, s1, srec, h⟩ := s.modSlot_frame k g
  rw [h]
  rfl

theorem fwFault (s : State) (code cls : Nat) : s.Booted (s.fwFault code cls) := rfl
theorem dropNew (s : State) : s.Booted s.dropNew := rfl
theorem keepNew (s : State) : s.Booted s.keepNew := rfl
theorem runSlot (s : State) (k : Nat) : s.Booted (s.runSlot k) := rfl
theorem measureBoot (s : State) (k : Nat) : s.Booted (s.measureBoot k) := rfl

theorem refuseSlot (s : State) (k : Nat) : s.Booted (s.refuseSlot k) := (modSlot s k _).trans (fwFault _ _ _)

theorem bootFormat (s : State) (k : Nat) : s.Booted (s.bootFormat k) := by
  unfold State.bootFormat
  split
  · exact keepNew s
  · exact refl s

theorem confirmBoot (s : State) (k : Nat) : s.Booted (s.confirmBoot k) := by
  unfold State.confirmBoot
  split
  · exact refl s
  · exact (modSlot s k _).trans (fwFault _ _ _)

theorem endTrial (s : State) : s.Booted s.endTrial := by
  unfold State.endTrial
  split
  · next k _ => exact ((modSlot s k _).trans (dropNew _)).trans (fwFault _ _ _)
  · exact refl s

theorem bootSlot (s : State) (k : Nat) : s.Booted (s.bootSlot k) :=
  (((((bootFormat s k).trans (confirmBoot _ k)).trans (endTrial _)).trans (dropNew _)).trans (measureBoot _ k)).trans (runSlot _ k)

theorem bootSrec (s : State) : s.Booted s.bootSrec := by
  obtain ⟨image, unread, h⟩ := s.refreshSrec_frame
  unfold State.bootSrec
  dsimp only
  rw [h]
  split
  · rfl
  · rfl

theorem refuseAll (s : State) (l : List Nat) : s.Booted (l.foldl State.refuseSlot s) := by
  induction l generalizing s with
  | nil => exact refl s
  | cons k l ih => exact (refuseSlot s k).trans (ih _)

end State.Booted

theorem State.fwFault_fw (s : State) (code cls : Nat) : (s.fwFault code cls).fw = s.fw := rfl
theorem State.dropNew_fw (s : State) : s.dropNew.fw = s.fw := rfl

theorem State.refuseSlot_slot (s : State) {j k : Nat} (h : min k 2 ≠ min j 2) : (s.refuseSlot j).fw.slot k = s.fw.slot k := by
  unfold State.refuseSlot
  dsimp only
  rw [State.fwFault_fw]
  exact State.modSlot_slot_other s _ h

/-- A slot that none of the refused ones is stays as it was. -/
theorem State.refuseAll_slot {k : Nat} (l : List Nat) (h : ∀ j ∈ l, min k 2 ≠ min j 2) (s : State) :
    (l.foldl State.refuseSlot s).fw.slot k = s.fw.slot k := by
  induction l generalizing s with
  | nil => rfl
  | cons j l ih => exact (ih (fun i hi => h i (List.mem_cons_of_mem _ hi)) _).trans (s.refuseSlot_slot (h j List.mem_cons_self))

theorem State.bootFormat_fw (s : State) (k : Nat) : (s.bootFormat k).fw = s.fw := by
  unfold State.bootFormat
  split <;> rfl

/-- The booted slot is CONFIRMED, its image what it was. -/
theorem State.confirmBoot_slot (s : State) (k : Nat) : ((s.confirmBoot k).fw.slot k).st = .confirmed ∧
    ((s.confirmBoot k).fw.slot k).image = (s.fw.slot k).image := by
  unfold State.confirmBoot
  split
  · next h => exact ⟨h, rfl⟩
  · have hslot := s.modSlot_slot k (fun x => { x with st := .confirmed })
    exact ⟨(congrArg Slot.st hslot :), (congrArg Slot.image hslot :)⟩

/-- A trial's end leaves a slot that is not on trial. -/
theorem State.endTrial_slot {s : State} {k : Nat} (hk : k < 3) (h : (s.fw.slot k).st = .confirmed) : s.endTrial.fw.slot k = s.fw.slot k := by
  unfold State.endTrial
  split
  · next j hj =>
    have htrial : (s.fw.slot j).st = .trial := by simpa using List.find?_some hj
    have hlt : j < 2 := List.mem_range.mp (List.mem_of_find?_eq_some hj)
    have hne : k ≠ j := fun he => by
      rw [he, htrial] at h
      cases h
    have hother : min k 2 ≠ min j 2 := by omega
    rw [State.fwFault_fw, State.dropNew_fw]
    exact State.modSlot_slot_other s _ hother
  · rfl

theorem State.measureBoot_frame (s : State) (k : Nat) : ∃ meas, s.measureBoot k = { s with fw := { s.fw with meas := meas } } := ⟨_, rfl⟩

/-- The chosen image measured and running. -/
theorem State.runBoot_spec (s : State) (k : Nat) : ((s.dropNew.measureBoot k).runSlot k).fw.running = k ∧
    ((s.dropNew.measureBoot k).runSlot k).dict.fwVersion = iVersion (s.fw.slot k).hdr ∧
    ((s.dropNew.measureBoot k).runSlot k).fw.slot k = s.fw.slot k := by
  obtain ⟨meas, h⟩ := s.dropNew.measureBoot_frame k
  rw [h, State.runSlot_eq, State.dropNew_fw]
  exact ⟨rfl, rfl, rfl⟩

theorem State.bootSlot_spec (s : State) {k : Nat} (hk : k < 3) : (s.bootSlot k).fw.running = k ∧
    (s.bootSlot k).dict.fwVersion = iVersion (s.fw.slot k).hdr ∧ ((s.bootSlot k).fw.slot k).st = .confirmed := by
  obtain ⟨hst, himage⟩ := (s.bootFormat k).confirmBoot_slot k
  have hend := State.endTrial_slot hk hst
  obtain ⟨hrun, hversion, hslot⟩ := ((s.bootFormat k).confirmBoot k).endTrial.runBoot_spec k
  have hhdr : (((s.bootFormat k).confirmBoot k).endTrial.fw.slot k).hdr = (s.fw.slot k).hdr := by
    rw [hend, Slot.hdr, himage, s.bootFormat_fw, ← Slot.hdr]
  exact ⟨hrun, hversion.trans (by rw [hhdr]), (congrArg Slot.st (hslot.trans hend)).trans hst⟩

theorem Firmware.lt_of_mem_bootOrder {x : Firmware} {k : Nat} (h : k ∈ x.bootOrder) : k < 3 := by
  have base {j : Nat} (hj : j ∈ (List.range 3).filter (fun k => (x.slot k).st == .confirmed) ++
      (List.range 2).filter (fun k => (x.slot k).st == .valid || (x.slot k).st == .trial)) : j < 3 := by
    rcases List.mem_append.mp hj with hj | hj
    · exact List.mem_range.mp (List.mem_filter.mp hj).1
    · have := List.mem_range.mp (List.mem_filter.mp hj).1
      omega
  unfold Firmware.bootOrder at h
  dsimp only at h
  split at h
  · exact base h
  · rcases List.mem_append.mp h with h | h
    · exact base h
    · rw [List.mem_singleton.mp h]
      decide

/-! ### What BOOT restores (R90, R315) -/

theorem State.extendM4_firm (s : State) (idx sub : Nat) (l : List Byte) : (s.extendM4 idx sub l).firm = s.firm := rfl

/-- Regions written, and measured, in some order. -/
theorem State.regionValues_firm (l : List Region) (order : List Nat) (s : State) : (order.foldl (fun (s : State) k =>
    let w := (l.getD k ⟨false, 0, 0, 0, 0⟩).word
    if w = objDefault 0x2020 (k + 1) then s else s.setCfg 0x2020 (k + 1) w) s).firm = s.firm :=
  foldl_firm _ _ _ fun u k => by
    dsimp only
    split
    · rfl
    · exact u.setCfg_firm _ _ _

theorem State.regionMeasures_firm (l : List Region) (order : List Nat) (s : State) : (order.foldl (fun (s : State) k =>
    s.extendM4 0x2020 (k + 1) (natLe 16 (l.getD k ⟨false, 0, 0, 0, 0⟩).word)) s).firm = s.firm :=
  foldl_firm _ _ _ fun u _ => u.extendM4_firm _ _ _

theorem State.acuRegions_firm (s : State) (l : List Region) (e : BitVec 32) :
    ({ s with acu := { s.acu with regions := l, epoch := e } } : State).firm = s.firm := rfl

theorem State.restoreRegions_firm (s : State) (recs : Tbl Nat) : (s.restoreRegions recs).firm = s.firm :=
  (State.regionMeasures_firm _ _ _).trans ((State.regionValues_firm _ _ _).trans (s.acuRegions_firm _ _))

theorem State.applyRecord_firm (s : State) (e : Nat × Nat) : (s.applyRecord e).firm = s.firm :=
  (State.extendM4_firm _ _ _ _).trans (s.restoreEffect_firm e.1 e.2)

theorem State.putValues_firm (s : State) (l : Tbl Nat) : (s.putValues l).firm = s.firm := rfl

theorem State.restoreUsers_firm (s : State) (recs : Tbl Nat) : (s.restoreUsers recs).firm = s.firm := rfl

theorem State.restoreFault_firm (s : State) (lost : Bool) : (s.restoreFault lost).firm = s.firm := by
  cases lost <;> rfl

theorem State.records_firm (s : State) (l : Tbl Nat) : (l.foldl (fun s e => s.applyRecord e) (s.putValues l)).firm = s.firm :=
  (foldl_firm _ _ _ State.applyRecord_firm).trans (s.putValues_firm l)

theorem State.restore_firm (s : State) : s.restore.firm = s.firm :=
  (State.restoreFault_firm _ _).trans ((State.records_firm _ _).trans ((State.restoreUsers_firm _ _).trans (s.restoreRegions_firm _)))

end Sys2Proof.Machine
end

section
/-! SUPPORT. The whole of BOOT (R390 to R392), and the proof of FirmwareAndTrust. -/

namespace Sys2Proof.Machine

/-! ### The started image (R351, R363, R389) -/

/-- The records of before, reported. -/
theorem State.reportAll_frame (l : List Nat) (s : State) : ∃ coming, l.foldl (fun (s : State) c =>
    s.report { code := c, cls := if c = 0x0870 then corrected else deferred, tile := 15 }) s = { s with faults := { s.faults with coming := coming } } := by
  induction l generalizing s with
  | nil => exact ⟨_, rfl⟩
  | cons c l ih => exact ih _

theorem State.bootFaults_frame (s : State) : ∃ coming, s.bootFaults = { s with
    sup := { s.sup with bootFaults := [] }, faults := { s.faults with coming := coming, stopSeq := none } } := by
  obtain ⟨coming, h⟩ := State.reportAll_frame s.sup.bootFaults s
  unfold State.bootFaults
  dsimp only
  rw [h]
  split <;> exact ⟨_, rfl⟩

theorem State.bootSrec_frame (s : State) : ∃ image unread coming, s.bootSrec = { s with
    fw := { s.fw with srec := { s.fw.srec with image := image, unread := unread } }, faults := { s.faults with coming := coming } } := by
  obtain ⟨image, unread, h⟩ := s.refreshSrec_frame
  unfold State.bootSrec
  dsimp only
  rw [h]
  split <;> exact ⟨_, _, _, rfl⟩

/-- The privileged root and the journal's values. -/
def State.bootRestored (s : State) : State := (s.setCfg 0x2018 1 (s.freeVal 64)).nextFree.restore

theorem State.bootRestored_firm (s : State) : s.bootRestored.firm = s.firm := State.restore_firm _
theorem State.bootRestored_calm (s : State) : s.bootRestored.calm = s.calm := State.restore_calm _

theorem State.bootImage_frame (s : State) : ∃ image unread coming timer, s.bootImage = { s.bootRestored with
    fw := { s.bootRestored.fw with srec := { s.bootRestored.fw.srec with image := image, unread := unread } }
    mode := { mode := .standby, target := .standby }
    sup := { s.bootRestored.sup with bootFaults := [], faultTimer := timer }
    faults := { s.bootRestored.faults with coming := coming, stopSeq := none } } := by
  obtain ⟨image, unread, coming, hsrec⟩ := s.bootRestored.bootSrec_frame
  obtain ⟨coming', hfaults⟩ := s.bootRestored.bootSrec.bootFaults_frame
  refine ⟨image, unread, coming', s.bootRestored.bootSrec.bootFaults.cfg 0x8010 3, ?_⟩
  have himage : s.bootImage = { s.bootRestored.bootSrec.bootFaults with
      mode := { mode := .standby, target := .standby }
      sup := { s.bootRestored.bootSrec.bootFaults.sup with faultTimer := s.bootRestored.bootSrec.bootFaults.cfg 0x8010 3 } } := rfl
  generalize s.bootRestored.bootSrec.bootFaults.cfg 0x8010 3 = timer at himage
  rw [himage, hfaults, hsrec]

/-- The started image keeps the firmware, its version and the store's state. -/
theorem State.bootImage_spec (s : State) : s.bootImage.mode = { mode := .standby, target := .standby } ∧ s.bootImage.fw.running = s.fw.running ∧
    s.bootImage.dict.fwVersion = s.dict.fwVersion ∧ (∀ k, (s.bootImage.fw.slot k).st = (s.fw.slot k).st) ∧ s.bootImage.sup.bootFaults = [] ∧
    s.bootImage.faults.stopSeq = none ∧ s.bootImage.store.flush = s.store.flush ∧ s.bootImage.store.st = s.store.st ∧
    s.bootImage.store.replayed = s.store.replayed ∧ s.bootImage.store.discarded = s.store.discarded ∧ s.bootImage.fw.arb = s.fw.arb ∧
    s.bootImage.fw.revoked = s.fw.revoked ∧ s.bootImage.pending = s.pending ∧ s.bootImage.now = s.now := by
  have hfirm := s.bootRestored_firm
  have hcalm := s.bootRestored_calm
  obtain ⟨image, unread, coming, timer, h⟩ := s.bootImage_frame
  generalize s.bootRestored = b at hfirm hcalm h
  have hfw (α : Type) (p : Firmware → α) : p { b.fw with meas := [] } = p { s.fw with meas := [] } := congrArg (fun x => p x.2.2.2.1) hfirm
  have hstore (α : Type) (p : Store → α) : p { b.store with reads := [] } = p { s.store with reads := [] } := congrArg (fun x => p x.2.2.1) hfirm
  have hslot (k : Nat) : (s.bootImage.fw.slot k).st = (b.fw.slot k).st := by
    rw [h]
    exact State.modSlot_keeps Slot.st b 2 (g := fun x => { x with image := image, unread := unread }) (fun _ => rfl) k
  refine ⟨?_, ?_, ?_, fun k => (hslot k).trans (hfw _ (fun x => (x.slot k).st)), ?_, ?_, ?_, ?_, ?_, ?_, ?_, ?_, ?_, ?_⟩
  all_goals rw [h]
  · exact hfw _ Firmware.running
  · exact congrArg (·.2.2.2.2.2.2) hfirm
  · exact hstore _ Store.flush
  · exact hstore _ Store.st
  · exact hstore _ Store.replayed
  · exact hstore _ Store.discarded
  · exact hfw _ Firmware.arb
  · exact hfw _ Firmware.revoked
  · exact (State.pending_of_calm hcalm :)
  · exact (State.now_of_calm hcalm :)

/-! ### BOOT (R390 to R392) -/

/-- The state in which the slots are tried. -/
def State.booting (s : State) : State := (s.setMeas 0 (Config.sha384 Config.bootRom)).bootFlush.bootStore

theorem State.booting_spec (s : State) : (∃ meas, s.booting.fw = { s.fw with meas := meas }) ∧ s.booting.mode = s.mode ∧
    s.booting.pending = s.pending ∧ s.booting.now = s.now ∧ s.booting.store.flush = none ∧ (1024 ≤ s.store.usable → s.booting.store.st = 0) ∧
    (∀ items, s.store.flush = some (items, true) → s.booting.store.replayed = true) ∧
    (∀ items, s.store.flush = some (items, false) → s.booting.store.discarded = true) := by
  obtain ⟨hfw, hmode, hpending, hnow, hspare, hflush, hreplayed, hdiscarded⟩ := (s.setMeas 0 (Config.sha384 Config.bootRom)).bootFlush_spec
  obtain ⟨bfw, bmode, bpending, bnow, bflush, breplayed, bdiscarded, bst⟩ := (s.setMeas 0 (Config.sha384 Config.bootRom)).bootFlush.bootStore_spec
  have husable : (s.setMeas 0 (Config.sha384 Config.bootRom)).bootFlush.store.usable = s.store.usable := congrArg (· - factoryBad) hspare
  refine ⟨⟨_, bfw.trans hfw⟩, bmode.trans hmode, bpending.trans hpending, bnow.trans hnow, bflush.trans hflush, fun hu => bst (by rw [husable]; exact hu),
    fun items hi => breplayed.trans (hreplayed items hi), fun items hi => bdiscarded.trans (hdiscarded items hi)⟩

theorem State.booting_verify (s : State) (k : Nat) : s.booting.fw.verify (s.booting.fw.slot k) = s.fw.verify (s.fw.slot k) := by
  obtain ⟨meas, h⟩ := s.booting_spec.1
  rw [h]
  exact Firmware.verify_congr rfl rfl _

theorem State.booting_order (s : State) : s.booting.fw.bootOrder = s.fw.bootOrder := by
  obtain ⟨meas, h⟩ := s.booting_spec.1
  rw [h]
  rfl

/-- The slots that BOOT finds unfit before one that verifies. -/
def State.unfit (s : State) : List Nat := s.booting.fw.bootOrder.takeWhile (fun k => s.booting.fw.verify (s.booting.fw.slot k) != 0)

theorem State.boot_eq (s : State) : s.boot = match s.booting.fw.bootOrder.drop s.unfit.length with
    | k :: _ => ((s.unfit.foldl State.refuseSlot s.booting).bootSlot k).bootImage
    | [] => { s.booting with mode := { s.booting.mode with bootHeld := true } } := rfl

theorem State.unfit_eq (s : State) : s.unfit = s.fw.bootOrder.takeWhile (fun k => s.fw.verify (s.fw.slot k) != 0) := by
  unfold State.unfit
  simp only [s.booting_order, s.booting_verify]

theorem State.boot_passed {s : State} {pre rest : List Nat} {k : Nat} (ho : s.fw.bootOrder = pre ++ k :: rest)
    (hpre : ∀ j, j ∈ pre → s.fw.verify (s.fw.slot j) ≠ 0) (hk : s.fw.verify (s.fw.slot k) = 0) :
    s.boot = ((pre.foldl State.refuseSlot s.booting).bootSlot k).bootImage := by
  have hunfit : s.unfit = pre := by
    rw [s.unfit_eq, ho, List.takeWhile_append_of_pos (fun j hj => by simpa using hpre j hj), List.takeWhile_cons_of_neg (by simp [hk]), List.append_nil]
  rw [s.boot_eq, s.booting_order, ho, hunfit, List.drop_left]

theorem State.boot_held {s : State} (h : ∀ j, j ∈ s.fw.bootOrder → s.fw.verify (s.fw.slot j) ≠ 0) :
    s.boot = { s.booting with mode := { s.booting.mode with bootHeld := true } } := by
  have hunfit : s.unfit = s.fw.bootOrder := by
    rw [s.unfit_eq]
    exact List.takeWhile_eq_self_iff.mpr fun j hj => by simpa using h j hj
  rw [s.boot_eq, s.booting_order, hunfit, List.drop_length]

/-! ### BOOT_END -/

theorem execBootEnd_boots {s : State} (hm : s.inMode .boot = true) (hh : s.mode.bootHeld = false) (hf : s.sup.flushAt = none) :
    exec .bootEnd s = .next s.boot :=
  congrArg Host.Outcome.next (if_pos (by simp [hm, hh, hf]))

theorem execBootEnd_idle {s : State} (h : s.inMode .boot = false ∨ s.mode.bootHeld = true ∨ s.sup.flushAt.isSome = true) : exec .bootEnd s = .next s := by
  refine congrArg Host.Outcome.next (if_neg ?_)
  rcases h with h | h | h
  · simp [h]
  · simp [h]
  · simp [Option.isNone_eq_false_iff.mpr h]

theorem execBootEnd_passed {pre rest : List Nat} {k : Nat} {s : State} (hm : s.inMode .boot = true) (hh : s.mode.bootHeld = false)
    (hf : s.sup.flushAt = none) (ho : s.fw.bootOrder = pre ++ k :: rest) (hpre : ∀ j, j ∈ pre → s.fw.verify (s.fw.slot j) ≠ 0)
    (hk : s.fw.verify (s.fw.slot k) = 0) :
    ∃ t : State, exec .bootEnd s = .next t ∧ t.mode = { mode := .standby, target := .standby } ∧ t.fw.running = k ∧
      t.dict.fwVersion = iVersion (s.fw.slot k).hdr ∧ (t.fw.slot k).st = .confirmed ∧ t.sup.bootFaults = [] ∧ t.faults.stopSeq = none ∧
      t.store.flush = none ∧ (1024 ≤ s.store.usable → t.store.st = 0) ∧
      (∀ items, s.store.flush = some (items, true) → t.store.replayed = true) ∧
      (∀ items, s.store.flush = some (items, false) → t.store.discarded = true) ∧ t.fw.arb = s.fw.arb ∧ t.fw.revoked = s.fw.revoked ∧
      t.pending = s.pending ∧ t.now = s.now := by
  have small {j : Nat} (hj : j ∈ pre ++ k :: rest) : j < 3 := Firmware.lt_of_mem_bootOrder (ho ▸ hj)
  have hk3 : k < 3 := small (by simp)
  have hother : ∀ j ∈ pre, min k 2 ≠ min j 2 := fun j hj => by
    have hj3 : j < 3 := small (List.mem_append_left _ hj)
    have hne : k ≠ j := fun he => hpre j hj (he ▸ hk)
    omega
  obtain ⟨⟨meas, hfw⟩, -, hpending, hnow, hflush, hst, hreplayed, hdiscarded⟩ := s.booting_spec
  have hslot := State.refuseAll_slot pre hother s.booting
  have hbooted := (State.Booted.refuseAll s.booting pre).trans (.bootSlot _ k)
  obtain ⟨hrun, hversion, hconfirmed⟩ := (pre.foldl State.refuseSlot s.booting).bootSlot_spec hk3
  have hhdr : ((pre.foldl State.refuseSlot s.booting).fw.slot k).hdr = (s.fw.slot k).hdr := by
    rw [hslot, hfw]
    rfl
  rw [hhdr] at hversion
  have hexec := (execBootEnd_boots hm hh hf).trans (congrArg Host.Outcome.next (State.boot_passed ho hpre hk))
  generalize (pre.foldl State.refuseSlot s.booting).bootSlot k = u at hbooted hrun hversion hconfirmed hexec
  obtain ⟨imode, irun, iversion, islot, ifaults, istop, iflush, ist, ireplayed, idiscarded, iarb, irevoked, ipending, inow⟩ := u.bootImage_spec
  have uflush : u.store.flush = s.booting.store.flush := by rw [hbooted]
  have ust : u.store.st = s.booting.store.st := by rw [hbooted]
  have ureplayed : u.store.replayed = s.booting.store.replayed := by rw [hbooted]
  have udiscarded : u.store.discarded = s.booting.store.discarded := by rw [hbooted]
  have uarb : u.fw.arb = s.fw.arb := by rw [hbooted, hfw]
  have urevoked : u.fw.revoked = s.fw.revoked := by rw [hbooted, hfw]
  have upending : u.pending = s.booting.pending := by rw [hbooted]
  have unow : u.now = s.booting.now := by rw [hbooted]
  exact ⟨_, hexec, imode, irun.trans hrun, iversion.trans hversion, (islot k).trans hconfirmed, ifaults, istop, (iflush.trans uflush).trans hflush,
    fun hu => (ist.trans ust).trans (hst hu), fun items hi => (ireplayed.trans ureplayed).trans (hreplayed items hi),
    fun items hi => (idiscarded.trans udiscarded).trans (hdiscarded items hi), iarb.trans uarb, irevoked.trans urevoked,
    (ipending.trans upending).trans hpending, (inow.trans unow).trans hnow⟩

theorem execBootEnd_held {s : State} (hm : s.inMode .boot = true) (hh : s.mode.bootHeld = false) (hf : s.sup.flushAt = none)
    (h : ∀ j, j ∈ s.fw.bootOrder → s.fw.verify (s.fw.slot j) ≠ 0) :
    ∃ t : State, exec .bootEnd s = .next t ∧ t.mode = { s.mode with bootHeld := true } ∧ t.pending = s.pending ∧ t.now = s.now := by
  obtain ⟨-, hmode, hpending, hnow, -⟩ := s.booting_spec
  refine ⟨_, (execBootEnd_boots hm hh hf).trans (congrArg Host.Outcome.next (State.boot_held h)), ?_, hpending, hnow⟩
  rw [← hmode]

/-- Settles O60, one fact for each event and each request. -/
theorem firmwareAndTrust : Obligations.FirmwareAndTrust := by
  refine ⟨fun pre k rest s => execBootEnd_passed, fun s => execBootEnd_held, fun s => execBootEnd_idle, fun x y => ⟨x.verify_unread, fun h => ?_⟩,
    fun r idx sub len v w s hidx hc h => taken_of_passes hidx hc h, fun r v w s => taken_of_passes_confirm,
    fun r sub v b o s => State.acceptWrite_upload,
    fun r s => ⟨rfl, rfl, rfl, fun _ => rfl, fun _ => ⟨rfl, rfl, rfl⟩, fun _ => rfl, fun _ _ => rfl⟩,
    State.upload_spec, fun g k s _ => s.takeWrite_activate_spec g k, fun s => ?_, fun s => ?_, fun s => ?_,
    fun k s => ⟨fun h => State.fallBack_idle h k, fun h hc => ?_, fun h hc => ?_, _, rfl, s.fallBackNow_spec k⟩,
    State.confirmation_spec, State.revocation_spec, State.attest_spec⟩
  · obtain ⟨hheader, hlen, hrsa, hslh⟩ := Firmware.verify_zero h
    obtain ⟨harb, hmax, hkey⟩ := Firmware.headerCheck_zero hheader
    exact ⟨hlen, harb, hmax, hkey, hrsa, hslh⟩
  · obtain ⟨htimeout, hwait⟩ := execFwLoadingTimeout_spec s
    obtain ⟨hready, hnot⟩ := execFwReady_spec s
    exact ⟨htimeout, hwait, hready, hnot⟩
  · obtain ⟨hchanging, hidle, hdue, hready⟩ := execHandover_spec s
    exact ⟨hchanging, hidle, hdue, fun hc hd hp => ⟨_, hready hc hd hp, s.handOver_spec⟩⟩
  · obtain ⟨hno, htrial⟩ := execFwSelftest_spec s
    obtain ⟨hover, hnone⟩ := execFwTrialExpiry_spec s
    exact ⟨hno, htrial, hover, hnone⟩
  · exact (State.fallBack_trial h k).trans (if_pos hc)
  · exact (State.fallBack_trial h k).trans (if_neg (by simp [hc]))

end Sys2Proof.Machine
end
